-- ==== Sys2Proof/Word.lean ====
section
/-! DEFINITION. The words of the manual: 32-bit register contents, bytes of memory, 128-bit control-store words,
and the plainest arithmetic on them (R8 to R11). -/

namespace Sys2Proof

/-- The content of a register or a doubleword (R12). -/
abbrev W32 := BitVec 32

/-- A byte of DRAM or of the MRAM. -/
abbrev Byte := BitVec 8

/-- A stored control-store word: 120 data bits and 8 check bits (R274). -/
abbrev CsWord := BitVec 128

/-- Bits [lo + w - 1 : lo] of a word, read with bit lo as bit 0 (R9). -/
def bitsOf (v : W32) (lo w : Nat) : Nat := v.toNat / 2 ^ lo % 2 ^ w

/-- Bit n of a number. -/
def natBit (v n : Nat) : Bool := v / 2 ^ n % 2 = 1

/-- `a / b` rounded up (the manual's ⌈ ⌉ on quotients). -/
def ceilDiv (a b : Nat) : Nat := (a + (b - 1)) / b

/-- The two's-complement reading of the low `w` bits of `v`. -/
def toSigned (w v : Nat) : Int := if v % 2 ^ w < 2 ^ (w - 1) then (v % 2 ^ w : Nat) else ((v % 2 ^ w : Nat) : Int) - 2 ^ w

/-- The `w`-bit two's-complement code of an integer. -/
def ofSigned (w : Nat) (x : Int) : Nat := (x % (2 ^ w : Int)).toNat

end Sys2Proof
end

