-- ==== Sys2Proof/Syntax.lean ====
section
/-! DEFINITION. The commands of the 4880: one constructor of `Instr` per row of the table of steps
(opcode_table.json), with the operands that step needs: what an outside party supplies (an address, data, a
measured value, a received packet) and never what the device decides itself. -/

namespace Sys2Proof

/-- The pages of BAR0 (Table SYS-5), debug windows apart. -/
inductive Page where
  | sys | clk | tim | prs | caddy | reg | intc | store | upd | hif | mbx
  | cell (n : Fin 8) | csch | tcf | csi (n : Fin 3) | isp | visr | dmc (n : Fin 4) | dqos
  | mpt | spout | strn | ptp | hrx | htx | earc | aport | comp | bfifo (n : Fin 16)
  deriving DecidableEq, Repr

/-- HIF's configuration space, as far as the manual names it (R175, R176); the identity registers are constant. -/
structure CfgSpace where
  /-- Base addresses: bits [31:24] of BAR0, and bits [63:30] of BAR2/BAR3. -/
  bar0 : BitVec 8 := 0
  bar2 : BitVec 34 := 0
  /-- Max payload size 256 bytes rather than 128. -/
  mps256 : Bool := false
  /-- D3hot rather than D0, and ASPM L1 enabled. -/
  d3 : Bool := false
  aspmL1 : Bool := false
  /-- MSI-X Enable and Function Mask. -/
  msixEn : Bool := false
  funcMask : Bool := false
  /-- Advanced Error Reporting: uncorrectable and correctable error status. -/
  aerUnc : W32 := 0
  aerCor : W32 := 0
  deriving DecidableEq, Repr

/-- What a RAIL_LOSS event reports (R390, R405, R411). -/
inductive Rail where
  | vddAon | vddaPll | vddaSer | vddqDdr | vdda1v8 | vddio18 | vddioAon18 | vddHdmi33
  /-- VDDA_1V8 out of its range without the collapse that stops the crystal (R394). -/
  | vdda1v8Range
  /-- VIN between 4.2 V and 4.5 V (R411). -/
  | vinLow
  /-- VIN above 15.0 V (R411). -/
  | vinHigh
  deriving DecidableEq, Repr

/-- What REG's protection senses (R112): the ISNS voltages in µV and the die voltage in µV as they held for 10 ns, VIN
in mV as it held for 1 µs. -/
structure TripSense where
  isns : List Nat
  vdie : Nat
  vin : Nat
  deriving DecidableEq, Repr

/-- One reference monitor's measurement at an update (R136): signal present for its loss window, offset from
nominal over the last 100 ms in 0.00001 ppm, rate family (0 48 kHz, 1 44.1 kHz, 2 other, 15 none). -/
structure RefMeas where
  present : Bool
  off : Int
  fam : Nat
  deriving DecidableEq, Repr

/-- What a received HDMI frame measures (R309). -/
structure HdmiFrame where
  vact : Nat
  hact : Nat
  vtot : Nat
  htot : Nat
  /-- Frame period in ticks. -/
  fper : Nat
  type1 : Bool
  enc : Bool
  bpc : Nat
  samp : Nat
  /-- The frame's received components, three planes in raster order: G, B, R or Y, Cb, Cr. The chroma planes of 4:2:2
  have half the columns, those of 4:2:0 half the columns and half the rows. -/
  planes : List (List Nat)
  deriving DecidableEq, Repr

/-- A decode unit (R257): the picture of its access or temporal unit that it belongs to, its luma samples, the 64 x 64
areas it covers (R262) and the references it predicts from, as places in the list of them (Table CSCH-18). Areas are
numbered in raster order, those of a later picture after those of an earlier one. -/
structure DecUnit where
  pic : Nat
  samples : Nat
  areas : List Nat
  refs : List Nat
  deriving DecidableEq, Repr

/-- One picture of an access or temporal unit (R259). A picture of an earlier unit is named by decode frames of the ring
back and its place in its unit; one of the same unit by 0 frames back. -/
structure CodedPic where
  picW : Nat
  picH : Nat
  key : Bool
  /-- Kept for reference (PFLAGS.REF). -/
  keepRef : Bool
  /-- It is the shown picture of the unit (PFLAGS.SHOWN). -/
  shown : Bool
  /-- AV1 show_existing_frame: the kept picture that is shown (R259). -/
  existing : Option (Nat × Nat)
  /-- A parameter set or sequence header is missing or invalid, or a header is in error (Table CSCH-18, kind 1). -/
  bad : Bool
  deriving DecidableEq, Repr

/-- What the syntax of an access or temporal unit says to the device (R257 to R260): read from the bitstream as the coding
standards define. -/
structure PicInfo where
  /-- Its pictures, in bitstream order: one, or with AV1 hidden ones ahead of the shown one (R259). -/
  pics : List CodedPic
  /-- The decode units, in bitstream order (R257). -/
  units : List DecUnit
  /-- The pictures that its pictures reference; none for one that was never submitted (R258, R263). -/
  refs : List (Option (Nat × Nat))
  /-- The pictures kept for reference that the stream still holds after this unit (R259). -/
  held : List (Nat × Nat)
  /-- film_grain_params() bits, first bit first (R254). -/
  grain : List Bool
  /-- The profile it needs, 0 and 1 as Table CSCH-10 codes them and 2 for any other; its level code; bits per sample; 4:2:0
  chroma (Table CSCH-18, kind 2). -/
  profile : Nat
  level : Nat
  depth : Nat
  chroma420 : Bool
  deriving DecidableEq, Repr

/-- What the syntax of a layer's access unit says beside its slices (R238, R243, R247). -/
structure UnitSyn where
  /-- A key picture: an IDR picture, or a shown KEY_FRAME (R247). -/
  key : Bool
  /-- Coded size and displayed size: the cropping window where they differ (R238). -/
  coded : Nat × Nat
  shown : Nat × Nat
  /-- VUI HRD parameters: bit rate, CPB size, cbr_flag (R243). -/
  hrd : Option (Nat × Nat × Bool)
  /-- The buffering-period SEI's initial removal delay, and a picture-timing SEI (R243). -/
  delay : Option Nat
  timing : Bool
  deriving DecidableEq, Repr

/-- The stream headers, parameter sets and SEI ahead of a layer's picture: their bytes, and what these say as the coding
standard reads them. -/
structure Head where
  tells : UnitSyn
  bytes : List Byte
  deriving DecidableEq, Repr

/-- A block of a strip as a layer's slice codes it: its place in the layer's luma samples, its mode decision, by the
standard's number for it, its reference, by its place among the layer's (none: intra), its motion vector in quarter
samples (rows, columns), and whether it has a residual (R238, R242, R249). -/
structure Block where
  top : Nat
  left : Nat
  height : Nat
  width : Nat
  mode : Nat
  ref : Option Nat
  mv : Int × Int
  residual : Bool
  deriving DecidableEq, Repr

/-- What a cell reports when its strip ends (R215, R260). -/
structure StripResult where
  /-- Encode: the strip's coded bytes per layer. -/
  layers : List (List Byte)
  /-- Encode: the blocks of the strip in each layer, as those bytes code them (R238). -/
  blocks : List (List Block)
  /-- Encode, the first strip: what goes ahead of each layer's picture (R238, R243, R247). -/
  heads : List Head
  /-- Encode: the layers in which it was coded as a skip strip to hold the buffer (R242). -/
  skips : List Nat
  /-- Decode: the first error of kind 3 or 4 of Table CSCH-18 met, or 0, and the areas concealed for it (R260). -/
  err : Nat
  concealed : List Nat
  /-- Decode: which areas predict from which: area, place of the reference in the list, area of the reference in its own
  picture (R262). -/
  preds : List (Nat × Nat × Nat)
  /-- Decode: bytes consumed. -/
  consumed : Nat
  deriving DecidableEq, Repr

/-- A cycle of a cell's sequencer (R276, R279): the conditions of Table CELL-7 that hold in it, bit by code, and the bits
of the next word that an upset has turned over since that word was last read. -/
structure Cycle where
  conds : BitVec 32
  upset : CsWord
  deriving DecidableEq, Repr

/-- The header of a CSI-2 packet as it arrives: virtual channel, and whether its ECC corrected a bit or found it lost (R289,
R292). -/
structure CsiHead where
  vc : BitVec 2
  fixed : Bool
  lost : Bool
  deriving DecidableEq, Repr

/-- The payload of a long packet: whole, in error by its CRC (R292), or more than the in-line port's buffer holds (R293). -/
inductive CsiLine where
  | good | crcError | overflow
  deriving DecidableEq, Repr

/-- The three ISP outputs (Table ISP-3). -/
inductive IspOut where
  | disp | code | vis
  deriving DecidableEq, Repr

/-- The two domains of TIM (R135). -/
inductive TimDom where
  | audio | video
  deriving DecidableEq, Repr

/-- The sides of HDCP (R311). -/
inductive HdcpSide where
  | upstream | downstream
  deriving DecidableEq, Repr

/-- A BAR2 request: a read of `n` bytes or a write of bytes with their byte enables (R178). -/
inductive Bar2Op where
  | read (n : Nat)
  | write (bytes : List (Byte × Bool))
  deriving DecidableEq, Repr

/-- What the training of a byte lane finds (R196, Table DMC-2): WCK2CK leveling passes, and the steps of 1/64 UI that pass
in the read and the write sweep, at boot for each of the 16 VREF values, on retraining for the kept one; and the WCK phase
that the leveling finds. -/
structure TrainLane where
  wck : Bool
  read : List (List Bool)
  write : List (List Bool)
  phase : Nat := 0
  deriving DecidableEq, Repr

/-- What the training of a channel at boot finds: initialisation and command-bus training pass, its two lanes, and the
centre of its CA and CS delays. -/
structure TrainChan where
  init : Bool
  cbt : Bool
  lanes : List TrainLane
  centre : Nat := 0
  deriving DecidableEq, Repr

/-- What ends the writing of the MRAM on the way (R379, Table UPD-5, Table UPD-6): a loss of the supply, a pin, CHIP or
SERVICE reset, a loss of the crystal or of the main PLL's lock. -/
inductive CutBy where
  | supply | pin | chip | service | xo | lock
  deriving DecidableEq, Repr

/-- Where it ends: so many lines are written, and the next one is torn or as it was. -/
structure StoreCut where
  lines : Nat
  tears : Bool
  why : CutBy
  deriving DecidableEq, Repr

/-- The MRAM's surroundings at a command (R362, log entry 45): lines that have become correctable or uncorrectable since
the last, and where the command's writes end on the way, if they do. -/
structure StoreEnv where
  weak : List Nat := []
  bad : List Nat := []
  cut : Option StoreCut := none
  deriving DecidableEq, Repr

/-- The commands: one constructor per row of opcode_table.json. -/
inductive Instr where
  -- register pages and interrupts (R34 to R65)
  | registerWrite (addr : BitVec 24) (data : W32)
  | undecodedAccess (addr : BitVec 24) (write : Bool)
  | longBar0Request (addr : BitVec 24) (write : Bool)
  | partialWrite (addr : BitVec 24) (be : BitVec 4) (data : W32)
  | efirstClear (p : Page) (data : W32)
  | shadowCommit (p : Page) (data : W32)
  | groupRelease (data : W32)
  | intcSourceAssert (src : Fin 256)
  | setpend (k : Fin 8) (data : W32)
  | clrpend (k : Fin 8) (data : W32)
  | intcDeliver (tgt : Fin 35)
  | eoi (data : W32)
  -- resets, clocks and boot (R66 to R93, R386 to R392)
  | rstcmdService (key : BitVec 16) (expiry : Bool)
  | rstcmdChip (key : BitVec 16) (expiry : Bool)
  | vddAonLow
  | poresetRelease
  | xoLoss
  | pllLockLoss
  | resetNLow
  | resetNRise
  | chipHoldEnd
  | serviceHoldEnd
  | cellReset (n : Fin 8)
  | cellReloadDone (n : Fin 8) (upsets : List (Fin 8192 × CsWord))
  | localReset (p : Page)
  | localResetDone (p : Page)
  | kaCtlWrite (p : Page) (data : W32)
  | wdogKick (data : W32)
  | wdogCtlWrite (data : W32)
  | wdogExpiry
  | clkDivWrite (data : W32)
  | divdone
  | xoOk (mv : Nat)
  | xolow (mv : Nat)
  | pllLock (vrail : Nat)
  | coreRelease
  | bootRecordSelect (env : StoreEnv)
  | bootVerifyDone (env : StoreEnv) (factoryOk : Bool)
  | journalScan (env : StoreEnv)
  | dramTrainingDone (rate dens : Nat) (tmg0 tmg1 : W32) (chans : List TrainChan)
  | microcodeLoadDone (upsets : List (Fin 8 × Fin 8192 × CsWord))
  | linkUp (width speed : Nat) (host : CfgSpace) (l1 : Bool)
  | linkDown
  | perstNLow
  | railLoss (r : Rail)
  -- core supply controller (R94 to R117, R411)
  | onPulseStart (sub : Fin 49) (vdie : Nat) (sw : Int)
  | pulseEnd (ph : Fin 4) (sub : Fin 49) (sw : Int)
  | regSample (vout : Nat) (isns : List Nat) (vin : Nat)
  | ffNotice
  | ffRampStart
  | ffHoldEnd
  | phaseShed
  | phctlWrite (data : W32)
  | tonWrite (sub : Fin 49) (data : W32)
  | olWrite (sub : Fin 49) (data : W32)
  | modeOpenSet (data : W32)
  | modeOpenClear (data : W32)
  | openLoopPulse (sub : Fin 49) (sw : Int)
  | regTrip (c : TripSense)
  | underVoltage
  | tripRetry (vrail : Nat)
  | tripcntClear
  | powerGood
  -- Caddy (R118 to R134, R412)
  | consumerEnable (c : Fin 17)
  | consumerDisable (c : Fin 17)
  | caddyGrant
  | caddyReturn (c : Fin 17)
  | requestAged (c : Fin 17)
  | brakeEngage
  | brake2
  | brakeStepBack
  | tempUpdate (tj : BitVec 8)
  -- TIM (R135 to R157)
  | monitorUpdate (meas : List RefMeas)
  | ppsPulse (off : Int)
  | lossOfSignal (r : Fin 6)
  | refcfgWrite (r : Fin 6) (data : W32)
  | refRateChange (r : Fin 6)
  | dpllUpdate
  | domainLocked (d : TimDom)
  | outenWrite (data : W32)
  | audWrite (data : W32)
  | realignAud
  | realignVid
  | realignApply (d : TimDom)
  | mtimelRead
  -- PRS (R158 to R174, R413)
  | framePulse (src : Fin 2) (falling : Bool) (stamp : Nat)
  | tooth
  | toothMissed
  | prsCfgWrite (data : W32)
  | prsEnable
  | prsDisable
  | eventArm (slot : Fin 64)
  | eventCancel (slot : Fin 64)
  | eventFire (slot : Fin 64)
  | tcntRead
  | actionSwap (k : Fin 4)
  | actionStart (r : Fin 8)
  | actionKeyRequest (r : Fin 8)
  | actionMute (k : Fin 4)
  | actionUnmute (k : Fin 4)
  | actionGpio (n : Fin 16) (arg : Byte)
  -- host link, BFIFOs, mailbox (R175 to R191)
  | bar2Access (off : BitVec 30) (op : Bar2Op)
  | spiReadFrame (cmd : Byte) (addr : BitVec 24) (cut : Bool)
  | spiWriteFrame (cmd : Byte) (addr : BitVec 24) (data : W32) (cut : Bool)
  | bfifoData (n : Fin 16) (w : W32)
  | bfifoDataEnd (n : Fin 16) (w : W32)
  | bfifoPop (n : Fin 16)
  | bfifoEnable (n : Fin 16)
  | bfifoCfgWrite (n : Fin 16) (data : W32)
  | bfifoAgentTake (n : Fin 16)
  | bfifoAgentPut (n : Fin 16)
  | mbxRing
  | mbxBusy
  | mbxDone
  | mbxAck
  | version
  | echo
  | setRead (env : StoreEnv)
  | setWrite (env : StoreEnv)
  | setDelete (env : StoreEnv)
  | setReset (env : StoreEnv)
  -- external DRAM (R192 to R213)
  | trainGo (n : Fin 4) (data : W32)
  | retrainStart (n : Fin 4)
  | retrainEnd (n : Fin 4) (lanes : List TrainLane)
  | mr4Poll (n : Fin 4) (report : Fin 6)
  | perBankRefresh (n : Fin 4) (postpone : Bool)
  | srRequest (n : Fin 4)
  | srEntry (n : Fin 4)
  | srExitRequest (n : Fin 4)
  | tmgWrite (n : Fin 4) (second : Bool) (data : W32)
  | mrrd (n : Fin 4) (data : W32) (value : Byte)
  | dqosSlot (ch : Fin 4) (arrivals : List (Fin 12 × BitVec 33))
  | saturation (ch : Fin 4)
  -- coding cells and the job scheduler (R214 to R273)
  | sqtailWrite (r : Fin 8) (data : W32)
  | descriptorFetch (r : Fin 8) (info : PicInfo)
  | cqtailWrite (r : Fin 8) (data : W32)
  | completionRecord (r : Fin 8)
  | ringEnable (r : Fin 8) (data : W32)
  | ringDisable (r : Fin 8) (data : W32)
  | stripDispatch (codeRows : Nat) (parsed : List (Fin 8))
  | stripStart (n : Fin 8)
  | stripEnd (n : Fin 8) (run : List Cycle) (res : StripResult)
  | layerBfifoCopy (r : Fin 8)
  | keyreqWrite (r : Fin 8) (data : W32)
  | bitstreamStage (r : Fin 8) (info : PicInfo)
  | cellFault (n : Fin 8) (run : List Cycle) (datapath : Bool)
  | stripWatchdog (n : Fin 8)
  -- control store (R274 to R288)
  | scrub (n : Fin 8) (upset : CsWord)
  | csWriteback (n : Fin 8) (stuck : CsWord)
  | windowRead (n : Fin 8) (off : BitVec 17) (upset : CsWord)
  -- cameras and the image pipeline (R289 to R306)
  | csiEnable (n : Fin 3)
  | csiFrameStart (n : Fin 3) (head : CsiHead)
  | csiLongPacket (n : Fin 3) (head : CsiHead) (dt : BitVec 6) (kind : CsiLine) (pixels : List Nat)
  | csiFrameEnd (n : Fin 3) (head : CsiHead)
  | csiLoss (n : Fin 3)
  | fstamplRead (n : Fin 3)
  | ispFrameBoundary (src : Fin 3)
  | passEnd
  | outputPublish (o : IspOut) (firstRow : Nat)
  | outputAbandon (o : IspOut)
  | rqtailWrite (data : W32)
  | boxIntake
  | boxExpire
  -- HDMI, eARC, audio ports (R307 to R333)
  | hrxLock (rate : Fin 6)
  | hrxLoss
  | hrxFrame (f : HdmiFrame)
  | hpdPulse
  | hpdRestore
  | hdcpAuth (side : HdcpSide) (ver devcnt : Nat) (type1ok : Bool)
  | tvHpdChange (high : Bool)
  | htxLinkUp (tvMax : Fin 6) (trained : List (Fin 6))
  | outputFrameEdge
  | avmuteClear
  | compUnderflow
  | swapWrite (data : W32)
  | earcLink
  | earcStream
  | heartbeatLost
  | capctlUpd
  | earcChannelStatus (cs : List W32) (fmt : Byte)
  | mute (k : Fin 4)
  | unmute (k : Fin 4)
  | sourceChange (earc : Bool) (status : Byte)
  | sourceResume (earc : Bool)
  -- media port (R334 to R360)
  | mptLinkUp (speed : Fin 4)
  | mptLinkDown
  | rxFrame (bytes : List Byte) (codeError : Bool)
  | ptpSample
  | ptpStep (offset : Int)
  | timelRead
  | streamEnable (n : Fin 16)
  | streamDisable (n : Fin 16)
  | layerPacketize (n : Fin 16)
  | aafPacket (n : Fin 16)
  | txtailWrite (data : W32)
  | txDescriptor
  | frameTransmit
  | spoutEnable
  | gclBoundary
  | gclEntry
  | swapGo
  | shaperWrite (c : Fin 8) (burst : Bool) (data : W32)
  -- store, settings, updates (R361 to R381)
  | updStart (env : StoreEnv)
  | updChunk (env : StoreEnv)
  | updVerify
  | verifyEnd (env : StoreEnv)
  | updArm (env : StoreEnv)
  | updConfirm (env : StoreEnv)
  | updRevert (env : StoreEnv)
  | updAbort (env : StoreEnv)
  | journalCompaction (env : StoreEnv)
  -- rows added at the end of the table
  | portFsEdge (k : Fin 4) (samples : List W32)
  | setPointRampEnd
  | hdcpAuthLost (side : HdcpSide)
  | perstNRise
  | gptpMessageInterval
  | ddcReadEnd (data : Option (List Byte))
  deriving DecidableEq, Repr

end Sys2Proof
end

