-- ==== Sys2Proof/Decode.lean ====
section
/-! DEFINITION. The words of the table of steps. Its rows give no bits: a command of this block is no word but an event
with operands, so no word spells one. -/

namespace Sys2Proof

/-- The command that a word of `nbits` bits spells: none, since no row of the table has bits. -/
def decodeTableWord (_nbits _w : Nat) : Option Instr := none

end Sys2Proof
end

