-- ==== Sys2Proof/Config.lean ====
section
/-! DEFINITION. What the manual leaves open: free values (log entry 7) and the published cryptography that the
manual names without giving its computation (R365). None of these constants has a body: no proof can see a value. -/

namespace Sys2Proof

/-- The n-th free value: an undefined value or an unstated one (R4, R17, R60). The step that uses one advances
the counter `State.free`. -/
opaque Config.free : Nat → Nat

/-- What a read of DRAM returns from a channel whose temperature has left its window (R200): MTIME, address. -/
opaque Config.driftedRead : Nat → Nat → Byte

/-- Whether a quotient (dividend, divisor) that the manual leaves without a rounding rule is rounded up rather than
down (log entry 7). -/
opaque Config.roundUp : Int → Nat → Bool

/-- How far a loop moves in one update: bandwidth code, distance from the reference (R146, log entry 12). -/
opaque Config.loopStep : Nat → Nat → Nat

/-- SHA-384 of a byte string, 48 bytes, as FIPS 180-4 defines it (R280, R363, R365). -/
opaque Config.sha384 : List Byte → List Byte

/-- ECDSA P-384 verification: public key X and Y, r, s, digest (R365). -/
opaque Config.ecdsaP384 : List Byte → List Byte → List Byte → List Byte → List Byte → Bool

/-- A sample whose value the manual leaves to the coding standards or to filters without coefficients (R215, R259,
R296): number of the picture, plane (0 luma, 1 chroma), row, column. -/
opaque Config.sample : Nat → Nat → Nat → Nat → Nat

/-- Stage 9 of the ISP, an edge-preserving filter named without its weights (R296): the picture by component, row and
column; strength, 1 to 15; component, row, column. -/
opaque Config.denoise : (Nat → Nat → Nat → Nat) → Nat → Nat → Nat → Nat → Nat

/-- Stage 10 of the ISP, a polyphase filter named without its coefficients (R296): the picture; crop x, y, width, height,
output width, height; component, row, column. -/
opaque Config.rescale : (Nat → Nat → Nat → Nat) → List Nat → Nat → Nat → Nat → Nat

/-- The CSC of VIS, which has no register field for one (R296, R297): a code of stage 8. -/
opaque Config.visCsc : Nat

/-- Whether RGB on the link is in full range: received by HRX, sent by HTX (R310, R316). -/
opaque Config.linkFull : Bool → Bool

/-- How HTX makes a chroma sample of fewer from 4:4:4 (R316): SAMP, the 4:4:4 picture by component, row and column,
component, row, column of the smaller plane. -/
opaque Config.decimate : Nat → (Nat → Nat → Nat → Nat) → Nat → Nat → Nat → Nat

/-- What COMP's scaler makes of a surface (R317): its picture by plane, row and column; width, height, depth, width and
height shown; component, row, column; 10-bit YCbCr in the surface's matrix. -/
opaque Config.scaled : (Nat → Nat → Nat → Nat) → List Nat → Nat → Nat → Nat → Nat

/-- Subsystem ID and Subsystem Vendor ID as the factory data give them, in a place that the manual does not state
(R175). -/
opaque Config.subsystem : List Byte → Nat

/-- Utilior's clockIdentity, its station address, and its clock's accuracy and variance as an Announce gives them, 24 bits
(R337): the manual states none of them. -/
opaque Config.ptpIdentity : Nat
opaque Config.ptpAddress : Nat
opaque Config.ptpQuality : Nat

/-- What a quotient by zero stands for, where a field that the manual divides by may be 0: the dividend (log entry 7). -/
opaque Config.byZero : Nat → Nat

/-- Sectors that are read for a block with a reserved header code (Table TCF-1, Table TCF-3). -/
opaque Config.reservedSectors : Nat → Nat

/-- The value that a setting takes when firmware of another schema migrates it (R371, R378): schema of the record,
schema of the image, key, stored value. -/
opaque Config.migrate : Nat → Nat → Nat → List Byte → List Byte

/-- The default of a key in a DEFAULTS section, whose layout belongs to the firmware (R369, R371). -/
opaque Config.defaults : List Byte → Nat → Option (List Byte)

end Sys2Proof
end

