-- ==== Sys2Proof/Machine/SMap.lean ====
section
/-! DEFINITION. Sparse maps from numbers: a list of (key, value) in one canonical form, keys strictly rising and no
entry equal to the default that an unlisted key reads as. Memories, register contents and the per-instance state of
the blocks are held so. -/

namespace Sys2Proof.Machine

/-- The entry of a key, if one is listed. -/
def SMap.find {α : Type} : List (Nat × α) → Nat → Option α
  | [], _ => none
  | (a, v) :: t, k => if a = k then some v else SMap.find t k

/-- The value of a key; an unlisted key has the default `d`. -/
def SMap.get {α : Type} (d : α) (m : List (Nat × α)) (k : Nat) : α := (SMap.find m k).getD d

/-- Listing a key with a value, in the place the order of keys gives it. -/
def SMap.insert {α : Type} : List (Nat × α) → Nat → α → List (Nat × α)
  | [], k, v => [(k, v)]
  | (a, w) :: t, k, v =>
    if k < a then (k, v) :: (a, w) :: t
    else if k = a then (k, v) :: t
    else (a, w) :: SMap.insert t k v

/-- Striking a key from the list. -/
def SMap.erase {α : Type} (m : List (Nat × α)) (k : Nat) : List (Nat × α) := m.filter fun e => e.1 != k

/-- Giving a key a value, in canonical form: the default is never listed. -/
def SMap.set {α : Type} [DecidableEq α] (d : α) (m : List (Nat × α)) (k : Nat) (v : α) : List (Nat × α) :=
  if v = d then SMap.erase m k else SMap.insert (SMap.erase m k) k v

/-- Changing the value of a key by a function. -/
def SMap.upd {α : Type} [DecidableEq α] (d : α) (m : List (Nat × α)) (k : Nat) (f : α → α) : List (Nat × α) :=
  SMap.set d m k (f (SMap.get d m k))

/-- Striking every key that a test names. -/
def SMap.drop {α : Type} (m : List (Nat × α)) (p : Nat → Bool) : List (Nat × α) := m.filter fun e => !p e.1

/-- Keys strictly rising. -/
def SMap.rising {α : Type} : List (Nat × α) → Bool
  | [] => true
  | [_] => true
  | (a, _) :: (b, w) :: t => decide (a < b) && SMap.rising ((b, w) :: t)

/-- The canonical form: keys strictly rising, no default listed. -/
def SMap.wf {α : Type} [DecidableEq α] (d : α) (m : List (Nat × α)) : Bool :=
  SMap.rising m && m.all fun e => decide (e.2 ≠ d)

/-- A run of bytes (or other values) stored from a key upward. -/
def SMap.setMany {α : Type} [DecidableEq α] (d : α) (m : List (Nat × α)) (k : Nat) : List α → List (Nat × α)
  | [] => m
  | v :: t => SMap.setMany d (SMap.set d m k v) (k + 1) t

/-- The values of `n` keys from `k` upward. -/
def SMap.getMany {α : Type} (d : α) (m : List (Nat × α)) (k : Nat) : Nat → List α
  | 0 => []
  | n + 1 => SMap.get d m k :: SMap.getMany d m (k + 1) n

end Sys2Proof.Machine
end

