-- ==== Sys2Proof/Machine/Field.lean ====
section
/-! DEFINITION. Register fields: where a field lies, its width, its reset value and its access code
(R9, R13, R17, Table SCOPE-1). -/

namespace Sys2Proof.Machine

/-- The access codes of Table SCOPE-1. -/
inductive Acc where
  | ro | rw | w1c | w1s | wo | rs | rsv
  deriving DecidableEq, Repr

/-- A field of a register: BAR0 address of the register, lowest bit, width, reset value, access code. -/
structure Fld where
  addr : Nat
  lo : Nat
  w : Nat
  rst : Nat
  acc : Acc
  deriving DecidableEq, Repr

/-- The key under which a field's content is held: 32 keys per byte address, one per bit position. -/
def Fld.key (f : Fld) : Nat := f.addr * 32 + f.lo

/-- The content of a field: its reset value where nothing else has been stored (R7, R17). -/
def Fld.get (m : List (Nat × Nat)) (f : Fld) : Nat := SMap.get f.rst m f.key

/-- Storing a value in a field: the low bits that the field has (R9). -/
def Fld.put (m : List (Nat × Nat)) (f : Fld) (v : Nat) : List (Nat × Nat) := SMap.set f.rst m f.key (v % 2 ^ f.w)

/-- A row of a page's register table: offset, stride and count of a register (array), whether it is shadowed
(R42, R44), and its fields. -/
structure RegT where
  off : Nat
  stride : Nat
  count : Nat
  shadow : Bool
  fields : Nat → List Fld

/-- The register of a row that lies at an offset, if one does. -/
def RegT.index (r : RegT) (o : Nat) : Option Nat :=
  if r.off ≤ o ∧ (o - r.off) % r.stride = 0 ∧ (o - r.off) / r.stride < r.count then some ((o - r.off) / r.stride)
  else none

end Sys2Proof.Machine
end

