-- ==== Sys2Proof/Machine/RegsCoding.lean ====
section
/-! DEFINITION. The registers and fields of the pages CELL, CSCH, TCF, CSI, ISP, VISR, DMC and DQOS, as the tables of the
manual list them: address, lowest bit, width, reset value, access code. A field the manual resets to X holds 0 at
reset (log entry 4); the MSI-X table resets as PCI Express says (log entry 5). -/

namespace Sys2Proof.Machine

/-- Default latency targets of Table DQOS-1, ns. -/
def dqosLat (i : Nat) : Nat := [2000, 2000, 4000, 8000, 8000, 6000, 6000, 4000, 10000, 20000, 20000, 20000].getD i 0

/-- Default guaranteed shares of Table DQOS-1. -/
def dqosGuar (i : Nat) : Nat := [12, 6, 6].getD i 0

/-! ### CELL: 10_coding_cells_and_jobs.md, R234 -/

def CELL.CTL_LRST (n : Nat) : Fld := ⟨0x10000 + 0x1000 * n + 0x8, 1, 1, 0, .w1s⟩
def CELL.STS_BUSY (n : Nat) : Fld := ⟨0x10000 + 0x1000 * n + 0xC, 8, 1, 0, .ro⟩
def CELL.STS_STATE (n : Nat) : Fld := ⟨0x10000 + 0x1000 * n + 0xC, 0, 4, 0, .ro⟩
def CELL.ISR_ERR (n : Nat) : Fld := ⟨0x10000 + 0x1000 * n + 0x18, 0, 1, 0, .w1c⟩
def CELL.ISR_FENCE (n : Nat) : Fld := ⟨0x10000 + 0x1000 * n + 0x18, 1, 1, 0, .w1c⟩
def CELL.ISR_CSCORR (n : Nat) : Fld := ⟨0x10000 + 0x1000 * n + 0x18, 2, 1, 0, .w1c⟩
def CELL.IER (n : Nat) : Fld := ⟨0x10000 + 0x1000 * n + 0x1C, 0, 3, 0, .rw⟩
def CELL.CFG_WDOG (n : Nat) : Fld := ⟨0x10000 + 0x1000 * n + 0x40, 8, 8, 4, .rw⟩
def CELL.CFG_CGATE (n : Nat) : Fld := ⟨0x10000 + 0x1000 * n + 0x40, 0, 1, 1, .rw⟩
def CELL.JOB_RING (n : Nat) : Fld := ⟨0x10000 + 0x1000 * n + 0x44, 28, 4, 0, .ro⟩
def CELL.JOB_STRIP (n : Nat) : Fld := ⟨0x10000 + 0x1000 * n + 0x44, 0, 16, 0, .ro⟩
def CELL.JOBID_ID (n : Nat) : Fld := ⟨0x10000 + 0x1000 * n + 0x48, 0, 32, 0, .ro⟩
def CELL.STRIPS_COUNT (n : Nat) : Fld := ⟨0x10000 + 0x1000 * n + 0x4c, 0, 32, 0, .ro⟩
def CELL.CSCFG_SCRUB_EN (n : Nat) : Fld := ⟨0x10000 + 0x1000 * n + 0x50, 8, 1, 1, .rw⟩
def CELL.CSCFG_INTV (n : Nat) : Fld := ⟨0x10000 + 0x1000 * n + 0x50, 0, 8, 2, .rw⟩
def CELL.CSSTS_PASSES (n : Nat) : Fld := ⟨0x10000 + 0x1000 * n + 0x54, 16, 16, 0, .ro⟩
def CELL.CSSTS_NEXTADDR (n : Nat) : Fld := ⟨0x10000 + 0x1000 * n + 0x54, 0, 13, 0, .ro⟩
def CELL.CSCORR_COUNT (n : Nat) : Fld := ⟨0x10000 + 0x1000 * n + 0x58, 0, 16, 0, .ro⟩
def CELL.CSERR_UVALID (n : Nat) : Fld := ⟨0x10000 + 0x1000 * n + 0x5c, 31, 1, 0, .ro⟩
def CELL.CSERR_UADDR (n : Nat) : Fld := ⟨0x10000 + 0x1000 * n + 0x5c, 16, 13, 0, .ro⟩
def CELL.CSERR_CVALID (n : Nat) : Fld := ⟨0x10000 + 0x1000 * n + 0x5c, 15, 1, 0, .ro⟩
def CELL.CSERR_STUCK (n : Nat) : Fld := ⟨0x10000 + 0x1000 * n + 0x5c, 14, 1, 0, .ro⟩
def CELL.CSERR_CADDR (n : Nat) : Fld := ⟨0x10000 + 0x1000 * n + 0x5c, 0, 13, 0, .ro⟩
def CELL.CSWIN_VALID (n : Nat) : Fld := ⟨0x10000 + 0x1000 * n + 0x60, 31, 1, 0, .ro⟩
def CELL.CSWIN_RESULT (n : Nat) : Fld := ⟨0x10000 + 0x1000 * n + 0x60, 29, 2, 0, .ro⟩
def CELL.CSWIN_SYND (n : Nat) : Fld := ⟨0x10000 + 0x1000 * n + 0x60, 20, 8, 0, .ro⟩
def CELL.CSWIN_ADDR (n : Nat) : Fld := ⟨0x10000 + 0x1000 * n + 0x60, 0, 13, 0, .ro⟩

/-- The registers of the CELL page: offset, stride, count, shadowed, fields (10_coding_cells_and_jobs.md, R234). -/
def CELL.table (n : Nat) : List RegT :=
  [⟨0x8, 4, 1, false, fun _ => [CELL.CTL_LRST n]⟩, ⟨0xC, 4, 1, false, fun _ => [CELL.STS_BUSY n, CELL.STS_STATE n]⟩,
   ⟨0x18, 4, 1, false, fun _ => [CELL.ISR_ERR n, CELL.ISR_FENCE n, CELL.ISR_CSCORR n]⟩, ⟨0x1C, 4, 1, false, fun _ => [CELL.IER n]⟩
   , ⟨0x40, 4, 1, true, fun _ => [CELL.CFG_WDOG n, CELL.CFG_CGATE n]⟩
   , ⟨0x44, 4, 1, false, fun _ => [CELL.JOB_RING n, CELL.JOB_STRIP n]⟩
   , ⟨0x48, 4, 1, false, fun _ => [CELL.JOBID_ID n]⟩
   , ⟨0x4c, 4, 1, false, fun _ => [CELL.STRIPS_COUNT n]⟩
   , ⟨0x50, 4, 1, false, fun _ => [CELL.CSCFG_SCRUB_EN n, CELL.CSCFG_INTV n]⟩
   , ⟨0x54, 4, 1, false, fun _ => [CELL.CSSTS_PASSES n, CELL.CSSTS_NEXTADDR n]⟩
   , ⟨0x58, 4, 1, false, fun _ => [CELL.CSCORR_COUNT n]⟩
   , ⟨0x5c, 4, 1, false, fun _ => [CELL.CSERR_UVALID n, CELL.CSERR_UADDR n, CELL.CSERR_CVALID n, CELL.CSERR_STUCK n, CELL.CSERR_CADDR n]⟩
   , ⟨0x60, 4, 1, false, fun _ => [CELL.CSWIN_VALID n, CELL.CSWIN_RESULT n, CELL.CSWIN_SYND n, CELL.CSWIN_ADDR n]⟩]

/-! ### CSCH: 10_coding_cells_and_jobs.md, R234 -/

def CSCH.CTL_EN : Fld := ⟨0x18000 + 0x8, 0, 1, 0, .rw⟩
def CSCH.STS_BUSY : Fld := ⟨0x18000 + 0xC, 8, 1, 0, .ro⟩
def CSCH.STS_STATE : Fld := ⟨0x18000 + 0xC, 0, 4, 0, .ro⟩
def CSCH.ISR_ERR : Fld := ⟨0x18000 + 0x18, 0, 1, 0, .w1c⟩
def CSCH.ISR_DROP : Fld := ⟨0x18000 + 0x18, 1, 1, 0, .w1c⟩
def CSCH.ISR_LATE : Fld := ⟨0x18000 + 0x18, 2, 1, 0, .w1c⟩
def CSCH.ISR_QLOW : Fld := ⟨0x18000 + 0x18, 3, 1, 0, .w1c⟩
def CSCH.ISR_NOSTART : Fld := ⟨0x18000 + 0x18, 4, 1, 0, .w1c⟩
def CSCH.ISR_CQ0 : Fld := ⟨0x18000 + 0x18, 8, 1, 0, .w1c⟩
def CSCH.ISR_CQ1 : Fld := ⟨0x18000 + 0x18, 9, 1, 0, .w1c⟩
def CSCH.ISR_CQ2 : Fld := ⟨0x18000 + 0x18, 10, 1, 0, .w1c⟩
def CSCH.ISR_CQ3 : Fld := ⟨0x18000 + 0x18, 11, 1, 0, .w1c⟩
def CSCH.ISR_CQ4 : Fld := ⟨0x18000 + 0x18, 12, 1, 0, .w1c⟩
def CSCH.ISR_CQ5 : Fld := ⟨0x18000 + 0x18, 13, 1, 0, .w1c⟩
def CSCH.ISR_CQ6 : Fld := ⟨0x18000 + 0x18, 14, 1, 0, .w1c⟩
def CSCH.ISR_CQ7 : Fld := ⟨0x18000 + 0x18, 15, 1, 0, .w1c⟩
def CSCH.IER : Fld := ⟨0x18000 + 0x1C, 0, 16, 0, .rw⟩
def CSCH.CELLMASK_FENCED : Fld := ⟨0x18000 + 0x40, 8, 8, 0, .ro⟩
def CSCH.CELLMASK_POOL : Fld := ⟨0x18000 + 0x40, 0, 8, 0xFF, .rw⟩
def CSCH.STRIPCFG_ROWS : Fld := ⟨0x18000 + 0x44, 0, 8, 2, .rw⟩
def CSCH.EST_MINQ : Fld := ⟨0x18000 + 0x48, 8, 8, 0x50, .rw⟩
def CSCH.EST_FACTOR : Fld := ⟨0x18000 + 0x48, 0, 8, 0x64, .rw⟩
def CSCH.SURFBASEL_A : Fld := ⟨0x18000 + 0x4c, 0, 32, 0, .rw⟩
def CSCH.SURFBASEH_A : Fld := ⟨0x18000 + 0x50, 0, 32, 0, .rw⟩
def CSCH.SURFCNT_COUNT : Fld := ⟨0x18000 + 0x54, 0, 13, 0, .rw⟩
def CSCH.DROPCNT_COUNT : Fld := ⟨0x18000 + 0x58, 0, 32, 0, .ro⟩
def CSCH.LATECNT_COUNT : Fld := ⟨0x18000 + 0x5c, 0, 32, 0, .ro⟩
def CSCH.QLOWCNT_COUNT : Fld := ⟨0x18000 + 0x60, 0, 32, 0, .ro⟩
def CSCH.FAULTCNT_COUNT : Fld := ⟨0x18000 + 0x64, 0, 16, 0, .ro⟩
def CSCH.REISSUECNT_COUNT : Fld := ⟨0x18000 + 0x68, 0, 16, 0, .ro⟩
def CSCH.CONCEALCNT_COUNT : Fld := ⟨0x18000 + 0x6c, 0, 16, 0, .ro⟩
def CSCH.BSERRCNT_COUNT : Fld := ⟨0x18000 + 0x70, 0, 32, 0, .ro⟩
def CSCH.SQBASEL_A (i : Nat) : Fld := ⟨0x18000 + 0x100 + 64 * i, 0, 32, 0, .rw⟩
def CSCH.SQBASEH_A (i : Nat) : Fld := ⟨0x18000 + 0x104 + 64 * i, 0, 32, 0, .rw⟩
def CSCH.CQBASEL_A (i : Nat) : Fld := ⟨0x18000 + 0x108 + 64 * i, 0, 32, 0, .rw⟩
def CSCH.CQBASEH_A (i : Nat) : Fld := ⟨0x18000 + 0x10c + 64 * i, 0, 32, 0, .rw⟩
def CSCH.RCFG_BFIFO (i : Nat) : Fld := ⟨0x18000 + 0x110 + 64 * i, 24, 4, 0xF, .rw⟩
def CSCH.RCFG_DEPTH (i : Nat) : Fld := ⟨0x18000 + 0x110 + 64 * i, 20, 4, 1, .rw⟩
def CSCH.RCFG_DROPPOL (i : Nat) : Fld := ⟨0x18000 + 0x110 + 64 * i, 19, 1, 0, .rw⟩
def CSCH.RCFG_ISPLINK (i : Nat) : Fld := ⟨0x18000 + 0x110 + 64 * i, 18, 1, 0, .rw⟩
def CSCH.RCFG_CQSRC (i : Nat) : Fld := ⟨0x18000 + 0x110 + 64 * i, 16, 2, 0, .rw⟩
def CSCH.RCFG_KIND (i : Nat) : Fld := ⟨0x18000 + 0x110 + 64 * i, 8, 1, 0, .rw⟩
def CSCH.RCFG_SIZE (i : Nat) : Fld := ⟨0x18000 + 0x110 + 64 * i, 4, 4, 4, .rw⟩
def CSCH.RCFG_EN (i : Nat) : Fld := ⟨0x18000 + 0x110 + 64 * i, 0, 1, 0, .rw⟩
def CSCH.SQTAIL_I (i : Nat) : Fld := ⟨0x18000 + 0x114 + 64 * i, 0, 16, 0, .rw⟩
def CSCH.SQHEAD_I (i : Nat) : Fld := ⟨0x18000 + 0x118 + 64 * i, 0, 16, 0, .ro⟩
def CSCH.CQHEAD_I (i : Nat) : Fld := ⟨0x18000 + 0x11c + 64 * i, 0, 16, 0, .ro⟩
def CSCH.CQTAIL_I (i : Nat) : Fld := ⟨0x18000 + 0x120 + 64 * i, 0, 16, 0, .rw⟩
def CSCH.RSTS_WAITING (i : Nat) : Fld := ⟨0x18000 + 0x124 + 64 * i, 8, 24, 0, .ro⟩
def CSCH.RSTS_STATE (i : Nat) : Fld := ⟨0x18000 + 0x124 + 64 * i, 0, 4, 0, .ro⟩
def CSCH.RDROP_COUNT (i : Nat) : Fld := ⟨0x18000 + 0x128 + 64 * i, 0, 32, 0, .ro⟩
def CSCH.KEYREQ_REQ (i : Nat) : Fld := ⟨0x18000 + 0x12c + 64 * i, 0, 4, 0, .w1s⟩
def CSCH.PBANK_SEL (i : Nat) : Fld := ⟨0x18000 + 0x130 + 64 * i, 0, 1, 0, .rw⟩
def CSCH.PBSTS_BANK (i : Nat) : Fld := ⟨0x18000 + 0x134 + 64 * i, 0, 1, 0, .ro⟩

/-- The registers of the CSCH page: offset, stride, count, shadowed, fields (10_coding_cells_and_jobs.md, R234). -/
def CSCH.table : List RegT :=
  [⟨0x8, 4, 1, false, fun _ => [CSCH.CTL_EN]⟩, ⟨0xC, 4, 1, false, fun _ => [CSCH.STS_BUSY, CSCH.STS_STATE]⟩,
   ⟨0x18, 4, 1, false, fun _ => [CSCH.ISR_ERR, CSCH.ISR_DROP, CSCH.ISR_LATE, CSCH.ISR_QLOW, CSCH.ISR_NOSTART, CSCH.ISR_CQ0, CSCH.ISR_CQ1, CSCH.ISR_CQ2, CSCH.ISR_CQ3, CSCH.ISR_CQ4, CSCH.ISR_CQ5, CSCH.ISR_CQ6, CSCH.ISR_CQ7]⟩, ⟨0x1C, 4, 1, false, fun _ => [CSCH.IER]⟩
   , ⟨0x40, 4, 1, false, fun _ => [CSCH.CELLMASK_FENCED, CSCH.CELLMASK_POOL]⟩
   , ⟨0x44, 4, 1, true, fun _ => [CSCH.STRIPCFG_ROWS]⟩
   , ⟨0x48, 4, 1, true, fun _ => [CSCH.EST_MINQ, CSCH.EST_FACTOR]⟩
   , ⟨0x4c, 4, 1, false, fun _ => [CSCH.SURFBASEL_A]⟩
   , ⟨0x50, 4, 1, false, fun _ => [CSCH.SURFBASEH_A]⟩
   , ⟨0x54, 4, 1, false, fun _ => [CSCH.SURFCNT_COUNT]⟩
   , ⟨0x58, 4, 1, false, fun _ => [CSCH.DROPCNT_COUNT]⟩
   , ⟨0x5c, 4, 1, false, fun _ => [CSCH.LATECNT_COUNT]⟩
   , ⟨0x60, 4, 1, false, fun _ => [CSCH.QLOWCNT_COUNT]⟩
   , ⟨0x64, 4, 1, false, fun _ => [CSCH.FAULTCNT_COUNT]⟩
   , ⟨0x68, 4, 1, false, fun _ => [CSCH.REISSUECNT_COUNT]⟩
   , ⟨0x6c, 4, 1, false, fun _ => [CSCH.CONCEALCNT_COUNT]⟩
   , ⟨0x70, 4, 1, false, fun _ => [CSCH.BSERRCNT_COUNT]⟩
   , ⟨0x100, 64, 8, false, fun i => [CSCH.SQBASEL_A i]⟩
   , ⟨0x104, 64, 8, false, fun i => [CSCH.SQBASEH_A i]⟩
   , ⟨0x108, 64, 8, false, fun i => [CSCH.CQBASEL_A i]⟩
   , ⟨0x10c, 64, 8, false, fun i => [CSCH.CQBASEH_A i]⟩
   , ⟨0x110, 64, 8, false, fun i => [CSCH.RCFG_BFIFO i, CSCH.RCFG_DEPTH i, CSCH.RCFG_DROPPOL i, CSCH.RCFG_ISPLINK i, CSCH.RCFG_CQSRC i, CSCH.RCFG_KIND i, CSCH.RCFG_SIZE i, CSCH.RCFG_EN i]⟩
   , ⟨0x114, 64, 8, false, fun i => [CSCH.SQTAIL_I i]⟩
   , ⟨0x118, 64, 8, false, fun i => [CSCH.SQHEAD_I i]⟩
   , ⟨0x11c, 64, 8, false, fun i => [CSCH.CQHEAD_I i]⟩
   , ⟨0x120, 64, 8, false, fun i => [CSCH.CQTAIL_I i]⟩
   , ⟨0x124, 64, 8, false, fun i => [CSCH.RSTS_WAITING i, CSCH.RSTS_STATE i]⟩
   , ⟨0x128, 64, 8, false, fun i => [CSCH.RDROP_COUNT i]⟩
   , ⟨0x12c, 64, 8, false, fun i => [CSCH.KEYREQ_REQ i]⟩
   , ⟨0x130, 64, 8, true, fun i => [CSCH.PBANK_SEL i]⟩
   , ⟨0x134, 64, 8, false, fun i => [CSCH.PBSTS_BANK i]⟩]

/-! ### TCF: 10_coding_cells_and_jobs.md, R217 -/

def TCF.ISR_ERR : Fld := ⟨0x19000 + 0x18, 0, 1, 0, .w1c⟩
def TCF.IER : Fld := ⟨0x19000 + 0x1C, 0, 1, 0, .rw⟩
def TCF.CFG_LTGT : Fld := ⟨0x19000 + 0x40, 0, 2, 2, .rw⟩
def TCF.RDPLAIN_KIB : Fld := ⟨0x19000 + 0x44, 0, 32, 0, .ro⟩
def TCF.RDSTORED_KIB : Fld := ⟨0x19000 + 0x48, 0, 32, 0, .ro⟩

/-- The registers of the TCF page: offset, stride, count, shadowed, fields (10_coding_cells_and_jobs.md, R217). -/
def TCF.table : List RegT :=
  [⟨0x8, 4, 1, false, fun _ => []⟩, ⟨0xC, 4, 1, false, fun _ => []⟩,
   ⟨0x18, 4, 1, false, fun _ => [TCF.ISR_ERR]⟩, ⟨0x1C, 4, 1, false, fun _ => [TCF.IER]⟩
   , ⟨0x40, 4, 1, false, fun _ => [TCF.CFG_LTGT]⟩
   , ⟨0x44, 4, 1, false, fun _ => [TCF.RDPLAIN_KIB]⟩
   , ⟨0x48, 4, 1, false, fun _ => [TCF.RDSTORED_KIB]⟩]

/-! ### CSI: 14_camera_pipeline.md, R306 -/

def CSI.CTL_LRST (n : Nat) : Fld := ⟨0x20000 + 0x1000 * n + 0x8, 1, 1, 0, .w1s⟩
def CSI.CTL_EN (n : Nat) : Fld := ⟨0x20000 + 0x1000 * n + 0x8, 0, 1, 0, .rw⟩
def CSI.STS_BUSY (n : Nat) : Fld := ⟨0x20000 + 0x1000 * n + 0xC, 8, 1, 0, .ro⟩
def CSI.STS_STATE (n : Nat) : Fld := ⟨0x20000 + 0x1000 * n + 0xC, 0, 4, 0, .ro⟩
def CSI.ISR_ERR (n : Nat) : Fld := ⟨0x20000 + 0x1000 * n + 0x18, 0, 1, 0, .w1c⟩
def CSI.ISR_LOSS (n : Nat) : Fld := ⟨0x20000 + 0x1000 * n + 0x18, 1, 1, 0, .w1c⟩
def CSI.ISR_ABANDON (n : Nat) : Fld := ⟨0x20000 + 0x1000 * n + 0x18, 2, 1, 0, .w1c⟩
def CSI.ISR_LINEFIX (n : Nat) : Fld := ⟨0x20000 + 0x1000 * n + 0x18, 3, 1, 0, .w1c⟩
def CSI.ISR_RAWDROP (n : Nat) : Fld := ⟨0x20000 + 0x1000 * n + 0x18, 4, 1, 0, .w1c⟩
def CSI.ISR_FRAME (n : Nat) : Fld := ⟨0x20000 + 0x1000 * n + 0x18, 5, 1, 0, .w1c⟩
def CSI.IER (n : Nat) : Fld := ⟨0x20000 + 0x1000 * n + 0x1C, 0, 6, 0, .rw⟩
def CSI.CFG_VC (n : Nat) : Fld := ⟨0x20000 + 0x1000 * n + 0x40, 16, 2, 0, .rw⟩
def CSI.CFG_DT (n : Nat) : Fld := ⟨0x20000 + 0x1000 * n + 0x40, 8, 6, 0x2B, .rw⟩
def CSI.CFG_DEST (n : Nat) : Fld := ⟨0x20000 + 0x1000 * n + 0x40, 4, 2, 0, .rw⟩
def CSI.CFG_LANES (n : Nat) : Fld := ⟨0x20000 + 0x1000 * n + 0x40, 0, 2, 2, .rw⟩
def CSI.SIZE_HEIGHT (n : Nat) : Fld := ⟨0x20000 + 0x1000 * n + 0x44, 16, 16, 0, .rw⟩
def CSI.SIZE_WIDTH (n : Nat) : Fld := ⟨0x20000 + 0x1000 * n + 0x44, 0, 16, 0, .rw⟩
def CSI.LOSS_MAXFIX (n : Nat) : Fld := ⟨0x20000 + 0x1000 * n + 0x48, 16, 8, 4, .rw⟩
def CSI.LOSS_MS (n : Nat) : Fld := ⟨0x20000 + 0x1000 * n + 0x48, 0, 16, 0x64, .rw⟩
def CSI.RAWADDRL_A (n : Nat) : Fld := ⟨0x20000 + 0x1000 * n + 0x4c, 0, 32, 0, .rw⟩
def CSI.RAWADDRH_A (n : Nat) : Fld := ⟨0x20000 + 0x1000 * n + 0x50, 0, 32, 0, .rw⟩
def CSI.RAWSTRIDE_N (n : Nat) : Fld := ⟨0x20000 + 0x1000 * n + 0x54, 0, 32, 0, .rw⟩
def CSI.RAWCFG_NBUF (n : Nat) : Fld := ⟨0x20000 + 0x1000 * n + 0x58, 0, 3, 2, .rw⟩
def CSI.RAWSTS_FULL (n : Nat) : Fld := ⟨0x20000 + 0x1000 * n + 0x5c, 8, 4, 0, .ro⟩
def CSI.RAWSTS_WR (n : Nat) : Fld := ⟨0x20000 + 0x1000 * n + 0x5c, 4, 2, 0, .ro⟩
def CSI.FSTAMPL_T (n : Nat) : Fld := ⟨0x20000 + 0x1000 * n + 0x60, 0, 32, 0, .rs⟩
def CSI.FSTAMPH_T (n : Nat) : Fld := ⟨0x20000 + 0x1000 * n + 0x64, 0, 32, 0, .ro⟩
def CSI.LINEPER_T (n : Nat) : Fld := ⟨0x20000 + 0x1000 * n + 0x68, 0, 24, 0, .ro⟩
def CSI.CNT_ABNCNT (n : Nat) : Fld := ⟨0x20000 + 0x1000 * n + 0x6c, 16, 16, 0, .ro⟩
def CSI.CNT_DISCNT (n : Nat) : Fld := ⟨0x20000 + 0x1000 * n + 0x6c, 0, 16, 0, .ro⟩
def CSI.FIXCNT_LINEFIX (n : Nat) : Fld := ⟨0x20000 + 0x1000 * n + 0x70, 16, 16, 0, .ro⟩
def CSI.FIXCNT_ECCFIX (n : Nat) : Fld := ⟨0x20000 + 0x1000 * n + 0x70, 0, 16, 0, .ro⟩

/-- The registers of the CSI page: offset, stride, count, shadowed, fields (14_camera_pipeline.md, R306). -/
def CSI.table (n : Nat) : List RegT :=
  [⟨0x8, 4, 1, false, fun _ => [CSI.CTL_LRST n, CSI.CTL_EN n]⟩, ⟨0xC, 4, 1, false, fun _ => [CSI.STS_BUSY n, CSI.STS_STATE n]⟩,
   ⟨0x18, 4, 1, false, fun _ => [CSI.ISR_ERR n, CSI.ISR_LOSS n, CSI.ISR_ABANDON n, CSI.ISR_LINEFIX n, CSI.ISR_RAWDROP n, CSI.ISR_FRAME n]⟩, ⟨0x1C, 4, 1, false, fun _ => [CSI.IER n]⟩
   , ⟨0x40, 4, 1, false, fun _ => [CSI.CFG_VC n, CSI.CFG_DT n, CSI.CFG_DEST n, CSI.CFG_LANES n]⟩
   , ⟨0x44, 4, 1, false, fun _ => [CSI.SIZE_HEIGHT n, CSI.SIZE_WIDTH n]⟩
   , ⟨0x48, 4, 1, false, fun _ => [CSI.LOSS_MAXFIX n, CSI.LOSS_MS n]⟩
   , ⟨0x4c, 4, 1, false, fun _ => [CSI.RAWADDRL_A n]⟩
   , ⟨0x50, 4, 1, false, fun _ => [CSI.RAWADDRH_A n]⟩
   , ⟨0x54, 4, 1, false, fun _ => [CSI.RAWSTRIDE_N n]⟩
   , ⟨0x58, 4, 1, false, fun _ => [CSI.RAWCFG_NBUF n]⟩
   , ⟨0x5c, 4, 1, false, fun _ => [CSI.RAWSTS_FULL n, CSI.RAWSTS_WR n]⟩
   , ⟨0x60, 4, 1, false, fun _ => [CSI.FSTAMPL_T n]⟩
   , ⟨0x64, 4, 1, false, fun _ => [CSI.FSTAMPH_T n]⟩
   , ⟨0x68, 4, 1, false, fun _ => [CSI.LINEPER_T n]⟩
   , ⟨0x6c, 4, 1, false, fun _ => [CSI.CNT_ABNCNT n, CSI.CNT_DISCNT n]⟩
   , ⟨0x70, 4, 1, false, fun _ => [CSI.FIXCNT_LINEFIX n, CSI.FIXCNT_ECCFIX n]⟩]

/-! ### ISP: 14_camera_pipeline.md, R306 -/

def ISP.CTL_LRST : Fld := ⟨0x24000 + 0x8, 1, 1, 0, .w1s⟩
def ISP.CTL_EN : Fld := ⟨0x24000 + 0x8, 0, 1, 0, .rw⟩
def ISP.STS_BUSY : Fld := ⟨0x24000 + 0xC, 8, 1, 0, .ro⟩
def ISP.STS_STATE : Fld := ⟨0x24000 + 0xC, 0, 4, 0, .ro⟩
def ISP.ISR_ERR : Fld := ⟨0x24000 + 0x18, 0, 1, 0, .w1c⟩
def ISP.ISR_DEOF : Fld := ⟨0x24000 + 0x18, 1, 1, 0, .w1c⟩
def ISP.ISR_CEOF : Fld := ⟨0x24000 + 0x18, 2, 1, 0, .w1c⟩
def ISP.ISR_VEOF : Fld := ⟨0x24000 + 0x18, 3, 1, 0, .w1c⟩
def ISP.ISR_DABN : Fld := ⟨0x24000 + 0x18, 4, 1, 0, .w1c⟩
def ISP.ISR_CABN : Fld := ⟨0x24000 + 0x18, 5, 1, 0, .w1c⟩
def ISP.ISR_VABN : Fld := ⟨0x24000 + 0x18, 6, 1, 0, .w1c⟩
def ISP.ISR_PSET : Fld := ⟨0x24000 + 0x18, 7, 1, 0, .w1c⟩
def ISP.IER : Fld := ⟨0x24000 + 0x1C, 0, 8, 0, .rw⟩
def ISP.PSETL_A (i : Nat) : Fld := ⟨0x24000 + 0x40 + 8 * i, 0, 32, 0, .rw⟩
def ISP.PSETH_A (i : Nat) : Fld := ⟨0x24000 + 0x44 + 8 * i, 0, 32, 0, .rw⟩
def ISP.OUTSRC_VIS : Fld := ⟨0x24000 + 0x58, 8, 2, 3, .rw⟩
def ISP.OUTSRC_CODE : Fld := ⟨0x24000 + 0x58, 4, 2, 3, .rw⟩
def ISP.OUTSRC_DISP : Fld := ⟨0x24000 + 0x58, 0, 2, 3, .rw⟩
def ISP.CROP0_Y (i : Nat) : Fld := ⟨0x24000 + 0x60 + 32 * i, 16, 16, 0, .rw⟩
def ISP.CROP0_X (i : Nat) : Fld := ⟨0x24000 + 0x60 + 32 * i, 0, 16, 0, .rw⟩
def ISP.CROP1_H (i : Nat) : Fld := ⟨0x24000 + 0x64 + 32 * i, 16, 16, 0, .rw⟩
def ISP.CROP1_W (i : Nat) : Fld := ⟨0x24000 + 0x64 + 32 * i, 0, 16, 0, .rw⟩
def ISP.SIZE_H (i : Nat) : Fld := ⟨0x24000 + 0x68 + 32 * i, 16, 16, 0, .rw⟩
def ISP.SIZE_W (i : Nat) : Fld := ⟨0x24000 + 0x68 + 32 * i, 0, 16, 0, .rw⟩
def ISP.DCFG_BASE : Fld := ⟨0x24000 + 0x6c, 20, 12, 0, .rw⟩
def ISP.DCFG_NSURF : Fld := ⟨0x24000 + 0x6c, 16, 2, 2, .rw⟩
def ISP.DCFG_LOSSBLK : Fld := ⟨0x24000 + 0x6c, 12, 1, 0, .rw⟩
def ISP.DCFG_CSC : Fld := ⟨0x24000 + 0x6c, 8, 2, 0, .rw⟩
def ISP.DCFG_FMT : Fld := ⟨0x24000 + 0x6c, 0, 3, 0, .rw⟩
def ISP.DSTS_FRAMES : Fld := ⟨0x24000 + 0x70, 16, 16, 0, .ro⟩
def ISP.DSTS_LAST : Fld := ⟨0x24000 + 0x70, 0, 12, 0, .ro⟩
def ISP.CCFG_BASE : Fld := ⟨0x24000 + 0x8c, 20, 12, 0, .rw⟩
def ISP.CCFG_NSURF : Fld := ⟨0x24000 + 0x8c, 16, 2, 2, .rw⟩
def ISP.CCFG_LINK : Fld := ⟨0x24000 + 0x8c, 15, 1, 0, .rw⟩
def ISP.CCFG_RING : Fld := ⟨0x24000 + 0x8c, 12, 3, 0, .rw⟩
def ISP.CCFG_CSC : Fld := ⟨0x24000 + 0x8c, 8, 2, 0, .rw⟩
def ISP.CCFG_FMT : Fld := ⟨0x24000 + 0x8c, 0, 3, 0, .rw⟩
def ISP.CSTS_FRAMES : Fld := ⟨0x24000 + 0x90, 16, 16, 0, .ro⟩
def ISP.CSTS_LAST : Fld := ⟨0x24000 + 0x90, 0, 12, 0, .ro⟩
def ISP.LATSTS_VALID : Fld := ⟨0x24000 + 0x94, 31, 1, 0, .ro⟩
def ISP.LATSTS_FIRSTROW : Fld := ⟨0x24000 + 0x94, 0, 24, 0, .ro⟩
def ISP.VCFG_PITCH : Fld := ⟨0x24000 + 0xac, 16, 16, 0, .rw⟩
def ISP.VCFG_NBUF : Fld := ⟨0x24000 + 0xac, 4, 2, 3, .rw⟩
def ISP.VCFG_FMT : Fld := ⟨0x24000 + 0xac, 0, 2, 0, .rw⟩
def ISP.VADDRL_A (i : Nat) : Fld := ⟨0x24000 + 0xb0 + 8 * i, 0, 32, 0, .rw⟩
def ISP.VADDRH_A (i : Nat) : Fld := ⟨0x24000 + 0xb4 + 8 * i, 0, 32, 0, .rw⟩
def ISP.VTSL_T (i : Nat) : Fld := ⟨0x24000 + 0xd0 + 8 * i, 0, 32, 0, .ro⟩
def ISP.VTSH_T (i : Nat) : Fld := ⟨0x24000 + 0xd4 + 8 * i, 0, 32, 0, .ro⟩
def ISP.VSTS_FRAMES : Fld := ⟨0x24000 + 0xf0, 16, 16, 0, .ro⟩
def ISP.VSTS_LAST : Fld := ⟨0x24000 + 0xf0, 0, 2, 0, .ro⟩
def ISP.PASSSTS_DONE : Fld := ⟨0x24000 + 0xf4, 16, 16, 0, .ro⟩
def ISP.PASSSTS_CUR : Fld := ⟨0x24000 + 0xf4, 4, 2, 3, .ro⟩
def ISP.PASSSTS_PEND : Fld := ⟨0x24000 + 0xf4, 0, 4, 0, .ro⟩
def ISP.ABN1_CODE : Fld := ⟨0x24000 + 0xf8, 16, 16, 0, .ro⟩
def ISP.ABN1_DISP : Fld := ⟨0x24000 + 0xf8, 0, 16, 0, .ro⟩
def ISP.ABN2_CNOMATCH : Fld := ⟨0x24000 + 0xfc, 16, 16, 0, .ro⟩
def ISP.ABN2_VIS : Fld := ⟨0x24000 + 0xfc, 0, 16, 0, .ro⟩

/-- The registers of the ISP page: offset, stride, count, shadowed, fields (14_camera_pipeline.md, R306). -/
def ISP.table : List RegT :=
  [⟨0x8, 4, 1, false, fun _ => [ISP.CTL_LRST, ISP.CTL_EN]⟩, ⟨0xC, 4, 1, false, fun _ => [ISP.STS_BUSY, ISP.STS_STATE]⟩,
   ⟨0x18, 4, 1, false, fun _ => [ISP.ISR_ERR, ISP.ISR_DEOF, ISP.ISR_CEOF, ISP.ISR_VEOF, ISP.ISR_DABN, ISP.ISR_CABN, ISP.ISR_VABN, ISP.ISR_PSET]⟩, ⟨0x1C, 4, 1, false, fun _ => [ISP.IER]⟩
   , ⟨0x40, 8, 3, true, fun i => [ISP.PSETL_A i]⟩
   , ⟨0x44, 8, 3, true, fun i => [ISP.PSETH_A i]⟩
   , ⟨0x58, 4, 1, true, fun _ => [ISP.OUTSRC_VIS, ISP.OUTSRC_CODE, ISP.OUTSRC_DISP]⟩
   , ⟨0x60, 32, 3, true, fun i => [ISP.CROP0_Y i, ISP.CROP0_X i]⟩
   , ⟨0x64, 32, 3, true, fun i => [ISP.CROP1_H i, ISP.CROP1_W i]⟩
   , ⟨0x68, 32, 3, true, fun i => [ISP.SIZE_H i, ISP.SIZE_W i]⟩
   , ⟨0x6c, 4, 1, true, fun _ => [ISP.DCFG_BASE, ISP.DCFG_NSURF, ISP.DCFG_LOSSBLK, ISP.DCFG_CSC, ISP.DCFG_FMT]⟩
   , ⟨0x70, 4, 1, false, fun _ => [ISP.DSTS_FRAMES, ISP.DSTS_LAST]⟩
   , ⟨0x8c, 4, 1, true, fun _ => [ISP.CCFG_BASE, ISP.CCFG_NSURF, ISP.CCFG_LINK, ISP.CCFG_RING, ISP.CCFG_CSC, ISP.CCFG_FMT]⟩
   , ⟨0x90, 4, 1, false, fun _ => [ISP.CSTS_FRAMES, ISP.CSTS_LAST]⟩
   , ⟨0x94, 4, 1, false, fun _ => [ISP.LATSTS_VALID, ISP.LATSTS_FIRSTROW]⟩
   , ⟨0xac, 4, 1, true, fun _ => [ISP.VCFG_PITCH, ISP.VCFG_NBUF, ISP.VCFG_FMT]⟩
   , ⟨0xb0, 8, 4, true, fun i => [ISP.VADDRL_A i]⟩
   , ⟨0xb4, 8, 4, true, fun i => [ISP.VADDRH_A i]⟩
   , ⟨0xd0, 8, 4, false, fun i => [ISP.VTSL_T i]⟩
   , ⟨0xd4, 8, 4, false, fun i => [ISP.VTSH_T i]⟩
   , ⟨0xf0, 4, 1, false, fun _ => [ISP.VSTS_FRAMES, ISP.VSTS_LAST]⟩
   , ⟨0xf4, 4, 1, false, fun _ => [ISP.PASSSTS_DONE, ISP.PASSSTS_CUR, ISP.PASSSTS_PEND]⟩
   , ⟨0xf8, 4, 1, false, fun _ => [ISP.ABN1_CODE, ISP.ABN1_DISP]⟩
   , ⟨0xfc, 4, 1, false, fun _ => [ISP.ABN2_CNOMATCH, ISP.ABN2_VIS]⟩]

/-! ### VISR: 14_camera_pipeline.md, R306 -/

def VISR.CTL_LRST : Fld := ⟨0x28000 + 0x8, 1, 1, 0, .w1s⟩
def VISR.CTL_EN : Fld := ⟨0x28000 + 0x8, 0, 1, 0, .rw⟩
def VISR.STS_BUSY : Fld := ⟨0x28000 + 0xC, 8, 1, 0, .ro⟩
def VISR.STS_STATE : Fld := ⟨0x28000 + 0xC, 0, 4, 0, .ro⟩
def VISR.ISR_ERR : Fld := ⟨0x28000 + 0x18, 0, 1, 0, .w1c⟩
def VISR.ISR_BOX : Fld := ⟨0x28000 + 0x18, 1, 1, 0, .w1c⟩
def VISR.ISR_FULL : Fld := ⟨0x28000 + 0x18, 2, 1, 0, .w1c⟩
def VISR.IER : Fld := ⟨0x28000 + 0x1C, 0, 3, 0, .rw⟩
def VISR.RQBASEL_A : Fld := ⟨0x28000 + 0x40, 0, 32, 0, .rw⟩
def VISR.RQBASEH_A : Fld := ⟨0x28000 + 0x44, 0, 32, 0, .rw⟩
def VISR.RQCFG_EXPIRE : Fld := ⟨0x28000 + 0x48, 16, 16, 0x1F4, .rw⟩
def VISR.RQCFG_SIZE : Fld := ⟨0x28000 + 0x48, 0, 4, 6, .rw⟩
def VISR.RQTAIL_I : Fld := ⟨0x28000 + 0x4c, 0, 16, 0, .rw⟩
def VISR.RQHEAD_I : Fld := ⟨0x28000 + 0x50, 0, 16, 0, .ro⟩
def VISR.HELD_COUNT : Fld := ⟨0x28000 + 0x54, 0, 7, 0, .ro⟩
def VISR.CNT_EXPIRED : Fld := ⟨0x28000 + 0x58, 16, 16, 0, .ro⟩
def VISR.CNT_REFUSED : Fld := ⟨0x28000 + 0x58, 0, 16, 0, .ro⟩
def VISR.MAPCNT_COUNT : Fld := ⟨0x28000 + 0x5c, 0, 32, 0, .ro⟩
def VISR.HELDID (i : Nat) : Fld := ⟨0x28000 + 0x60 + 4 * (i / 32), i % 32, 1, 0, .ro⟩

/-- The registers of the VISR page: offset, stride, count, shadowed, fields (14_camera_pipeline.md, R306). -/
def VISR.table : List RegT :=
  [⟨0x8, 4, 1, false, fun _ => [VISR.CTL_LRST, VISR.CTL_EN]⟩, ⟨0xC, 4, 1, false, fun _ => [VISR.STS_BUSY, VISR.STS_STATE]⟩,
   ⟨0x18, 4, 1, false, fun _ => [VISR.ISR_ERR, VISR.ISR_BOX, VISR.ISR_FULL]⟩, ⟨0x1C, 4, 1, false, fun _ => [VISR.IER]⟩
   , ⟨0x40, 4, 1, false, fun _ => [VISR.RQBASEL_A]⟩
   , ⟨0x44, 4, 1, false, fun _ => [VISR.RQBASEH_A]⟩
   , ⟨0x48, 4, 1, false, fun _ => [VISR.RQCFG_EXPIRE, VISR.RQCFG_SIZE]⟩
   , ⟨0x4c, 4, 1, false, fun _ => [VISR.RQTAIL_I]⟩
   , ⟨0x50, 4, 1, false, fun _ => [VISR.RQHEAD_I]⟩
   , ⟨0x54, 4, 1, false, fun _ => [VISR.HELD_COUNT]⟩
   , ⟨0x58, 4, 1, false, fun _ => [VISR.CNT_EXPIRED, VISR.CNT_REFUSED]⟩
   , ⟨0x5c, 4, 1, false, fun _ => [VISR.MAPCNT_COUNT]⟩
   , ⟨0x60, 4, 8, false, fun i => (List.range 32).map fun b => VISR.HELDID (32 * i + b)⟩]

/-! ### DMC: 09_dram_controller.md, R213 -/

def DMC.STS_TDELTA (n : Nat) : Fld := ⟨0x30000 + 0x1000 * n + 0xC, 9, 1, 0, .ro⟩
def DMC.STS_BUSY (n : Nat) : Fld := ⟨0x30000 + 0x1000 * n + 0xC, 8, 1, 1, .ro⟩
def DMC.STS_STATE (n : Nat) : Fld := ⟨0x30000 + 0x1000 * n + 0xC, 0, 4, 0, .ro⟩
def DMC.ISR_ERR (n : Nat) : Fld := ⟨0x30000 + 0x1000 * n + 0x18, 0, 1, 0, .w1c⟩
def DMC.ISR_TEMP_DELTA (n : Nat) : Fld := ⟨0x30000 + 0x1000 * n + 0x18, 1, 1, 0, .w1c⟩
def DMC.ISR_TRNDONE (n : Nat) : Fld := ⟨0x30000 + 0x1000 * n + 0x18, 2, 1, 0, .w1c⟩
def DMC.ISR_TRNFAIL (n : Nat) : Fld := ⟨0x30000 + 0x1000 * n + 0x18, 3, 1, 0, .w1c⟩
def DMC.ISR_HOT (n : Nat) : Fld := ⟨0x30000 + 0x1000 * n + 0x18, 4, 1, 0, .w1c⟩
def DMC.IER (n : Nat) : Fld := ⟨0x30000 + 0x1000 * n + 0x1C, 0, 5, 0, .rw⟩
def DMC.CFG_RATE (n : Nat) : Fld := ⟨0x30000 + 0x1000 * n + 0x40, 8, 4, 0, .ro⟩
def DMC.CFG_DENS (n : Nat) : Fld := ⟨0x30000 + 0x1000 * n + 0x40, 0, 4, 0, .ro⟩
def DMC.TRAIN_AT (n : Nat) : Fld := ⟨0x30000 + 0x1000 * n + 0x44, 1, 1, 0, .rw⟩
def DMC.TRAIN_GO (n : Nat) : Fld := ⟨0x30000 + 0x1000 * n + 0x44, 0, 1, 0, .w1s⟩
def DMC.TWIN_DELTA (n : Nat) : Fld := ⟨0x30000 + 0x1000 * n + 0x48, 0, 8, 0x0F, .rw⟩
def DMC.TTRAIN_TJ (n : Nat) : Fld := ⟨0x30000 + 0x1000 * n + 0x4c, 0, 8, 0, .ro⟩
def DMC.EYE_WWIDTH (n : Nat) (i : Nat) : Fld := ⟨0x30000 + 0x1000 * n + 0x50 + 4 * i, 24, 8, 0, .ro⟩
def DMC.EYE_WCTR (n : Nat) (i : Nat) : Fld := ⟨0x30000 + 0x1000 * n + 0x50 + 4 * i, 16, 8, 0, .ro⟩
def DMC.EYE_RWIDTH (n : Nat) (i : Nat) : Fld := ⟨0x30000 + 0x1000 * n + 0x50 + 4 * i, 8, 8, 0, .ro⟩
def DMC.EYE_RCTR (n : Nat) (i : Nat) : Fld := ⟨0x30000 + 0x1000 * n + 0x50 + 4 * i, 0, 8, 0, .ro⟩
def DMC.REFSTS_CLASS (n : Nat) : Fld := ⟨0x30000 + 0x1000 * n + 0x58, 0, 4, 1, .ro⟩
def DMC.REFCTL_MR4INT (n : Nat) : Fld := ⟨0x30000 + 0x1000 * n + 0x5c, 0, 8, 0x10, .rw⟩
def DMC.TMG0_TRCD (n : Nat) : Fld := ⟨0x30000 + 0x1000 * n + 0x60, 24, 8, 0, .rw⟩
def DMC.TMG0_TRPPB (n : Nat) : Fld := ⟨0x30000 + 0x1000 * n + 0x60, 16, 8, 0, .rw⟩
def DMC.TMG0_TRAS (n : Nat) : Fld := ⟨0x30000 + 0x1000 * n + 0x60, 8, 8, 0, .rw⟩
def DMC.TMG0_TWR (n : Nat) : Fld := ⟨0x30000 + 0x1000 * n + 0x60, 0, 8, 0, .rw⟩
def DMC.TMG1_TRFCPB (n : Nat) : Fld := ⟨0x30000 + 0x1000 * n + 0x64, 16, 16, 0, .rw⟩
def DMC.TMG1_TREFI (n : Nat) : Fld := ⟨0x30000 + 0x1000 * n + 0x64, 0, 16, 0, .rw⟩
def DMC.MRRD_BUSY (n : Nat) : Fld := ⟨0x30000 + 0x1000 * n + 0x68, 31, 1, 0, .ro⟩
def DMC.MRRD_ADDR (n : Nat) : Fld := ⟨0x30000 + 0x1000 * n + 0x68, 8, 8, 0, .rw⟩
def DMC.MRRD_DATA (n : Nat) : Fld := ⟨0x30000 + 0x1000 * n + 0x68, 0, 8, 0, .ro⟩
def DMC.PWR_SR (n : Nat) : Fld := ⟨0x30000 + 0x1000 * n + 0x6c, 0, 1, 0, .rw⟩
def DMC.TRNCNT_COUNT (n : Nat) : Fld := ⟨0x30000 + 0x1000 * n + 0x70, 0, 16, 0, .ro⟩

/-- The registers of the DMC page: offset, stride, count, shadowed, fields (09_dram_controller.md, R213). -/
def DMC.table (n : Nat) : List RegT :=
  [⟨0x8, 4, 1, false, fun _ => []⟩, ⟨0xC, 4, 1, false, fun _ => [DMC.STS_TDELTA n, DMC.STS_BUSY n, DMC.STS_STATE n]⟩,
   ⟨0x18, 4, 1, false, fun _ => [DMC.ISR_ERR n, DMC.ISR_TEMP_DELTA n, DMC.ISR_TRNDONE n, DMC.ISR_TRNFAIL n, DMC.ISR_HOT n]⟩, ⟨0x1C, 4, 1, false, fun _ => [DMC.IER n]⟩
   , ⟨0x40, 4, 1, false, fun _ => [DMC.CFG_RATE n, DMC.CFG_DENS n]⟩
   , ⟨0x44, 4, 1, false, fun _ => [DMC.TRAIN_AT n, DMC.TRAIN_GO n]⟩
   , ⟨0x48, 4, 1, false, fun _ => [DMC.TWIN_DELTA n]⟩
   , ⟨0x4c, 4, 1, false, fun _ => [DMC.TTRAIN_TJ n]⟩
   , ⟨0x50, 4, 2, false, fun i => [DMC.EYE_WWIDTH n i, DMC.EYE_WCTR n i, DMC.EYE_RWIDTH n i, DMC.EYE_RCTR n i]⟩
   , ⟨0x58, 4, 1, false, fun _ => [DMC.REFSTS_CLASS n]⟩
   , ⟨0x5c, 4, 1, false, fun _ => [DMC.REFCTL_MR4INT n]⟩
   , ⟨0x60, 4, 1, false, fun _ => [DMC.TMG0_TRCD n, DMC.TMG0_TRPPB n, DMC.TMG0_TRAS n, DMC.TMG0_TWR n]⟩
   , ⟨0x64, 4, 1, false, fun _ => [DMC.TMG1_TRFCPB n, DMC.TMG1_TREFI n]⟩
   , ⟨0x68, 4, 1, false, fun _ => [DMC.MRRD_BUSY n, DMC.MRRD_ADDR n, DMC.MRRD_DATA n]⟩
   , ⟨0x6c, 4, 1, false, fun _ => [DMC.PWR_SR n]⟩
   , ⟨0x70, 4, 1, false, fun _ => [DMC.TRNCNT_COUNT n]⟩]

/-! ### DQOS: 09_dram_controller.md, R213 -/

def DQOS.STS_SAT : Fld := ⟨0x34000 + 0xC, 9, 1, 0, .ro⟩
def DQOS.ISR_ERR : Fld := ⟨0x34000 + 0x18, 0, 1, 0, .w1c⟩
def DQOS.ISR_LATE : Fld := ⟨0x34000 + 0x18, 1, 1, 0, .w1c⟩
def DQOS.ISR_SAT : Fld := ⟨0x34000 + 0x18, 2, 1, 0, .w1c⟩
def DQOS.IER : Fld := ⟨0x34000 + 0x1C, 0, 3, 0, .rw⟩
def DQOS.MARK_M3 : Fld := ⟨0x34000 + 0x40, 16, 7, 0x5A, .rw⟩
def DQOS.MARK_M2 : Fld := ⟨0x34000 + 0x40, 8, 7, 0x4B, .rw⟩
def DQOS.MARK_M1 : Fld := ⟨0x34000 + 0x40, 0, 7, 0x32, .rw⟩
def DQOS.LAT_NS (i : Nat) : Fld := ⟨0x34000 + 0x100 + 16 * i, 0, 16, (dqosLat i), .rw⟩
def DQOS.PCFG_RANK (i : Nat) : Fld := ⟨0x34000 + 0x104 + 16 * i, 24, 4, (11 - i), .rw⟩
def DQOS.PCFG_GUAR (i : Nat) : Fld := ⟨0x34000 + 0x104 + 16 * i, 16, 6, (dqosGuar i), .rw⟩
def DQOS.PSTS_URG (i : Nat) : Fld := ⟨0x34000 + 0x108 + 16 * i, 30, 2, 0, .ro⟩
def DQOS.PSTS_WAIT (i : Nat) : Fld := ⟨0x34000 + 0x108 + 16 * i, 0, 8, 0, .ro⟩
def DQOS.MISS_COUNT (i : Nat) : Fld := ⟨0x34000 + 0x10c + 16 * i, 0, 32, 0, .ro⟩

/-- The registers of the DQOS page: offset, stride, count, shadowed, fields (09_dram_controller.md, R213). -/
def DQOS.table : List RegT :=
  [⟨0x8, 4, 1, false, fun _ => []⟩, ⟨0xC, 4, 1, false, fun _ => [DQOS.STS_SAT]⟩,
   ⟨0x18, 4, 1, false, fun _ => [DQOS.ISR_ERR, DQOS.ISR_LATE, DQOS.ISR_SAT]⟩, ⟨0x1C, 4, 1, false, fun _ => [DQOS.IER]⟩
   , ⟨0x40, 4, 1, true, fun _ => [DQOS.MARK_M3, DQOS.MARK_M2, DQOS.MARK_M1]⟩
   , ⟨0x100, 16, 12, true, fun i => [DQOS.LAT_NS i]⟩
   , ⟨0x104, 16, 12, true, fun i => [DQOS.PCFG_RANK i, DQOS.PCFG_GUAR i]⟩
   , ⟨0x108, 16, 12, false, fun i => [DQOS.PSTS_URG i, DQOS.PSTS_WAIT i]⟩
   , ⟨0x10c, 16, 12, false, fun i => [DQOS.MISS_COUNT i]⟩]

end Sys2Proof.Machine
end

