-- ==== Sys2Proof/Machine/RegsMedia.lean ====
section
/-! DEFINITION. The registers and fields of the pages MPT, SPOUT, STRN, PTP, HRX, HTX, EARC, APORT and COMP, as the tables of the
manual list them: address, lowest bit, width, reset value, access code. A field the manual resets to X holds 0 at
reset (log entry 4); the MSI-X table resets as PCI Express says (log entry 5). -/

namespace Sys2Proof.Machine

/-! ### MPT: 16_media_port_spout_strainer.md, R360 -/

def MPT.CTL_LRST : Fld := ⟨0x40000 + 0x8, 1, 1, 0, .w1s⟩
def MPT.CTL_EN : Fld := ⟨0x40000 + 0x8, 0, 1, 0, .rw⟩
def MPT.STS_BUSY : Fld := ⟨0x40000 + 0xC, 8, 1, 0, .ro⟩
def MPT.STS_STATE : Fld := ⟨0x40000 + 0xC, 0, 4, 0, .ro⟩
def MPT.ISR_ERR : Fld := ⟨0x40000 + 0x18, 0, 1, 0, .w1c⟩
def MPT.ISR_LINKUP : Fld := ⟨0x40000 + 0x18, 1, 1, 0, .w1c⟩
def MPT.ISR_LINKDOWN : Fld := ⟨0x40000 + 0x18, 2, 1, 0, .w1c⟩
def MPT.ISR_RXFULL : Fld := ⟨0x40000 + 0x18, 3, 1, 0, .w1c⟩
def MPT.ISR_AAFDROP : Fld := ⟨0x40000 + 0x18, 4, 1, 0, .w1c⟩
def MPT.ISR_TSOVR : Fld := ⟨0x40000 + 0x18, 5, 1, 0, .w1c⟩
def MPT.IER : Fld := ⟨0x40000 + 0x1C, 0, 6, 0, .rw⟩
def MPT.MODE_ANEN : Fld := ⟨0x40000 + 0x40, 4, 1, 1, .rw⟩
def MPT.MODE_SGMII : Fld := ⟨0x40000 + 0x40, 0, 1, 0, .rw⟩
def MPT.LINKSTS_SPEED : Fld := ⟨0x40000 + 0x44, 4, 2, 0, .ro⟩
def MPT.LINKSTS_UP : Fld := ⟨0x40000 + 0x44, 0, 1, 0, .ro⟩
def MPT.STBASEL_A : Fld := ⟨0x40000 + 0x48, 0, 32, 0, .rw⟩
def MPT.STBASEH_A : Fld := ⟨0x40000 + 0x4c, 0, 32, 0, .rw⟩
def MPT.STREN_N : Fld := ⟨0x40000 + 0x50, 0, 16, 0, .rw⟩
def MPT.TXBASEL_A : Fld := ⟨0x40000 + 0x54, 0, 32, 0, .rw⟩
def MPT.TXBASEH_A : Fld := ⟨0x40000 + 0x58, 0, 32, 0, .rw⟩
def MPT.TXCFG_EN : Fld := ⟨0x40000 + 0x5c, 8, 1, 0, .rw⟩
def MPT.TXCFG_SIZE : Fld := ⟨0x40000 + 0x5c, 0, 4, 4, .rw⟩
def MPT.TXTAIL_I : Fld := ⟨0x40000 + 0x60, 0, 16, 0, .rw⟩
def MPT.TXHEAD_I : Fld := ⟨0x40000 + 0x64, 0, 16, 0, .ro⟩
def MPT.RXBASEL_A (i : Nat) : Fld := ⟨0x40000 + 0x80 + 32 * i, 0, 32, 0, .rw⟩
def MPT.RXBASEH_A (i : Nat) : Fld := ⟨0x40000 + 0x84 + 32 * i, 0, 32, 0, .rw⟩
def MPT.RXCFG_EN (i : Nat) : Fld := ⟨0x40000 + 0x88 + 32 * i, 8, 1, 0, .rw⟩
def MPT.RXCFG_SIZE (i : Nat) : Fld := ⟨0x40000 + 0x88 + 32 * i, 0, 4, 4, .rw⟩
def MPT.RXHEAD_I (i : Nat) : Fld := ⟨0x40000 + 0x8c + 32 * i, 0, 16, 0, .ro⟩
def MPT.RXTAIL_I (i : Nat) : Fld := ⟨0x40000 + 0x90 + 32 * i, 0, 16, 0, .rw⟩
def MPT.TXCNT_COUNT : Fld := ⟨0x40000 + 0x100, 0, 32, 0, .ro⟩
def MPT.RXCNT_COUNT : Fld := ⟨0x40000 + 0x104, 0, 32, 0, .ro⟩
def MPT.RXERR_COUNT : Fld := ⟨0x40000 + 0x108, 0, 32, 0, .ro⟩
def MPT.RXFULL_COUNT : Fld := ⟨0x40000 + 0x10c, 0, 32, 0, .ro⟩
def MPT.AAFDROP_COUNT : Fld := ⟨0x40000 + 0x110, 0, 32, 0, .ro⟩
def MPT.SEQ_N (i : Nat) : Fld := ⟨0x40000 + 0x140 + 4 * i, 0, 16, 0, .ro⟩

/-- The registers of the MPT page: offset, stride, count, shadowed, fields (16_media_port_spout_strainer.md, R360). -/
def MPT.table : List RegT :=
  [⟨0x8, 4, 1, false, fun _ => [MPT.CTL_LRST, MPT.CTL_EN]⟩, ⟨0xC, 4, 1, false, fun _ => [MPT.STS_BUSY, MPT.STS_STATE]⟩,
   ⟨0x18, 4, 1, false, fun _ => [MPT.ISR_ERR, MPT.ISR_LINKUP, MPT.ISR_LINKDOWN, MPT.ISR_RXFULL, MPT.ISR_AAFDROP, MPT.ISR_TSOVR]⟩, ⟨0x1C, 4, 1, false, fun _ => [MPT.IER]⟩
   , ⟨0x40, 4, 1, false, fun _ => [MPT.MODE_ANEN, MPT.MODE_SGMII]⟩
   , ⟨0x44, 4, 1, false, fun _ => [MPT.LINKSTS_SPEED, MPT.LINKSTS_UP]⟩
   , ⟨0x48, 4, 1, false, fun _ => [MPT.STBASEL_A]⟩
   , ⟨0x4c, 4, 1, false, fun _ => [MPT.STBASEH_A]⟩
   , ⟨0x50, 4, 1, false, fun _ => [MPT.STREN_N]⟩
   , ⟨0x54, 4, 1, false, fun _ => [MPT.TXBASEL_A]⟩
   , ⟨0x58, 4, 1, false, fun _ => [MPT.TXBASEH_A]⟩
   , ⟨0x5c, 4, 1, false, fun _ => [MPT.TXCFG_EN, MPT.TXCFG_SIZE]⟩
   , ⟨0x60, 4, 1, false, fun _ => [MPT.TXTAIL_I]⟩
   , ⟨0x64, 4, 1, false, fun _ => [MPT.TXHEAD_I]⟩
   , ⟨0x80, 32, 4, false, fun i => [MPT.RXBASEL_A i]⟩
   , ⟨0x84, 32, 4, false, fun i => [MPT.RXBASEH_A i]⟩
   , ⟨0x88, 32, 4, false, fun i => [MPT.RXCFG_EN i, MPT.RXCFG_SIZE i]⟩
   , ⟨0x8c, 32, 4, false, fun i => [MPT.RXHEAD_I i]⟩
   , ⟨0x90, 32, 4, false, fun i => [MPT.RXTAIL_I i]⟩
   , ⟨0x100, 4, 1, false, fun _ => [MPT.TXCNT_COUNT]⟩
   , ⟨0x104, 4, 1, false, fun _ => [MPT.RXCNT_COUNT]⟩
   , ⟨0x108, 4, 1, false, fun _ => [MPT.RXERR_COUNT]⟩
   , ⟨0x10c, 4, 1, false, fun _ => [MPT.RXFULL_COUNT]⟩
   , ⟨0x110, 4, 1, false, fun _ => [MPT.AAFDROP_COUNT]⟩
   , ⟨0x140, 4, 16, false, fun i => [MPT.SEQ_N i]⟩]

/-! ### SPOUT: 16_media_port_spout_strainer.md, R360 -/

def SPOUT.CTL_EN : Fld := ⟨0x41000 + 0x8, 0, 1, 0, .rw⟩
def SPOUT.STS_BUSY : Fld := ⟨0x41000 + 0xC, 8, 1, 0, .ro⟩
def SPOUT.STS_ACT : Fld := ⟨0x41000 + 0xC, 4, 1, 0, .ro⟩
def SPOUT.STS_STATE : Fld := ⟨0x41000 + 0xC, 0, 4, 0, .ro⟩
def SPOUT.ISR_ERR : Fld := ⟨0x41000 + 0x18, 0, 1, 0, .w1c⟩
def SPOUT.ISR_QFULL : Fld := ⟨0x41000 + 0x18, 1, 1, 0, .w1c⟩
def SPOUT.ISR_OVERRUN : Fld := ⟨0x41000 + 0x18, 2, 1, 0, .w1c⟩
def SPOUT.ISR_SWAPPED : Fld := ⟨0x41000 + 0x18, 3, 1, 0, .w1c⟩
def SPOUT.IER : Fld := ⟨0x41000 + 0x1C, 0, 4, 0, .rw⟩
def SPOUT.CYCLE_NS (i : Nat) : Fld := ⟨0x41000 + 0x40 + 16 * i, 0, 30, 0x1E848, .rw⟩
def SPOUT.BASEL_T (i : Nat) : Fld := ⟨0x41000 + 0x44 + 16 * i, 0, 32, 0, .rw⟩
def SPOUT.BASEH_T (i : Nat) : Fld := ⟨0x41000 + 0x48 + 16 * i, 0, 32, 0, .rw⟩
def SPOUT.LEN_N (i : Nat) : Fld := ⟨0x41000 + 0x4c + 16 * i, 0, 9, 1, .rw⟩
def SPOUT.SWAP_GO : Fld := ⟨0x41000 + 0x60, 0, 1, 0, .w1s⟩
def SPOUT.GUARD_NS : Fld := ⟨0x41000 + 0x64, 0, 16, 0x40, .rw⟩
def SPOUT.GATES_ENTRY : Fld := ⟨0x41000 + 0x68, 16, 8, 0, .ro⟩
def SPOUT.GATES_STATE : Fld := ⟨0x41000 + 0x68, 0, 8, 0xFF, .ro⟩
def SPOUT.OVRCNT_COUNT : Fld := ⟨0x41000 + 0x6c, 0, 16, 0, .ro⟩
def SPOUT.SHRATE_KBPS (i : Nat) : Fld := ⟨0x41000 + 0x80 + 8 * i, 0, 32, 0, .rw⟩
def SPOUT.SHBURST_TOKEN_INIT (i : Nat) : Fld := ⟨0x41000 + 0x84 + 8 * i, 31, 1, 1, .rw⟩
def SPOUT.SHBURST_BYTES (i : Nat) : Fld := ⟨0x41000 + 0x84 + 8 * i, 0, 24, 0x600, .rw⟩
def SPOUT.QSTS_FRAMES (i : Nat) : Fld := ⟨0x41000 + 0xc0 + 4 * i, 0, 7, 0, .ro⟩
def SPOUT.GCL0_GATES (i : Nat) : Fld := ⟨0x41000 + 0x800 + 4 * i, 24, 8, 0, .rw⟩
def SPOUT.GCL0_INTV (i : Nat) : Fld := ⟨0x41000 + 0x800 + 4 * i, 0, 24, 0, .rw⟩
def SPOUT.GCL1_GATES (i : Nat) : Fld := ⟨0x41000 + 0xc00 + 4 * i, 24, 8, 0, .rw⟩
def SPOUT.GCL1_INTV (i : Nat) : Fld := ⟨0x41000 + 0xc00 + 4 * i, 0, 24, 0, .rw⟩

/-- The registers of the SPOUT page: offset, stride, count, shadowed, fields (16_media_port_spout_strainer.md, R360). -/
def SPOUT.table : List RegT :=
  [⟨0x8, 4, 1, false, fun _ => [SPOUT.CTL_EN]⟩, ⟨0xC, 4, 1, false, fun _ => [SPOUT.STS_BUSY, SPOUT.STS_ACT, SPOUT.STS_STATE]⟩,
   ⟨0x18, 4, 1, false, fun _ => [SPOUT.ISR_ERR, SPOUT.ISR_QFULL, SPOUT.ISR_OVERRUN, SPOUT.ISR_SWAPPED]⟩, ⟨0x1C, 4, 1, false, fun _ => [SPOUT.IER]⟩
   , ⟨0x40, 16, 2, false, fun i => [SPOUT.CYCLE_NS i]⟩
   , ⟨0x44, 16, 2, false, fun i => [SPOUT.BASEL_T i]⟩
   , ⟨0x48, 16, 2, false, fun i => [SPOUT.BASEH_T i]⟩
   , ⟨0x4c, 16, 2, false, fun i => [SPOUT.LEN_N i]⟩
   , ⟨0x60, 4, 1, false, fun _ => [SPOUT.SWAP_GO]⟩
   , ⟨0x64, 4, 1, false, fun _ => [SPOUT.GUARD_NS]⟩
   , ⟨0x68, 4, 1, false, fun _ => [SPOUT.GATES_ENTRY, SPOUT.GATES_STATE]⟩
   , ⟨0x6c, 4, 1, false, fun _ => [SPOUT.OVRCNT_COUNT]⟩
   , ⟨0x80, 8, 8, false, fun i => [SPOUT.SHRATE_KBPS i]⟩
   , ⟨0x84, 8, 8, false, fun i => [SPOUT.SHBURST_TOKEN_INIT i, SPOUT.SHBURST_BYTES i]⟩
   , ⟨0xc0, 4, 8, false, fun i => [SPOUT.QSTS_FRAMES i]⟩
   , ⟨0x800, 4, 256, false, fun i => [SPOUT.GCL0_GATES i, SPOUT.GCL0_INTV i]⟩
   , ⟨0xc00, 4, 256, false, fun i => [SPOUT.GCL1_GATES i, SPOUT.GCL1_INTV i]⟩]

/-! ### STRN: 16_media_port_spout_strainer.md, R360 -/

def STRN.CTL_EN : Fld := ⟨0x42000 + 0x8, 0, 1, 0, .rw⟩
def STRN.STS_STATE : Fld := ⟨0x42000 + 0xC, 0, 4, 0, .ro⟩
def STRN.ISR_ERR : Fld := ⟨0x42000 + 0x18, 0, 1, 0, .w1c⟩
def STRN.ISR_NOMATCH : Fld := ⟨0x42000 + 0x18, 1, 1, 0, .w1c⟩
def STRN.ISR_DROP : Fld := ⟨0x42000 + 0x18, 2, 1, 0, .w1c⟩
def STRN.IER : Fld := ⟨0x42000 + 0x1C, 0, 3, 0, .rw⟩
def STRN.DEFAULT_ACT : Fld := ⟨0x42000 + 0x40, 8, 1, 0, .rw⟩
def STRN.DEFAULT_RING : Fld := ⟨0x42000 + 0x40, 0, 2, 0, .rw⟩
def STRN.NOMATCHCNT_COUNT : Fld := ⟨0x42000 + 0x44, 0, 32, 0, .ro⟩
def STRN.MATCH_ETYPE (i : Nat) : Fld := ⟨0x42000 + 0x800 + 32 * i, 16, 16, 0, .rw⟩
def STRN.MATCH_VID (i : Nat) : Fld := ⟨0x42000 + 0x800 + 32 * i, 4, 12, 0xFFF, .rw⟩
def STRN.MATCH_RING (i : Nat) : Fld := ⟨0x42000 + 0x800 + 32 * i, 2, 2, 0, .rw⟩
def STRN.MATCH_EN (i : Nat) : Fld := ⟨0x42000 + 0x800 + 32 * i, 0, 1, 0, .rw⟩
def STRN.PCFG_MODE (i : Nat) : Fld := ⟨0x42000 + 0x804 + 32 * i, 30, 2, 0, .rw⟩
def STRN.PCFG_CAWARE (i : Nat) : Fld := ⟨0x42000 + 0x804 + 32 * i, 29, 1, 0, .rw⟩
def STRN.PCFG_CSRC (i : Nat) : Fld := ⟨0x42000 + 0x804 + 32 * i, 28, 1, 0, .rw⟩
def STRN.PCFG_YACT (i : Nat) : Fld := ⟨0x42000 + 0x804 + 32 * i, 26, 2, 0, .rw⟩
def STRN.CIR_KBPS (i : Nat) : Fld := ⟨0x42000 + 0x808 + 32 * i, 0, 32, 0, .rw⟩
def STRN.CBS_BYTES (i : Nat) : Fld := ⟨0x42000 + 0x80c + 32 * i, 0, 32, 0x5F2, .rw⟩
def STRN.PIR_KBPS (i : Nat) : Fld := ⟨0x42000 + 0x810 + 32 * i, 0, 32, 0, .rw⟩
def STRN.PBS_BYTES (i : Nat) : Fld := ⟨0x42000 + 0x814 + 32 * i, 0, 32, 0x5F2, .rw⟩
def STRN.PASS_COUNT (i : Nat) : Fld := ⟨0x42000 + 0x818 + 32 * i, 0, 32, 0, .ro⟩
def STRN.DROP_COUNT (i : Nat) : Fld := ⟨0x42000 + 0x81c + 32 * i, 0, 32, 0, .ro⟩

/-- The registers of the STRN page: offset, stride, count, shadowed, fields (16_media_port_spout_strainer.md, R360). -/
def STRN.table : List RegT :=
  [⟨0x8, 4, 1, false, fun _ => [STRN.CTL_EN]⟩, ⟨0xC, 4, 1, false, fun _ => [STRN.STS_STATE]⟩,
   ⟨0x18, 4, 1, false, fun _ => [STRN.ISR_ERR, STRN.ISR_NOMATCH, STRN.ISR_DROP]⟩, ⟨0x1C, 4, 1, false, fun _ => [STRN.IER]⟩
   , ⟨0x40, 4, 1, true, fun _ => [STRN.DEFAULT_ACT, STRN.DEFAULT_RING]⟩
   , ⟨0x44, 4, 1, false, fun _ => [STRN.NOMATCHCNT_COUNT]⟩
   , ⟨0x800, 32, 64, true, fun i => [STRN.MATCH_ETYPE i, STRN.MATCH_VID i, STRN.MATCH_RING i, STRN.MATCH_EN i]⟩
   , ⟨0x804, 32, 64, true, fun i => [STRN.PCFG_MODE i, STRN.PCFG_CAWARE i, STRN.PCFG_CSRC i, STRN.PCFG_YACT i]⟩
   , ⟨0x808, 32, 64, true, fun i => [STRN.CIR_KBPS i]⟩
   , ⟨0x80c, 32, 64, true, fun i => [STRN.CBS_BYTES i]⟩
   , ⟨0x810, 32, 64, true, fun i => [STRN.PIR_KBPS i]⟩
   , ⟨0x814, 32, 64, true, fun i => [STRN.PBS_BYTES i]⟩
   , ⟨0x818, 32, 64, false, fun i => [STRN.PASS_COUNT i]⟩
   , ⟨0x81c, 32, 64, false, fun i => [STRN.DROP_COUNT i]⟩]

/-! ### PTP: 16_media_port_spout_strainer.md, R360 -/

def PTP.CTL_EN : Fld := ⟨0x43000 + 0x8, 0, 1, 0, .rw⟩
def PTP.STS_STATE : Fld := ⟨0x43000 + 0xC, 0, 4, 0, .ro⟩
def PTP.ISR_ERR : Fld := ⟨0x43000 + 0x18, 0, 1, 0, .w1c⟩
def PTP.ISR_TXTS : Fld := ⟨0x43000 + 0x18, 1, 1, 0, .w1c⟩
def PTP.ISR_STATECHG : Fld := ⟨0x43000 + 0x18, 2, 1, 0, .w1c⟩
def PTP.ISR_STEP : Fld := ⟨0x43000 + 0x18, 3, 1, 0, .w1c⟩
def PTP.ISR_GMCHG : Fld := ⟨0x43000 + 0x18, 4, 1, 0, .w1c⟩
def PTP.IER : Fld := ⟨0x43000 + 0x1C, 0, 5, 0, .rw⟩
def PTP.PCFG_PRIO1 : Fld := ⟨0x43000 + 0x40, 24, 8, 0xFF, .rw⟩
def PTP.PCFG_PRIO2 : Fld := ⟨0x43000 + 0x40, 16, 8, 0xFF, .rw⟩
def PTP.PCFG_CLASS : Fld := ⟨0x43000 + 0x40, 8, 8, 0xF8, .rw⟩
def PTP.PCFG_SYNCLOG : Fld := ⟨0x43000 + 0x40, 0, 8, 0xFD, .rw⟩
def PTP.SERVO_STEP : Fld := ⟨0x43000 + 0x44, 0, 16, 0x3E8, .rw⟩
def PTP.GMIDL_V : Fld := ⟨0x43000 + 0x48, 0, 32, 0, .ro⟩
def PTP.GMIDH_V : Fld := ⟨0x43000 + 0x4c, 0, 32, 0, .ro⟩
def PTP.GMQ_VALID : Fld := ⟨0x43000 + 0x50, 31, 1, 0, .ro⟩
def PTP.GMQ_ACCURACY : Fld := ⟨0x43000 + 0x50, 8, 8, 0, .ro⟩
def PTP.GMQ_CLASS : Fld := ⟨0x43000 + 0x50, 0, 8, 0, .ro⟩
def PTP.OFFSET_NS : Fld := ⟨0x43000 + 0x54, 0, 32, 0, .ro⟩
def PTP.PDELAY_NS : Fld := ⟨0x43000 + 0x58, 0, 32, 0, .ro⟩
def PTP.RATIO_RHO : Fld := ⟨0x43000 + 0x5c, 0, 32, 0, .ro⟩
def PTP.TIMEL_T : Fld := ⟨0x43000 + 0x60, 0, 32, 0, .rs⟩
def PTP.TIMEH_T : Fld := ⟨0x43000 + 0x64, 0, 32, 0, .ro⟩
def PTP.XMTIMEL_T : Fld := ⟨0x43000 + 0x68, 0, 32, 0, .ro⟩
def PTP.XMTIMEH_T : Fld := ⟨0x43000 + 0x6c, 0, 32, 0, .ro⟩
def PTP.TXTSL_T : Fld := ⟨0x43000 + 0x70, 0, 32, 0, .ro⟩
def PTP.TXTSH_T : Fld := ⟨0x43000 + 0x74, 0, 32, 0, .ro⟩
def PTP.TXTSSTS_VALID : Fld := ⟨0x43000 + 0x78, 31, 1, 0, .w1c⟩
def PTP.TXTSSTS_INDEX : Fld := ⟨0x43000 + 0x78, 0, 16, 0, .ro⟩
def PTP.STEPCNT_COUNT : Fld := ⟨0x43000 + 0x7c, 0, 16, 0, .ro⟩

/-- The registers of the PTP page: offset, stride, count, shadowed, fields (16_media_port_spout_strainer.md, R360). -/
def PTP.table : List RegT :=
  [⟨0x8, 4, 1, false, fun _ => [PTP.CTL_EN]⟩, ⟨0xC, 4, 1, false, fun _ => [PTP.STS_STATE]⟩,
   ⟨0x18, 4, 1, false, fun _ => [PTP.ISR_ERR, PTP.ISR_TXTS, PTP.ISR_STATECHG, PTP.ISR_STEP, PTP.ISR_GMCHG]⟩, ⟨0x1C, 4, 1, false, fun _ => [PTP.IER]⟩
   , ⟨0x40, 4, 1, false, fun _ => [PTP.PCFG_PRIO1, PTP.PCFG_PRIO2, PTP.PCFG_CLASS, PTP.PCFG_SYNCLOG]⟩
   , ⟨0x44, 4, 1, false, fun _ => [PTP.SERVO_STEP]⟩
   , ⟨0x48, 4, 1, false, fun _ => [PTP.GMIDL_V]⟩
   , ⟨0x4c, 4, 1, false, fun _ => [PTP.GMIDH_V]⟩
   , ⟨0x50, 4, 1, false, fun _ => [PTP.GMQ_VALID, PTP.GMQ_ACCURACY, PTP.GMQ_CLASS]⟩
   , ⟨0x54, 4, 1, false, fun _ => [PTP.OFFSET_NS]⟩
   , ⟨0x58, 4, 1, false, fun _ => [PTP.PDELAY_NS]⟩
   , ⟨0x5c, 4, 1, false, fun _ => [PTP.RATIO_RHO]⟩
   , ⟨0x60, 4, 1, false, fun _ => [PTP.TIMEL_T]⟩
   , ⟨0x64, 4, 1, false, fun _ => [PTP.TIMEH_T]⟩
   , ⟨0x68, 4, 1, false, fun _ => [PTP.XMTIMEL_T]⟩
   , ⟨0x6c, 4, 1, false, fun _ => [PTP.XMTIMEH_T]⟩
   , ⟨0x70, 4, 1, false, fun _ => [PTP.TXTSL_T]⟩
   , ⟨0x74, 4, 1, false, fun _ => [PTP.TXTSH_T]⟩
   , ⟨0x78, 4, 1, false, fun _ => [PTP.TXTSSTS_VALID, PTP.TXTSSTS_INDEX]⟩
   , ⟨0x7c, 4, 1, false, fun _ => [PTP.STEPCNT_COUNT]⟩]

/-! ### HRX: 15_hdmi_earc_audio.md, R333 -/

def HRX.CTL_LRST : Fld := ⟨0x50000 + 0x8, 1, 1, 0, .w1s⟩
def HRX.CTL_EN : Fld := ⟨0x50000 + 0x8, 0, 1, 0, .rw⟩
def HRX.STS_BUSY : Fld := ⟨0x50000 + 0xC, 8, 1, 0, .ro⟩
def HRX.STS_STATE : Fld := ⟨0x50000 + 0xC, 0, 4, 0, .ro⟩
def HRX.ISR_ERR : Fld := ⟨0x50000 + 0x18, 0, 1, 0, .w1c⟩
def HRX.ISR_LOCK : Fld := ⟨0x50000 + 0x18, 1, 1, 0, .w1c⟩
def HRX.ISR_LOSS : Fld := ⟨0x50000 + 0x18, 2, 1, 0, .w1c⟩
def HRX.ISR_TIMCHG : Fld := ⟨0x50000 + 0x18, 3, 1, 0, .w1c⟩
def HRX.ISR_AUD : Fld := ⟨0x50000 + 0x18, 4, 1, 0, .w1c⟩
def HRX.ISR_HDCP : Fld := ⟨0x50000 + 0x18, 5, 1, 0, .w1c⟩
def HRX.IER : Fld := ⟨0x50000 + 0x1C, 0, 6, 0, .rw⟩
def HRX.CFG_FRLMAX : Fld := ⟨0x50000 + 0x40, 16, 4, 5, .rw⟩
def HRX.CFG_FB : Fld := ⟨0x50000 + 0x40, 8, 1, 0, .rw⟩
def HRX.HPD_PULSE : Fld := ⟨0x50000 + 0x44, 1, 1, 0, .w1s⟩
def HRX.HPD_EN : Fld := ⟨0x50000 + 0x44, 0, 1, 0, .rw⟩
def HRX.FBADDRL_A : Fld := ⟨0x50000 + 0x48, 0, 32, 0, .rw⟩
def HRX.FBADDRH_A : Fld := ⟨0x50000 + 0x4c, 0, 32, 0, .rw⟩
def HRX.FBSTRIDE_N : Fld := ⟨0x50000 + 0x50, 0, 32, 0, .rw⟩
def HRX.TIM0_VACT : Fld := ⟨0x50000 + 0x54, 16, 16, 0, .ro⟩
def HRX.TIM0_HACT : Fld := ⟨0x50000 + 0x54, 0, 16, 0, .ro⟩
def HRX.TIM1_VTOT : Fld := ⟨0x50000 + 0x58, 16, 16, 0, .ro⟩
def HRX.TIM1_HTOT : Fld := ⟨0x50000 + 0x58, 0, 16, 0, .ro⟩
def HRX.FPER_T : Fld := ⟨0x50000 + 0x5c, 0, 28, 0, .ro⟩
def HRX.FMT_TYPE1 : Fld := ⟨0x50000 + 0x60, 9, 1, 0, .ro⟩
def HRX.FMT_ENC : Fld := ⟨0x50000 + 0x60, 8, 1, 0, .ro⟩
def HRX.FMT_BPC : Fld := ⟨0x50000 + 0x60, 4, 2, 0, .ro⟩
def HRX.FMT_SAMP : Fld := ⟨0x50000 + 0x60, 0, 2, 0, .ro⟩
def HRX.HDCPSTS_AUTH : Fld := ⟨0x50000 + 0x64, 4, 1, 0, .ro⟩
def HRX.HDCPSTS_VER : Fld := ⟨0x50000 + 0x64, 0, 4, 0, .ro⟩
def HRX.FBSTS_LAST : Fld := ⟨0x50000 + 0x68, 0, 2, 0, .ro⟩
def HRX.EDID_W (i : Nat) : Fld := ⟨0x50000 + 0x400 + 4 * i, 0, 32, 0, .rw⟩

/-- The registers of the HRX page: offset, stride, count, shadowed, fields (15_hdmi_earc_audio.md, R333). -/
def HRX.table : List RegT :=
  [⟨0x8, 4, 1, false, fun _ => [HRX.CTL_LRST, HRX.CTL_EN]⟩, ⟨0xC, 4, 1, false, fun _ => [HRX.STS_BUSY, HRX.STS_STATE]⟩,
   ⟨0x18, 4, 1, false, fun _ => [HRX.ISR_ERR, HRX.ISR_LOCK, HRX.ISR_LOSS, HRX.ISR_TIMCHG, HRX.ISR_AUD, HRX.ISR_HDCP]⟩, ⟨0x1C, 4, 1, false, fun _ => [HRX.IER]⟩
   , ⟨0x40, 4, 1, false, fun _ => [HRX.CFG_FRLMAX, HRX.CFG_FB]⟩
   , ⟨0x44, 4, 1, false, fun _ => [HRX.HPD_PULSE, HRX.HPD_EN]⟩
   , ⟨0x48, 4, 1, false, fun _ => [HRX.FBADDRL_A]⟩
   , ⟨0x4c, 4, 1, false, fun _ => [HRX.FBADDRH_A]⟩
   , ⟨0x50, 4, 1, false, fun _ => [HRX.FBSTRIDE_N]⟩
   , ⟨0x54, 4, 1, false, fun _ => [HRX.TIM0_VACT, HRX.TIM0_HACT]⟩
   , ⟨0x58, 4, 1, false, fun _ => [HRX.TIM1_VTOT, HRX.TIM1_HTOT]⟩
   , ⟨0x5c, 4, 1, false, fun _ => [HRX.FPER_T]⟩
   , ⟨0x60, 4, 1, false, fun _ => [HRX.FMT_TYPE1, HRX.FMT_ENC, HRX.FMT_BPC, HRX.FMT_SAMP]⟩
   , ⟨0x64, 4, 1, false, fun _ => [HRX.HDCPSTS_AUTH, HRX.HDCPSTS_VER]⟩
   , ⟨0x68, 4, 1, false, fun _ => [HRX.FBSTS_LAST]⟩
   , ⟨0x400, 4, 128, false, fun i => [HRX.EDID_W i]⟩]

/-! ### HTX: 15_hdmi_earc_audio.md, R333 -/

def HTX.CTL_LRST : Fld := ⟨0x51000 + 0x8, 1, 1, 0, .w1s⟩
def HTX.CTL_EN : Fld := ⟨0x51000 + 0x8, 0, 1, 0, .rw⟩
def HTX.STS_HPD : Fld := ⟨0x51000 + 0xC, 9, 1, 0, .ro⟩
def HTX.STS_BUSY : Fld := ⟨0x51000 + 0xC, 8, 1, 0, .ro⟩
def HTX.STS_STATE : Fld := ⟨0x51000 + 0xC, 0, 4, 0, .ro⟩
def HTX.ISR_ERR : Fld := ⟨0x51000 + 0x18, 0, 1, 0, .w1c⟩
def HTX.ISR_RUN : Fld := ⟨0x51000 + 0x18, 1, 1, 0, .w1c⟩
def HTX.ISR_HPD : Fld := ⟨0x51000 + 0x18, 2, 1, 0, .w1c⟩
def HTX.ISR_LTFAIL : Fld := ⟨0x51000 + 0x18, 3, 1, 0, .w1c⟩
def HTX.ISR_AVMUTE : Fld := ⟨0x51000 + 0x18, 4, 1, 0, .w1c⟩
def HTX.ISR_HDCP : Fld := ⟨0x51000 + 0x18, 5, 1, 0, .w1c⟩
def HTX.IER : Fld := ⟨0x51000 + 0x1C, 0, 6, 0, .rw⟩
def HTX.CFG_MUTEF : Fld := ⟨0x51000 + 0x40, 4, 4, 2, .rw⟩
def HTX.CFG_IFPASS : Fld := ⟨0x51000 + 0x40, 2, 1, 1, .rw⟩
def HTX.CFG_APASS : Fld := ⟨0x51000 + 0x40, 1, 1, 1, .rw⟩
def HTX.CFG_MODE : Fld := ⟨0x51000 + 0x40, 0, 1, 0, .rw⟩
def HTX.OUTFMT_VPOL : Fld := ⟨0x51000 + 0x44, 9, 1, 0, .rw⟩
def HTX.OUTFMT_HPOL : Fld := ⟨0x51000 + 0x44, 8, 1, 0, .rw⟩
def HTX.OUTFMT_BPC : Fld := ⟨0x51000 + 0x44, 4, 2, 0, .rw⟩
def HTX.OUTFMT_SAMP : Fld := ⟨0x51000 + 0x44, 0, 2, 0, .rw⟩
def HTX.HTIM_HTOT : Fld := ⟨0x51000 + 0x48, 16, 16, 0, .rw⟩
def HTX.HTIM_HACT : Fld := ⟨0x51000 + 0x48, 0, 16, 0, .rw⟩
def HTX.HBLK_HSW : Fld := ⟨0x51000 + 0x4c, 16, 16, 0, .rw⟩
def HTX.HBLK_HFP : Fld := ⟨0x51000 + 0x4c, 0, 16, 0, .rw⟩
def HTX.VTIM_VTOT : Fld := ⟨0x51000 + 0x50, 16, 16, 0, .rw⟩
def HTX.VTIM_VACT : Fld := ⟨0x51000 + 0x50, 0, 16, 0, .rw⟩
def HTX.VBLK_VSW : Fld := ⟨0x51000 + 0x54, 16, 16, 0, .rw⟩
def HTX.VBLK_VFP : Fld := ⟨0x51000 + 0x54, 0, 16, 0, .rw⟩
def HTX.PCLK_KHZ : Fld := ⟨0x51000 + 0x58, 0, 32, 0, .ro⟩
def HTX.LINK_FRLMAX : Fld := ⟨0x51000 + 0x5c, 16, 4, 5, .rw⟩
def HTX.LINK_SCR : Fld := ⟨0x51000 + 0x5c, 4, 1, 0, .ro⟩
def HTX.LINK_RATE : Fld := ⟨0x51000 + 0x5c, 0, 4, 0, .ro⟩
def HTX.HDCPCTL_EN : Fld := ⟨0x51000 + 0x60, 0, 1, 0, .rw⟩
def HTX.HDCPSTS_DEVCNT : Fld := ⟨0x51000 + 0x64, 8, 8, 0, .ro⟩
def HTX.HDCPSTS_TYPE1OK : Fld := ⟨0x51000 + 0x64, 5, 1, 0, .ro⟩
def HTX.HDCPSTS_AUTH : Fld := ⟨0x51000 + 0x64, 4, 1, 0, .ro⟩
def HTX.HDCPSTS_VER : Fld := ⟨0x51000 + 0x64, 0, 4, 0, .ro⟩
def HTX.DDC_BUSY : Fld := ⟨0x51000 + 0x68, 31, 1, 0, .ro⟩
def HTX.DDC_NAK : Fld := ⟨0x51000 + 0x68, 30, 1, 0, .ro⟩
def HTX.DDC_BLOCK : Fld := ⟨0x51000 + 0x68, 0, 8, 0, .rw⟩
def HTX.CNT_AVMUTE : Fld := ⟨0x51000 + 0x6c, 0, 16, 0, .ro⟩
def HTX.EDIDRD_W (i : Nat) : Fld := ⟨0x51000 + 0x400 + 4 * i, 0, 32, 0, .ro⟩
def HTX.IF_EN (i : Nat) : Fld := ⟨0x51000 + 0x500 + 32 * i, 31, 1, 0, .rw⟩
def HTX.IF_HB (i : Nat) : Fld := ⟨0x51000 + 0x500 + 32 * i, 0, 24, 0, .rw⟩
def HTX.IFPB_W (i : Nat) : Fld := ⟨0x51000 + 0x504 + 32 * (i / 7) + 4 * (i % 7), 0, 32, 0, .rw⟩

/-- The registers of the HTX page: offset, stride, count, shadowed, fields (15_hdmi_earc_audio.md, R333). -/
def HTX.table : List RegT :=
  [⟨0x8, 4, 1, false, fun _ => [HTX.CTL_LRST, HTX.CTL_EN]⟩, ⟨0xC, 4, 1, false, fun _ => [HTX.STS_HPD, HTX.STS_BUSY, HTX.STS_STATE]⟩,
   ⟨0x18, 4, 1, false, fun _ => [HTX.ISR_ERR, HTX.ISR_RUN, HTX.ISR_HPD, HTX.ISR_LTFAIL, HTX.ISR_AVMUTE, HTX.ISR_HDCP]⟩, ⟨0x1C, 4, 1, false, fun _ => [HTX.IER]⟩
   , ⟨0x40, 4, 1, false, fun _ => [HTX.CFG_MUTEF, HTX.CFG_IFPASS, HTX.CFG_APASS, HTX.CFG_MODE]⟩
   , ⟨0x44, 4, 1, false, fun _ => [HTX.OUTFMT_VPOL, HTX.OUTFMT_HPOL, HTX.OUTFMT_BPC, HTX.OUTFMT_SAMP]⟩
   , ⟨0x48, 4, 1, false, fun _ => [HTX.HTIM_HTOT, HTX.HTIM_HACT]⟩
   , ⟨0x4c, 4, 1, false, fun _ => [HTX.HBLK_HSW, HTX.HBLK_HFP]⟩
   , ⟨0x50, 4, 1, false, fun _ => [HTX.VTIM_VTOT, HTX.VTIM_VACT]⟩
   , ⟨0x54, 4, 1, false, fun _ => [HTX.VBLK_VSW, HTX.VBLK_VFP]⟩
   , ⟨0x58, 4, 1, false, fun _ => [HTX.PCLK_KHZ]⟩
   , ⟨0x5c, 4, 1, false, fun _ => [HTX.LINK_FRLMAX, HTX.LINK_SCR, HTX.LINK_RATE]⟩
   , ⟨0x60, 4, 1, false, fun _ => [HTX.HDCPCTL_EN]⟩
   , ⟨0x64, 4, 1, false, fun _ => [HTX.HDCPSTS_DEVCNT, HTX.HDCPSTS_TYPE1OK, HTX.HDCPSTS_AUTH, HTX.HDCPSTS_VER]⟩
   , ⟨0x68, 4, 1, false, fun _ => [HTX.DDC_BUSY, HTX.DDC_NAK, HTX.DDC_BLOCK]⟩
   , ⟨0x6c, 4, 1, false, fun _ => [HTX.CNT_AVMUTE]⟩
   , ⟨0x400, 4, 32, false, fun i => [HTX.EDIDRD_W i]⟩
   , ⟨0x500, 32, 4, false, fun i => [HTX.IF_EN i, HTX.IF_HB i]⟩
   , ⟨0x504, 4, 7, false, fun i => [HTX.IFPB_W (0 + i)]⟩
   , ⟨0x524, 4, 7, false, fun i => [HTX.IFPB_W (7 + i)]⟩
   , ⟨0x544, 4, 7, false, fun i => [HTX.IFPB_W (14 + i)]⟩
   , ⟨0x564, 4, 7, false, fun i => [HTX.IFPB_W (21 + i)]⟩]

/-! ### EARC: 15_hdmi_earc_audio.md, R333 -/

def EARC.CTL_EN : Fld := ⟨0x52000 + 0x8, 0, 1, 0, .rw⟩
def EARC.STS_KEPT : Fld := ⟨0x52000 + 0xC, 7, 1, 0, .ro⟩
def EARC.STS_STATE : Fld := ⟨0x52000 + 0xC, 0, 4, 0, .ro⟩
def EARC.ISR_ERR : Fld := ⟨0x52000 + 0x18, 0, 1, 0, .w1c⟩
def EARC.ISR_LOST : Fld := ⟨0x52000 + 0x18, 1, 1, 0, .w1c⟩
def EARC.ISR_LINK : Fld := ⟨0x52000 + 0x18, 2, 1, 0, .w1c⟩
def EARC.ISR_FMTCHG : Fld := ⟨0x52000 + 0x18, 3, 1, 0, .w1c⟩
def EARC.ISR_CAPRD : Fld := ⟨0x52000 + 0x18, 4, 1, 0, .w1c⟩
def EARC.IER : Fld := ⟨0x52000 + 0x1C, 0, 5, 0, .rw⟩
def EARC.CFG_LAT : Fld := ⟨0x52000 + 0x40, 0, 8, 0, .rw⟩
def EARC.CAPCTL_UPD : Fld := ⟨0x52000 + 0x44, 0, 1, 0, .w1s⟩
def EARC.FMT_V : Fld := ⟨0x52000 + 0x48, 0, 8, 0, .ro⟩
def EARC.CSTAT_W (i : Nat) : Fld := ⟨0x52000 + 0x50 + 4 * i, 0, 32, 0, .ro⟩
def EARC.CNT_PARITY : Fld := ⟨0x52000 + 0x68, 16, 16, 0, .ro⟩
def EARC.CNT_LOST : Fld := ⟨0x52000 + 0x68, 0, 16, 0, .ro⟩
def EARC.CAPDS_W (i : Nat) : Fld := ⟨0x52000 + 0x100 + 4 * i, 0, 32, 0, .rw⟩

/-- The registers of the EARC page: offset, stride, count, shadowed, fields (15_hdmi_earc_audio.md, R333). -/
def EARC.table : List RegT :=
  [⟨0x8, 4, 1, false, fun _ => [EARC.CTL_EN]⟩, ⟨0xC, 4, 1, false, fun _ => [EARC.STS_KEPT, EARC.STS_STATE]⟩,
   ⟨0x18, 4, 1, false, fun _ => [EARC.ISR_ERR, EARC.ISR_LOST, EARC.ISR_LINK, EARC.ISR_FMTCHG, EARC.ISR_CAPRD]⟩, ⟨0x1C, 4, 1, false, fun _ => [EARC.IER]⟩
   , ⟨0x40, 4, 1, false, fun _ => [EARC.CFG_LAT]⟩
   , ⟨0x44, 4, 1, false, fun _ => [EARC.CAPCTL_UPD]⟩
   , ⟨0x48, 4, 1, false, fun _ => [EARC.FMT_V]⟩
   , ⟨0x50, 4, 6, false, fun i => [EARC.CSTAT_W i]⟩
   , ⟨0x68, 4, 1, false, fun _ => [EARC.CNT_PARITY, EARC.CNT_LOST]⟩
   , ⟨0x100, 4, 64, false, fun i => [EARC.CAPDS_W i]⟩]

/-! ### APORT: 15_hdmi_earc_audio.md, R333 -/

def APORT.CTL_EN : Fld := ⟨0x53000 + 0x8, 0, 1, 0, .rw⟩
def APORT.STS_KEPT : Fld := ⟨0x53000 + 0xC, 7, 1, 0, .ro⟩
def APORT.STS_STATE : Fld := ⟨0x53000 + 0xC, 0, 4, 0, .ro⟩
def APORT.ISR_ERR : Fld := ⟨0x53000 + 0x18, 0, 1, 0, .w1c⟩
def APORT.ISR_SRCLOSS : Fld := ⟨0x53000 + 0x18, 1, 1, 0, .w1c⟩
def APORT.ISR_NOLOCK : Fld := ⟨0x53000 + 0x18, 2, 1, 0, .w1c⟩
def APORT.ISR_SRCCHG : Fld := ⟨0x53000 + 0x18, 3, 1, 0, .w1c⟩
def APORT.IER : Fld := ⟨0x53000 + 0x1C, 0, 4, 0, .rw⟩
def APORT.PCFG_DIR (i : Nat) : Fld := ⟨0x53000 + 0x40 + 4 * i, 31, 1, 0, .rw⟩
def APORT.PCFG_SRC (i : Nat) : Fld := ⟨0x53000 + 0x40 + 4 * i, 28, 2, 0, .rw⟩
def APORT.PCFG_FSSEL (i : Nat) : Fld := ⟨0x53000 + 0x40 + 4 * i, 24, 3, 0, .rw⟩
def APORT.PCFG_SLOTS (i : Nat) : Fld := ⟨0x53000 + 0x40 + 4 * i, 16, 5, 2, .rw⟩
def APORT.PCFG_WIDTH (i : Nat) : Fld := ⟨0x53000 + 0x40 + 4 * i, 12, 1, 1, .rw⟩
def APORT.PCFG_FMT (i : Nat) : Fld := ⟨0x53000 + 0x40 + 4 * i, 8, 2, 0, .rw⟩
def APORT.PCFG_RAMP (i : Nat) : Fld := ⟨0x53000 + 0x40 + 4 * i, 0, 8, 0x30, .rw⟩
def APORT.MUTE_K : Fld := ⟨0x53000 + 0x60, 0, 4, 0, .rw⟩
def APORT.SRCSTS_EARC : Fld := ⟨0x53000 + 0x64, 8, 8, 0, .ro⟩
def APORT.SRCSTS_HRX : Fld := ⟨0x53000 + 0x64, 0, 8, 0, .ro⟩
def APORT.PSTS_MUTED : Fld := ⟨0x53000 + 0x68, 8, 4, 0, .ro⟩
def APORT.PSTS_ON : Fld := ⟨0x53000 + 0x68, 0, 4, 0, .ro⟩
def APORT.HOLD_MS : Fld := ⟨0x53000 + 0x6c, 0, 16, 0x64, .rw⟩
def APORT.PEN_K : Fld := ⟨0x53000 + 0x70, 0, 4, 0, .rw⟩

/-- The registers of the APORT page: offset, stride, count, shadowed, fields (15_hdmi_earc_audio.md, R333). -/
def APORT.table : List RegT :=
  [⟨0x8, 4, 1, false, fun _ => [APORT.CTL_EN]⟩, ⟨0xC, 4, 1, false, fun _ => [APORT.STS_KEPT, APORT.STS_STATE]⟩,
   ⟨0x18, 4, 1, false, fun _ => [APORT.ISR_ERR, APORT.ISR_SRCLOSS, APORT.ISR_NOLOCK, APORT.ISR_SRCCHG]⟩, ⟨0x1C, 4, 1, false, fun _ => [APORT.IER]⟩
   , ⟨0x40, 4, 4, false, fun i => [APORT.PCFG_DIR i, APORT.PCFG_SRC i, APORT.PCFG_FSSEL i, APORT.PCFG_SLOTS i, APORT.PCFG_WIDTH i, APORT.PCFG_FMT i, APORT.PCFG_RAMP i]⟩
   , ⟨0x60, 4, 1, false, fun _ => [APORT.MUTE_K]⟩
   , ⟨0x64, 4, 1, false, fun _ => [APORT.SRCSTS_EARC, APORT.SRCSTS_HRX]⟩
   , ⟨0x68, 4, 1, false, fun _ => [APORT.PSTS_MUTED, APORT.PSTS_ON]⟩
   , ⟨0x6c, 4, 1, false, fun _ => [APORT.HOLD_MS]⟩
   , ⟨0x70, 4, 1, false, fun _ => [APORT.PEN_K]⟩]

/-! ### COMP: 15_hdmi_earc_audio.md, R333 -/

def COMP.CTL_LRST : Fld := ⟨0x54000 + 0x8, 1, 1, 0, .w1s⟩
def COMP.CTL_EN : Fld := ⟨0x54000 + 0x8, 0, 1, 0, .rw⟩
def COMP.STS_BUSY : Fld := ⟨0x54000 + 0xC, 8, 1, 0, .ro⟩
def COMP.STS_STATE : Fld := ⟨0x54000 + 0xC, 0, 4, 0, .ro⟩
def COMP.ISR_ERR : Fld := ⟨0x54000 + 0x18, 0, 1, 0, .w1c⟩
def COMP.ISR_NOSRC : Fld := ⟨0x54000 + 0x18, 1, 1, 0, .w1c⟩
def COMP.ISR_SWAPPED : Fld := ⟨0x54000 + 0x18, 2, 1, 0, .w1c⟩
def COMP.ISR_UNDER : Fld := ⟨0x54000 + 0x18, 3, 1, 0, .w1c⟩
def COMP.ISR_HDCPBLK : Fld := ⟨0x54000 + 0x18, 4, 1, 0, .w1c⟩
def COMP.IER : Fld := ⟨0x54000 + 0x1C, 0, 5, 0, .rw⟩
def COMP.BG_Y : Fld := ⟨0x54000 + 0x40, 20, 10, 0x40, .rw⟩
def COMP.BG_CB : Fld := ⟨0x54000 + 0x40, 10, 10, 0x200, .rw⟩
def COMP.BG_CR : Fld := ⟨0x54000 + 0x40, 0, 10, 0x200, .rw⟩
def COMP.OUT_CSC : Fld := ⟨0x54000 + 0x44, 0, 2, 0, .rw⟩
def COMP.SWAP_K : Fld := ⟨0x54000 + 0x48, 1, 3, 0, .w1s⟩
def COMP.UNMUTEF_N : Fld := ⟨0x54000 + 0x4c, 0, 4, 1, .rw⟩
def COMP.CNT_UNDER : Fld := ⟨0x54000 + 0x50, 16, 16, 0, .ro⟩
def COMP.CNT_HDCPBLK : Fld := ⟨0x54000 + 0x50, 0, 16, 0, .ro⟩
def COMP.CNT0_FBDROP : Fld := ⟨0x54000 + 0x54, 16, 16, 0, .ro⟩
def COMP.CNT0_FBREP : Fld := ⟨0x54000 + 0x54, 0, 16, 0, .ro⟩
def COMP.PCFG_PREMUL (i : Nat) : Fld := ⟨0x54000 + 0x60 + 32 * i, 20, 1, 0, (if i = 3 then Acc.rw else Acc.rsv)⟩
def COMP.PCFG_CSC (i : Nat) : Fld := ⟨0x54000 + 0x60 + 32 * i, 16, 2, 0, .rw⟩
def COMP.PCFG_GALPHA (i : Nat) : Fld := ⟨0x54000 + 0x60 + 32 * i, 8, 8, 0xFF, .rw⟩
def COMP.PCFG_EN (i : Nat) : Fld := ⟨0x54000 + 0x60 + 32 * i, 0, 1, 0, .rw⟩
def COMP.PPOS_Y (i : Nat) : Fld := ⟨0x54000 + 0x64 + 32 * i, 16, 16, 0, (if i = 0 then Acc.rsv else Acc.rw)⟩
def COMP.PPOS_X (i : Nat) : Fld := ⟨0x54000 + 0x64 + 32 * i, 0, 16, 0, (if i = 0 then Acc.rsv else Acc.rw)⟩
def COMP.PSIZE_H (i : Nat) : Fld := ⟨0x54000 + 0x68 + 32 * i, 16, 16, 0, (if i = 0 then Acc.rsv else Acc.rw)⟩
def COMP.PSIZE_W (i : Nat) : Fld := ⟨0x54000 + 0x68 + 32 * i, 0, 16, 0, (if i = 0 then Acc.rsv else Acc.rw)⟩
def COMP.PBUF_V (i : Nat) : Fld := ⟨0x54000 + 0x6c + 32 * i, 0, 32, 0, .rw⟩
def COMP.PBUFH_V (i : Nat) : Fld := ⟨0x54000 + 0x70 + 32 * i, 0, 32, 0, .rw⟩
def COMP.PPITCH_N (i : Nat) : Fld := ⟨0x54000 + 0x74 + 32 * i, 0, 16, 0, .rw⟩
def COMP.PCUR_V (i : Nat) : Fld := ⟨0x54000 + 0x78 + 32 * i, 0, 32, 0, .ro⟩

/-- The registers of the COMP page: offset, stride, count, shadowed, fields (15_hdmi_earc_audio.md, R333). -/
def COMP.table : List RegT :=
  [⟨0x8, 4, 1, false, fun _ => [COMP.CTL_LRST, COMP.CTL_EN]⟩, ⟨0xC, 4, 1, false, fun _ => [COMP.STS_BUSY, COMP.STS_STATE]⟩,
   ⟨0x18, 4, 1, false, fun _ => [COMP.ISR_ERR, COMP.ISR_NOSRC, COMP.ISR_SWAPPED, COMP.ISR_UNDER, COMP.ISR_HDCPBLK]⟩, ⟨0x1C, 4, 1, false, fun _ => [COMP.IER]⟩
   , ⟨0x40, 4, 1, true, fun _ => [COMP.BG_Y, COMP.BG_CB, COMP.BG_CR]⟩
   , ⟨0x44, 4, 1, true, fun _ => [COMP.OUT_CSC]⟩
   , ⟨0x48, 4, 1, false, fun _ => [COMP.SWAP_K]⟩
   , ⟨0x4c, 4, 1, false, fun _ => [COMP.UNMUTEF_N]⟩
   , ⟨0x50, 4, 1, false, fun _ => [COMP.CNT_UNDER, COMP.CNT_HDCPBLK]⟩
   , ⟨0x54, 4, 1, false, fun _ => [COMP.CNT0_FBDROP, COMP.CNT0_FBREP]⟩
   , ⟨0x60, 32, 4, true, fun i => [COMP.PCFG_PREMUL i, COMP.PCFG_CSC i, COMP.PCFG_GALPHA i, COMP.PCFG_EN i]⟩
   , ⟨0x64, 32, 4, true, fun i => [COMP.PPOS_Y i, COMP.PPOS_X i]⟩
   , ⟨0x68, 32, 4, true, fun i => [COMP.PSIZE_H i, COMP.PSIZE_W i]⟩
   , ⟨0x6c, 32, 4, false, fun i => [COMP.PBUF_V i]⟩
   , ⟨0x70, 32, 4, false, fun i => [COMP.PBUFH_V i]⟩
   , ⟨0x74, 32, 4, true, fun i => [COMP.PPITCH_N i]⟩
   , ⟨0x78, 32, 4, false, fun i => [COMP.PCUR_V i]⟩]

end Sys2Proof.Machine
end

