-- ==== Sys2Proof/Machine/RegsSystem.lean ====
section
/-! DEFINITION. The registers and fields of the pages SYS, CLK, TIM, PRS, CADDY, REG, INTC, STORE, UPD, HIF, MBX and BFIFO, as the tables of the
manual list them: address, lowest bit, width, reset value, access code. A field the manual resets to X holds 0 at
reset (log entry 4); the MSI-X table resets as PCI Express says (log entry 5). -/

namespace Sys2Proof.Machine

/-- Source types of Table INTC-1: 1 edge, 0 level. -/
def intcType (i : Nat) : Nat :=
  if i = 3 ∨ i = 15 ∨ (17 ≤ i ∧ i ≤ 31 ∧ i % 2 = 1) ∨ i = 41 ∨ i = 52 ∨ 58 ≤ i then 1 else 0

/-! ### SYS: 02_register_pages_and_interrupts.md, R65 -/

def SYS.ISR_ERR : Fld := ⟨0x0 + 0x18, 0, 1, 0, .w1c⟩
def SYS.IER : Fld := ⟨0x0 + 0x1C, 0, 1, 0, .rw⟩
def SYS.DEVID_PART : Fld := ⟨0x0 + 0x40, 16, 16, 0x4880, .ro⟩
def SYS.DEVID_STEP : Fld := ⟨0x0 + 0x40, 0, 8, 0, .ro⟩
def SYS.BOOT_STATUS_DETAIL : Fld := ⟨0x0 + 0x44, 16, 16, 0, .ro⟩
def SYS.BOOT_STATUS_CODE : Fld := ⟨0x0 + 0x44, 0, 8, 0, .ro⟩
def SYS.RSTCAUSE_WDCHIP : Fld := ⟨0x0 + 0x48, 5, 1, 0, .ro⟩
def SYS.RSTCAUSE_WDSVC : Fld := ⟨0x0 + 0x48, 4, 1, 0, .ro⟩
def SYS.RSTCAUSE_SVC : Fld := ⟨0x0 + 0x48, 3, 1, 0, .ro⟩
def SYS.RSTCAUSE_CHIP : Fld := ⟨0x0 + 0x48, 2, 1, 0, .ro⟩
def SYS.RSTCAUSE_PIN : Fld := ⟨0x0 + 0x48, 1, 1, 0, .ro⟩
def SYS.RSTCAUSE_POR : Fld := ⟨0x0 + 0x48, 0, 1, 1, .ro⟩
def SYS.RSTCMD_KEY : Fld := ⟨0x0 + 0x4c, 16, 16, 0, .wo⟩
def SYS.RSTCMD_KIND : Fld := ⟨0x0 + 0x4c, 0, 2, 0, .wo⟩
def SYS.WDOG_CTL_TIMEOUT : Fld := ⟨0x0 + 0x50, 16, 16, 0x3E8, .rw⟩
def SYS.WDOG_CTL_ACTION : Fld := ⟨0x0 + 0x50, 4, 1, 0, .rw⟩
def SYS.WDOG_CTL_EN : Fld := ⟨0x0 + 0x50, 0, 1, 0, .rw⟩
def SYS.WDOG_KICK_KEY : Fld := ⟨0x0 + 0x54, 0, 16, 0, .wo⟩
def SYS.GRPPT_PT1 : Fld := ⟨0x0 + 0x60, 4, 4, 0, .rw⟩
def SYS.GRPPT_PT2 : Fld := ⟨0x0 + 0x60, 8, 4, 0, .rw⟩
def SYS.GRPPT_PT3 : Fld := ⟨0x0 + 0x60, 12, 4, 0, .rw⟩
def SYS.GRPPT_PT4 : Fld := ⟨0x0 + 0x60, 16, 4, 0, .rw⟩
def SYS.GRPPT_PT5 : Fld := ⟨0x0 + 0x60, 20, 4, 0, .rw⟩
def SYS.GRPPT_PT6 : Fld := ⟨0x0 + 0x60, 24, 4, 0, .rw⟩
def SYS.GRPPT_PT7 : Fld := ⟨0x0 + 0x60, 28, 4, 0, .rw⟩
def SYS.GRPCMT_PEND : Fld := ⟨0x0 + 0x64, 9, 7, 0, .ro⟩
def SYS.GRPCMT_REL : Fld := ⟨0x0 + 0x64, 1, 7, 0, .w1s⟩
def SYS.GPIO_DIR_OE : Fld := ⟨0x0 + 0x70, 0, 16, 0, .rw⟩
def SYS.GPIO_OUT_VAL : Fld := ⟨0x0 + 0x74, 0, 16, 0, .rw⟩
def SYS.GPIO_IN_LVL : Fld := ⟨0x0 + 0x78, 0, 16, 0, .ro⟩
def SYS.GPIO_PULL_PD : Fld := ⟨0x0 + 0x7c, 0, 16, 0xFFFF, .rw⟩

/-- The registers of the SYS page: offset, stride, count, shadowed, fields (02_register_pages_and_interrupts.md, R65). -/
def SYS.table : List RegT :=
  [⟨0x8, 4, 1, false, fun _ => []⟩, ⟨0xC, 4, 1, false, fun _ => []⟩,
   ⟨0x18, 4, 1, false, fun _ => [SYS.ISR_ERR]⟩, ⟨0x1C, 4, 1, false, fun _ => [SYS.IER]⟩
   , ⟨0x40, 4, 1, false, fun _ => [SYS.DEVID_PART, SYS.DEVID_STEP]⟩
   , ⟨0x44, 4, 1, false, fun _ => [SYS.BOOT_STATUS_DETAIL, SYS.BOOT_STATUS_CODE]⟩
   , ⟨0x48, 4, 1, false, fun _ => [SYS.RSTCAUSE_WDCHIP, SYS.RSTCAUSE_WDSVC, SYS.RSTCAUSE_SVC, SYS.RSTCAUSE_CHIP, SYS.RSTCAUSE_PIN, SYS.RSTCAUSE_POR]⟩
   , ⟨0x4c, 4, 1, false, fun _ => [SYS.RSTCMD_KEY, SYS.RSTCMD_KIND]⟩
   , ⟨0x50, 4, 1, false, fun _ => [SYS.WDOG_CTL_TIMEOUT, SYS.WDOG_CTL_ACTION, SYS.WDOG_CTL_EN]⟩
   , ⟨0x54, 4, 1, false, fun _ => [SYS.WDOG_KICK_KEY]⟩
   , ⟨0x60, 4, 1, false, fun _ => [SYS.GRPPT_PT1, SYS.GRPPT_PT2, SYS.GRPPT_PT3, SYS.GRPPT_PT4, SYS.GRPPT_PT5, SYS.GRPPT_PT6, SYS.GRPPT_PT7]⟩
   , ⟨0x64, 4, 1, false, fun _ => [SYS.GRPCMT_PEND, SYS.GRPCMT_REL]⟩
   , ⟨0x70, 4, 1, false, fun _ => [SYS.GPIO_DIR_OE]⟩
   , ⟨0x74, 4, 1, false, fun _ => [SYS.GPIO_OUT_VAL]⟩
   , ⟨0x78, 4, 1, false, fun _ => [SYS.GPIO_IN_LVL]⟩
   , ⟨0x7c, 4, 1, false, fun _ => [SYS.GPIO_PULL_PD]⟩]

/-! ### CLK: 03_resets_clocks_boot.md, R82 -/

def CLK.STS_BUSY : Fld := ⟨0x1000 + 0xC, 8, 1, 0, .ro⟩
def CLK.STS_STATE : Fld := ⟨0x1000 + 0xC, 0, 4, 0, .ro⟩
def CLK.ISR_ERR : Fld := ⟨0x1000 + 0x18, 0, 1, 0, .w1c⟩
def CLK.ISR_XOLOW : Fld := ⟨0x1000 + 0x18, 1, 1, 0, .w1c⟩
def CLK.ISR_DIVDONE : Fld := ⟨0x1000 + 0x18, 2, 1, 0, .w1c⟩
def CLK.IER : Fld := ⟨0x1000 + 0x1C, 0, 3, 0, .rw⟩
def CLK.DIV_PER : Fld := ⟨0x1000 + 0x40, 24, 8, 0x18, .rw⟩
def CLK.DIV_FAB : Fld := ⟨0x1000 + 0x40, 16, 8, 0x0C, .rw⟩
def CLK.DIV_ISP : Fld := ⟨0x1000 + 0x40, 8, 8, 0x08, .rw⟩
def CLK.DIV_CELL : Fld := ⟨0x1000 + 0x40, 0, 8, 0x06, .rw⟩
def CLK.DIVSTS_PER : Fld := ⟨0x1000 + 0x44, 24, 8, 0x18, .ro⟩
def CLK.DIVSTS_FAB : Fld := ⟨0x1000 + 0x44, 16, 8, 0x0C, .ro⟩
def CLK.DIVSTS_ISP : Fld := ⟨0x1000 + 0x44, 8, 8, 0x08, .ro⟩
def CLK.DIVSTS_CELL : Fld := ⟨0x1000 + 0x44, 0, 8, 0x06, .ro⟩
def CLK.PLLSTS_XO_AMP : Fld := ⟨0x1000 + 0x48, 8, 8, 0, .ro⟩
def CLK.PLLSTS_LOCK : Fld := ⟨0x1000 + 0x48, 1, 1, 1, .ro⟩
def CLK.PLLSTS_XO_OK : Fld := ⟨0x1000 + 0x48, 0, 1, 1, .ro⟩

/-- The registers of the CLK page: offset, stride, count, shadowed, fields (03_resets_clocks_boot.md, R82). -/
def CLK.table : List RegT :=
  [⟨0x8, 4, 1, false, fun _ => []⟩, ⟨0xC, 4, 1, false, fun _ => [CLK.STS_BUSY, CLK.STS_STATE]⟩,
   ⟨0x18, 4, 1, false, fun _ => [CLK.ISR_ERR, CLK.ISR_XOLOW, CLK.ISR_DIVDONE]⟩, ⟨0x1C, 4, 1, false, fun _ => [CLK.IER]⟩
   , ⟨0x40, 4, 1, false, fun _ => [CLK.DIV_PER, CLK.DIV_FAB, CLK.DIV_ISP, CLK.DIV_CELL]⟩
   , ⟨0x44, 4, 1, false, fun _ => [CLK.DIVSTS_PER, CLK.DIVSTS_FAB, CLK.DIVSTS_ISP, CLK.DIVSTS_CELL]⟩
   , ⟨0x48, 4, 1, false, fun _ => [CLK.PLLSTS_XO_AMP, CLK.PLLSTS_LOCK, CLK.PLLSTS_XO_OK]⟩]

/-! ### TIM: 06_media_clock_references.md, R157 -/

def TIM.CTL_EN : Fld := ⟨0x2000 + 0x8, 0, 1, 0, .rw⟩
def TIM.STS_BUSY : Fld := ⟨0x2000 + 0xC, 8, 1, 0, .ro⟩
def TIM.STS_KEPT : Fld := ⟨0x2000 + 0xC, 7, 1, 0, .ro⟩
def TIM.STS_STATE : Fld := ⟨0x2000 + 0xC, 0, 4, 0, .ro⟩
def TIM.ISR_ERR : Fld := ⟨0x2000 + 0x18, 0, 1, 0, .w1c⟩
def TIM.ISR_SOFT : Fld := ⟨0x2000 + 0x18, 1, 1, 0, .w1c⟩
def TIM.ISR_HARD : Fld := ⟨0x2000 + 0x18, 2, 1, 0, .w1c⟩
def TIM.ISR_DISQ : Fld := ⟨0x2000 + 0x18, 3, 1, 0, .w1c⟩
def TIM.ISR_QUAL : Fld := ⟨0x2000 + 0x18, 4, 1, 0, .w1c⟩
def TIM.ISR_ASW : Fld := ⟨0x2000 + 0x18, 5, 1, 0, .w1c⟩
def TIM.ISR_VSW : Fld := ⟨0x2000 + 0x18, 6, 1, 0, .w1c⟩
def TIM.ISR_HOLDA : Fld := ⟨0x2000 + 0x18, 7, 1, 0, .w1c⟩
def TIM.ISR_HOLDV : Fld := ⟨0x2000 + 0x18, 8, 1, 0, .w1c⟩
def TIM.ISR_FAMILY : Fld := ⟨0x2000 + 0x18, 9, 1, 0, .w1c⟩
def TIM.ISR_XODRIFT : Fld := ⟨0x2000 + 0x18, 10, 1, 0, .w1c⟩
def TIM.IER : Fld := ⟨0x2000 + 0x1C, 0, 11, 0, .rw⟩
def TIM.SELA_FORCE : Fld := ⟨0x2000 + 0x40, 24, 3, 7, .rw⟩
def TIM.SELA_REVERT : Fld := ⟨0x2000 + 0x40, 20, 1, 0, .rw⟩
def TIM.SELA_PRIO : Fld := ⟨0x2000 + 0x40, 0, 18, 0x8CA, .rw⟩
def TIM.SELV_FORCE : Fld := ⟨0x2000 + 0x44, 24, 3, 7, .rw⟩
def TIM.SELV_PRIO : Fld := ⟨0x2000 + 0x44, 0, 18, 0x2A63, .rw⟩
def TIM.QL_PTPPROG : Fld := ⟨0x2000 + 0x48, 31, 1, 0, .rw⟩
def TIM.QL_LEVEL : Fld := ⟨0x2000 + 0x48, 0, 24, 0xD57C98, .rw⟩
def TIM.DPLL_SLEWV : Fld := ⟨0x2000 + 0x4c, 24, 8, 0x32, .rw⟩
def TIM.DPLL_SLEWA : Fld := ⟨0x2000 + 0x4c, 16, 8, 0x32, .rw⟩
def TIM.DPLL_BWV : Fld := ⟨0x2000 + 0x4c, 4, 4, 0, .rw⟩
def TIM.DPLL_BWA : Fld := ⟨0x2000 + 0x4c, 0, 4, 2, .rw⟩
def TIM.HOLD_AVG : Fld := ⟨0x2000 + 0x50, 0, 8, 0x0A, .rw⟩
def TIM.AUD_MDIV : Fld := ⟨0x2000 + 0x54, 18, 8, 0, .rw⟩
def TIM.AUD_AFAM : Fld := ⟨0x2000 + 0x54, 16, 1, 0, .rw⟩
def TIM.AUD_WDIV : Fld := ⟨0x2000 + 0x54, 12, 2, 0, .rw⟩
def TIM.AUD_FSDIV : Fld := ⟨0x2000 + 0x54, 0, 12, 0x040, .rw⟩
def TIM.OUTEN_PPS : Fld := ⟨0x2000 + 0x58, 6, 1, 0, .rw⟩
def TIM.OUTEN_FSYNC : Fld := ⟨0x2000 + 0x58, 5, 1, 0, .rw⟩
def TIM.OUTEN_WCLK : Fld := ⟨0x2000 + 0x58, 4, 1, 0, .rw⟩
def TIM.OUTEN_MCLK : Fld := ⟨0x2000 + 0x58, 0, 4, 0, .rw⟩
def TIM.REALIGN_VID : Fld := ⟨0x2000 + 0x5c, 1, 1, 0, .wo⟩
def TIM.REALIGN_AUD : Fld := ⟨0x2000 + 0x5c, 0, 1, 0, .wo⟩
def TIM.REFCFG_QUAL (i : Nat) : Fld := ⟨0x2000 + 0x60 + 4 * i, 24, 8, 0x64, .rw⟩
def TIM.REFCFG_HARD (i : Nat) : Fld := ⟨0x2000 + 0x60 + 4 * i, 16, 8, 0xC8, .rw⟩
def TIM.REFCFG_SOFT (i : Nat) : Fld := ⟨0x2000 + 0x60 + 4 * i, 8, 8, 0x64, .rw⟩
def TIM.REFCFG_NOM (i : Nat) : Fld := ⟨0x2000 + 0x60 + 4 * i, 0, 4, (if i = 2 ∨ i = 3 then 1 else 0), .rw⟩
def TIM.RSTAT_OFF (i : Nat) : Fld := ⟨0x2000 + 0x78 + 4 * i, 16, 16, 0, .ro⟩
def TIM.RSTAT_FAM (i : Nat) : Fld := ⟨0x2000 + 0x78 + 4 * i, 4, 4, 0xF, .ro⟩
def TIM.RSTAT_STATE (i : Nat) : Fld := ⟨0x2000 + 0x78 + 4 * i, 0, 4, (if i = 5 then 2 else 0), .ro⟩
def TIM.DSTS_REALV : Fld := ⟨0x2000 + 0x90, 31, 1, 0, .ro⟩
def TIM.DSTS_REALA : Fld := ⟨0x2000 + 0x90, 30, 1, 0, .ro⟩
def TIM.DSTS_VREF : Fld := ⟨0x2000 + 0x90, 20, 4, 5, .ro⟩
def TIM.DSTS_VSTATE : Fld := ⟨0x2000 + 0x90, 16, 4, 0, .ro⟩
def TIM.DSTS_AREF : Fld := ⟨0x2000 + 0x90, 4, 4, 5, .ro⟩
def TIM.DSTS_ASTATE : Fld := ⟨0x2000 + 0x90, 0, 4, 0, .ro⟩
def TIM.PHERRA_VALID : Fld := ⟨0x2000 + 0x94, 31, 1, 0, .ro⟩
def TIM.PHERRA_TICKS : Fld := ⟨0x2000 + 0x94, 0, 16, 0, .ro⟩
def TIM.PHERRV_VALID : Fld := ⟨0x2000 + 0x98, 31, 1, 0, .ro⟩
def TIM.PHERRV_TICKS : Fld := ⟨0x2000 + 0x98, 0, 27, 0, .ro⟩
def TIM.FREQ_VID : Fld := ⟨0x2000 + 0x9c, 16, 16, 0, .ro⟩
def TIM.FREQ_AUD : Fld := ⟨0x2000 + 0x9c, 0, 16, 0, .ro⟩
def TIM.XOEST_VALID : Fld := ⟨0x2000 + 0xa0, 31, 1, 0, .ro⟩
def TIM.XOEST_PPM : Fld := ⟨0x2000 + 0xa0, 0, 16, 0, .ro⟩
def TIM.XOCMP_EN : Fld := ⟨0x2000 + 0xa4, 8, 1, 1, .rw⟩
def TIM.XOCMP_AGREE : Fld := ⟨0x2000 + 0xa4, 0, 8, 0x0A, .rw⟩
def TIM.PPSEP_EPOCH : Fld := ⟨0x2000 + 0xa8, 0, 27, 0, .ro⟩
def TIM.QLSTS_LEVEL : Fld := ⟨0x2000 + 0xac, 0, 24, 0xD57C98, .ro⟩
def TIM.MTIMEL_LOW : Fld := ⟨0x2000 + 0xb0, 0, 32, 0, .rs⟩
def TIM.MTIMEH_HIGH : Fld := ⟨0x2000 + 0xb4, 0, 32, 0, .ro⟩

/-- The registers of the TIM page: offset, stride, count, shadowed, fields (06_media_clock_references.md, R157). -/
def TIM.table : List RegT :=
  [⟨0x8, 4, 1, false, fun _ => [TIM.CTL_EN]⟩, ⟨0xC, 4, 1, false, fun _ => [TIM.STS_BUSY, TIM.STS_KEPT, TIM.STS_STATE]⟩,
   ⟨0x18, 4, 1, false, fun _ => [TIM.ISR_ERR, TIM.ISR_SOFT, TIM.ISR_HARD, TIM.ISR_DISQ, TIM.ISR_QUAL, TIM.ISR_ASW, TIM.ISR_VSW, TIM.ISR_HOLDA, TIM.ISR_HOLDV, TIM.ISR_FAMILY, TIM.ISR_XODRIFT]⟩, ⟨0x1C, 4, 1, false, fun _ => [TIM.IER]⟩
   , ⟨0x40, 4, 1, true, fun _ => [TIM.SELA_FORCE, TIM.SELA_REVERT, TIM.SELA_PRIO]⟩
   , ⟨0x44, 4, 1, true, fun _ => [TIM.SELV_FORCE, TIM.SELV_PRIO]⟩
   , ⟨0x48, 4, 1, true, fun _ => [TIM.QL_PTPPROG, TIM.QL_LEVEL]⟩
   , ⟨0x4c, 4, 1, false, fun _ => [TIM.DPLL_SLEWV, TIM.DPLL_SLEWA, TIM.DPLL_BWV, TIM.DPLL_BWA]⟩
   , ⟨0x50, 4, 1, false, fun _ => [TIM.HOLD_AVG]⟩
   , ⟨0x54, 4, 1, false, fun _ => [TIM.AUD_MDIV, TIM.AUD_AFAM, TIM.AUD_WDIV, TIM.AUD_FSDIV]⟩
   , ⟨0x58, 4, 1, false, fun _ => [TIM.OUTEN_PPS, TIM.OUTEN_FSYNC, TIM.OUTEN_WCLK, TIM.OUTEN_MCLK]⟩
   , ⟨0x5c, 4, 1, false, fun _ => [TIM.REALIGN_VID, TIM.REALIGN_AUD]⟩
   , ⟨0x60, 4, 6, false, fun i => [TIM.REFCFG_QUAL i, TIM.REFCFG_HARD i, TIM.REFCFG_SOFT i, TIM.REFCFG_NOM i]⟩
   , ⟨0x78, 4, 6, false, fun i => [TIM.RSTAT_OFF i, TIM.RSTAT_FAM i, TIM.RSTAT_STATE i]⟩
   , ⟨0x90, 4, 1, false, fun _ => [TIM.DSTS_REALV, TIM.DSTS_REALA, TIM.DSTS_VREF, TIM.DSTS_VSTATE, TIM.DSTS_AREF, TIM.DSTS_ASTATE]⟩
   , ⟨0x94, 4, 1, false, fun _ => [TIM.PHERRA_VALID, TIM.PHERRA_TICKS]⟩
   , ⟨0x98, 4, 1, false, fun _ => [TIM.PHERRV_VALID, TIM.PHERRV_TICKS]⟩
   , ⟨0x9c, 4, 1, false, fun _ => [TIM.FREQ_VID, TIM.FREQ_AUD]⟩
   , ⟨0xa0, 4, 1, false, fun _ => [TIM.XOEST_VALID, TIM.XOEST_PPM]⟩
   , ⟨0xa4, 4, 1, false, fun _ => [TIM.XOCMP_EN, TIM.XOCMP_AGREE]⟩
   , ⟨0xa8, 4, 1, false, fun _ => [TIM.PPSEP_EPOCH]⟩
   , ⟨0xac, 4, 1, false, fun _ => [TIM.QLSTS_LEVEL]⟩
   , ⟨0xb0, 4, 1, false, fun _ => [TIM.MTIMEL_LOW]⟩
   , ⟨0xb4, 4, 1, false, fun _ => [TIM.MTIMEH_HIGH]⟩]

/-! ### PRS: 07_presentation_scheduler.md, R174 -/

def PRS.CTL_LRST : Fld := ⟨0x3000 + 0x8, 1, 1, 0, .w1s⟩
def PRS.CTL_EN : Fld := ⟨0x3000 + 0x8, 0, 1, 0, .rw⟩
def PRS.STS_BUSY : Fld := ⟨0x3000 + 0xC, 8, 1, 0, .ro⟩
def PRS.STS_MISSRUN : Fld := ⟨0x3000 + 0xC, 4, 4, 0, .ro⟩
def PRS.STS_STATE : Fld := ⟨0x3000 + 0xC, 0, 4, 0, .ro⟩
def PRS.ISR_ERR : Fld := ⟨0x3000 + 0x18, 0, 1, 0, .w1c⟩
def PRS.ISR_TOOTH : Fld := ⟨0x3000 + 0x18, 1, 1, 0, .w1c⟩
def PRS.ISR_LOCK : Fld := ⟨0x3000 + 0x18, 2, 1, 0, .w1c⟩
def PRS.ISR_MISS : Fld := ⟨0x3000 + 0x18, 3, 1, 0, .w1c⟩
def PRS.ISR_SEARCH : Fld := ⟨0x3000 + 0x18, 4, 1, 0, .w1c⟩
def PRS.ISR_NOISE : Fld := ⟨0x3000 + 0x18, 5, 1, 0, .w1c⟩
def PRS.ISR_EVLATE : Fld := ⟨0x3000 + 0x18, 6, 1, 0, .w1c⟩
def PRS.ISR_EVMISS : Fld := ⟨0x3000 + 0x18, 7, 1, 0, .w1c⟩
def PRS.ISR_EVCONV : Fld := ⟨0x3000 + 0x18, 8, 1, 0, .w1c⟩
def PRS.IER : Fld := ⟨0x3000 + 0x1C, 0, 9, 0, .rw⟩
def PRS.CFG_MISS_MAX : Fld := ⟨0x3000 + 0x40, 8, 4, 3, .rw⟩
def PRS.CFG_ACQ : Fld := ⟨0x3000 + 0x40, 4, 4, 4, .rw⟩
def PRS.CFG_GPOL : Fld := ⟨0x3000 + 0x40, 2, 1, 0, .rw⟩
def PRS.CFG_TSRC : Fld := ⟨0x3000 + 0x40, 0, 2, 0, .rw⟩
def PRS.PERIOD_P16 : Fld := ⟨0x3000 + 0x44, 0, 28, 0x1900000, .rw⟩
def PRS.WINDOW_WIN : Fld := ⟨0x3000 + 0x48, 0, 24, 0x2000, .rw⟩
def PRS.LATEMAX_TICKS : Fld := ⟨0x3000 + 0x4c, 0, 32, 0x190000, .rw⟩
def PRS.TCNT_COUNT : Fld := ⟨0x3000 + 0x50, 0, 32, 0, .rs⟩
def PRS.TLASTL_T : Fld := ⟨0x3000 + 0x54, 0, 32, 0, .ro⟩
def PRS.TLASTH_T : Fld := ⟨0x3000 + 0x58, 0, 32, 0, .ro⟩
def PRS.TNEXTL_T : Fld := ⟨0x3000 + 0x5c, 0, 32, 0, .ro⟩
def PRS.PEREST_P16 : Fld := ⟨0x3000 + 0x60, 0, 28, 0x1900000, .ro⟩
def PRS.PHERR_E16 : Fld := ⟨0x3000 + 0x64, 0, 32, 0, .ro⟩
def PRS.CNT_NOISE : Fld := ⟨0x3000 + 0x68, 16, 16, 0, .ro⟩
def PRS.CNT_MISS : Fld := ⟨0x3000 + 0x68, 0, 16, 0, .ro⟩
def PRS.ARMEDL_S : Fld := ⟨0x3000 + 0x70, 0, 32, 0, .ro⟩
def PRS.ARMEDH_S : Fld := ⟨0x3000 + 0x74, 0, 32, 0, .ro⟩
def PRS.EVTL_V (i : Nat) : Fld := ⟨0x3000 + 0x400 + 16 * i, 0, 32, 0, .rw⟩
def PRS.EVTH_V (i : Nat) : Fld := ⟨0x3000 + 0x404 + 16 * i, 0, 32, 0, .rw⟩
def PRS.EVACT_IRQ (i : Nat) : Fld := ⟨0x3000 + 0x408 + 16 * i, 31, 1, 0, .rw⟩
def PRS.EVACT_LATE_POLICY (i : Nat) : Fld := ⟨0x3000 + 0x408 + 16 * i, 30, 1, 0, .rw⟩
def PRS.EVACT_MODE (i : Nat) : Fld := ⟨0x3000 + 0x408 + 16 * i, 29, 1, 0, .rw⟩
def PRS.EVACT_ARG (i : Nat) : Fld := ⟨0x3000 + 0x408 + 16 * i, 16, 8, 0, .rw⟩
def PRS.EVACT_TGT (i : Nat) : Fld := ⟨0x3000 + 0x408 + 16 * i, 8, 8, 0, .rw⟩
def PRS.EVACT_ACTION (i : Nat) : Fld := ⟨0x3000 + 0x408 + 16 * i, 0, 4, 0, .rw⟩
def PRS.EVCS_CONVERTED (i : Nat) : Fld := ⟨0x3000 + 0x40c + 16 * i, 11, 1, 0, .ro⟩
def PRS.EVCS_COASTED (i : Nat) : Fld := ⟨0x3000 + 0x40c + 16 * i, 10, 1, 0, .ro⟩
def PRS.EVCS_MISSED (i : Nat) : Fld := ⟨0x3000 + 0x40c + 16 * i, 9, 1, 0, .ro⟩
def PRS.EVCS_LATE (i : Nat) : Fld := ⟨0x3000 + 0x40c + 16 * i, 8, 1, 0, .ro⟩
def PRS.EVCS_STATE (i : Nat) : Fld := ⟨0x3000 + 0x40c + 16 * i, 4, 4, 0, .ro⟩
def PRS.EVCS_CANCEL (i : Nat) : Fld := ⟨0x3000 + 0x40c + 16 * i, 1, 1, 0, .w1s⟩
def PRS.EVCS_ARM (i : Nat) : Fld := ⟨0x3000 + 0x40c + 16 * i, 0, 1, 0, .w1s⟩
def PRS.EVSTAMP_T (i : Nat) : Fld := ⟨0x3000 + 0x800 + 4 * i, 0, 32, 0, .ro⟩

/-- The registers of the PRS page: offset, stride, count, shadowed, fields (07_presentation_scheduler.md, R174). -/
def PRS.table : List RegT :=
  [⟨0x8, 4, 1, false, fun _ => [PRS.CTL_LRST, PRS.CTL_EN]⟩, ⟨0xC, 4, 1, false, fun _ => [PRS.STS_BUSY, PRS.STS_MISSRUN, PRS.STS_STATE]⟩,
   ⟨0x18, 4, 1, false, fun _ => [PRS.ISR_ERR, PRS.ISR_TOOTH, PRS.ISR_LOCK, PRS.ISR_MISS, PRS.ISR_SEARCH, PRS.ISR_NOISE, PRS.ISR_EVLATE, PRS.ISR_EVMISS, PRS.ISR_EVCONV]⟩, ⟨0x1C, 4, 1, false, fun _ => [PRS.IER]⟩
   , ⟨0x40, 4, 1, false, fun _ => [PRS.CFG_MISS_MAX, PRS.CFG_ACQ, PRS.CFG_GPOL, PRS.CFG_TSRC]⟩
   , ⟨0x44, 4, 1, false, fun _ => [PRS.PERIOD_P16]⟩
   , ⟨0x48, 4, 1, false, fun _ => [PRS.WINDOW_WIN]⟩
   , ⟨0x4c, 4, 1, false, fun _ => [PRS.LATEMAX_TICKS]⟩
   , ⟨0x50, 4, 1, false, fun _ => [PRS.TCNT_COUNT]⟩
   , ⟨0x54, 4, 1, false, fun _ => [PRS.TLASTL_T]⟩
   , ⟨0x58, 4, 1, false, fun _ => [PRS.TLASTH_T]⟩
   , ⟨0x5c, 4, 1, false, fun _ => [PRS.TNEXTL_T]⟩
   , ⟨0x60, 4, 1, false, fun _ => [PRS.PEREST_P16]⟩
   , ⟨0x64, 4, 1, false, fun _ => [PRS.PHERR_E16]⟩
   , ⟨0x68, 4, 1, false, fun _ => [PRS.CNT_NOISE, PRS.CNT_MISS]⟩
   , ⟨0x70, 4, 1, false, fun _ => [PRS.ARMEDL_S]⟩
   , ⟨0x74, 4, 1, false, fun _ => [PRS.ARMEDH_S]⟩
   , ⟨0x400, 16, 64, false, fun i => [PRS.EVTL_V i]⟩
   , ⟨0x404, 16, 64, false, fun i => [PRS.EVTH_V i]⟩
   , ⟨0x408, 16, 64, false, fun i => [PRS.EVACT_IRQ i, PRS.EVACT_LATE_POLICY i, PRS.EVACT_MODE i, PRS.EVACT_ARG i, PRS.EVACT_TGT i, PRS.EVACT_ACTION i]⟩
   , ⟨0x40c, 16, 64, false, fun i => [PRS.EVCS_CONVERTED i, PRS.EVCS_COASTED i, PRS.EVCS_MISSED i, PRS.EVCS_LATE i, PRS.EVCS_STATE i, PRS.EVCS_CANCEL i, PRS.EVCS_ARM i]⟩
   , ⟨0x800, 4, 64, false, fun i => [PRS.EVSTAMP_T i]⟩]

/-! ### CADDY: 05_caddy_current_budget.md, R134 -/

def CADDY.STS_BUSY : Fld := ⟨0x4000 + 0xC, 8, 1, 0, .ro⟩
def CADDY.STS_KEPT : Fld := ⟨0x4000 + 0xC, 7, 1, 0, .ro⟩
def CADDY.STS_STATE : Fld := ⟨0x4000 + 0xC, 0, 4, 1, .ro⟩
def CADDY.ISR_ERR : Fld := ⟨0x4000 + 0x18, 0, 1, 0, .w1c⟩
def CADDY.ISR_BRAKE : Fld := ⟨0x4000 + 0x18, 1, 1, 0, .w1c⟩
def CADDY.ISR_RELEASE : Fld := ⟨0x4000 + 0x18, 2, 1, 0, .w1c⟩
def CADDY.ISR_OVERCOMMIT : Fld := ⟨0x4000 + 0x18, 3, 1, 0, .w1c⟩
def CADDY.ISR_AGED : Fld := ⟨0x4000 + 0x18, 4, 1, 0, .w1c⟩
def CADDY.ISR_OVERSIZE : Fld := ⟨0x4000 + 0x18, 5, 1, 0, .w1c⟩
def CADDY.IER : Fld := ⟨0x4000 + 0x1C, 0, 6, 0, .rw⟩
def CADDY.BUDGET_AMT : Fld := ⟨0x4000 + 0x40, 0, 10, 0x258, .rw⟩
def CADDY.RESERVE_AMT : Fld := ⟨0x4000 + 0x44, 0, 10, 0x050, .rw⟩
def CADDY.BRAKE_HYST : Fld := ⟨0x4000 + 0x48, 16, 16, 0x14, .rw⟩
def CADDY.BRAKE_LIMIT : Fld := ⟨0x4000 + 0x48, 0, 10, 0x26C, .rw⟩
def CADDY.DERATE_T0 : Fld := ⟨0x4000 + 0x4c, 24, 8, 0x5F, .rw⟩
def CADDY.DERATE_SLOPE : Fld := ⟨0x4000 + 0x4c, 0, 8, 4, .rw⟩
def CADDY.FFLEAD_TICKS : Fld := ⟨0x4000 + 0x50, 0, 16, 0xC8, .rw⟩
def CADDY.ARB_AGE : Fld := ⟨0x4000 + 0x54, 16, 16, 0x1F4, .rw⟩
def CADDY.ARB_HOL : Fld := ⟨0x4000 + 0x54, 0, 16, 0x14, .rw⟩
def CADDY.CELLCLAIM_PRIO : Fld := ⟨0x4000 + 0x58, 28, 2, 1, .rw⟩
def CADDY.CELLCLAIM_DEC : Fld := ⟨0x4000 + 0x58, 16, 12, 0x30, .rw⟩
def CADDY.CELLCLAIM_ENC : Fld := ⟨0x4000 + 0x58, 0, 12, 0x40, .rw⟩
def CADDY.CLAIM_PRIO (i : Nat) : Fld := ⟨0x4000 + 0x60 + 4 * i, 16, 2, (if i = 8 then 2 else 3), .rw⟩
def CADDY.CLAIM_AMT (i : Nat) : Fld := ⟨0x4000 + 0x60 + 4 * i, 0, 12, (if i = 0 then 0x3C else if i ≤ 4 then 0x10 else if i = 5 then 0x18 else if i ≤ 7 then 0x14 else 4), .rw⟩
def CADDY.AVAIL_EFF : Fld := ⟨0x4000 + 0x90, 16, 16, 0x258, .ro⟩
def CADDY.AVAIL_GRANTED : Fld := ⟨0x4000 + 0x90, 0, 16, 0, .ro⟩
def CADDY.TEMP_TJ : Fld := ⟨0x4000 + 0x94, 0, 8, 0, .ro⟩
def CADDY.HELD_ID : Fld := ⟨0x4000 + 0x98, 0, 17, 0, .ro⟩
def CADDY.WAIT_ID : Fld := ⟨0x4000 + 0x9c, 0, 17, 0, .ro⟩
def CADDY.BRKCNT_COUNT : Fld := ⟨0x4000 + 0xa0, 0, 16, 0, .ro⟩

/-- The registers of the CADDY page: offset, stride, count, shadowed, fields (05_caddy_current_budget.md, R134). -/
def CADDY.table : List RegT :=
  [⟨0x8, 4, 1, false, fun _ => []⟩, ⟨0xC, 4, 1, false, fun _ => [CADDY.STS_BUSY, CADDY.STS_KEPT, CADDY.STS_STATE]⟩,
   ⟨0x18, 4, 1, false, fun _ => [CADDY.ISR_ERR, CADDY.ISR_BRAKE, CADDY.ISR_RELEASE, CADDY.ISR_OVERCOMMIT, CADDY.ISR_AGED, CADDY.ISR_OVERSIZE]⟩, ⟨0x1C, 4, 1, false, fun _ => [CADDY.IER]⟩
   , ⟨0x40, 4, 1, true, fun _ => [CADDY.BUDGET_AMT]⟩
   , ⟨0x44, 4, 1, true, fun _ => [CADDY.RESERVE_AMT]⟩
   , ⟨0x48, 4, 1, false, fun _ => [CADDY.BRAKE_HYST, CADDY.BRAKE_LIMIT]⟩
   , ⟨0x4c, 4, 1, false, fun _ => [CADDY.DERATE_T0, CADDY.DERATE_SLOPE]⟩
   , ⟨0x50, 4, 1, false, fun _ => [CADDY.FFLEAD_TICKS]⟩
   , ⟨0x54, 4, 1, false, fun _ => [CADDY.ARB_AGE, CADDY.ARB_HOL]⟩
   , ⟨0x58, 4, 1, true, fun _ => [CADDY.CELLCLAIM_PRIO, CADDY.CELLCLAIM_DEC, CADDY.CELLCLAIM_ENC]⟩
   , ⟨0x60, 4, 9, true, fun i => [CADDY.CLAIM_PRIO i, CADDY.CLAIM_AMT i]⟩
   , ⟨0x90, 4, 1, false, fun _ => [CADDY.AVAIL_EFF, CADDY.AVAIL_GRANTED]⟩
   , ⟨0x94, 4, 1, false, fun _ => [CADDY.TEMP_TJ]⟩
   , ⟨0x98, 4, 1, false, fun _ => [CADDY.HELD_ID]⟩
   , ⟨0x9c, 4, 1, false, fun _ => [CADDY.WAIT_ID]⟩
   , ⟨0xa0, 4, 1, false, fun _ => [CADDY.BRKCNT_COUNT]⟩]

/-! ### REG: 04_core_supply_regulator.md, R116 -/

def REG.STS_PG : Fld := ⟨0x5000 + 0xC, 12, 1, 1, .ro⟩
def REG.STS_NPH : Fld := ⟨0x5000 + 0xC, 9, 3, 1, .ro⟩
def REG.STS_BUSY : Fld := ⟨0x5000 + 0xC, 8, 1, 0, .ro⟩
def REG.STS_KEPT : Fld := ⟨0x5000 + 0xC, 7, 1, 0, .ro⟩
def REG.STS_STATE : Fld := ⟨0x5000 + 0xC, 0, 4, 2, .ro⟩
def REG.ISR_ERR : Fld := ⟨0x5000 + 0x18, 0, 1, 0, .w1c⟩
def REG.ISR_TRIP : Fld := ⟨0x5000 + 0x18, 1, 1, 0, .w1c⟩
def REG.ISR_UV : Fld := ⟨0x5000 + 0x18, 2, 1, 0, .w1c⟩
def REG.ISR_DTCLAMP : Fld := ⟨0x5000 + 0x18, 3, 1, 0, .w1c⟩
def REG.ISR_FFLATE : Fld := ⟨0x5000 + 0x18, 4, 1, 0, .w1c⟩
def REG.IER : Fld := ⟨0x5000 + 0x1C, 0, 5, 0, .rw⟩
def REG.VSET_CODE : Fld := ⟨0x5000 + 0x40, 0, 10, 0x280, .rw⟩
def REG.LL_MOHM : Fld := ⟨0x5000 + 0x44, 0, 8, 0x0A, .rw⟩
def REG.SLEW_RATE : Fld := ⟨0x5000 + 0x48, 0, 8, 0x64, .rw⟩
def REG.TON_ADAPT : Fld := ⟨0x5000 + 0x4c, 31, 1, 1, .rw⟩
def REG.TON_VAL : Fld := ⟨0x5000 + 0x4c, 0, 16, 0x1770, .rw⟩
def REG.TLIM_TOFF_MIN : Fld := ⟨0x5000 + 0x50, 16, 16, 0xC0, .rw⟩
def REG.TLIM_TON_MIN : Fld := ⟨0x5000 + 0x50, 0, 16, 0x60, .rw⟩
def REG.DT_MAX : Fld := ⟨0x5000 + 0x54, 24, 8, 0x60, .rw⟩
def REG.DT_MIN : Fld := ⟨0x5000 + 0x54, 16, 8, 4, .rw⟩
def REG.DT_INIT : Fld := ⟨0x5000 + 0x54, 8, 8, 0x30, .rw⟩
def REG.DT_ADAPT : Fld := ⟨0x5000 + 0x54, 0, 1, 1, .rw⟩
def REG.PHTH_ADD4 : Fld := ⟨0x5000 + 0x58, 24, 8, 0x28, .rw⟩
def REG.PHTH_SHED4 : Fld := ⟨0x5000 + 0x58, 16, 8, 0x20, .rw⟩
def REG.PHTH_ADD2 : Fld := ⟨0x5000 + 0x58, 8, 8, 0x10, .rw⟩
def REG.PHTH_SHED2 : Fld := ⟨0x5000 + 0x58, 0, 8, 0x0C, .rw⟩
def REG.PHCTL_SHED_EN : Fld := ⟨0x5000 + 0x5c, 2, 1, 1, .rw⟩
def REG.PHCTL_MAXPH : Fld := ⟨0x5000 + 0x5c, 0, 2, 2, .rw⟩
def REG.FF_GAIN : Fld := ⟨0x5000 + 0x60, 24, 8, 4, .rw⟩
def REG.FF_MAX : Fld := ⟨0x5000 + 0x60, 16, 8, 0x28, .rw⟩
def REG.FF_HOLD : Fld := ⟨0x5000 + 0x60, 8, 8, 0x14, .rw⟩
def REG.FF_EN : Fld := ⟨0x5000 + 0x60, 0, 1, 1, .rw⟩
def REG.MODE_KEY : Fld := ⟨0x5000 + 0x64, 16, 16, 0, .wo⟩
def REG.MODE_OPEN : Fld := ⟨0x5000 + 0x64, 0, 1, 0, .rw⟩
def REG.OL_DUTY : Fld := ⟨0x5000 + 0x68, 16, 10, 0x44, .rw⟩
def REG.OL_PERIOD : Fld := ⟨0x5000 + 0x68, 0, 16, 0x1770, .rw⟩
def REG.ISNS_GAIN : Fld := ⟨0x5000 + 0x6c, 16, 16, 0x1388, .rw⟩
def REG.ISNS_OFFSET : Fld := ⟨0x5000 + 0x6c, 0, 12, 0x258, .rw⟩
def REG.PROT_OCP : Fld := ⟨0x5000 + 0x70, 24, 8, 0x38, .rw⟩
def REG.PROT_UVP : Fld := ⟨0x5000 + 0x70, 10, 10, 0x1F4, .rw⟩
def REG.PROT_OVP : Fld := ⟨0x5000 + 0x70, 0, 10, 0x2F8, .rw⟩
def REG.RETRY_DLY : Fld := ⟨0x5000 + 0x74, 16, 16, 0x0A, .rw⟩
def REG.RETRY_MAX : Fld := ⟨0x5000 + 0x74, 0, 4, 3, .rw⟩
def REG.FSTAT_VALID : Fld := ⟨0x5000 + 0x78, 31, 1, 0, .w1c⟩
def REG.FSTAT_TRIPCNT : Fld := ⟨0x5000 + 0x78, 16, 4, 0, .ro⟩
def REG.FSTAT_OCPH : Fld := ⟨0x5000 + 0x78, 8, 4, 0, .ro⟩
def REG.FSTAT_VINLO : Fld := ⟨0x5000 + 0x78, 2, 1, 0, .ro⟩
def REG.FSTAT_OV : Fld := ⟨0x5000 + 0x78, 1, 1, 0, .ro⟩
def REG.FSTAT_OC : Fld := ⟨0x5000 + 0x78, 0, 1, 0, .ro⟩
def REG.VIN_MV : Fld := ⟨0x5000 + 0x7c, 0, 16, 0, .ro⟩
def REG.VOUT_TGT : Fld := ⟨0x5000 + 0x80, 16, 10, 0, .ro⟩
def REG.VOUT_MEAS : Fld := ⟨0x5000 + 0x80, 0, 10, 0, .ro⟩
def REG.IMEAS_TOTAL : Fld := ⟨0x5000 + 0x84, 0, 16, 0, .ro⟩
def REG.IPH_CUR (i : Nat) : Fld := ⟨0x5000 + 0x88 + 4 * i, 0, 16, 0, .ro⟩
def REG.DTSTS_LH (i : Nat) : Fld := ⟨0x5000 + 0x98 + 4 * i, 8, 8, 0x30, .ro⟩
def REG.DTSTS_HL (i : Nat) : Fld := ⟨0x5000 + 0x98 + 4 * i, 0, 8, 0x30, .ro⟩
def REG.FFCNT_LATE : Fld := ⟨0x5000 + 0xa8, 16, 16, 0, .ro⟩
def REG.FFCNT_NOTICES : Fld := ⟨0x5000 + 0xa8, 0, 16, 0, .ro⟩
def REG.AUX_HIGH (i : Nat) : Fld := ⟨0x5000 + 0xb0 + 4 * i, 16, 16, 0, .rw⟩
def REG.AUX_PERIOD (i : Nat) : Fld := ⟨0x5000 + 0xb0 + 4 * i, 0, 16, 0, .rw⟩
def REG.AUXCTL_INV1 : Fld := ⟨0x5000 + 0xb8, 5, 1, 0, .rw⟩
def REG.AUXCTL_INV0 : Fld := ⟨0x5000 + 0xb8, 4, 1, 0, .rw⟩
def REG.AUXCTL_EN1 : Fld := ⟨0x5000 + 0xb8, 1, 1, 0, .rw⟩
def REG.AUXCTL_EN0 : Fld := ⟨0x5000 + 0xb8, 0, 1, 0, .rw⟩

/-- The registers of the REG page: offset, stride, count, shadowed, fields (04_core_supply_regulator.md, R116). -/
def REG.table : List RegT :=
  [⟨0x8, 4, 1, false, fun _ => []⟩, ⟨0xC, 4, 1, false, fun _ => [REG.STS_PG, REG.STS_NPH, REG.STS_BUSY, REG.STS_KEPT, REG.STS_STATE]⟩,
   ⟨0x18, 4, 1, false, fun _ => [REG.ISR_ERR, REG.ISR_TRIP, REG.ISR_UV, REG.ISR_DTCLAMP, REG.ISR_FFLATE]⟩, ⟨0x1C, 4, 1, false, fun _ => [REG.IER]⟩
   , ⟨0x40, 4, 1, true, fun _ => [REG.VSET_CODE]⟩
   , ⟨0x44, 4, 1, true, fun _ => [REG.LL_MOHM]⟩
   , ⟨0x48, 4, 1, false, fun _ => [REG.SLEW_RATE]⟩
   , ⟨0x4c, 4, 1, false, fun _ => [REG.TON_ADAPT, REG.TON_VAL]⟩
   , ⟨0x50, 4, 1, false, fun _ => [REG.TLIM_TOFF_MIN, REG.TLIM_TON_MIN]⟩
   , ⟨0x54, 4, 1, false, fun _ => [REG.DT_MAX, REG.DT_MIN, REG.DT_INIT, REG.DT_ADAPT]⟩
   , ⟨0x58, 4, 1, true, fun _ => [REG.PHTH_ADD4, REG.PHTH_SHED4, REG.PHTH_ADD2, REG.PHTH_SHED2]⟩
   , ⟨0x5c, 4, 1, false, fun _ => [REG.PHCTL_SHED_EN, REG.PHCTL_MAXPH]⟩
   , ⟨0x60, 4, 1, false, fun _ => [REG.FF_GAIN, REG.FF_MAX, REG.FF_HOLD, REG.FF_EN]⟩
   , ⟨0x64, 4, 1, false, fun _ => [REG.MODE_KEY, REG.MODE_OPEN]⟩
   , ⟨0x68, 4, 1, false, fun _ => [REG.OL_DUTY, REG.OL_PERIOD]⟩
   , ⟨0x6c, 4, 1, false, fun _ => [REG.ISNS_GAIN, REG.ISNS_OFFSET]⟩
   , ⟨0x70, 4, 1, false, fun _ => [REG.PROT_OCP, REG.PROT_UVP, REG.PROT_OVP]⟩
   , ⟨0x74, 4, 1, false, fun _ => [REG.RETRY_DLY, REG.RETRY_MAX]⟩
   , ⟨0x78, 4, 1, false, fun _ => [REG.FSTAT_VALID, REG.FSTAT_TRIPCNT, REG.FSTAT_OCPH, REG.FSTAT_VINLO, REG.FSTAT_OV, REG.FSTAT_OC]⟩
   , ⟨0x7c, 4, 1, false, fun _ => [REG.VIN_MV]⟩
   , ⟨0x80, 4, 1, false, fun _ => [REG.VOUT_TGT, REG.VOUT_MEAS]⟩
   , ⟨0x84, 4, 1, false, fun _ => [REG.IMEAS_TOTAL]⟩
   , ⟨0x88, 4, 4, false, fun i => [REG.IPH_CUR i]⟩
   , ⟨0x98, 4, 4, false, fun i => [REG.DTSTS_LH i, REG.DTSTS_HL i]⟩
   , ⟨0xa8, 4, 1, false, fun _ => [REG.FFCNT_LATE, REG.FFCNT_NOTICES]⟩
   , ⟨0xb0, 4, 2, false, fun i => [REG.AUX_HIGH i, REG.AUX_PERIOD i]⟩
   , ⟨0xb8, 4, 1, false, fun _ => [REG.AUXCTL_INV1, REG.AUXCTL_INV0, REG.AUXCTL_EN1, REG.AUXCTL_EN0]⟩]

/-! ### INTC: 02_register_pages_and_interrupts.md, R64 -/

def INTC.ISR_ERR : Fld := ⟨0x6000 + 0x18, 0, 1, 0, .w1c⟩
def INTC.IER : Fld := ⟨0x6000 + 0x1C, 0, 1, 0, .rw⟩
def INTC.PEND (i : Nat) : Fld := ⟨0x6000 + 0x40 + 4 * (i / 32), i % 32, 1, 0, .ro⟩
def INTC.SETPEND (i : Nat) : Fld := ⟨0x6000 + 0x60 + 4 * (i / 32), i % 32, 1, 0, .wo⟩
def INTC.CLRPEND (i : Nat) : Fld := ⟨0x6000 + 0x80 + 4 * (i / 32), i % 32, 1, 0, .wo⟩
def INTC.ENABLE (i : Nat) : Fld := ⟨0x6000 + 0xa0 + 4 * (i / 32), i % 32, 1, (if i = 15 then 1 else 0), (if i = 15 then Acc.ro else Acc.rw)⟩
def INTC.INSVC (i : Nat) : Fld := ⟨0x6000 + 0xc0 + 4 * (i / 32), i % 32, 1, 0, .ro⟩
def INTC.TYPE (i : Nat) : Fld := ⟨0x6000 + 0xe0 + 4 * (i / 32), i % 32, 1, (intcType i), .ro⟩
def INTC.EOI_SRC : Fld := ⟨0x6000 + 0x100, 0, 8, 0, .wo⟩
def INTC.ROUTE_TGT (i : Nat) : Fld := ⟨0x6000 + 0x400 + 4 * i, 0, 8, (if i = 15 then 0x22 else 0xFF), (if i = 15 then Acc.ro else Acc.rw)⟩
def INTC.MSIXAL_V (i : Nat) : Fld := ⟨0x6000 + 0x800 + 16 * i, 0, 32, 0, .rw⟩
def INTC.MSIXAH_V (i : Nat) : Fld := ⟨0x6000 + 0x804 + 16 * i, 0, 32, 0, .rw⟩
def INTC.MSIXDATA_V (i : Nat) : Fld := ⟨0x6000 + 0x808 + 16 * i, 0, 32, 0, .rw⟩
def INTC.MSIXCTL_MASK (i : Nat) : Fld := ⟨0x6000 + 0x80c + 16 * i, 0, 1, 1, .rw⟩
def INTC.PBA (i : Nat) : Fld := ⟨0x6000 + 0xc00 + 4 * (i / 32), i % 32, 1, 0, .ro⟩

/-- The registers of the INTC page: offset, stride, count, shadowed, fields (02_register_pages_and_interrupts.md, R64). -/
def INTC.table : List RegT :=
  [⟨0x8, 4, 1, false, fun _ => []⟩, ⟨0xC, 4, 1, false, fun _ => []⟩,
   ⟨0x18, 4, 1, false, fun _ => [INTC.ISR_ERR]⟩, ⟨0x1C, 4, 1, false, fun _ => [INTC.IER]⟩
   , ⟨0x40, 4, 8, false, fun i => (List.range 32).map fun b => INTC.PEND (32 * i + b)⟩
   , ⟨0x60, 4, 8, false, fun i => (List.range 32).map fun b => INTC.SETPEND (32 * i + b)⟩
   , ⟨0x80, 4, 8, false, fun i => (List.range 32).map fun b => INTC.CLRPEND (32 * i + b)⟩
   , ⟨0xa0, 4, 8, false, fun i => (List.range 32).map fun b => INTC.ENABLE (32 * i + b)⟩
   , ⟨0xc0, 4, 8, false, fun i => (List.range 32).map fun b => INTC.INSVC (32 * i + b)⟩
   , ⟨0xe0, 4, 8, false, fun i => (List.range 32).map fun b => INTC.TYPE (32 * i + b)⟩
   , ⟨0x100, 4, 1, false, fun _ => [INTC.EOI_SRC]⟩
   , ⟨0x400, 4, 256, false, fun i => [INTC.ROUTE_TGT i]⟩
   , ⟨0x800, 16, 32, false, fun i => [INTC.MSIXAL_V i]⟩
   , ⟨0x804, 16, 32, false, fun i => [INTC.MSIXAH_V i]⟩
   , ⟨0x808, 16, 32, false, fun i => [INTC.MSIXDATA_V i]⟩
   , ⟨0x80c, 16, 32, false, fun i => [INTC.MSIXCTL_MASK i]⟩
   , ⟨0xc00, 4, 1, false, fun i => (List.range 32).map fun b => INTC.PBA (32 * i + b)⟩]

/-! ### STORE: 17_store_and_updates.md, R381 -/

def STORE.STS_STATE : Fld := ⟨0x7000 + 0xC, 0, 4, 0, .ro⟩
def STORE.ISR_ERR : Fld := ⟨0x7000 + 0x18, 0, 1, 0, .w1c⟩
def STORE.ISR_CORR : Fld := ⟨0x7000 + 0x18, 1, 1, 0, .w1c⟩
def STORE.ISR_SETCHG : Fld := ⟨0x7000 + 0x18, 2, 1, 0, .w1c⟩
def STORE.ISR_SEGLOW : Fld := ⟨0x7000 + 0x18, 3, 1, 0, .w1c⟩
def STORE.IER : Fld := ⟨0x7000 + 0x1C, 0, 4, 0, .rw⟩
def STORE.SETSTS_SCHEMA : Fld := ⟨0x7000 + 0x40, 16, 16, 0, .ro⟩
def STORE.SETSTS_STATE : Fld := ⟨0x7000 + 0x40, 0, 4, 0, .ro⟩
def STORE.JSTS_FREE : Fld := ⟨0x7000 + 0x44, 16, 6, 0, .ro⟩
def STORE.JSTS_HEAD : Fld := ⟨0x7000 + 0x44, 0, 16, 0, .ro⟩
def STORE.LIVE_BYTES : Fld := ⟨0x7000 + 0x48, 0, 21, 0, .ro⟩
def STORE.CORR_COUNT : Fld := ⟨0x7000 + 0x4c, 0, 32, 0, .ro⟩
def STORE.UNCORR_VALID : Fld := ⟨0x7000 + 0x50, 31, 1, 0, .ro⟩
def STORE.UNCORR_LINE : Fld := ⟨0x7000 + 0x50, 0, 18, 0, .ro⟩
def STORE.FUSE_KEYSET : Fld := ⟨0x7000 + 0x54, 31, 1, 1, .ro⟩
def STORE.FUSE_SVN : Fld := ⟨0x7000 + 0x54, 0, 6, 0, .ro⟩
def STORE.KEYHASH_V (i : Nat) : Fld := ⟨0x7000 + 0x60 + 4 * i, 0, 32, 0, .ro⟩

/-- The registers of the STORE page: offset, stride, count, shadowed, fields (17_store_and_updates.md, R381). -/
def STORE.table : List RegT :=
  [⟨0x8, 4, 1, false, fun _ => []⟩, ⟨0xC, 4, 1, false, fun _ => [STORE.STS_STATE]⟩,
   ⟨0x18, 4, 1, false, fun _ => [STORE.ISR_ERR, STORE.ISR_CORR, STORE.ISR_SETCHG, STORE.ISR_SEGLOW]⟩, ⟨0x1C, 4, 1, false, fun _ => [STORE.IER]⟩
   , ⟨0x40, 4, 1, false, fun _ => [STORE.SETSTS_SCHEMA, STORE.SETSTS_STATE]⟩
   , ⟨0x44, 4, 1, false, fun _ => [STORE.JSTS_FREE, STORE.JSTS_HEAD]⟩
   , ⟨0x48, 4, 1, false, fun _ => [STORE.LIVE_BYTES]⟩
   , ⟨0x4c, 4, 1, false, fun _ => [STORE.CORR_COUNT]⟩
   , ⟨0x50, 4, 1, false, fun _ => [STORE.UNCORR_VALID, STORE.UNCORR_LINE]⟩
   , ⟨0x54, 4, 1, false, fun _ => [STORE.FUSE_KEYSET, STORE.FUSE_SVN]⟩
   , ⟨0x60, 4, 12, false, fun i => [STORE.KEYHASH_V i]⟩]

/-! ### UPD: 17_store_and_updates.md, R381 -/

def UPD.STS_BUSY : Fld := ⟨0x8000 + 0xC, 8, 1, 0, .ro⟩
def UPD.STS_STATE : Fld := ⟨0x8000 + 0xC, 0, 4, 0, .ro⟩
def UPD.ISR_ERR : Fld := ⟨0x8000 + 0x18, 0, 1, 0, .w1c⟩
def UPD.ISR_DONE : Fld := ⟨0x8000 + 0x18, 1, 1, 0, .w1c⟩
def UPD.ISR_RXDONE : Fld := ⟨0x8000 + 0x18, 2, 1, 0, .w1c⟩
def UPD.ISR_VFAIL : Fld := ⟨0x8000 + 0x18, 3, 1, 0, .w1c⟩
def UPD.IER : Fld := ⟨0x8000 + 0x1C, 0, 4, 0, .rw⟩
def UPD.CMD_KEY : Fld := ⟨0x8000 + 0x40, 16, 16, 0, .wo⟩
def UPD.CMD_OP : Fld := ⟨0x8000 + 0x40, 0, 4, 0, .wo⟩
def UPD.RCVD_N : Fld := ⟨0x8000 + 0x44, 0, 23, 0, .ro⟩
def UPD.TOTAL_N : Fld := ⟨0x8000 + 0x48, 0, 23, 0, .ro⟩
def UPD.RESULT_CODE : Fld := ⟨0x8000 + 0x4c, 0, 8, 0, .ro⟩
def UPD.SLOTS_PEND : Fld := ⟨0x8000 + 0x50, 16, 1, 0, .ro⟩
def UPD.SLOTS_TRIES : Fld := ⟨0x8000 + 0x50, 8, 4, 0, .ro⟩
def UPD.SLOTS_RVT : Fld := ⟨0x8000 + 0x50, 2, 1, 0, .ro⟩
def UPD.SLOTS_TRIAL : Fld := ⟨0x8000 + 0x50, 1, 1, 0, .ro⟩
def UPD.SLOTS_ACTIVE : Fld := ⟨0x8000 + 0x50, 0, 1, 0, .ro⟩
def UPD.IMGVER_V : Fld := ⟨0x8000 + 0x54, 0, 32, 0, .ro⟩
def UPD.IMGSCH_SVN : Fld := ⟨0x8000 + 0x58, 16, 6, 0, .ro⟩
def UPD.IMGSCH_SCHEMA : Fld := ⟨0x8000 + 0x58, 0, 16, 0, .ro⟩

/-- The registers of the UPD page: offset, stride, count, shadowed, fields (17_store_and_updates.md, R381). -/
def UPD.table : List RegT :=
  [⟨0x8, 4, 1, false, fun _ => []⟩, ⟨0xC, 4, 1, false, fun _ => [UPD.STS_BUSY, UPD.STS_STATE]⟩,
   ⟨0x18, 4, 1, false, fun _ => [UPD.ISR_ERR, UPD.ISR_DONE, UPD.ISR_RXDONE, UPD.ISR_VFAIL]⟩, ⟨0x1C, 4, 1, false, fun _ => [UPD.IER]⟩
   , ⟨0x40, 4, 1, false, fun _ => [UPD.CMD_KEY, UPD.CMD_OP]⟩
   , ⟨0x44, 4, 1, false, fun _ => [UPD.RCVD_N]⟩
   , ⟨0x48, 4, 1, false, fun _ => [UPD.TOTAL_N]⟩
   , ⟨0x4c, 4, 1, false, fun _ => [UPD.RESULT_CODE]⟩
   , ⟨0x50, 4, 1, false, fun _ => [UPD.SLOTS_PEND, UPD.SLOTS_TRIES, UPD.SLOTS_RVT, UPD.SLOTS_TRIAL, UPD.SLOTS_ACTIVE]⟩
   , ⟨0x54, 4, 1, false, fun _ => [UPD.IMGVER_V]⟩
   , ⟨0x58, 4, 1, false, fun _ => [UPD.IMGSCH_SVN, UPD.IMGSCH_SCHEMA]⟩]

/-! ### HIF: 08_host_link_and_fifos.md, R191 -/

def HIF.STS_STATE : Fld := ⟨0x9000 + 0xC, 0, 4, 0, .ro⟩
def HIF.ISR_ERR : Fld := ⟨0x9000 + 0x18, 0, 1, 0, .w1c⟩
def HIF.ISR_LDOWN : Fld := ⟨0x9000 + 0x18, 1, 1, 0, .w1c⟩
def HIF.ISR_LUP : Fld := ⟨0x9000 + 0x18, 2, 1, 0, .w1c⟩
def HIF.IER : Fld := ⟨0x9000 + 0x1C, 0, 3, 0, .rw⟩
def HIF.LINK_DSTATE : Fld := ⟨0x9000 + 0x40, 12, 4, 0, .ro⟩
def HIF.LINK_WIDTH : Fld := ⟨0x9000 + 0x40, 4, 4, 0, .ro⟩
def HIF.LINK_SPEED : Fld := ⟨0x9000 + 0x40, 0, 4, 0, .ro⟩
def HIF.B2BASE_SEL : Fld := ⟨0x9000 + 0x44, 0, 3, 0, .rw⟩
def HIF.LDCNT_COUNT : Fld := ⟨0x9000 + 0x48, 0, 16, 0, .ro⟩

/-- The registers of the HIF page: offset, stride, count, shadowed, fields (08_host_link_and_fifos.md, R191). -/
def HIF.table : List RegT :=
  [⟨0x8, 4, 1, false, fun _ => []⟩, ⟨0xC, 4, 1, false, fun _ => [HIF.STS_STATE]⟩,
   ⟨0x18, 4, 1, false, fun _ => [HIF.ISR_ERR, HIF.ISR_LDOWN, HIF.ISR_LUP]⟩, ⟨0x1C, 4, 1, false, fun _ => [HIF.IER]⟩
   , ⟨0x40, 4, 1, false, fun _ => [HIF.LINK_DSTATE, HIF.LINK_WIDTH, HIF.LINK_SPEED]⟩
   , ⟨0x44, 4, 1, false, fun _ => [HIF.B2BASE_SEL]⟩
   , ⟨0x48, 4, 1, false, fun _ => [HIF.LDCNT_COUNT]⟩]

/-! ### MBX: 08_host_link_and_fifos.md, R191 -/

def MBX.STS_STATE : Fld := ⟨0xa000 + 0xC, 0, 4, 0, .ro⟩
def MBX.ISR_ERR : Fld := ⟨0xa000 + 0x18, 0, 1, 0, .w1c⟩
def MBX.ISR_RSP : Fld := ⟨0xa000 + 0x18, 1, 1, 0, .w1c⟩
def MBX.IER : Fld := ⟨0xa000 + 0x1C, 0, 2, 0, .rw⟩
def MBX.REQ_W (i : Nat) : Fld := ⟨0xa000 + 0x40 + 4 * i, 0, 32, 0, .rw⟩
def MBX.RSP_W (i : Nat) : Fld := ⟨0xa000 + 0x80 + 4 * i, 0, 32, 0, .ro⟩
def MBX.MBCTL_ACK : Fld := ⟨0xa000 + 0xc0, 1, 1, 0, .w1s⟩
def MBX.MBCTL_RING : Fld := ⟨0xa000 + 0xc0, 0, 1, 0, .w1s⟩

/-- The registers of the MBX page: offset, stride, count, shadowed, fields (08_host_link_and_fifos.md, R191). -/
def MBX.table : List RegT :=
  [⟨0x8, 4, 1, false, fun _ => []⟩, ⟨0xC, 4, 1, false, fun _ => [MBX.STS_STATE]⟩,
   ⟨0x18, 4, 1, false, fun _ => [MBX.ISR_ERR, MBX.ISR_RSP]⟩, ⟨0x1C, 4, 1, false, fun _ => [MBX.IER]⟩
   , ⟨0x40, 4, 16, false, fun i => [MBX.REQ_W i]⟩
   , ⟨0x80, 4, 16, false, fun i => [MBX.RSP_W i]⟩
   , ⟨0xc0, 4, 1, false, fun _ => [MBX.MBCTL_ACK, MBX.MBCTL_RING]⟩]

/-! ### BFIFO: 08_host_link_and_fifos.md, R191 -/

def BFIFO.CTL_LRST (n : Nat) : Fld := ⟨0x60000 + 0x1000 * n + 0x8, 1, 1, 0, .w1s⟩
def BFIFO.CTL_EN (n : Nat) : Fld := ⟨0x60000 + 0x1000 * n + 0x8, 0, 1, 0, .rw⟩
def BFIFO.STS_BUSY (n : Nat) : Fld := ⟨0x60000 + 0x1000 * n + 0xC, 8, 1, 0, .ro⟩
def BFIFO.STS_STATE (n : Nat) : Fld := ⟨0x60000 + 0x1000 * n + 0xC, 0, 4, 0, .ro⟩
def BFIFO.ISR_ERR (n : Nat) : Fld := ⟨0x60000 + 0x1000 * n + 0x18, 0, 1, 0, .w1c⟩
def BFIFO.ISR_OVF (n : Nat) : Fld := ⟨0x60000 + 0x1000 * n + 0x18, 1, 1, 0, .w1c⟩
def BFIFO.ISR_UNF (n : Nat) : Fld := ⟨0x60000 + 0x1000 * n + 0x18, 2, 1, 0, .w1c⟩
def BFIFO.ISR_FRAME (n : Nat) : Fld := ⟨0x60000 + 0x1000 * n + 0x18, 3, 1, 0, .w1c⟩
def BFIFO.DATA_W (n : Nat) : Fld := ⟨0x60000 + 0x1000 * n + 0x40, 0, 32, 0, .wo⟩
def BFIFO.DATA_END_W (n : Nat) : Fld := ⟨0x60000 + 0x1000 * n + 0x44, 0, 32, 0, .wo⟩
def BFIFO.RDATA_END_VALID (n : Nat) : Fld := ⟨0x60000 + 0x1000 * n + 0x48, 1, 1, 0, .ro⟩
def BFIFO.RDATA_END_END (n : Nat) : Fld := ⟨0x60000 + 0x1000 * n + 0x48, 0, 1, 0, .ro⟩
def BFIFO.RDATA_W (n : Nat) : Fld := ⟨0x60000 + 0x1000 * n + 0x4c, 0, 32, 0, .rs⟩
def BFIFO.CFG_DIR (n : Nat) : Fld := ⟨0x60000 + 0x1000 * n + 0x50, 31, 1, 0, (if n = 15 then Acc.ro else Acc.rw)⟩
def BFIFO.CFG_BASE (n : Nat) : Fld := ⟨0x60000 + 0x1000 * n + 0x50, 16, 14, (if n = 15 then 0x3F00 else 0), .rw⟩
def BFIFO.CFG_SIZE (n : Nat) : Fld := ⟨0x60000 + 0x1000 * n + 0x50, 0, 15, (if n = 15 then 0x100 else 0), .rw⟩
def BFIFO.COUNT_PKTS (n : Nat) : Fld := ⟨0x60000 + 0x1000 * n + 0x54, 19, 13, 0, .ro⟩
def BFIFO.COUNT_WORDS (n : Nat) : Fld := ⟨0x60000 + 0x1000 * n + 0x54, 0, 19, 0, .ro⟩

/-- The registers of the BFIFO page: offset, stride, count, shadowed, fields (08_host_link_and_fifos.md, R191). -/
def BFIFO.table (n : Nat) : List RegT :=
  [⟨0x8, 4, 1, false, fun _ => [BFIFO.CTL_LRST n, BFIFO.CTL_EN n]⟩, ⟨0xC, 4, 1, false, fun _ => [BFIFO.STS_BUSY n, BFIFO.STS_STATE n]⟩,
   ⟨0x18, 4, 1, false, fun _ => [BFIFO.ISR_ERR n, BFIFO.ISR_OVF n, BFIFO.ISR_UNF n, BFIFO.ISR_FRAME n]⟩, ⟨0x1C, 4, 1, false, fun _ => []⟩
   , ⟨0x40, 4, 1, false, fun _ => [BFIFO.DATA_W n]⟩
   , ⟨0x44, 4, 1, false, fun _ => [BFIFO.DATA_END_W n]⟩
   , ⟨0x48, 4, 1, false, fun _ => [BFIFO.RDATA_END_VALID n, BFIFO.RDATA_END_END n]⟩
   , ⟨0x4c, 4, 1, false, fun _ => [BFIFO.RDATA_W n]⟩
   , ⟨0x50, 4, 1, false, fun _ => [BFIFO.CFG_DIR n, BFIFO.CFG_BASE n, BFIFO.CFG_SIZE n]⟩
   , ⟨0x54, 4, 1, false, fun _ => [BFIFO.COUNT_PKTS n, BFIFO.COUNT_WORDS n]⟩]

end Sys2Proof.Machine
end

