-- ==== Sys2Proof/Machine/State.lean ====
section
/-! DEFINITION. The state of the 4880 as plain data, the reasons a step can stop, and the state right after reset.
Register contents stand in `regs` (what a read returns) and `act` (the active copy of a shadowed register, R42);
the structures below hold what no register shows. -/

namespace Sys2Proof.Machine

/-- Why the machine stops with a fault. -/
inductive Fault where
  /-- An unsupported condition holds (R5): nothing in the manual says what this command does. Raised by every command
  but a pin reset, a PORESET, a CHIP reset and the rails' own events. Safe: the machine only says less. -/
  | unsupportedCondition
  deriving DecidableEq, Repr

/-- Why a command is refused. -/
inductive Refusal where
  /-- The command has no meaning in this model yet. Raised by its arm of `exec`. Safe. -/
  | notModelled (mnemonic : String)
  deriving DecidableEq, Repr

/-- The scope of an unsupported condition (R5, R411). -/
inductive Unsup where
  | none | core | all
  deriving DecidableEq, Repr

/-- Resets, supplies, clocks, watchdog, commit points: what SYS and CLK hold beside their registers. -/
structure SysSt where
  /-- PORESET is held (R388). -/
  por : Bool := false
  /-- The level of the RESET_N ball. -/
  resetN : Bool := true
  /-- The level of the PERST_N ball. -/
  perstN : Bool := true
  /-- The television's HPD on the HTX connector. -/
  tvHpd : Bool := false
  /-- The 1 ms hold of a CHIP reset runs. -/
  chipHold : Bool := false
  /-- The 10 µs hold of a SERVICE reset runs. -/
  svcHold : Bool := false
  /-- The crystal oscillator's swing has passed its limit (R79, R90). -/
  xoOk : Bool := false
  /-- The swing at XI that the amplitude detector measured last, in mV (R79). -/
  swing : Nat := 0
  /-- The rails that are lost (R390, R391). -/
  off : List Rail := []
  /-- The cell whose control store Utilior reloads in a CELL reset (R77). -/
  reload : Option Nat := Option.none
  /-- Main PLL locked: the root and MTIME run. -/
  pll : Bool := false
  /-- The core reset is released. -/
  coreUp : Bool := false
  /-- What the last PORESET came from: 0 supply, 1 XO loss, 2 main-PLL lock loss (R80). -/
  porCause : Nat := 0
  /-- Bases of the pages in local or CELL reset (R60). -/
  inReset : List Nat := []
  /-- Bases of the pages that ignored a write during their reset (R60, code 0x0004). -/
  lateWr : List Nat := []
  /-- The divider change in progress (R82). -/
  divNow : Option Nat := Option.none
  /-- The last CLK.DIV write accepted during a change (R83). -/
  divNext : Option Nat := Option.none
  /-- MTIME at the watchdog's last restart (R86). -/
  wdog : Nat := 0
  /-- The reset sequence under way (R69): 0 none, 1 SERVICE, 2 CHIP, 3 pin, 4 PORESET. -/
  seq : Nat := 4
  /-- A watchdog SERVICE reset has happened and no kick was accepted since (R88). -/
  wdSvc : Bool := false
  /-- An unsupported condition holds: of nothing, of the core alone, or of everything (R5, log entry 8). -/
  unsup : Unsup := Unsup.none
  /-- Sampled commit points of the pages with a pending commit: (base, point) (R44). -/
  points : List (Nat × Nat) := []
  /-- Members that a group release reached and that have not applied yet: (base, group) (R51). -/
  members : List (Nat × Nat) := []
  /-- The slot the boot ROM verifies or has verified: 0 A, 1 B (R367). -/
  bootSlot : Nat := 0
  /-- The first slot failed and the other is being verified (R91). -/
  bootFallback : Bool := false
  /-- The factory data did not pass their check at CODE 0x04 (R91, R362). -/
  factoryBad : Bool := false
  deriving DecidableEq, Repr

/-- INTC beside its registers. -/
structure IntcSt where
  /-- Level sources whose asserted input INTC has seen (R53). -/
  seen : List Nat := []
  /-- Edge sources whose block has asserted them and which INTC has not taken yet. -/
  edges : List Nat := []
  /-- MSI-X messages sent, by vector, newest last (R57). -/
  msix : List Nat := []
  deriving DecidableEq, Repr

/-- A request of the link that waits (R177): a BAR2 request at a DRAM address, or a BAR0 access with the command it came
as. -/
inductive LinkReq where
  | bar2 (a : Nat) (op : Bar2Op)
  | bar0 (c : Instr)
  deriving DecidableEq, Repr

/-- HIF beside its registers. -/
structure HifSt where
  /-- The configuration space (R175, R176, R191). -/
  cfg : CfgSpace := {}
  /-- BAR2 requests that wait for a training or stalled channel, and the BAR0 accesses that wait for BAR2 writes before
  them, oldest first (R177, Table DMC-5). -/
  waits : List LinkReq := []
  /-- The access under way has waited its turn; only within a tick (R177). -/
  turn : Bool := false
  deriving DecidableEq, Repr

/-- One loop of TIM (R146 to R149). Frequencies are in 0.00001 ppm against XO. -/
structure LoopSt where
  /-- The loop's frequency offset in 1/1000 of 0.01 ppm (R146). -/
  freq : Int := 0
  /-- Sum of the frequency over the current second, and milliseconds of it gone. -/
  acc : Int := 0
  ms : Nat := 0
  /-- The second under way, and the 1 s means of the last 60 s with their seconds, newest first (R148). -/
  sec : Nat := 0
  hist : List (Nat × Int) := []
  /-- The history is frozen, and the second at which it froze (R148). -/
  frozen : Bool := false
  froze : Nat := 0
  /-- Frozen, and LOCKED since: it records again from the next whole second (R148). -/
  thaw : Bool := false
  /-- Milliseconds the output has stayed within 0.05 ppm of its reference (R149). -/
  near : Nat := 0
  deriving DecidableEq, Repr

/-- The outputs of TIM (R150 to R153). Synthesiser time is counted in 1/640 of a synthesiser period. -/
structure OutsSt where
  /-- Synthesiser time gone by, and what is left of a tick's advance below its unit. -/
  syn : Nat := 0
  frac : Nat := 0
  /-- Of each MCLK_OUTn: the synthesiser time from which its divider counts, that divider's exponent, and the one before. -/
  mclk : List (Nat × (Nat × Nat × Nat)) := []
  /-- Synthesiser time since WCLK_OUT rose, and the length of its present period in synthesiser periods. -/
  w : Nat := 0
  wlen : Nat := 512
  /-- WCLK_OUT periods since FSYNC_OUT rose. -/
  f : Nat := 0
  /-- The next rising edge of WCLK_OUT is a delayed one, which sets FSYNC_OUT's count (R153). -/
  fsSet : Bool := false
  /-- WCLK_OUT has risen in this tick, and a pending realignment measures at this edge (R153). -/
  wEdge : Bool := false
  /-- MTIME at which PPS_OUT last rose. -/
  pps : Option Nat := Option.none
  /-- The outputs that run: 0 to 3 MCLK_OUTn, 4 WCLK_OUT, 5 FSYNC_OUT, 6 PPS_OUT (R151). -/
  run : List Nat := []
  /-- How far an instant of the audio reference lies behind the start of synthesiser time, in 10⁻¹¹ ticks of the audio
  outputs (R147). -/
  ph : Int := 0
  deriving DecidableEq, Repr

/-- TIM beside its registers. -/
structure TimSt where
  outs : OutsSt := {}
  /-- The offsets that each monitor has measured since its reference left ABSENT, in 0.00001 ppm, newest first (R136). -/
  meas : List (Nat × List Int) := []
  /-- MTIME at the first pulse on AUX_IN since its signal was last lost, and at the last one (R136, R138). -/
  auxFrom : Option Nat := Option.none
  auxLast : Option Nat := Option.none
  /-- The running timer of each reference's state, in 0.1 s (R138). -/
  timers : List (Nat × Nat) := []
  /-- The audio and the video loop. -/
  aud : LoopSt := {}
  vid : LoopSt := {}
  /-- Switches of the audio domain so far (ISR.ASW). -/
  switches : Nat := 0
  /-- clockClass of the grandmaster whose Announce the PTP block holds (R143). -/
  clockClass : Option Nat := Option.none
  deriving DecidableEq, Repr

/-- Actions that fired events have sent to their blocks and that have not arrived yet (R166). -/
inductive PrsAct where
  | swap (k : Nat) | start (r : Nat) | key (r : Nat) | mute (k : Nat) | unmute (k : Nat) | gpio (n arg : Nat)
  deriving DecidableEq, Repr

/-- An action under way: the slot that fired it, MTIME of its firing, and the slot if its interrupt follows (R166, Table
PRS-3). -/
structure ActUnderWay where
  act : PrsAct
  irq : Option Nat
  slot : Nat
  tick : Nat
  deriving DecidableEq, Repr

/-- PRS beside its registers. Instants are in 1/16 tick (R158). -/
structure PrsSt where
  /-- p of R160: the predicted instant of the tooth to be resolved next. -/
  p : Nat := 0
  /-- per of R160: the tracked period. -/
  per : Nat := 0x1900000
  /-- The tooth at p has fallen and is not resolved. -/
  fell : Bool := false
  /-- A tooth resolved before its instant, which has still to fall (R160, R161). -/
  due : Option Nat := Option.none
  /-- Instant of the last tooth. -/
  last : Nat := 0
  /-- A tooth has fallen since the last reset of PRS (R413). -/
  hasTooth : Bool := false
  /-- Last phase error e. -/
  e : Int := 0
  /-- PERIOD was written and waits for the next resolution (R164). -/
  perNew : Bool := false
  /-- The half-window in force, in ticks (R164). -/
  win : Nat := 0x2000
  /-- A lock has been made since the last reset of PRS (R172). -/
  locked : Bool := false
  /-- The teeth that were MISSED: number and instant (R170). -/
  missed : List (Nat × Nat) := []
  /-- Of each slot that fired as a tooth event, the tooth's number, until it is armed again (R170). -/
  fired : List (Nat × Nat) := []
  /-- SEARCH was entered after reset or after CTL.EN was written 1 (R163). -/
  fresh : Bool := true
  /-- Fitting pulses in a row in SEARCH, and the stamp of the last in ticks. -/
  acq : Nat := 0
  prev : Nat := 0
  /-- Actions under way, oldest first, and those of one tick in ascending slot order (R166, Table PRS-3). -/
  acts : List ActUnderWay := []
  deriving DecidableEq, Repr

/-- A grant of Caddy: consumer, amount in 50 mA, granted start, and whether the consumer has started (R123, R124). -/
structure Grant where
  id : Nat
  amt : Nat
  start : Nat
  begun : Bool
  deriving DecidableEq, Repr

/-- A waiting request: consumer, amount and priority as accepted, requested start, time of acceptance in MTIME,
aged, left out of the order as oversize (R125 to R127). -/
structure Req where
  id : Nat
  amt : Nat
  prio : Nat
  start : Nat
  time : Nat
  aged : Bool
  oversize : Bool
  deriving DecidableEq, Repr

/-- CADDY beside its registers. -/
structure CaddySt where
  /-- Grants held (R121). -/
  grants : List Grant := []
  /-- Requests that wait (R125). -/
  waits : List Req := []
  /-- Consecutive samples above LIMIT, and consecutive samples at or below LIMIT − HYST (R129). -/
  above : Nat := 0
  below : Nat := 0
  /-- Notices sent to REG and not arrived: (amount, start) (R123). -/
  notices : List (Nat × Nat) := []
  /-- The arbitration cycle of the last recomputation of eff, and the eff before it (R132, R133). -/
  effOld : Option (Nat × Nat) := Option.none
  deriving DecidableEq, Repr

/-- A boost of REG (R104): final and present amount in µV / 884736 (the unit in which one MTIME tick of SLEW and of
soft-start is whole), start time, end of its hold in 1/1000 tick, phase 0 before its ramp, 1 ramping up or held, 2
falling. -/
structure Boost where
  goal : Nat
  cur : Nat
  start : Nat
  hold : Nat
  phase : Nat
  deriving DecidableEq, Repr

/-- A pulse in flight: phase, on-time in root periods and the root edge of its start (R98, R107). -/
structure Pulse where
  ph : Nat
  ton : Nat
  start : Nat
  deriving DecidableEq, Repr

/-- REG beside its registers. -/
structure RegSt where
  /-- vset_ramp in µV / 884736 (R96). -/
  ramp : Nat := 640 * 1250 * 884736
  /-- The soft-start under way follows a trip (R114). -/
  afterTrip : Bool := false
  /-- MTIME at which STATE became FAULT or REGULATE (R115). -/
  since : Nat := 0
  /-- Boosts of notices (R104). -/
  boosts : List Boost := []
  /-- Notices received whose start time may not have passed: (amount, start) (R105). -/
  preds : List (Nat × Nat) := []
  /-- Pulses in flight (R97, R98). -/
  pulses : List Pulse := []
  /-- The last phase pulsed (R97). -/
  lastPh : Nat := 3
  /-- The last root edge at which a pulse of REG started or ended, or a write of its on-time was accepted. -/
  edge : Nat := 0
  /-- The root edge of the last pulse start on any phase (R97). -/
  lastStart : Option Nat := Option.none
  /-- The root edge at which each phase turned off last (R97, R107). -/
  offs : List (Nat × Nat) := []
  /-- The phase for which a trigger waits until it has been off for TOFF_MIN (R97, Table REG-7). -/
  trig : Option Nat := Option.none
  /-- The voltage of the rail in µV, as the soft-start found it or as sampled since, which the target of the soft-start
  under way has yet to reach (R116). -/
  bias : Option Nat := Option.none
  /-- Open-loop mode: the root edge at which it began, and that of each phase's last pulse start in it (R108). -/
  olAt : Nat := 0
  olStarts : List (Nat × Nat) := []
  /-- Open-loop mode: the root edge of the last change of the phase count, and the phases that a shorter PERIOD has start
  at once, with the edge (R108). -/
  olFrom : Nat := 0
  olNow : List (Nat × Nat) := []
  /-- The running shed dwell: MTIME of its begin and the phase count it is for (R105). -/
  dwell : Option (Nat × Nat) := Option.none
  /-- MTIME since which the die voltage has held within 50 mV of the soft-start's final target (R116). -/
  nearSince : Option Nat := Option.none
  /-- MTIME since which the die voltage has stayed below UVP, while it is judged (R113). -/
  uvSince : Option Nat := Option.none
  /-- The present excursion under UVP has been reported (R113). -/
  uvSeen : Bool := false
  deriving DecidableEq, Repr

/-- An auxiliary PWM output (R110): PERIOD, HIGH, EN and INV in force, and the start of its present period in 1/64
root period. -/
structure AuxSt where
  period : Nat := 0
  high : Nat := 0
  en : Bool := false
  inv : Bool := false
  from64 : Nat := 0
  deriving DecidableEq, Repr

/-- A packet in framing (R186): TYPE and payload bytes; `cut` for one that a local reset cut short (R232). -/
structure Packet where
  typ : Nat
  bytes : List Byte
  cut : Bool := false
  deriving DecidableEq, Repr

/-- A bitstream FIFO and its agent's side (R182 to R186). -/
structure FifoSt where
  /-- The words of the FIFO, oldest first, each with its end mark (R182). -/
  items : List (W32 × Bool) := []
  /-- Agent of an IN FIFO: header and payload words of the packet being taken. -/
  taking : Option (Nat × Nat × List W32) := Option.none
  /-- Agent of an IN FIFO: it is discarding through the next end mark (R186). -/
  skip : Bool := false
  /-- Packets taken whole. -/
  taken : List Packet := []
  /-- Agent of an OUT FIFO: words of the packet being put, and the CSCH frame it belongs to (R232). -/
  puts : List (W32 × Bool) := []
  putFor : Option Nat := Option.none
  deriving DecidableEq, Repr

/-- MBX beside its registers: the response words Utilior has made (RSP0 status, then results). -/
structure MbxSt where
  answer : Option (Nat × List Nat) := Option.none
  deriving DecidableEq, Repr

/-- A coding cell beside its registers (R264, R276 to R285). -/
structure CellSt where
  /-- The 128 KiB of the control store: bytes that are not 0 (R274, R280). -/
  store : List (Nat × Byte) := []
  /-- The store was loaded and passed its check (R280). -/
  loaded : Bool := false
  /-- The window latch (R284). -/
  latch : CsWord := 0
  /-- Write-backs requested, oldest first: word and corrected contents (R282). -/
  wb : List (Nat × CsWord) := []
  /-- The strip on the cell: frame number in `CschSt.frames`, strip index. -/
  job : Option (Nat × Nat) := Option.none
  /-- Requested start of the strip (R225, R226). -/
  reqStart : Nat := 0
  /-- The sequencer (R276): its address, the microword fetched from there, the return addresses held, newest first, the
  loop counters that are not 0, and whether the strip has reached END. -/
  pc : Nat := 0
  word : Nat := 0
  stack : List Nat := []
  loops : List (Nat × Nat) := []
  ended : Bool := false
  /-- The commands that the resources of Table CELL-5 from CNT to EC are given in the present cycle: OP and ARG (R275). -/
  drive : List (Nat × Nat) := []
  /-- The strip's input in each layer that a cell codes, luma rows then chroma rows (R238). -/
  input : List (List (List Nat)) := []
  /-- The strip's rectangles of its bound boxes, per layer (R245): x0, x1, y0, y1, offset. -/
  bound : List (List (Int × Int × Int × Int × Int)) := []
  /-- Quality offsets delivered to the cell: per layer, per unit in raster order of the strip (R246, R303). -/
  qmap : List (List Int) := []
  /-- The QP of each of those units (R246). -/
  uqp : List (List Nat) := []
  deriving DecidableEq, Repr

/-- A strip of a frame (R223, R257). -/
structure Strip where
  /-- First luma row and luma rows (encode); first decode unit and units (decode). -/
  first : Nat
  count : Nat
  /-- Luma samples n of R227 in 1/1024, weighted for extra layers (R240). -/
  samples : Nat
  /-- The 64 x 64 areas of a decode strip (R262). -/
  areas : List Nat := []
  /-- 0 waiting, 1 on a cell, 2 ended. -/
  st : Nat := 0
  /-- To be re-issued, or a concealment strip (R265, R267). -/
  reissue : Bool := false
  conceal : Bool := false
  /-- The estimate est of R227, made when the frame's first strip is next (R228), and that of the dispatch (R265). -/
  est : Nat := 0
  estS : Nat := 0
  /-- The effort of R244, once set. -/
  effort : Option Nat := Option.none
  /-- A decode strip: the picture of its frame that it belongs to; it has been parsed to its end on a cell (R258); and it
  is lost and writes its concealed samples once the earlier strips at its boundaries have ended (R258, R269). -/
  pic : Nat := 0
  parsed : Bool := false
  lost : Bool := false
  /-- The strip's QP per layer, once chosen: a re-issue keeps it (R242, R252). -/
  qp : List Nat := []
  /-- The layers in which it was coded as a skip strip to hold the buffer (R242). -/
  skips : List Nat := []
  /-- Coded bytes per layer, and the QPs of its units per layer: their sum and number, once ended (R215, R235). -/
  bytes : List (List Byte) := []
  quants : List (Nat × Nat) := []
  deriving DecidableEq, Repr

/-- An encode layer record of a descriptor (Table CSCH-4). -/
structure LayerRec where
  obuf : Nat
  obsize : Nat
  lflags : Nat
  mpt : Nat
  deriving DecidableEq, Repr

/-- A picture that a decode ring keeps for reference: the number of its frame among the ring's decode frames, its place in
that frame, its pool entry, its area columns, and the damage-map entries kept with it that are not 0 (R259, R262). -/
structure Kept where
  seq : Nat
  pic : Nat := 0
  entry : Nat
  cols : Nat := 0
  damage : List (Nat × Nat)
  deriving DecidableEq, Repr

/-- A fetched frame (R221 to R232). -/
structure Frame where
  /-- Number given at fetch; names the frame for cells and for the ISP. -/
  num : Nat
  /-- The ring, the descriptor's slot and its FRAMEID (R221). -/
  ring : Nat
  slot : Nat
  fid : Nat := 0
  /-- 0 NOP, 1 encode, 2 decode. -/
  op : Nat := 0
  /-- STD of the descriptor (Table CSCH-3). -/
  std : Nat := 0
  /-- FLAGS: [0] WAIT_START, [1] IRQ, [2] KEY. -/
  flags : Nat := 0
  /-- NLAYER, TIME, DEADLINE, the context, the surface, and a decode frame's bitstream (Table CSCH-3). -/
  nlayer : Nat := 0
  time : Nat := 0
  deadline : Nat := 0
  ctx : Nat := 0
  surf : Nat := 0
  bslen : Nat := 0
  bsaddr : Nat := 0
  /-- The layer records (Table CSCH-4). -/
  layers : List LayerRec := []
  /-- Parameter bank (R250). -/
  bank : Nat := 0
  /-- Fetched with RCFG.ISPLINK, and bound to an ISP frame (R224, R299). -/
  linked : Bool := false
  bound : Bool := false
  /-- Input rows of the frame in DRAM (R224). -/
  rowsIn : Nat := 0
  /-- Started; and for WAIT_START, its START has come (R224). -/
  started : Bool := false
  want : Bool := false
  /-- The first strip has been dispatched (R228). -/
  dispatched : Bool := false
  /-- The frame's strips (R223, R257). -/
  strips : List Strip := []
  /-- Grant-lag sum (R226) and the lowest effort used (R244). -/
  lag : Nat := 0
  effort : Nat := 100
  /-- Layers coded as a key picture, bit per layer (R248). -/
  keyMask : Nat := 0
  /-- Frame index and unit rows coded intra, (first, past last), per layer (R239, R249, R268). -/
  index : List Nat := []
  intra : List (List (Nat × Nat)) := []
  /-- Encode: the pool entry that each layer's reconstruction goes to, and those it predicts from, first reference first:
  the choice of an entry is free (R239, R259). -/
  pools : List Nat := []
  refPools : List (List Nat) := []
  /-- Encode: what each layer's access unit says (R238, R243, R247), and the unit row of its intra-refresh band: blocks
  above it point only above it in their reference (R249). -/
  syn : List UnitSyn := []
  above : List (Option Nat) := []
  /-- Decode: the frame's number among the ring's decode frames, the pool entry of each of its pictures, its references by
  their places, then the pictures that its pictures show again, and its pictures that have ended (R258, R259). -/
  seq : Nat := 0
  pool : List (Option Nat) := []
  kept : List (Option Kept) := []
  done : List Nat := []
  /-- The bitstream of a decode frame is where the cells read it (R256), whole or cut short. -/
  staged : Bool := true
  cutShort : Bool := false
  /-- What a decode frame's syntax says (R257), and its pictures that are concealed whole for what their headers show
  (Table CSCH-18, kinds 1, 2 and 6). -/
  info : Option PicInfo := Option.none
  gone : List Nat := []
  /-- A status given without coding: 2 dropped, 3 rejected, 5 flushed (Table CSCH-5). -/
  status : Nat := 0
  /-- RFLAGS but for KEY and QLOW. -/
  rflags : Nat := 0
  /-- A layer overflowed its output buffer (R222). -/
  overflow : Bool := false
  /-- The first decode error kind met, and the damage-map entries that are not 0 (Table CSCH-18, R262). -/
  errKind : Nat := 0
  /-- The picture and the area of that error. -/
  errAt : Nat × Nat := (0, 0)
  damage : List (Nat × Nat) := []
  /-- A decode error of the bitstream, not of a cell alone (R260, R269). -/
  bsError : Bool := false
  /-- Encode: the stream headers of each layer (R238, R243, R247). -/
  heads : List Head := []
  /-- Coded bytes of each layer (Table CSCH-5). -/
  bytes : List Nat := []
  /-- The frame has ended at this MTIME. -/
  endT : Option Nat := Option.none
  /-- Layers whose BFIFO copy, or whose reading by the packetizer, is still due (R232, R344). -/
  copies : List Nat := []
  mptDue : List Nat := []
  deriving DecidableEq, Repr

/-- What CSCH keeps per layer of a ring (R239, R241, R248, R249, R268). -/
structure LayerSt where
  /-- A frame of this layer has been coded since the ring started. -/
  begun : Bool := false
  /-- Frame index c of the last coded frame, and coded frames since the last key picture. -/
  c : Nat := 0
  since : Nat := 0
  /-- Bucket B in bits. -/
  bucket : Int := 0
  /-- R222 asks for a key picture. -/
  overflow : Bool := false
  /-- Unit rows to code as intra in the next coded frame: (first, past last); and in the next frame whose index is a
  multiple of a TEMPORAL layer's factor: (factor, first, past last) (R268). -/
  refresh : List (Nat × Nat) := []
  refreshT : List (Nat × Nat × Nat) := []
  /-- The pictures in the layer's pool: frame index and pool entry, newest first (R239, R247). -/
  pics : List (Nat × Nat) := []
  /-- GIRN in force, and coded frames of its cycle so far (R249, R250). -/
  girn : Nat := 0
  gir : Nat := 0
  deriving DecidableEq, Repr

/-- What CSCH keeps per ring. -/
structure RingSt where
  /-- No frame has been coded since RCFG.EN was written 1 (R248). -/
  first : Bool := true
  /-- Per layer. -/
  layers : List (Nat × LayerSt) := []
  /-- The last coded frame's size, NLAYER and, per layer, LTYPE FACTOR SRC POOL bytes (R248, R250). -/
  lastCfg : Option ((Nat × Nat) × List (List Byte)) := Option.none
  /-- HRDVIOL of the stream status (R241). -/
  hrdViol : Nat := 0
  /-- Decode: BSERR of the context (Table CSCH-17), the address of the context last used, decode frames accepted, the
  pictures kept for reference, and the pool entry of the concealment source (R259, R261). -/
  bsErr : Nat := 0
  ctx : Nat := 0
  decNum : Nat := 0
  dpb : List Kept := []
  concealSrc : Option Nat := Option.none
  /-- A picture has been decoded since the last reset of CSCH (R273). -/
  decoded : Bool := false
  /-- EN was written 1 while the ring was STOPPING: it runs again once OFF. -/
  again : Bool := false
  deriving DecidableEq, Repr

/-- CSCH beside its registers. -/
structure CschSt where
  /-- Frames from fetch to record, in the order of fetch. -/
  frames : List Frame := []
  /-- The number that the next fetched frame gets. -/
  nextNum : Nat := 0
  /-- Per ring. -/
  rings : List (Nat × RingSt) := []
  /-- What is left of TCF's two counters below a KiB, in half bytes (Table TCF-3). -/
  rdPlain : Nat := 0
  rdStored : Nat := 0
  deriving DecidableEq, Repr

/-- A CSI port beside its registers (R290 to R292, R305). -/
structure CsiSt where
  /-- DEST of the frame in progress: 1 in-line, 2 raw, 0 discarded. -/
  dest : Nat := 0
  /-- The capture stamp of the last frame start (R290). -/
  stamp : Nat := 0
  /-- Lines of the frame so far, as samples of 14 bits (R290); and the stamp and the lines of the frame before. -/
  rows : List (List Nat) := []
  prev : Nat × List (List Nat) := (0, [])
  /-- Lines of the frame repaired so far (R292). -/
  fixes : Nat := 0
  /-- The frame in progress is abandoned (R292, R301). -/
  abandoned : Bool := false
  /-- The ISP has not yet taken the in-line frame's start (R295). -/
  start : Bool := false
  /-- Raw buffer being written, and buffers awaiting a pass, with their stamps (R291). -/
  buf : Nat := 0
  full : List (Nat × Nat) := []
  /-- MTIME of the first and of the last line start of the frame (LINEPER). -/
  line0 : Nat := 0
  lineN : Nat := 0
  /-- MTIME of the last frame start or frame end since the port was enabled (R305). -/
  mark : Option Nat := Option.none
  deriving DecidableEq, Repr

/-- A frame on its way to an ISP output's buffer, with what the output took at its boundary (R295, R298, R299). -/
structure OutJob where
  /-- Source port, whether it is in-line, its raw buffer otherwise, and the capture stamp. -/
  port : Nat
  inline : Bool
  buf : Nat
  stamp : Nat
  /-- Frame number of CSCH that linked CODE feeds (R299). -/
  frame : Option Nat := Option.none
  /-- Ring position, and the surface-table entry it goes to. -/
  pos : Nat
  surf : Nat
  /-- The parameter block, and crop x, y, width, height, output width, height, CSC, FMT and PITCH. -/
  pset : List Byte
  geom : List Nat
  deriving DecidableEq, Repr

/-- An ISP output (R298, R301): its frames in progress, oldest first, and the ring position that the next one goes to. -/
structure OutSt where
  jobs : List OutJob := []
  pos : Nat := 0
  deriving DecidableEq, Repr

/-- ISP beside its registers. -/
structure IspSt where
  /-- Last valid parameter block of each source (R295). -/
  pset : List (Nat × List Byte) := []
  /-- The outputs: 0 DISP, 1 CODE, 2 VIS. -/
  outs : List (Nat × OutSt) := []
  /-- The memory pass in progress: port, buffer (R293). -/
  pass : Option (Nat × Nat) := Option.none
  deriving DecidableEq, Repr

/-- A region box held by VISR (Table CSCH-12). -/
structure Box where
  tc : Nat
  x : Nat
  y : Nat
  w : Nat
  h : Nat
  vx : Int
  vy : Int
  dqp : Int
  id : Nat
  rings : Nat
  deriving DecidableEq, Repr

/-- VISR beside its registers: the held boxes. -/
structure VisrSt where
  /-- The boxes held (R302). -/
  boxes : List Box := []
  deriving DecidableEq, Repr

/-- A DRAM channel beside its registers (R196 to R203). -/
structure DmcSt where
  /-- What training found beside EYEb, the delays (R196, Table DMC-2): the centre of the CA and CS delays; and per byte lane
  the WCK phase, and the receiver's and the device's VREF that are kept. -/
  centre : Nat := 0
  wckPhase : List Nat := []
  vrefRead : List Nat := []
  vrefWrite : List Nat := []
  /-- A retraining is requested with AT = 1 and waits for a tooth. -/
  atTooth : Bool := false
  /-- MTIME at which a requested retraining fell due; kept until it ends. -/
  dueAt : Option Nat := Option.none
  /-- PWR.SR = 1 was written and the channel has not entered self-refresh. -/
  srDue : Bool := false
  /-- TEMP_DELTA has been reported since the last training (R199). -/
  tempSeen : Bool := false
  /-- Next bank of the refresh rotation, and refreshes that are postponed (R201). -/
  bank : Nat := 0
  postponed : Nat := 0
  /-- When the oldest postponed refresh fell due, in 1/4000000 tick (R201). -/
  owedAt : Nat := 0
  /-- When the next per-bank refresh falls due, in 1/4000000 tick (R201). -/
  refNext : Nat := 0
  /-- MTIME of the last MR4 poll (R201). -/
  mr4At : Nat := 0
  /-- MTIME at which a stall ends, and what the mode-register read under way returns (R203). -/
  stallTo : Option Nat := Option.none
  mrData : Option Nat := Option.none
  /-- The report of an MR4 poll that fell due during a stall (Table DMC-5). -/
  mr4Due : Option Nat := Option.none
  deriving DecidableEq, Repr

/-- A waiting request of a DQOS port: channel, port, DRAM address, acceptance in MTIME (R195, R205). -/
structure DqReq where
  ch : Nat
  port : Nat
  addr : Nat
  time : Nat
  deriving DecidableEq, Repr

/-- DQOS beside its registers. Keys of the maps are channel × 16 + port, of `slots` the channel. -/
structure DqosSt where
  /-- Requests that wait, in order of acceptance. -/
  reqs : List DqReq := []
  /-- Requests whose clients wait because their port's queue is full, in order (R208). -/
  held : List DqReq := []
  /-- Bursts issued in the channel's present window (0–63). -/
  slots : List (Nat × Nat) := []
  /-- Bursts served in the present window. -/
  served : List (Nat × Nat) := []
  /-- GUAR in force for the present window, where it is not the reset default (R206). -/
  guar : List (Nat × Nat) := []
  /-- MTIME since which a port with waiting requests has stayed at urgency 3 (R209). -/
  hot : List (Nat × Nat) := []
  deriving DecidableEq, Repr

/-- HRX beside its registers. -/
structure HrxSt where
  /-- The receive lanes are powered (R308). -/
  lanes : Bool := false
  /-- MTIME at which a pulse began that holds HPD deasserted (R308). -/
  pulse : Option Nat := Option.none
  /-- A lock has been lost since reset: the next one is a return (R313). -/
  lostOnce : Bool := false
  /-- Next frame buffer to write, the newest completed one, and buffers completed since the last output frame edge. -/
  nextBuf : Nat := 0
  newest : Option Nat := Option.none
  done : Nat := 0
  /-- The newest completed buffer has met an edge that did not show it (R317). -/
  unshown : Bool := false
  /-- The frame received last (R312, R317). -/
  frame : Option HdmiFrame := Option.none
  deriving DecidableEq, Repr

/-- HTX beside its registers. -/
structure HtxSt where
  /-- AVMUTE stands in the General Control Packets. -/
  avmute : Bool := false
  /-- Output frame edges left before AVMUTE clears after a change of R313: the edge at which the adopted timing begins, and MUTEF more. -/
  muteLeft : Nat := 0
  /-- The new timing is adopted at the next HRX frame start (R313). -/
  adopt : Bool := false
  /-- Timing in use: HTOT, HACT, VTOT, VACT. -/
  timing : Nat × Nat × Nat × Nat := (0, 0, 0, 0)
  /-- The pixel clock of the timing sent, in Hz as a fraction (R312). -/
  clock : Nat × Nat := (0, 1)
  /-- The output is encrypted (R311). -/
  encrypt : Bool := false
  /-- The television's highest FRL rate, once its HF-SCDB has been read (R314). -/
  tvMax : Option Nat := Option.none
  /-- The television was found without HDCP (R311). -/
  noHdcp : Bool := false
  /-- What the last frame carried: received audio, received InfoFrames, own InfoFrames by number (R315). -/
  audio : Bool := false
  ifPassed : Bool := false
  ifSent : List Nat := []
  deriving DecidableEq, Repr

/-- What plane 0 shows in a frame (R317, R311): nothing, opaque BG, the received picture, or a frame buffer. -/
inductive Plane0 where
  | off | bg | hrx | buffer (k : Nat)
  deriving DecidableEq, Repr

/-- COMP beside its registers. -/
structure CompSt where
  /-- The rest of the frame being sent is black: an underflow (R319), or COMP does not run (R320). -/
  black : Bool := true
  /-- What plane 0 shows. -/
  plane0 : Plane0 := Plane0.off
  /-- Planes 1 to 3 shown in this frame. -/
  shown : List Nat := []
  /-- HDCP blanking has been counted in this frame (R311). -/
  hdcpCounted : Bool := false
  /-- An underflow holds AVMUTE; whole frames without one since (R319). -/
  underflowed : Bool := false
  clean : Nat := 0
  /-- The newest buffer that plane 0 has taken in TOOTH mode. -/
  buf0 : Option Nat := Option.none
  /-- Swaps requested: plane, MTIME of acceptance (R318). -/
  swaps : List (Nat × Nat) := []
  /-- Address [63:32] of plane 3 in use (R318). -/
  curH : Nat := 0
  deriving DecidableEq, Repr

/-- A port of APORT (R326, R327). -/
structure ApPort where
  /-- Gain at the start of the running ramp, or the present gain without one: numerator over denominator. -/
  base : Nat × Nat := (1, 1)
  /-- The running ramp: toward 1 or toward 0, port frames gone, port frames in all. -/
  ramp : Option (Bool × Nat × Nat) := Option.none
  /-- A command that waits for the FS edge: some true unmute, some false mute. -/
  cmd : Option Bool := Option.none
  /-- What the slots carry since the last FS edge: 0 silence, 1 zeros, 2 LPCM, 3 IEC 61937, 4 the DSP's slots in, 5
  zeros for want of lock (R325, R326, R328). -/
  carries : Nat := 0
  /-- The words of the slots of the present port frame, in order (R324, R325). -/
  slots : List W32 := []
  /-- The words that came from the source at the last port frames, newest first, and how many port frames later the slots
  carry them (R326). -/
  hist : List (List W32) := []
  lag : Nat := 0
  /-- Port frames so far, and of the last 128 the MTIME of the FS edge and the slots, newest first. -/
  count : Nat := 0
  edges : List (Nat × List W32) := []
  deriving DecidableEq, Repr

/-- APORT and EARC beside their registers. -/
structure AportSt where
  /-- The four ports. -/
  ports : List (Nat × ApPort) := []
  /-- MTIME of the last change of a source whose slots carry 0 since then: HRX and EARC (R328). -/
  holdHrx : Option Nat := Option.none
  holdEarc : Option Nat := Option.none
  /-- Capability changes signalled to the television (R322). -/
  capUpd : Nat := 0
  deriving DecidableEq, Repr

/-- A frame waiting in a class queue (R348): bytes from DA, without FCS; its host ring index if it asked for a stamp
(R346). -/
structure TxFrame where
  bytes : List Byte
  ts : Option Nat := Option.none
  deriving DecidableEq, Repr

/-- A packetizer stream in force (R341). -/
structure StreamSt where
  /-- The entry as read; empty while the stream does not run. -/
  entry : List Byte := []
  /-- The next IPv4 identification (R343). -/
  ident : Nat := 0
  /-- The layer being packetized, frame number and layer, and its packets still to be queued (R344). -/
  work : Option (Nat × Nat × List (List Byte)) := Option.none
  /-- Port frames of SRCPORT that the stream has used (R345). -/
  used : Nat := 0
  deriving DecidableEq, Repr

/-- MPT beside its registers. -/
structure MptSt where
  /-- The packetizer streams. -/
  streams : List (Nat × StreamSt) := []
  /-- Class queues, head first. -/
  queues : List (Nat × List TxFrame) := []
  /-- Utilior's gPTP frames, ahead of every class (R337). -/
  gptp : List (List Byte) := []
  /-- gPTP frames accepted for Utilior in the last second: MTIME of each; and the frames (R337). -/
  gptpTimes : List Nat := []
  toUtilior : List (List Byte) := []
  /-- The frame last put on the lane, DA through FCS, and the end of its time on the lane in 1/78125 tick (R351). -/
  sent : List Byte := []
  laneEnd : Nat := 0
  deriving DecidableEq, Repr

/-- SPOUT beside its registers. Boundaries are in gPTP ns. -/
structure SpoutSt where
  /-- Tokens of a class in 1/786432 byte, and the MTIME of the last fill (R353). -/
  tokens : List (Nat × (Nat × Nat)) := []
  /-- A boundary of the active list: its cycles lie at whole multiples of CYCLE from here (R349, R352). -/
  anchor : Int := 0
  /-- The boundary that started the present cycle. -/
  cycle : Int := 0
  /-- The boundary that starts the list (R350), and the one at which a pending swap takes effect (R352). -/
  startAt : Int := 0
  swapAt : Int := 0
  /-- The class whose frame was last put on the lane, while its gate has not closed under it (Table SPOUT-2). -/
  sending : Option Nat := Option.none
  deriving DecidableEq, Repr

/-- Buckets of a policer (R356) in 1/786432 byte, and the MTIME of the last fill. -/
structure Bucket where
  /-- Tc, Tp and the MTIME of the last fill. -/
  tc : Nat := 0x5F2 * 786432
  tp : Nat := 0x5F2 * 786432
  t : Nat := 0
  deriving DecidableEq, Repr

/-- STRN beside its registers. -/
structure StrnSt where
  /-- Buckets of the policers, by policer. -/
  buckets : List (Nat × Bucket) := []
  deriving DecidableEq, Repr

/-- An Announce as it is held (R337). -/
structure Announce where
  /-- What masters are compared by: priority1, clockClass, accuracy, variance, priority2, identity and stepsRemoved, as one
  number of 16 bytes. -/
  vec : Nat
  /-- The port identity of its sender. -/
  source : Nat
  /-- MTIME of its receipt. -/
  heard : Nat
  deriving DecidableEq, Repr

/-- PTP beside its registers. -/
structure PtpSt where
  /-- gPTP time in 1/153600000000 ns. -/
  time : Nat := 0
  /-- What is left of a tick's advance below that unit, over the tick's length (R28, R338). -/
  frac : Nat := 0
  /-- The deviation of its rate from XO's in 0.01 ppm (R338). -/
  rate : Int := 0
  /-- G0, M0 and ρ in 0.01 ppm of the last sample (R339). -/
  g0 : Nat := 0
  m0 : Nat := 0
  rho : Int := 0
  /-- Samples of the last second: gPTP ns and MTIME, newest first. -/
  samples : List (Nat × Nat) := []
  /-- The Announce held, the best one heard (R337, R143). -/
  held : Option Announce := Option.none
  /-- The Sync that waits for its Follow_Up: sequence number, ingress ns, correction; and the MTIME after which, with no
  further Sync, the port gives up its master. -/
  sync : Option (Nat × Nat × Nat) := Option.none
  syncEnd : Option Nat := Option.none
  /-- The mean link delay in ns, once measured, and the requests unanswered since. -/
  pdelay : Option Nat := Option.none
  lost : Nat := 0
  /-- The last Pdelay_Req sent: sequence number and egress ns; the response to it: ingress ns, and the ingress ns of the
  request at the peer; and of the exchange before, the egress ns at the peer and the ingress ns here. -/
  asked : Option (Nat × Nat) := Option.none
  resp : Option (Nat × Nat) := Option.none
  before : Option (Nat × Nat) := Option.none
  /-- By message type: the next sequence number, and the MTIME of the last one sent at its interval. -/
  seqs : List (Nat × Nat) := []
  sentAt : List (Nat × Nat) := []
  deriving DecidableEq, Repr

/-- STORE and UPD beside their registers (R361 to R381). -/
structure NvmSt where
  /-- The contents of the MRAM (R361): bytes that are not 0. -/
  mram : List (Nat × Byte) := []
  /-- The fused anti-rollback counter SVN (R363). -/
  svn : Nat := 0
  /-- The fused digest of the signing key (R363). -/
  keyHash : List Byte := List.replicate 48 0
  /-- MRAM lines whose stored data is uncorrectable, and correctable ones (R362). -/
  badLines : List Nat := []
  weakLines : List Nat := []
  /-- MRAM lines whose write was torn: their bytes are undefined, and fail a CRC (R362, Table UPD-5). -/
  tornLines : List Nat := []
  /-- Within a command: line writes before its writing ends on the way, with whether the next line is torn; and that it has
  ended (R362, R379). -/
  left : Option (Nat × Bool) := none
  torn : Bool := false
  /-- A boot-record or journal write that UPD runs (R372): its command, and where it ends on the way. -/
  work : Option (Nat × Option StoreCut) := none
  /-- SEQ of the next journal record (R369). -/
  nextSeq : Nat := 1
  /-- Changes staged in a trial: key and value, none for DELETE (R376). -/
  staged : List (Nat × Option (List Byte)) := []
  /-- The slot that runs: 0 A, 1 B. -/
  running : Nat := 0
  /-- Slot that UPD writes, and DLID of the download (R372, R374). -/
  target : Nat := 1
  dlid : Nat := 0
  /-- The first 64 bytes of the image, held back until the end (R374). -/
  head : List Byte := []
  /-- UPD is run by the boot ROM (recovery). -/
  recovery : Bool := false
  deriving DecidableEq, Repr

/-- What the outside receives: data of the last read, and the status bytes of the last SPI frame. -/
structure OutIf where
  /-- The word that the last register read returned (R12). -/
  rdata : Option W32 := Option.none
  /-- The bytes that the last BAR2 read returned (R178). -/
  bar2 : List Byte := []
  /-- The last read was answered with Completer Abort (R59, R178). -/
  abort : Bool := false
  /-- The bytes that the last SPI frame returned (R180). -/
  spi : List Byte := []
  deriving DecidableEq, Repr

/-- The whole state. -/
structure State where
  /-- 64-bit media time (R27, R150). -/
  mtime : Nat := 0
  regs : List (Nat × Nat) := []
  act : List (Nat × Nat) := []
  dram : List Host.Cell := []
  sys : SysSt := {}
  intc : IntcSt := {}
  hif : HifSt := {}
  reg : RegSt := {}
  auxs : List (Nat × AuxSt) := []
  caddy : CaddySt := {}
  tim : TimSt := {}
  prs : PrsSt := {}
  fifos : List (Nat × FifoSt) := []
  mbx : MbxSt := {}
  dmcs : List (Nat × DmcSt) := []
  dqos : DqosSt := {}
  cells : List (Nat × CellSt) := []
  csch : CschSt := {}
  csis : List (Nat × CsiSt) := []
  isp : IspSt := {}
  visr : VisrSt := {}
  hrx : HrxSt := {}
  htx : HtxSt := {}
  comp : CompSt := {}
  aport : AportSt := {}
  mpt : MptSt := {}
  spout : SpoutSt := {}
  strn : StrnSt := {}
  ptp : PtpSt := {}
  nvm : NvmSt := {}
  out : OutIf := {}
  /-- The model's own: free values used so far (log entry 7). -/
  free : Nat := 0
  /-- The model's own: commands waiting, first in, first out. -/
  pending : List Instr := []
  deriving DecidableEq, Repr

/-- The machine right after reset (R157, R174, R191, R213, R234, R288, R306, R333, R360, R381, R406): every register
at its reset value, the supplies up, RESET_N and PERST_N high, the crystal not yet started. -/
def State.reset : State := {}

end Sys2Proof.Machine
end

