-- ==== Sys2Proof/Machine/Ops.lean ====
section
/-! DEFINITION. The named operations over the state: reading and writing a register field, the pages of BAR0 and
their headers (R34, R36, R65), shadow copies (R42, R44), resets of a page (R61), memory in bytes, free values, and
the two gates every meaning passes. -/

namespace Sys2Proof.Machine

/-- The answer of a meaning. -/
abbrev Out := Host.Outcome State Fault Refusal

/-! ### Fields -/

/-- The content of a field, as a read of its register returns it (R42). -/
def State.get (s : State) (f : Fld) : Nat := Fld.get s.regs f

/-- Storing a value in a field. -/
def State.put (s : State) (f : Fld) (v : Nat) : State := { s with regs := Fld.put s.regs f v }

/-- The active copy of a shadowed field (R42). -/
def State.getA (s : State) (f : Fld) : Nat := Fld.get s.act f

/-- Storing a value in the active copy. -/
def State.putA (s : State) (f : Fld) (v : Nat) : State := { s with act := Fld.put s.act f v }

/-- A one-bit field that is set. -/
def State.bit (s : State) (f : Fld) : Bool := s.get f == 1

/-- A counter field goes up by one and wraps in its width. -/
def State.inc (s : State) (f : Fld) : State := s.put f (s.get f + 1)

/-- Several fields stored one after another. -/
def State.puts (s : State) : List (Fld × Nat) → State
  | [] => s
  | (f, v) :: t => State.puts (s.put f v) t

/-- A change made only where a condition holds. -/
def State.when (s : State) (c : Bool) (f : State → State) : State := if c then f s else s

/-- A 64-bit value held in a low and a high register. -/
def State.get64 (s : State) (lo hi : Fld) : Nat := s.get lo + 2 ^ 32 * s.get hi

/-- Storing a 64-bit value in a low and a high register. -/
def State.put64 (s : State) (lo hi : Fld) (v : Nat) : State := (s.put lo v).put hi (v / 2 ^ 32)

/-- The value that the bits of a written word give a field (R9). -/
def Fld.ofData (f : Fld) (d : W32) : Nat := bitsOf d f.lo f.w

/-- A written word stored in a field of it. -/
def State.store (s : State) (f : Fld) (d : W32) : State := s.put f (f.ofData d)

/-- A written word stored in all the named fields of its register. -/
def State.storeAll (s : State) (fs : List Fld) (d : W32) : State := fs.foldl (fun t f => t.store f d) s

/-- The next free value (log entry 7): the state goes on with the counter advanced. -/
def State.fresh (s : State) : Nat × State := (Config.free s.free, { s with free := s.free + 1 })

/-! ### The common page header (R36, R65, Table SYS-10) -/

def HDR.CTL_EN (b : Nat) : Fld := ⟨b + 0x8, 0, 1, 0, .rw⟩
def HDR.BUSY (b : Nat) : Fld := ⟨b + 0xC, 8, 1, 0, .ro⟩
def HDR.KEPT (b : Nat) : Fld := ⟨b + 0xC, 7, 1, 0, .ro⟩
def HDR.EFIRST_VALID (b : Nat) : Fld := ⟨b + 0x10, 31, 1, 0, .w1c⟩
def HDR.EFIRST_SRC (b : Nat) : Fld := ⟨b + 0x10, 0, 16, 0, .ro⟩
def HDR.EOVF (b : Nat) : Fld := ⟨b + 0x14, 0, 1, 0, .ro⟩
def HDR.ISR_ERR (b : Nat) : Fld := ⟨b + 0x18, 0, 1, 0, .w1c⟩
def HDR.ISR (b i : Nat) : Fld := ⟨b + 0x18, i, 1, 0, .w1c⟩
def HDR.GRP (b : Nat) : Fld := ⟨b + 0x20, 8, 3, 0, .rw⟩
def HDR.POINT (b : Nat) : Fld := ⟨b + 0x20, 4, 4, 0, .rw⟩
def HDR.PENDING (b : Nat) : Fld := ⟨b + 0x20, 1, 1, 0, .ro⟩
def HDR.STAMP (b : Nat) : Fld := ⟨b + 0x24, 0, 32, 0, .ro⟩

end Sys2Proof.Machine

namespace Sys2Proof

open Sys2Proof.Machine

/-- Where the pages lie (Table SYS-5). -/
def Page.base : Page → Nat
  | .sys => 0x0 | .clk => 0x1000 | .tim => 0x2000 | .prs => 0x3000 | .caddy => 0x4000 | .reg => 0x5000
  | .intc => 0x6000 | .store => 0x7000 | .upd => 0x8000 | .hif => 0x9000 | .mbx => 0xA000
  | .cell n => 0x10000 + 0x1000 * n | .csch => 0x18000 | .tcf => 0x19000 | .csi n => 0x20000 + 0x1000 * n
  | .isp => 0x24000 | .visr => 0x28000 | .dmc n => 0x30000 + 0x1000 * n | .dqos => 0x34000
  | .mpt => 0x40000 | .spout => 0x41000 | .strn => 0x42000 | .ptp => 0x43000
  | .hrx => 0x50000 | .htx => 0x51000 | .earc => 0x52000 | .aport => 0x53000 | .comp => 0x54000
  | .bfifo n => 0x60000 + 0x1000 * n

/-- PID: type, instance and revision of every page (R65 and each block's header table). -/
def Page.pid : Page → Nat
  | .sys => 0x00010001 | .clk => 0x00020001 | .tim => 0x00030001 | .prs => 0x00040001 | .caddy => 0x00050001
  | .reg => 0x00060001 | .intc => 0x00070001 | .store => 0x00080001 | .upd => 0x00090001 | .hif => 0x000A0001
  | .mbx => 0x000B0001 | .cell n => 0x000C0001 + 0x100 * n | .csch => 0x000D0001 | .tcf => 0x000E0001
  | .csi n => 0x00100001 + 0x100 * n | .isp => 0x00110001 | .visr => 0x00120001 | .dmc n => 0x00160001 + 0x100 * n
  | .dqos => 0x00170001 | .mpt => 0x00200001 | .spout => 0x00210001 | .strn => 0x00220001 | .ptp => 0x00230001
  | .hrx => 0x00180001 | .htx => 0x00190001 | .earc => 0x001A0001 | .aport => 0x001B0001 | .comp => 0x001C0001
  | .bfifo n => 0x001D0001 + 0x100 * n

/-- CAP of every page. -/
def Page.cap : Page → Nat
  | .sys => 0x00000007 | .clk => 0 | .tim => 0x64000006 | .prs => 0x80000040 | .caddy => 0x64000011
  | .reg => 0x64000024 | .intc => 0x00000100 | .store => 0 | .upd => 0 | .hif => 0 | .mbx => 0
  | .cell _ => 0xD4002000 | .csch => 0x54000008 | .tcf => 0 | .csi _ => 0x80000004 | .isp => 0xEC000003
  | .visr => 0x80000040 | .dmc _ => 0x00000002 | .dqos => 0x6400000C | .mpt => 0x80000010 | .spout => 0x00000008
  | .strn => 0x64000040 | .ptp => 0 | .hrx => 0x80000004 | .htx => 0x80000004 | .earc => 0 | .aport => 0x00000004
  | .comp => 0xEC000004 | .bfifo _ => 0x80000000

/-- CAP.LRST_SUP. -/
def Page.hasLrst (p : Page) : Bool := natBit p.cap 31

/-- CAP.SHADOW. -/
def Page.hasShadow (p : Page) : Bool := natBit p.cap 30

/-- CAP.POINTS allows a commit point (Table SYS-7). -/
def Page.allows (p : Page) (point : Nat) : Bool := decide (point < 4) && natBit p.cap (26 + point)

/-- The pages of the KA domain (Table SYS-5). -/
def Page.ka : Page → Bool
  | .tim | .caddy | .reg | .earc | .aport => true
  | _ => false

/-- The registers of a page beside PID, CAP, EFIRST, EOVF, SHCMT and STAMP. -/
def Page.table : Page → List RegT
  | .sys => SYS.table | .clk => CLK.table | .tim => TIM.table | .prs => PRS.table | .caddy => CADDY.table
  | .reg => REG.table | .intc => INTC.table | .store => STORE.table | .upd => UPD.table | .hif => HIF.table
  | .mbx => MBX.table | .cell n => CELL.table n | .csch => CSCH.table | .tcf => TCF.table | .csi n => CSI.table n
  | .isp => ISP.table | .visr => VISR.table | .dmc n => DMC.table n | .dqos => DQOS.table | .mpt => MPT.table
  | .spout => SPOUT.table | .strn => STRN.table | .ptp => PTP.table | .hrx => HRX.table | .htx => HTX.table
  | .earc => EARC.table | .aport => APORT.table | .comp => COMP.table | .bfifo n => BFIFO.table n

/-- Every page, in ascending order of its base. -/
def Page.all : List Page :=
  [.sys, .clk, .tim, .prs, .caddy, .reg, .intc, .store, .upd, .hif, .mbx] ++ (List.finRange 8).map Page.cell ++
  [.csch, .tcf] ++ (List.finRange 3).map Page.csi ++ [.isp, .visr] ++ (List.finRange 4).map Page.dmc ++
  [.dqos, .mpt, .spout, .strn, .ptp, .hrx, .htx, .earc, .aport, .comp] ++ (List.finRange 16).map Page.bfifo

/-- The page that lies at a base address. -/
def Page.atBase (b : Nat) : Option Page := Page.all.find? fun p => p.base == b

end Sys2Proof

namespace Sys2Proof.Machine

/-- The page that an address lies in (R34): the address with its low 12 bits struck. -/
def pageOfAddr (a : Nat) : Option Page := Page.atBase (a / 0x1000 * 0x1000)

/-- The row of a page's table that an offset lies in, with the index in the register array. -/
def Page.row (p : Page) (o : Nat) : Option (RegT × Nat) :=
  p.table.findSome? fun r => (r.index o).map fun i => (r, i)

/-- A key of a field file lies in a page. -/
def keyIn (b k : Nat) : Bool := k / 32 / 0x1000 * 0x1000 == b

/-- A key of a field file is that of a shadowed field of a page (R44). -/
def keyShadow (p : Page) (k : Nat) : Bool :=
  keyIn p.base k && (match Page.row p (k / 32 % 0x1000) with
    | some (r, _) => r.shadow
    | none => false)

/-- The copy of every shadow register of a page to its active copy (R44, R46). -/
def copyShadows (p : Page) (s : State) : State :=
  let fresh := s.regs.filter fun e => keyShadow p e.1
  { s with act := fresh.foldl (fun m e => SMap.insert m e.1 e.2) (SMap.drop s.act (keyShadow p)) }

/-- Every field of a page returns to its reset value, shadow copies and header included; a pending commit is
discarded and the page leaves its group's release (R61). -/
def resetFields (p : Page) (s : State) : State :=
  { s with
    regs := SMap.drop s.regs (keyIn p.base)
    act := SMap.drop s.act (keyIn p.base)
    sys := { s.sys with
      points := s.sys.points.filter fun e => e.1 != p.base
      members := s.sys.members.filter fun e => e.1 != p.base } }

/-- A rail is up (R391). -/
def railUp (s : State) (r : Rail) : Bool := !s.sys.off.contains r

/-- The page is in local or CELL reset (R60). -/
def State.held (s : State) (p : Page) : Bool := s.sys.inReset.contains p.base

/-! ### Memory in bytes -/

/-- Bytes of a number, least significant first (R11). -/
def leBytes : Nat → Nat → List Byte
  | 0, _ => []
  | n + 1, v => BitVec.ofNat 8 v :: leBytes n (v / 256)

/-- The number that bytes spell, least significant first (R11). -/
def leNat : List Byte → Nat
  | [] => 0
  | b :: t => b.toNat + 256 * leNat t

/-- What an unlisted byte of DRAM or MRAM reads as (log entry 6). -/
def memDefault : Byte := 0

/-- One byte of DRAM. -/
def State.dramByte (s : State) (a : Nat) : Byte := SMap.get memDefault s.dram a

/-- The channel of a DRAM address (R194). -/
def channelOf (a : Nat) : Nat := (a / 2 ^ 8 % 4) ^^^ (a / 2 ^ 16 % 4)

/-- The distance of TEMP.TJ from the temperature at which a channel was trained (R199). -/
def tempDistance (s : State) (n : Nat) : Int :=
  (toSigned 8 (s.get CADDY.TEMP_TJ) - toSigned 8 (s.get (DMC.TTRAIN_TJ n))).natAbs

/-- Reads of the channel are assured (R200). -/
def tempValid (s : State) (n : Nat) : Bool := decide (tempDistance s n ≤ 25)

/-- Reads of every channel are assured. -/
def dramSound (s : State) : Bool := (List.range 4).all (tempValid s)

/-- What `n` bytes of DRAM from an address up hold. -/
def State.dramHeld (s : State) (a n : Nat) : List Byte := SMap.getMany memDefault s.dram a n

/-- What a read of `n` bytes of DRAM from an address up returns: what they hold, and free values from a channel outside
its temperature window (R200). That after the next retraining what was written before it reads as it was written too, is
DESIGN CHOICE, log entry 24. -/
def State.dramRead (s : State) (a n : Nat) : List Byte :=
  if dramSound s then s.dramHeld a n
  else (List.range n).map fun i =>
    if tempValid s (channelOf (a + i)) then s.dramByte (a + i) else Config.driftedRead s.mtime (a + i)

/-- Bytes stored in DRAM from an address up. -/
def State.dramWrite (s : State) (a : Nat) (bs : List Byte) : State :=
  { s with dram := SMap.setMany memDefault s.dram a bs }

/-- A little-endian number of `n` bytes in DRAM (R11). -/
def State.dramNat (s : State) (a n : Nat) : Nat := leNat (s.dramRead a n)

/-- `n` bytes of the MRAM from an address up. -/
def State.mramRead (s : State) (a n : Nat) : List Byte := SMap.getMany memDefault s.nvm.mram a n

/-- Bytes stored in the MRAM. -/
def State.mramWrite (s : State) (a : Nat) (bs : List Byte) : State :=
  { s with nvm := { s.nvm with mram := SMap.setMany memDefault s.nvm.mram a bs } }

/-- A little-endian number of `n` bytes in the MRAM (R11). -/
def State.mramNat (s : State) (a n : Nat) : Nat := leNat (s.mramRead a n)

/-- A slice of a byte string read as a little-endian number; bytes past the end read 0. -/
def sliceNat (bs : List Byte) (off n : Nat) : Nat := leNat ((bs.drop off).take n)

/-! ### Quotients -/

/-- The magnitude of an integer. -/
def mag (x : Int) : Int := x.natAbs

/-- A quotient rounded to nearest, halves up (R98). -/
def roundHalfUp (a b : Int) : Int := (2 * a + b).fdiv (2 * b)

/-- A quotient whose rounding the manual does not give: down, or up as the open choice says (log entry 7). -/
def openDiv (a : Int) (b : Nat) : Int :=
  if a % b = 0 then a / b else a / b + if Config.roundUp a b then 1 else 0

/-! ### Colour (stage 8 of Table ISP-2, R316) -/

/-- Luma weights of red and blue in the matrix of a stage 8 code, in units of 1/10000. PRESUMED (log entry 44): they are
those of BT.709, BT.601 and BT.2020, which the manual names without giving them. -/
def lumaWeights (csc : Nat) : Int × Int :=
  if csc = 1 then (2990, 1140) else if csc = 2 then (2627, 593) else (2126, 722)

/-- Black and span of Y, and the span of Cb and Cr about 512, of 10-bit components. PRESUMED (log entry 44). -/
def yccLevels (csc : Nat) : Int × Int × Int := if csc = 3 then (0, 1023, 1023) else (64, 876, 896)

/-- Black and span of an RGB component. PRESUMED (log entry 44). -/
def rgbLevels (full : Bool) (bits : Nat) : Int × Int :=
  if full then (0, 2 ^ bits - 1) else (2 ^ (bits - 4), 219 * 2 ^ (bits - 8))

/-- A value clamped to so many bits. -/
def clampBits (bits : Nat) (v : Int) : Nat := (max 0 (min (2 ^ bits - 1) v)).toNat

/-- Component `c` of RGB, given as fractions over `d`, in 10-bit YCbCr (R296, R316). -/
def toYcc (csc : Nat) (r g b d : Int) (c : Nat) : Nat :=
  let (kr, kb) := lumaWeights csc
  let (lo, sy, sc) := yccLevels csc
  let y := kr * r + (10000 - kr - kb) * g + kb * b
  clampBits 10 (if c = 0 then lo + roundHalfUp (sy * y) (10000 * d)
    else if c = 1 then 512 + roundHalfUp (sc * (10000 * b - y)) (2 * (10000 - kb) * d)
    else 512 + roundHalfUp (sc * (10000 * r - y)) (2 * (10000 - kr) * d))

/-- R, G, B and what they are over, of a 10-bit YCbCr triple (R316). -/
def ofYcc (csc : Nat) (y cb cr : Nat) : Int × Int × Int × Int :=
  let (kr, kb) := lumaWeights csc
  let kg := 10000 - kr - kb
  let (lo, sy, sc) := yccLevels csc
  let l := 10000 * sc * (y - lo)
  let r := l + 2 * (10000 - kr) * sy * (cr - 512)
  let b := l + 2 * (10000 - kb) * sy * (cb - 512)
  (kg * r, 10000 * l - kr * r - kb * b, kg * b, 10000 * kg * sy * sc)

/-- Component `c` of a digital RGB triple in 10-bit YCbCr. -/
def rgbToYcc (csc : Nat) (full : Bool) (bits r g b c : Nat) : Nat :=
  let (lo, sp) := rgbLevels full bits
  toYcc csc (r - lo) (g - lo) (b - lo) sp c

/-- Component `c` of a 10-bit YCbCr triple of one matrix in another (R316). -/
def recolour (a b y cb cr c : Nat) : Nat :=
  let (r, g, bl, d) := ofYcc a y cb cr
  toYcc b r g bl d c

/-- Component `c` of a 10-bit YCbCr triple in 10-bit RGB. -/
def yccToRgb (csc : Nat) (full : Bool) (y cb cr c : Nat) : Nat :=
  let (r, g, b, d) := ofYcc csc y cb cr
  let (lo, sp) := rgbLevels full 10
  clampBits 10 (lo + roundHalfUp (sp * (if c = 0 then r else if c = 1 then g else b)) d)

/-- An 8-bit value of a 10-bit one, rounded half up (R296). -/
def eightBits (v : Nat) : Nat := min 255 ((v + 2) / 4)

/-! ### Lists of states per instance -/

def State.cell (s : State) (n : Nat) : CellSt := SMap.get {} s.cells n
def State.setCell (s : State) (n : Nat) (c : CellSt) : State := { s with cells := SMap.set {} s.cells n c }
def State.fifo (s : State) (n : Nat) : FifoSt := SMap.get {} s.fifos n
def State.setFifo (s : State) (n : Nat) (c : FifoSt) : State := { s with fifos := SMap.set {} s.fifos n c }
def State.dmc (s : State) (n : Nat) : DmcSt := SMap.get {} s.dmcs n
def State.setDmc (s : State) (n : Nat) (c : DmcSt) : State := { s with dmcs := SMap.set {} s.dmcs n c }
def State.csi (s : State) (n : Nat) : CsiSt := SMap.get {} s.csis n
def State.setCsi (s : State) (n : Nat) (c : CsiSt) : State := { s with csis := SMap.set {} s.csis n c }
def State.ring (s : State) (r : Nat) : RingSt := SMap.get {} s.csch.rings r
def State.setRing (s : State) (r : Nat) (c : RingSt) : State :=
  { s with csch := { s.csch with rings := SMap.set {} s.csch.rings r c } }
def State.port (s : State) (k : Nat) : ApPort := SMap.get {} s.aport.ports k
def State.setPort (s : State) (k : Nat) (c : ApPort) : State :=
  { s with aport := { s.aport with ports := SMap.set {} s.aport.ports k c } }

/-- An element of a list replaced where a test holds. -/
def replaceIf {α : Type} (p : α → Bool) (f : α → α) (l : List α) : List α := l.map fun x => if p x then f x else x

/-- A mask of the numbers below `n` that a test names. -/
def maskIf (n : Nat) (p : Nat → Bool) : Nat := ((List.range n).map fun i => if p i then 2 ^ i else 0).sum

/-- The number of an iteration repeated over a state. -/
def repeatFor (n : Nat) (f : Nat → State → State) (s : State) : State := (List.range n).foldl (fun t i => f i t) s

/-! ### The gates of every meaning -/

/-- A command to the core domain. Where an unsupported condition holds, nothing in the manual says what happens (R5,
log entry 8). While the core reset is held no core block acts and no register is reached (R66, R92): the state stays
(log entry 2). -/
def onCore (f : State → State) (s : State) : Out :=
  if s.sys.unsup ≠ Unsup.none then .fault .unsupportedCondition
  else if s.sys.coreUp then .next (f s) else .next s

/-- An event of the KA domain: it goes on under an unsupported condition of the core alone (R411), and needs the
main PLL's root (R90). -/
def onKa (f : State → State) (s : State) : Out :=
  if s.sys.unsup = Unsup.all then .fault .unsupportedCondition
  else if s.sys.pll then .next (f s) else .next s

/-- An event that happens whatever the condition of the machine: a pin, a supply, a reset. -/
def always (f : State → State) (s : State) : Out := .next (f s)

end Sys2Proof.Machine
end

