-- ==== Sys2Proof/Machine/Flags.lean ====
section
/-! DEFINITION. The flags of the block: error latches (R39 to R41), interrupt status bits, the level lines that pages
drive to INTC (R37, Table INTC-1), and what INTC does when an input asserts (R53). -/

namespace Sys2Proof.Machine

/-- An error of a block: its code is latched or overflows, and ISR.ERR is set (R39). -/
def recErr (p : Page) (code : Nat) (s : State) : State :=
  let b := p.base
  let t := if s.bit (HDR.EFIRST_VALID b) then s.put (HDR.EOVF b) 1
    else (s.put (HDR.EFIRST_SRC b) code).put (HDR.EFIRST_VALID b) 1
  t.put (HDR.ISR_ERR b) 1

/-- Writing 1 to EFIRST.VALID clears EFIRST and EOVF together (R41). -/
def clearErr (p : Page) (s : State) : State :=
  let b := p.base
  ((s.put (HDR.EFIRST_VALID b) 0).put (HDR.EFIRST_SRC b) 0).put (HDR.EOVF b) 0

/-- Errors of a block in one cycle, in ascending order of their codes: the lowest is latched, the rest overflow
(R39, R40). -/
def recErrs (p : Page) (codes : List Nat) (s : State) : State := codes.foldl (fun t c => recErr p c t) s

/-- A write that is refused where one of the listed checks, in ascending order of their codes, fails: every code whose
check fails is an error of that cycle (R40, log entry 11), and the write is ignored; otherwise the write acts. -/
def checked (p : Page) (checks : List (Bool × Nat)) (act : State → State) (s : State) : State :=
  match (checks.filter (·.1)).map (·.2) with
  | [] => act s
  | codes => recErrs p codes s

/-- Bits `i` of ISR and IER of a page both 1. -/
def isrOn (s : State) (b i : Nat) : Bool :=
  SMap.get 0 s.regs ((b + 0x18) * 32 + i) == 1 && natBit (SMap.get 0 s.regs ((b + 0x1C) * 32)) i

/-- (ISR AND IER) has one of the named bits set (R37). -/
def isrAny (s : State) (b : Nat) (bits : List Nat) : Bool := bits.any (isrOn s b)

/-- The page whose summary line a level source is (Table INTC-1). -/
def summaryPage (src : Nat) : Option Page :=
  if src < 3 then [Page.sys, .clk, .tim][src]?
  else if src = 4 then some .prs
  else if 8 ≤ src ∧ src ≤ 14 then [Page.caddy, .reg, .intc, .store, .upd, .hif, .mbx][src - 8]?
  else if h : 16 ≤ src ∧ src < 32 ∧ src % 2 = 0 then some (.cell ⟨(src - 16) / 2, by omega⟩)
  else if src = 36 then some .tcf
  else if h : 37 ≤ src ∧ src ≤ 39 then some (.csi ⟨src - 37, by omega⟩)
  else if src = 40 then some .isp
  else if src = 42 then some .visr
  else if h : 43 ≤ src ∧ src ≤ 46 then some (.dmc ⟨src - 43, by omega⟩)
  else if 47 ≤ src ∧ src ≤ 51 then [Page.dqos, .mpt, .spout, .strn, .ptp][src - 47]?
  else if 53 ≤ src ∧ src ≤ 57 then [Page.hrx, .htx, .earc, .aport, .comp][src - 53]?
  else none

/-- A completion ring of CSCH is mapped to a source and asserts it (R219). -/
def cqLine (s : State) (src : Nat) : Bool :=
  (List.range 8).any fun r => s.get (CSCH.RCFG_CQSRC r) + 33 == src && isrOn s (Page.base .csch) (8 + r)

/-- A level source's input is asserted (R37, R219, Table PRS-5). -/
def levelLine (s : State) (src : Nat) : Bool :=
  match summaryPage src with
  | some .csch => false
  | some p => isrAny s p.base (List.range 32)
  | none =>
    if src = 5 then isrAny s (Page.base .prs) [1]
    else if src = 6 then isrAny s (Page.base .prs) [2, 3, 4]
    else if src = 7 then isrAny s (Page.base .prs) [6, 7, 8]
    else if src = 32 then isrAny s (Page.base .csch) (List.range 5)
    else if 33 ≤ src ∧ src ≤ 35 then cqLine s src
    else false

/-- A source is of edge type (INTC.TYPE). -/
def isEdge (src : Nat) : Bool := intcType src == 1

/-- Level inputs that have deasserted since INTC saw them asserted: the next assertion is a new one (R53). -/
def lowerLines (s : State) : State := { s with intc := { s.intc with seen := s.intc.seen.filter (levelLine s) } }

/-- INTC sees a level input asserted. -/
def seeLine (src : Nat) (s : State) : State := { s with intc := { s.intc with seen := src :: s.intc.seen.erase src } }

/-- A block asserts one of its edge sources once; INTC takes it with the next INTC_SOURCE_ASSERT of that source. An
edge that occurs while INTC is in reset is lost (R62). -/
def fireEdge (src : Nat) (s : State) : State :=
  if s.sys.coreUp then { s with intc := { s.intc with edges := s.intc.edges ++ [src] } } else s

/-- An assertion of a source as INTC takes it: an edge source becomes pending, a level source only while it is not
in service (R53, R54). -/
def assertSource (src : Nat) (s : State) : State :=
  if isEdge src then s.put (INTC.PEND src) 1
  else if s.bit (INTC.INSVC src) then s
  else s.put (INTC.PEND src) 1

/-- INTC samples one level source: found asserted, it becomes pending (R53, R56, R62). -/
def sampleSource (src : Nat) (s : State) : State :=
  if !isEdge src && levelLine s src then (s.put (INTC.PEND src) 1) |> seeLine src else s

/-- Sampling every level source as INTC leaves reset (R62). -/
def sampleAll (s : State) : State := repeatFor 58 sampleSource s

/-! ### Accesses to a page's registers -/

/-- BOOT_STATUS.CODE. -/
def bootCode (s : State) : Nat := s.get SYS.BOOT_STATUS_CODE

/-- BAR0 reaches a page: every page once CODE is 0x10; before that SYS, CLK, INTC and HIF, and at a recovery BFIFO15
and UPD too (R92). -/
def reached (p : Page) (s : State) : Bool :=
  bootCode s == 0x10 || (match p with
    | .sys | .clk | .intc | .hif => true
    | .upd => bootCode s == 0xE1 || bootCode s == 0xE2
    | .bfifo n => n == 15 && (bootCode s == 0xE1 || bootCode s == 0xE2)
    | _ => false)

/-- A BAR2 write of the link, or a BAR0 access behind one, has not taken effect (R177). -/
def LinkReq.isWrite (r : LinkReq) : Bool :=
  match r with
  | .bar2 _ (.write _) | .bar0 _ => true
  | .bar2 _ (.read _) => false

/-- A write waits on the link, before the access under way (R177). -/
def writeWaits (s : State) : Bool := !s.hif.turn && s.hif.waits.any LinkReq.isWrite

/-- A request of the link waits behind those before it. -/
def linkWait (r : LinkReq) (s : State) : State := { s with hif := { s.hif with waits := s.hif.waits ++ [r] } }

/-- A BAR0 access of the link, as the command it comes as: a write takes effect, and a read completes, only after every
earlier BAR2 write has reached DRAM (R177, log entry 3). -/
def onLink (c : Instr) (f : State → State) (s : State) : State := if writeWaits s then linkWait (.bar0 c) s else f s

/-- A write of a register of a page: one that BAR0 does not reach is ignored and recorded (R92); in local reset the
write is ignored, and recorded once the block leaves its reset (R60). -/
def onPage (p : Page) (f : State → State) (s : State) : State :=
  if !reached p s then recErr .sys 0x0104 s
  else if s.held p then { s with sys := { s.sys with lateWr := s.sys.lateWr ++ [p.base] } }
  else f s

/-- A read of a register of a page: one that BAR0 does not reach reads 0 and is recorded (R92); in local reset it
returns an undefined value (R60, R4). -/
def readOnPage (p : Page) (f : State → W32 × State) (s : State) : W32 × State :=
  if !reached p s then (0, recErr .sys 0x0104 s)
  else if s.held p then (BitVec.ofNat 32 s.fresh.1, s.fresh.2)
  else f s

end Sys2Proof.Machine
end

