-- ==== Sys2Proof/Machine/Operands.lean ====
section
/-! DEFINITION. The operand forms of the register commands (R9, R12, R13, R16, R34, R36): how an address of BAR0 names
a page, a debug window or nothing; how a written word acts on the fields of a register by their access codes; and what
a read of the stored fields gives. -/

namespace Sys2Proof.Machine

/-- What a BAR0 address names (R34, Table SYS-5): a page with an offset in it, a byte of a cell's debug window, or
nothing. -/
inductive Target where
  | page (p : Page) (o : Nat)
  | window (n : Fin 8) (o : Nat)
  | nothing
  deriving DecidableEq, Repr

/-- The doubleword that an address lies in (R12, R59). -/
def dwordOf (a : Nat) : Nat := a / 4 * 4

/-- The target of an address (R34). -/
def target (a : Nat) : Target :=
  if h : 0x800000 ≤ a ∧ a < 0x900000 then .window ⟨(a - 0x800000) / 0x20000, by omega⟩ ((a - 0x800000) % 0x20000)
  else match pageOfAddr a with
    | some p => .page p (dwordOf a % 0x1000)
    | none => .nothing

/-- The fields of the register at an offset; none where no register map names one (R16). -/
def fieldsAt (p : Page) (o : Nat) : List Fld :=
  match Page.row p o with
  | some (r, i) => r.fields i
  | none => []

/-- A written word on one field (Table SCOPE-1): RW stores it, W1C clears the bits written 1, and the rest ignore it. -/
def writeFld (d : W32) (s : State) (f : Fld) : State :=
  match f.acc with
  | .rw => s.store f d
  | .w1c => s.put f (s.get f &&& (2 ^ f.w - 1 - f.ofData d))
  | .ro | .w1s | .wo | .rs | .rsv => s

/-- A written word on the register at an offset, by the access codes of its fields alone. -/
def plainWrite (p : Page) (o : Nat) (d : W32) (s : State) : State := (fieldsAt p o).foldl (writeFld d) s

/-- What a field shows on a read: WO and RSV fields read 0 (Table SCOPE-1). -/
def readFld (s : State) (f : Fld) : Nat :=
  match f.acc with
  | .wo | .rsv => 0
  | .ro | .rw | .w1c | .w1s | .rs => s.get f * 2 ^ f.lo

/-- What the stored fields of the register at an offset show. -/
def plainRead (p : Page) (o : Nat) (s : State) : Nat := ((fieldsAt p o).map (readFld s)).sum

/-- A word gives every one of the fields the value it already has (R72). -/
def sameWord (fs : List Fld) (d : W32) (s : State) : Bool := fs.all fun f => f.ofData d == s.get f

/-- The index of an offset in an array of registers. -/
def slotAt (base stride count o : Nat) : Option Nat :=
  if base ≤ o ∧ (o - base) / stride < count then some ((o - base) / stride) else none

/-- Bits shifted to their place, for the parts of a register that the state shows without storing them. -/
def bitsAt (lo : Nat) (b : Bool) : Nat := if b then 2 ^ lo else 0

/-- A mask of the numbers below `n` that a test names. -/
def maskOf (n : Nat) (p : Nat → Bool) : Nat := maskIf n p

/-- The common header's part that no page's table lists: PID, CAP, EFIRST, EOVF, SHCMT and STAMP (R36, R65). -/
def headerRead (p : Page) (o : Nat) (s : State) : Nat :=
  let b := p.base
  if o = 0x0 then p.pid
  else if o = 0x4 then p.cap
  else if o = 0x10 then s.get (HDR.EFIRST_SRC b) + s.get (HDR.EFIRST_VALID b) * 2 ^ 31
  else if o = 0x14 then s.get (HDR.EOVF b)
  else if o = 0x20 ∧ p.hasShadow then
    s.get (HDR.GRP b) * 2 ^ 8 + s.get (HDR.POINT b) * 2 ^ 4 + s.get (HDR.PENDING b) * 3
  else if o = 0x24 ∧ p.hasShadow then s.get (HDR.STAMP b)
  else 0

end Sys2Proof.Machine
end

