-- ==== Sys2Proof/Machine/Audio.lean ====
section
/-! DEFINITION. The audio ports and the eARC receiver (15_hdmi_earc_audio.md, R321 to R328). Both stand in the KA
domain. A port holds its gain, what kind of content its slots carry, their words and those on the way to them; the rate
converter, whose coefficients the manual does not give (R326), is the sender's. -/

namespace Sys2Proof.Machine

/-! ### Ports -/

/-- fs of a port as Table APORT-1 codes it (R324): the audio synthesiser ÷ 512, 256 or 128. -/
def portRate (s : State) (fssel : Nat) : Nat := 2 * fssel + (if s.getA TIM.AUD_AFAM = 1 then 1 else 2)

/-- fs of a port in Hz (R324). -/
def portHz (s : State) (fssel : Nat) : Nat := (if s.getA TIM.AUD_AFAM = 1 then 44100 else 48000) * 2 ^ fssel

/-- A port runs. -/
def portOn (s : State) (k : Nat) : Bool := s.bit APORT.CTL_EN && natBit (s.get APORT.PEN_K) k

/-- Nothing is on its way to the slots of a port (R326). -/
def clearHist (k : Nat) (s : State) : State := s.setPort k { s.port k with hist := [] }

/-- PSTS.ON follows CTL.EN and PEN; a port that is off carries nothing on. -/
def showOn (s : State) : State :=
  repeatFor 4 (fun k t => if portOn t k then t else clearHist k t)
    (s.put APORT.PSTS_ON (if s.bit APORT.CTL_EN then s.get APORT.PEN_K else 0))

/-- The status byte of a source: 1 HRX, 2 EARC. -/
def srcStatus (s : State) (src : Nat) : Nat :=
  if src = 1 then s.get APORT.SRCSTS_HRX else if src = 2 then s.get APORT.SRCSTS_EARC else 0

/-- The slots that a source feeds carry 0 after a change of it (R328). -/
def srcHeld (s : State) (src : Nat) : Bool :=
  if src = 1 then s.aport.holdHrx.isSome else if src = 2 then s.aport.holdEarc.isSome else false

/-- What the slots of a port carry (R325, R326, R328): 0 silence, 1 nothing after a change of the source, 2 LPCM, 3 IEC
61937, 4 what comes in, 5 nothing for want of lock. In HOLDOVER no reference is selected (log entry 18). -/
def portCarries (s : State) (k : Nat) : Nat :=
  let src := s.get (APORT.PCFG_SRC k)
  let st := srcStatus s src
  if s.get (APORT.PCFG_DIR k) = 1 then 4
  else if src = 0 ∨ src = 3 then 0
  else if srcHeld s src ∨ !natBit st 7 then 1
  else if !natBit st 6 then 2
  else if s.get TIM.DSTS_ASTATE ≠ 3 ∧ s.get TIM.DSTS_AREF = src - 1 ∧
      st % 8 = portRate s (s.get (APORT.PCFG_FSSEL k)) then 3
  else 5

/-- The present gain of a port as a fraction (R327). -/
def ApPort.gain (p : ApPort) : Nat × Nat :=
  match p.ramp with
  | none => p.base
  | some (up, i, n) => (p.base.1 * (n - i) + (if up then p.base.2 * i else 0), p.base.2 * n)

/-- One port frame of the running ramp. -/
def ApPort.advance (p : ApPort) : ApPort :=
  match p.ramp with
  | none => p
  | some (up, i, n) =>
    if n ≤ i + 1 then { p with base := if up then (1, 1) else (0, 1), ramp := none } else { p with ramp := some (up, i + 1, n) }

/-- A waiting command begins: from the present gain over `n` port frames, or at once for `n` = 0 (R327). -/
def ApPort.begin (n : Nat) (p : ApPort) : ApPort :=
  match p.cmd with
  | none => p
  | some up =>
    if n = 0 then { p with base := if up then (1, 1) else (0, 1), ramp := none, cmd := none }
    else { p with base := p.gain, ramp := some (up, 0, n), cmd := none }

/-- PSTS.MUTED[k] is 1 while the gain is 0 (R327). -/
def showMuted (s : State) : State :=
  s.put APORT.PSTS_MUTED (((List.range 4).filter fun k => (s.port k).gain.1 == 0).map (2 ^ ·)).sum

/-- MUTE[k] as a command (R327): the bit of MUTE follows, and the last command stands (Table COMP-2). -/
def portCommand (unmute : Bool) (k : Nat) (s : State) : State :=
  let v := s.get APORT.MUTE_K
  let v := v - v / 2 ^ k % 2 * 2 ^ k + (if unmute then 0 else 2 ^ k)
  (s.put APORT.MUTE_K v).setPort k { s.port k with cmd := some unmute }

/-- A bit of MUTE written: a command for its port (R327), without effect where MUTE holds the value already (R72, which
is taken bit by bit here: log entry 18). -/
def writeMuteBit (unmute : Bool) (k : Nat) (s : State) : State :=
  if natBit (s.get APORT.MUTE_K) k = !unmute then s else portCommand unmute k s

/-- A write of MUTE (R327). -/
def writeMute (d : W32) (s : State) : State := repeatFor 4 (fun k t => writeMuteBit (!natBit d.toNat k) k t) s

/-- MUTE (R327). -/
def execMute (k : Fin 4) (s : State) : Out := onCore (onLink (.mute k) (onPage .aport (writeMuteBit false k))) s

/-- UNMUTE (R327). -/
def execUnmute (k : Fin 4) (s : State) : Out := onCore (onLink (.unmute k) (onPage .aport (writeMuteBit true k))) s

/-- Port frames that a ramp of a port takes; IEC 61937 slots switch at once (R327). -/
def rampFrames (s : State) (k : Nat) : Nat := if portCarries s k = 3 then 0 else s.get (APORT.PCFG_RAMP k)

/-- A sample under a gain; its rounding is open (R327, log entry 7). -/
def gainWord (g : Nat × Nat) (v : W32) : W32 :=
  if g.1 = 0 then 0 else if g.1 = g.2 then v else BitVec.ofInt 32 (openDiv (v.toInt * g.1) g.2)

/-- A word as a slot carries it, most significant bit first: a 16-bit slot takes its top 16 bits (R324). -/
def slotWord (wide : Bool) (v : W32) : W32 := if wide then v else v &&& 0xFFFF0000

/-- The slots of a port frame (R324 to R328): `xs` are the source's channels, LPCM at the port's rate, or the DSP's slots of
an IN port. -/
def portSlotWords (s : State) (k c : Nat) (g : Nat × Nat) (xs : List W32) : List W32 :=
  let wide := s.get (APORT.PCFG_WIDTH k) == 1
  let chans := srcStatus s (s.get (APORT.PCFG_SRC k)) / 8 % 8 + 1
  (List.range (s.get (APORT.PCFG_SLOTS k))).map fun j =>
    let x := slotWord wide (xs.getD j 0)
    if c = 4 then x
    else if (c = 2 ∨ c = 3) ∧ j < chans then (if c = 3 ∧ g.1 ≠ 0 then x else slotWord wide (gainWord g x))
    else 0

/-- The least delay of content in port frames, and how many values it may have (R326): 1.000 ms ± 1 port frame for LPCM, 2 ± 1
for IEC 61937. -/
def lagRange (s : State) (k c : Nat) : Nat × Nat :=
  if c = 2 then
    let fs := portHz s (s.get (APORT.PCFG_FSSEL k))
    (ceilDiv (fs - 1000) 1000, (fs + 1000) / 1000 + 1 - ceilDiv (fs - 1000) 1000)
  else if c = 3 then (1, 3)
  else (0, 1)

/-- The delay of the content that a port carries, free in its range (log entry 7), and constant while the content stays
(R326). -/
def portLag (k c : Nat) (p : ApPort) (s : State) : Nat × State :=
  if c = p.carries ∧ !p.hist.isEmpty then (p.lag, s)
  else
    let (lo, n) := lagRange s k c
    if n = 1 then (lo, s)
    else
      let (e, t) := s.fresh
      (lo + e % n, t)

def portFsEdgeEff (k : Nat) (xs : List W32) (s : State) : State :=
  if portOn s k then
    let c := portCarries s k
    let p := (s.port k).advance.begin (rampFrames s k)
    let t := if c = 5 ∧ p.carries ≠ 5 then s.put APORT.ISR_NOLOCK 1 else s
    let (lag, t) := portLag k c p t
    let hist := (xs :: p.hist).take 200
    let ws := portSlotWords s k c p.gain (hist.getD lag [])
    showMuted (t.setPort k { p with
      carries := c, slots := ws, hist := hist, lag := lag, count := p.count + 1, edges := ((s.mtime, ws) :: p.edges).take 128 })
  else s

/-- PORT_FS_EDGE: a port frame begins, with the samples that its source gives now, or the DSP's (R324 to R328, log entry
31). -/
def execPortFsEdge (k : Fin 4) (xs : List W32) (s : State) : Out := onKa (portFsEdgeEff k xs) s

/-- A PCFG value is valid (R324, Table EARC-1). -/
def pcfgOk (s : State) (d : W32) : Bool :=
  let slots := (APORT.PCFG_SLOTS 0).ofData d
  let fs := portHz s ((APORT.PCFG_FSSEL 0).ofData d)
  let width := if (APORT.PCFG_WIDTH 0).ofData d = 1 then 32 else 16
  let fmt := (APORT.PCFG_FMT 0).ofData d
  decide ((APORT.PCFG_FSSEL 0).ofData d ≤ 2 ∧ fmt ≤ 2) && [2, 4, 8, 16].contains slots &&
    decide (slots * width * fs ≤ 49152000 ∧ (fs ≤ 48000 ∨ slots ≤ 8)) && (fmt == 2 || slots == 2)

/-- A port is configured anew: nothing is on its way to its slots, and a stream that takes it begins a packet (R326,
R345). -/
def restartPort (k : Nat) (s : State) : State :=
  let t := clearHist k s
  { t with mpt := { t.mpt with streams := t.mpt.streams.map fun e =>
      (e.1, if sliceNat e.2.entry 0 1 = 2 ∧ sliceNat e.2.entry 24 1 % 4 = k then { e.2 with used := (t.port k).count } else e.2) } }

/-- The fields of a port's PCFG. -/
def pcfgFields (k : Nat) : List Fld :=
  [APORT.PCFG_DIR k, APORT.PCFG_SRC k, APORT.PCFG_FSSEL k, APORT.PCFG_SLOTS k, APORT.PCFG_WIDTH k, APORT.PCFG_FMT k, APORT.PCFG_RAMP k]

/-- PCFG (R324, Table HRX-7); a write of the value it holds has no effect (R72). -/
def writePcfg (k : Nat) (d : W32) (s : State) : State :=
  checked .aport [(!pcfgOk s d, 0x0100)]
    (fun t => if sameWord (pcfgFields k) d t then t else restartPort k (t.storeAll (pcfgFields k) d)) s

/-- PEN. -/
def writePen (d : W32) (s : State) : State := showOn (s.store APORT.PEN_K d)

/-! ### Sources -/

/-- The slots of a port that a source feeds become 0 at once, and nothing of the source is on its way to them (R328). -/
def zeroSlots (src k : Nat) (s : State) : State :=
  if s.get (APORT.PCFG_DIR k) = 0 ∧ s.get (APORT.PCFG_SRC k) = src then
    s.setPort k { s.port k with slots := (s.port k).slots.map fun _ => 0, hist := [], carries := 1 }
  else s

/-- The status byte of a source, as its block gives it to APORT: a change or a loss zeroes its slots at once (R328). -/
def sourceStatus (earc : Bool) (st : Nat) (s : State) : State :=
  let f := if earc then APORT.SRCSTS_EARC else APORT.SRCSTS_HRX
  if s.get f = st % 256 then s
  else
    let t := (s.put f st).put (if natBit st 7 then APORT.ISR_SRCCHG else APORT.ISR_SRCLOSS) 1
    repeatFor 4 (zeroSlots (if earc then 2 else 1))
      { t with aport := if earc then { t.aport with holdEarc := some t.mtime } else { t.aport with holdHrx := some t.mtime } }

/-- The block of a source has its stream: HRX a signal, EARC a locked stream. -/
def sourceLive (s : State) (earc : Bool) : Bool := if earc then s.get EARC.STS_STATE == 4 else decide (3 ≤ s.get HRX.STS_STATE)

def sourceChangeEff (earc : Bool) (st : Nat) (s : State) : State :=
  if sourceLive s earc ∧ (if earc then s.get APORT.SRCSTS_EARC else s.get APORT.SRCSTS_HRX) ≠ st then
    sourceStatus earc st (if earc then s else s.put HRX.ISR_AUD 1)
  else s

/-- SOURCE_CHANGE: a source's status byte becomes `status` (R328). -/
def execSourceChange (earc : Bool) (status : Byte) (s : State) : Out := onKa (sourceChangeEff earc status.toNat) s

/-- A port's slots resume, ramping up unless the port is muted (R328). -/
def resumePort (src k : Nat) (s : State) : State :=
  if s.get (APORT.PCFG_DIR k) = 0 ∧ s.get (APORT.PCFG_SRC k) = src ∧ !natBit (s.get APORT.MUTE_K) k then
    s.setPort k { s.port k with base := (0, 1), ramp := none, cmd := some true }
  else s

/-- The source has been stable for HOLD ms (R328). -/
def resumeDue (s : State) (earc : Bool) : Bool :=
  match (if earc then s.aport.holdEarc else s.aport.holdHrx) with
  | some m => natBit (srcStatus s (if earc then 2 else 1)) 7 && decide (s.get APORT.HOLD_MS * 98304 ≤ s.mtime - m)
  | none => false

def sourceResumeEff (earc : Bool) (s : State) : State :=
  if resumeDue s earc then
    let t := { s with aport := if earc then { s.aport with holdEarc := none } else { s.aport with holdHrx := none } }
    showMuted (repeatFor 4 (resumePort (if earc then 2 else 1)) t)
  else s

/-- SOURCE_RESUME (R328). -/
def execSourceResume (earc : Bool) (s : State) : Out := onKa (sourceResumeEff earc) s

/-- CTL of APORT. -/
def aportCtl (d : W32) (s : State) : State :=
  let t := s.store APORT.CTL_EN d
  showOn (t.puts [(APORT.STS_STATE, t.get APORT.CTL_EN), (APORT.STS_KEPT, 0)])

/-! ### eARC -/

/-- EARC.STS.STATE: 0 OFF, 1 IDLE, 2 DISC, 3 LINK, 4 STREAM. -/
def earcState (s : State) : Nat := s.get EARC.STS_STATE

/-- EARC goes to a state without a stream: FMT shows none, and APORT loses the source (R323, R328). -/
def earcLeave (st : Nat) (s : State) : State :=
  let t := s.put EARC.STS_STATE st
  if earcState s = 4 then sourceStatus true 0 (t.put EARC.FMT_V 0) else t

/-- CTL of EARC (R322). -/
def earcCtl (d : W32) (s : State) : State :=
  let t := (s.store EARC.CTL_EN d).put EARC.STS_KEPT 0
  if !t.bit EARC.CTL_EN then earcLeave 0 t
  else if earcState t = 0 then t.put EARC.STS_STATE (if t.sys.tvHpd then 2 else 1)
  else t

/-- The television's HPD as EARC senses it (R321, R322). -/
def earcHpd (high : Bool) (s : State) : State :=
  if earcState s = 0 then s else if high then (if earcState s = 1 then s.put EARC.STS_STATE 2 else s) else earcLeave 1 s

def earcLinkEff (s : State) : State :=
  if earcState s = 2 then s.puts [(EARC.STS_STATE, 3), (EARC.ISR_LINK, 1)] else s

/-- EARC_LINK (R322). -/
def execEarcLink (s : State) : Out := onKa earcLinkEff s

def earcStreamEff (s : State) : State := if earcState s = 3 then s.put EARC.STS_STATE 4 else s

/-- EARC_STREAM (R322). -/
def execEarcStream (s : State) : Out := onKa earcStreamEff s

def heartbeatLostEff (s : State) : State :=
  if 3 ≤ earcState s then recErr .earc 0x0100 (((earcLeave 2 s).put EARC.ISR_LOST 1).inc EARC.CNT_LOST) else s

/-- HEARTBEAT_LOST (R322, Table HRX-7). -/
def execHeartbeatLost (s : State) : Out := onKa heartbeatLostEff s

def capctlUpdEff (s : State) : State :=
  if 3 ≤ earcState s then { s with aport := { s.aport with capUpd := s.aport.capUpd + 1 } } else s

/-- CAPCTL_UPD (R322): CAPCTL reads 0. -/
def execCapctlUpd (s : State) : Out := onCore (onLink .capctlUpd (onPage .earc capctlUpdEff)) s

/-- A channel-status block differs from the one shown in its bytes 0 to 4 (R323). -/
def cstatDiffers (s : State) (cs : List W32) : Bool :=
  s.get (EARC.CSTAT_W 0) != (cs.getD 0 0).toNat || s.get (EARC.CSTAT_W 1) % 256 != (cs.getD 1 0).toNat % 256

def earcChannelStatusEff (cs : List W32) (fmt : Nat) (s : State) : State :=
  if earcState s = 4 then
    let t := if cstatDiffers s cs ∨ s.get EARC.FMT_V ≠ fmt then s.put EARC.ISR_FMTCHG 1 else s
    let t := repeatFor 6 (fun i t => t.put (EARC.CSTAT_W i) (cs.getD i 0).toNat) (t.put EARC.FMT_V fmt)
    sourceStatus true fmt t
  else s

/-- EARC_CHANNEL_STATUS: the block's six words and the stream's format byte (R323). -/
def execEarcChannelStatus (cs : List W32) (fmt : Byte) (s : State) : Out := onKa (earcChannelStatusEff cs fmt.toNat) s

end Sys2Proof.Machine
end

