-- ==== Sys2Proof/Machine/Surface.lean ====
section
/-! DEFINITION. Surfaces in DRAM and the TCF format (R216 to R218). -/

namespace Sys2Proof.Machine

/-- A surface-table entry (Table CSCH-2). -/
structure Surface where
  yaddr : Nat
  caddr : Nat
  w : Nat
  h : Nat
  pitch : Nat
  fmt : Nat
  deriving DecidableEq, Repr

/-- Entry `i` of the surface table, if it is in the table and its FMT is one of Table CSCH-2's (R216). -/
def surfaceAt (s : State) (i : Nat) : Option Surface :=
  let e := s.dramRead (s.get64 CSCH.SURFBASEL_A CSCH.SURFBASEH_A + 32 * i) 32
  if i < s.get CSCH.SURFCNT_COUNT ∧ sliceNat e 24 1 ≤ 4 then
    some { yaddr := sliceNat e 0 8, caddr := sliceNat e 8 8, w := sliceNat e 16 2, h := sliceNat e 18 2
           pitch := sliceNat e 20 4, fmt := sliceNat e 24 1 }
  else none

/-- A surface that a descriptor or a stream context may name (R216). -/
def usableSurface (s : State) (i : Nat) : Option Surface := (surfaceAt s i).filter fun f => f.fmt != 4

/-- A format is one of the TCF formats. -/
def isTcf (fmt : Nat) : Bool := decide (2 ≤ fmt)

/-- Bits per sample of a format (Table CSCH-2). -/
def fmtDepth (fmt : Nat) : Nat := if fmt = 1 ∨ fmt = 3 then 10 else 8

/-- A plane of a picture in memory: its address, its format and pitch, and its samples: columns and rows. -/
structure Plane where
  addr : Nat
  fmt : Nat
  pitch : Nat
  w : Nat
  h : Nat
  deriving DecidableEq, Repr

/-- The luma plane (0) and the chroma plane (1) of a surface: Cb and Cr interleaved, half height (Table CSCH-2). -/
def Surface.plane (f : Surface) (p : Nat) : Plane :=
  if p = 0 then { addr := f.yaddr, fmt := f.fmt, pitch := f.pitch, w := f.w, h := f.h }
  else { addr := f.caddr, fmt := f.fmt, pitch := f.pitch, w := f.w, h := f.h / 2 }

/-- Block rows of a TCF plane, its blocks, and where its header and its low-bit region begin (R217). -/
def Plane.blockRows (pl : Plane) : Nat := ceilDiv pl.h 4
def Plane.blocks (pl : Plane) : Nat := pl.pitch * pl.blockRows
def Plane.headers (pl : Plane) : Nat := pl.addr + 128 * pl.blocks
def Plane.lowBits (pl : Plane) : Nat := pl.headers + ceilDiv (ceilDiv pl.blocks 2) 64 * 64

/-- A picture that is stored: a sample by plane, row and column. -/
abbrev Picture := Nat → Nat → Nat → Nat

/-- Picture `k` of those whose samples the manual leaves open (log entry 7). -/
def openPicture (k depth : Nat) : Picture := fun p r c => Config.sample k p r c % 2 ^ depth

/-! ### TCF blocks (R218) -/

/-- Bits [pos + n - 1 : pos] of a string of bytes, least significant bit first. -/
def bitString (v pos n : Nat) : Nat := v / 2 ^ pos % 2 ^ n

/-- The prediction of sample `i`, in raster order of a 32 × 4 block, from the samples before it. -/
def tcfPred (base : Nat) (before : List Nat) (i : Nat) : Nat :=
  if i = 0 then base else if i % 32 = 0 then before.getD (i - 32) 0 else before.getD (i - 1) 0

/-- The residual code z of a sample. -/
def tcfZ (p v : Nat) : Nat :=
  let r := (v + 256 - p % 256) % 256
  if r < 128 then 2 * r else 511 - 2 * r

/-- The residual that a code z spells. -/
def tcfR (z : Nat) : Nat := if z % 2 = 0 then z / 2 else (511 - z) / 2

/-- Widths of the eight groups of a lossless string. -/
def tcfWidths (v : Nat) : List Nat := (List.range 8).map fun g => bitString v (8 + 4 * g) 4

/-- Bits of a lossless string. -/
def tcfBits (ws : List Nat) : Nat := 40 + 16 * ws.sum

/-- The samples of a lossless string. That a width of 9 to 15, which R218 does not allow, reads that many bits, of which
the sample keeps eight, is DESIGN CHOICE, log entry 40. -/
def tcfLossless (v : Nat) : List Nat :=
  let ws := tcfWidths v
  ((List.range 128).foldl (fun (a : Nat × List Nat) i =>
    let w := ws.getD (i / 16) 0
    (a.1 + w, a.2 ++ [(tcfPred (v % 256) a.2 i + tcfR (bitString v a.1 w)) % 256])) (40, [])).2

/-- The coded samples of a block, from its format, its header, its slot and the block above it; the error it shows, if any
(Table TCF-1, Table TCF-2): read as 128 throughout. -/
def tcfBlock (fmt hdr : Nat) (slot : List Byte) (up : Option (List Nat)) : List Nat × Option Nat :=
  let v := leNat slot
  let grey := List.replicate 128 128
  if hdr = 0 then (up.getD grey, none)
  else if hdr ≤ 3 then
    if 256 * hdr < tcfBits (tcfWidths v) then (grey, some 0x0101) else (tcfLossless v, none)
  else if hdr = 4 then (slot.map BitVec.toNat, none)
  else if fmt = 4 ∧ 9 ≤ hdr ∧ hdr ≤ 11 then
    if 256 * (hdr - 8) < 2 + tcfBits (tcfWidths (v / 4)) then (grey, some 0x0101)
    else
      let q := v % 4
      ((tcfLossless (v / 4)).map fun t => t * 2 ^ q + (if 0 < q then 2 ^ (q - 1) else 0), none)
  else (grey, some 0x0100)

/-- Bits that a number below 512 needs. -/
def bitLen (z : Nat) : Nat := ((List.range 9).find? fun w => decide (z < 2 ^ w)).getD 9

/-- The residual codes of a block of samples. -/
def tcfCodes (ss : List Nat) : List Nat :=
  (List.range 128).map fun i => tcfZ (tcfPred (ss.getD 0 0) ss i) (ss.getD i 0)

/-- The smallest widths of the eight groups. -/
def tcfFit (zs : List Nat) : List Nat :=
  (List.range 8).map fun g => (((zs.drop (16 * g)).take 16).map bitLen).foldl max 0

/-- The lossless string of a block of samples. -/
def tcfString (ss : List Nat) : Nat :=
  let zs := tcfCodes ss
  let ws := tcfFit zs
  let head := ss.getD 0 0 + ((List.range 8).map fun g => ws.getD g 0 * 2 ^ (8 + 4 * g)).sum
  ((List.range 128).foldl (fun (a : Nat × Nat) i => (a.1 + ws.getD (i / 16) 0, a.2 + zs.getD i 0 * 2 ^ a.1)) (40, head)).2

/-- What the 4880 writes for a block of a lossless format: header and slot bytes in use (R218). -/
def tcfWrite (ss : List Nat) (up : Option (List Nat)) : Nat × List Byte :=
  let bits := tcfBits (tcfFit (tcfCodes ss))
  if ss = up.getD (List.replicate 128 128) then (0, [])
  else if bits ≤ 768 then (ceilDiv bits 256, leBytes (32 * ceilDiv bits 256) (tcfString ss))
  else (4, ss.map (BitVec.ofNat 8))

/-- What the DISP and VIS outputs write for a block of FMT 4, with LTGT target sectors (R218). -/
def tcfWriteLossy (ltgt : Nat) (ss : List Nat) (up : Option (List Nat)) : Nat × List Byte :=
  if ss = up.getD (List.replicate 128 128) then (0, [])
  else
    let fits (q : Nat) : Bool := decide (2 + tcfBits (tcfFit (tcfCodes (ss.map (· / 2 ^ q)))) ≤ 256 * ltgt)
    match (List.range 4).find? fits with
    | some q =>
      let ts := ss.map (· / 2 ^ q)
      let n := ceilDiv (2 + tcfBits (tcfFit (tcfCodes ts))) 256
      (8 + n, leBytes (32 * n) (q + 4 * tcfString ts))
    | none => (4, ss.map (BitVec.ofNat 8))

/-! ### Planes in memory (R217) -/

/-- The 4-bit header of block `i` of a plane (R217). -/
def tcfHeader (s : State) (pl : Plane) (i : Nat) : Nat := s.dramNat (pl.headers + i / 2) 1 / 16 ^ (i % 2) % 16

/-- The slot of block `i` (R217). -/
def tcfSlot (s : State) (pl : Plane) (i : Nat) : List Byte := s.dramRead (pl.addr + 128 * i) 128

/-- The coded samples of block (bx, y) as they stand in memory (R217, R218). -/
def tcfCoded (s : State) (pl : Plane) (bx : Nat) : Nat → List Nat
  | 0 => (tcfBlock pl.fmt (tcfHeader s pl bx) (tcfSlot s pl bx) none).1
  | y + 1 =>
    let i := (y + 1) * pl.pitch + bx
    (tcfBlock pl.fmt (tcfHeader s pl i) (tcfSlot s pl i) (some (tcfCoded s pl bx y))).1

/-- The block above (bx, y), where there is one. -/
def tcfAbove (s : State) (pl : Plane) (bx y : Nat) : Option (List Nat) := if y = 0 then none else some (tcfCoded s pl bx (y - 1))

/-- The samples of block (bx, y): TCF 10-bit joins the low bits to the coded samples (R217, R218, log entry 40). -/
def tcfSamples (s : State) (pl : Plane) (bx y : Nat) : List Nat :=
  let cs := tcfCoded s pl bx y
  if pl.fmt = 3 then
    let low := leNat (s.dramRead (pl.lowBits + 32 * (y * pl.pitch + bx)) 32)
    cs.mapIdx fun k c => 4 * c + bitString low (2 * k) 2
  else cs

/-- A sample of a plane as memory holds it. -/
def Plane.sample (s : State) (pl : Plane) (r c : Nat) : Nat :=
  if isTcf pl.fmt then (tcfSamples s pl (c / 32) (r / 4)).getD (32 * (r % 4) + c % 32) 0
  else if pl.fmt = 1 then s.dramNat (pl.addr + pl.pitch * r + 2 * c) 2 % 1024
  else s.dramNat (pl.addr + pl.pitch * r + c) 1

/-- The picture that a surface holds. -/
def Surface.picture (s : State) (f : Surface) : Picture := fun p r c => (f.plane p).sample s r c

/-- Block (bx, y) of a plane is written: its header, the sectors it takes, and its low bits (R217, R218). -/
def writeBlock (ltgt : Nat) (pl : Plane) (bx y : Nat) (ss : List Nat) (s : State) : State :=
  let i := y * pl.pitch + bx
  let up := tcfAbove s pl bx y
  let w := if pl.fmt = 4 then tcfWriteLossy ltgt ss up else tcfWrite (if pl.fmt = 3 then ss.map (· / 4) else ss) up
  let other := s.dramNat (pl.headers + i / 2) 1 / 16 ^ (1 - i % 2) % 16
  let t := s.dramWrite (pl.headers + i / 2) (leBytes 1 (w.1 * 16 ^ (i % 2) + other * 16 ^ (1 - i % 2)))
  let t := t.dramWrite (pl.addr + 128 * i) w.2
  if pl.fmt = 3 then t.dramWrite (pl.lowBits + 32 * i) (leBytes 32 ((ss.mapIdx fun k v => v % 4 * 4 ^ k).sum)) else t

/-- A block of a plane takes the samples that `on` names from `pic`, and what lies outside the picture from `pad`. A block
below one that has changed is written again where it was a copy of it (R218). -/
def mergeBlock (ltgt : Nat) (pl : Plane) (on : Nat → Nat → Bool) (pic pad : Nat → Nat → Nat) (was : State) (bx y : Nat)
    (s : State) : State :=
  let at' (k : Nat) : Nat × Nat := (4 * y + k / 32, 32 * bx + k % 32)
  let inside (k : Nat) : Bool := decide ((at' k).1 < pl.h ∧ (at' k).2 < pl.w)
  let hit := (List.range 128).any fun k => inside k && on (at' k).1 (at' k).2
  let old := tcfSamples was pl bx y
  if hit then
    writeBlock ltgt pl bx y ((List.range 128).map fun k =>
      if !inside k then pad (at' k).1 (at' k).2
      else if on (at' k).1 (at' k).2 then pic (at' k).1 (at' k).2 else old.getD k 0) s
  else if tcfHeader was pl (y * pl.pitch + bx) = 0 ∧ tcfAbove was pl bx y ≠ tcfAbove s pl bx y then writeBlock ltgt pl bx y old s
  else s

/-- The rows of a plane from `a` on: the samples that `on` names are stored, and no other sample changes. -/
def storePlane (pl : Plane) (on : Nat → Nat → Bool) (pic pad : Nat → Nat → Nat) (a : Nat) (s : State) : State :=
  if isTcf pl.fmt then
    let ltgt := max 1 (s.get TCF.CFG_LTGT)
    (List.range (pl.blockRows - a / 4)).foldl (fun t y => (List.range (ceilDiv pl.w 32)).foldl (fun t bx =>
      mergeBlock ltgt pl on pic pad s bx (a / 4 + y) t) t) s
  else
    let b := if pl.fmt = 1 then 2 else 1
    (List.range (pl.h - a)).foldl (fun t r => (List.range pl.w).foldl (fun t c =>
      if on (a + r) c then t.dramWrite (pl.addr + pl.pitch * (a + r) + b * c) (leBytes b (pic (a + r) c)) else t) t) s

/-- The samples of a picture that `on` names by plane, row and column, in luma rows from `a` on, are stored in a surface;
what a block holds outside the picture is open (log entry 7). -/
def storePicture (f : Surface) (on : Nat → Nat → Nat → Bool) (pic : Picture) (a : Nat) (s : State) : State :=
  let (k, t) := s.fresh
  let pad := openPicture k (fmtDepth f.fmt)
  let t := storePlane (f.plane 0) (on 0) (pic 0) (pad 0) a t
  storePlane (f.plane 1) (on 1) (pic 1) (pad 1) (a / 2) t

/-- A whole picture is stored in a surface. -/
def storeSurface (f : Surface) (pic : Picture) (s : State) : State := storePicture f (fun _ _ _ => true) pic 0 s

/-! ### Reads through TCF (Table TCF-2, Table TCF-3) -/

/-- Sectors that are read for a block (Table TCF-1); those of a reserved code are open. -/
def tcfSectors (fmt hdr : Nat) : Nat :=
  if hdr ≤ 4 then hdr else if fmt = 4 ∧ 9 ≤ hdr ∧ hdr ≤ 11 then hdr - 8 else Config.reservedSectors hdr % 5

/-- Plain size of a block, and what is read for it with its header, in half bytes (R217). -/
def blockCost (s : State) (pl : Plane) (i : Nat) : Nat × Nat :=
  let low := if pl.fmt = 3 then 64 else 0
  (256 + low, 64 * tcfSectors pl.fmt (tcfHeader s pl i) + 1 + low)

/-- The blocks of a plane that a test names by block row and column. -/
def blocksIn (pl : Plane) (on : Nat → Nat → Bool) : List Nat :=
  (List.range pl.blockRows).flatMap fun y => ((List.range (ceilDiv pl.w 32)).filter (on y)).map (y * pl.pitch + ·)

/-- TCF's counters of plain and stored KiB move on by so many half bytes (Table TCF-3). -/
def tcfTally (p q : Nat) (s : State) : State :=
  let a := s.csch.rdPlain + p
  let b := s.csch.rdStored + q
  { s with csch := { s.csch with rdPlain := a % 2048, rdStored := b % 2048 } }.puts
    [(TCF.RDPLAIN_KIB, s.get TCF.RDPLAIN_KIB + a / 2048), (TCF.RDSTORED_KIB, s.get TCF.RDSTORED_KIB + b / 2048)]

/-- Blocks of a plane are read: the errors they show are recorded, and they are counted. -/
def readBlocks (pl : Plane) (on : Nat → Nat → Bool) (s : State) : State :=
  if isTcf pl.fmt then
    (blocksIn pl on).foldl (fun t i =>
      let t := ((tcfBlock pl.fmt (tcfHeader s pl i) (tcfSlot s pl i) none).2).elim t fun e => recErr .tcf e t
      tcfTally (blockCost s pl i).1 (blockCost s pl i).2 t) s
  else s

/-- The luma rows of a surface that a test names are read, with the chroma rows that lie with them. -/
def readWhere (f : Surface) (row : Nat → Bool) (s : State) : State :=
  let t := readBlocks (f.plane 0) (fun y _ => (List.range 4).any fun k => row (4 * y + k)) s
  readBlocks (f.plane 1) (fun y _ => (List.range 8).any fun k => row (8 * y + k)) t

/-- The 64 × 64 luma areas of a surface that a test names by their row and column are read, with their chroma. -/
def readAreas (f : Surface) (on : Nat → Nat → Bool) (s : State) : State :=
  readBlocks (f.plane 1) (fun y x => on (y / 8) (x / 2)) (readBlocks (f.plane 0) (fun y x => on (y / 16) (x / 2)) s)

/-- Luma rows from `a` to before `b` of a surface are read. -/
def readRows (f : Surface) (a b : Nat) (s : State) : State := readWhere f (fun y => decide (a ≤ y ∧ y < b)) s

end Sys2Proof.Machine
end

