-- ==== Sys2Proof/Machine/Ecc.lean ====
section
/-! DEFINITION. Control-store words: their check code, their decoding, where a cell's words come from, and what a
correctable finding does (R274 to R280, R282). -/

namespace Sys2Proof.Machine

/-- The position of data bit `i` in the check code's numbering (R277): the (i + 1)-th number that is no power of two. -/
def eccPos (i : Nat) : Nat :=
  if i < 1 then 3 else if i < 4 then i + 4 else if i < 11 then i + 5 else if i < 26 then i + 6
  else if i < 57 then i + 7 else i + 8

/-- The parity of the data bits (120 of them) that a test names. -/
def eccParity (d : Nat) (p : Nat → Bool) : Bool :=
  (List.range 120).foldl (fun b i => if p i && natBit d i then !b else b) false

/-- Check bits c0 to c6 of 120 data bits (R277). -/
def eccCheck (d : Nat) : Nat :=
  ((List.range 7).map fun j => if eccParity d (fun i => natBit (eccPos i) j) then 2 ^ j else 0).sum

/-- The parity of a number's low `n` bits. -/
def oddBits (v n : Nat) : Bool := (List.range n).foldl (fun b i => if natBit v i then !b else b) false

/-- A word with its check code (R277). -/
def eccEncode (d : Nat) : CsWord :=
  let c := eccCheck d
  BitVec.ofNat 128 (d % 2 ^ 120 + 2 ^ 120 * c + (if oddBits (d % 2 ^ 120) 120 != oddBits c 7 then 2 ^ 127 else 0))

/-- The syndrome s and the overall parity P of a stored word (R278). -/
def eccSyndrome (w : CsWord) : Nat × Bool :=
  let d := w.toNat % 2 ^ 120
  ((w.toNat / 2 ^ 120 % 128) ^^^ eccCheck d, oddBits w.toNat 128)

/-- What a word decodes as (R278): 0 clean, 1 correctable, 2 uncorrectable. -/
def eccResult (w : CsWord) : Nat :=
  let (s, p) := eccSyndrome w
  if p then 1 else if s = 0 then 0 else 2

/-- The stored bit that a correctable syndrome names (R278). -/
def eccBit (s : Nat) : Nat :=
  if s = 0 then 127
  else match (List.range 7).find? fun j => s == 2 ^ j with
    | some j => 120 + j
    | none => ((List.range 120).find? fun i => eccPos i == s).getD 127

/-- The corrected word of a correctable one (R278). -/
def eccFix (w : CsWord) : CsWord := w ^^^ BitVec.ofNat 128 (2 ^ eccBit (eccSyndrome w).1)

/-! ### Lines of the MRAM (R362) -/

/-- Lines of a list that a run of bytes touches. -/
def linesIn (ls : List Nat) (a n : Nat) : List Nat := ls.filter fun l => decide (l * 64 < a + n ∧ a < l * 64 + 64)

/-- A run of bytes touches an uncorrectable line (R362). -/
def lineBad (s : State) (a n : Nat) : Bool := !(linesIn s.nvm.badLines a n).isEmpty

/-- One uncorrectable line read: recorded, and the first one shown (R362). -/
def noteBad (l : Nat) (s : State) : State :=
  let t := recErr .store 0x0100 s
  if s.bit STORE.UNCORR_VALID then t else t.puts [(STORE.UNCORR_VALID, 1), (STORE.UNCORR_LINE, l)]

/-- What a read of a run of bytes leaves: corrected lines counted, uncorrectable ones recorded (R362). -/
def noteReads (a n : Nat) (s : State) : State :=
  let t := (linesIn s.nvm.weakLines a n).foldl (fun t _ => (t.inc STORE.CORR_COUNT).put STORE.ISR_CORR 1) s
  (linesIn s.nvm.badLines a n).foldl (fun t l => noteBad l t) t

/-! ### What the stores are loaded from -/

/-- The start of a firmware slot (Table STORE-1). -/
def slotBase (slot : Nat) : Nat := if slot = 0 then 0x10000 else 0x610000

/-- Offset of the section of a type in a slot's image, from its header (Table UPD-1). -/
def sectionOff (s : State) (slot typ : Nat) : Nat :=
  ((List.range 8).findSome? fun j =>
    if s.mramNat (slotBase slot + 48 + 16 * j) 1 = typ then some (s.mramNat (slotBase slot + 52 + 16 * j) 4) else none).getD 0

/-- The bytes of a control store, 128 KiB (R280). -/
def storeLen : Nat := 0x20000

/-- Where the microcode of the running slot stands (R280). -/
def microAddr (s : State) : Nat := slotBase s.nvm.running + sectionOff s s.nvm.running 2

/-- The microcode that Utilior loads: the bytes of the active slot's microcode section that are not 0 (R280). -/
def microImage (s : State) : List (Nat × Byte) :=
  let a := microAddr s
  s.nvm.mram.filterMap fun e => if a ≤ e.1 ∧ e.1 < a + storeLen then some (e.1 - a, e.2) else none

/-- Word `w` of the bytes of a store: bits [8k+7:8k] stand in byte 16 w + k (R274, R280). -/
def wordIn (st : List (Nat × Byte)) (w : Nat) : CsWord := BitVec.ofNat 128 (leNat (SMap.getMany memDefault st (16 * w) 16))

/-- The bytes of a store with word `w` changed. -/
def withWord (st : List (Nat × Byte)) (w : Nat) (v : CsWord) : List (Nat × Byte) :=
  SMap.setMany memDefault st (16 * w) (leBytes 16 v.toNat)

/-- A stored word of a cell's control store (R274). -/
def storeWord (s : State) (n w : Nat) : CsWord := wordIn (s.cell n).store w

/-- A stored word changes. -/
def setStoreWord (n w : Nat) (v : CsWord) (s : State) : State :=
  s.setCell n { s.cell n with store := withWord (s.cell n).store w v }

/-- A loaded store passes its check: every word is clean, the digest is the one in the signed image, and no line of the
section is uncorrectable (R280, R362). A word of zeros is clean, so the words with a byte that is not 0 decide. -/
def storePasses (s : State) (st : List (Nat × Byte)) : Bool :=
  !lineBad s (microAddr s) storeLen && (st.all fun e => eccResult (wordIn st (e.1 / 16)) == 0) &&
    decide (Config.sha384 (SMap.getMany memDefault st 0 storeLen) = s.mramRead (slotBase s.nvm.running + 176) 48)

/-- An upset turns bits of a stored word over: it comes from outside, and a mask of zero is none. -/
def upsetWord (n w : Nat) (m : CsWord) (s : State) : State :=
  if m = 0 then s else setStoreWord n w (storeWord s n w ^^^ m) s

/-- A correctable finding at a word (R282): counted and shown, and a write-back requested. -/
def findCorrectable (n w : Nat) (s : State) : State :=
  let t := (s.inc (CELL.CSCORR_COUNT n)).puts [(CELL.CSERR_CVALID n, 1), (CELL.CSERR_CADDR n, w), (CELL.ISR_CSCORR n, 1)]
  let c := t.cell n
  if c.wb.any (·.1 == w) then t else t.setCell n { c with wb := c.wb ++ [(w, eccFix (storeWord s n w))] }

/-! ### Microwords (R275, R276) -/

/-- The resources from CNT to EC, in the order of their fields: lowest bit, bits of ARG, bits of OP (Table CELL-5). -/
def resourceFields : List (Nat × Nat × Nat) :=
  [(93, 3, 3), (83, 5, 5), (74, 5, 4), (66, 4, 4), (58, 4, 4), (48, 6, 4), (40, 4, 4), (31, 5, 4), (19, 7, 5), (10, 5, 4),
   (0, 5, 5)]

/-- A microword: NEXT, COND, TARGET, and the OP and ARG that each resource is given (Table CELL-5). -/
structure Micro where
  next : Nat
  cond : Nat
  target : Nat
  cmds : List (Nat × Nat)
  deriving DecidableEq, Repr

/-- The fields of a microword (R275). -/
def microOf (d : Nat) : Micro :=
  { next := bitString d 117 3, cond := bitString d 112 5, target := bitString d 99 13
    cmds := resourceFields.map fun f => (bitString d (f.1 + f.2.1) f.2.2, bitString d f.1 f.2.1) }

/-- The same microword with its resource fields idle (Table CELL-6, WAIT): it still names its counter. -/
def idleWord (d : Nat) : Nat := d / 2 ^ 99 * 2 ^ 99 + bitString d 93 3 * 2 ^ 93

/-- COND is true: always for code 0, else as the conditions of the cycle say (Table CELL-7). -/
def condTrue (c : Nat) (conds : BitVec 32) : Bool := c == 0 || natBit conds.toNat c

/-- The first uncorrectable word found is shown (R283). -/
def showUncorrectable (n w : Nat) (s : State) : State :=
  if s.bit (CELL.CSERR_UVALID n) then s else s.puts [(CELL.CSERR_UVALID n, 1), (CELL.CSERR_UADDR n, w)]

end Sys2Proof.Machine
end

