-- ==== Sys2Proof/Machine/Caddy.lean ====
section
/-! DEFINITION. Caddy (05_caddy_current_budget.md): the budget, requests, grants and returns, ageing, the brake, and
the supply condition that ties the budget to the clocks (R102). Granting itself, which acts on the consumers, stands
in Machine/Grants.lean. -/

namespace Sys2Proof.Machine

/-- The sum of the grants held (R118). -/
def granted (s : State) : Nat := (s.caddy.grants.map (·.amt)).sum

/-- TEMP.TJ in °C (Table CADDY-7). -/
def tj (s : State) : Int := toSigned 8 (s.get CADDY.TEMP_TJ)

/-- The effective budget from the present fields (R118). -/
def effNow (s : State) : Nat :=
  ((s.getA CADDY.BUDGET_AMT : Int) - s.get CADDY.DERATE_SLOPE * max 0 (tj s - s.get CADDY.DERATE_T0)).toNat

/-- Arbitration cycle, 20 ns, of an instant of MTIME (R122, R125). The manual gives no phase between the root ÷ 96 and
MTIME; that a cycle begins at MTIME 0 is DESIGN CHOICE, log entry 37. -/
def arbCycle (t : Nat) : Nat := t * 15625 / 30720

/-- eff as AVAIL.EFF shows it and grants are judged by: a recomputation counts from the next arbitration cycle on (R132,
Table CADDY-4). -/
def effShown (s : State) : Nat :=
  match s.caddy.effOld with
  | some (c, v) => if c = arbCycle s.mtime then v else s.get CADDY.AVAIL_EFF
  | none => s.get CADDY.AVAIL_EFF

/-- The current available for a new grant (R118). -/
def available (s : State) : Int := (effShown s : Int) - s.getA CADDY.RESERVE_AMT - granted s

/-- An amount could not be granted even with nothing else held (R127). -/
def tooBig (s : State) (amt : Nat) : Bool :=
  decide ((effShown s : Int) - s.getA CADDY.RESERVE_AMT < amt) && amt != 0

/-- An amount exceeds eff − RESERVE as last computed, by which the next arbitration cycle judges (R127, R132). -/
def exceedsEff (s : State) (amt : Nat) : Bool :=
  decide ((s.get CADDY.AVAIL_EFF : Int) - s.getA CADDY.RESERVE_AMT < amt) && amt != 0

/-- Caddy recomputes eff; its result counts from the next arbitration cycle on (R132, R133). Requests leave or rejoin
the order as it changes (R127). -/
def recomputeEff (s : State) : State :=
  let t := { (s.put CADDY.AVAIL_EFF (effNow s)) with caddy := { s.caddy with
    effOld := some (arbCycle s.mtime, effShown s) } }
  let t := if (t.get CADDY.AVAIL_EFF : Int) < granted t + t.getA CADDY.RESERVE_AMT then t.put CADDY.ISR_OVERCOMMIT 1 else t
  let big := t.caddy.waits.any fun r => exceedsEff t r.amt && !r.oversize
  let t := { t with caddy := { t.caddy with waits := t.caddy.waits.map fun r => { r with oversize := exceedsEff t r.amt } } }
  if big then t.put CADDY.ISR_OVERSIZE 1 else t

/-- A consumer holds a grant. -/
def holdsGrant (s : State) (id : Nat) : Bool := s.caddy.grants.any (·.id == id)

/-- A consumer's granted start has come (R123). -/
def hasBegun (s : State) (id : Nat) : Bool := s.caddy.grants.any fun g => g.id == id && g.begun

/-- A consumer's request waits. -/
def waitsGrant (s : State) (id : Nat) : Bool := s.caddy.waits.any (·.id == id)

/-- A request as Caddy accepts it (R120, R124, R127, R412). -/
def caddyRequest (id amt prio start : Nat) (s : State) : State :=
  if holdsGrant s id || waitsGrant s id then s
  else
    let big := exceedsEff s amt
    let t := { s with caddy := { s.caddy with
      waits := s.caddy.waits ++ [{ id, amt, prio, start, time := s.mtime, aged := false, oversize := big }] } }
    if big then t.put CADDY.ISR_OVERSIZE 1 else t

/-- The request of a standing consumer, 8 to 16, at its claim (Table CADDY-1, R123). -/
def standingRequest (id : Nat) (s : State) : State :=
  caddyRequest id (s.getA (CADDY.CLAIM_AMT (id - 8))) (s.getA (CADDY.CLAIM_PRIO (id - 8))) s.mtime s

/-- The request of a cell for a strip (R120). -/
def cellRequest (n : Nat) (enc : Bool) (start : Nat) (s : State) : State :=
  caddyRequest n (if enc then s.getA CADDY.CELLCLAIM_ENC else s.getA CADDY.CELLCLAIM_DEC)
    (s.getA CADDY.CELLCLAIM_PRIO) start s

/-- A grant is struck, with no judgement on the consumer. -/
def dropGrant (id : Nat) (s : State) : State :=
  { s with caddy := { s.caddy with grants := s.caddy.grants.filter (·.id != id) } }

/-- A waiting request is struck: nothing is returned and nothing recorded (R412). -/
def withdraw (id : Nat) (s : State) : State :=
  { s with caddy := { s.caddy with waits := s.caddy.waits.filter (·.id != id) } }

/-- A consumer stops: its grant is returned, or its waiting request withdrawn (R120, R412). -/
def stopConsumer (id : Nat) (s : State) : State := withdraw id (dropGrant id s)

/-- A return as Caddy receives it: from a consumer that neither holds nor waits it is stray (R412). -/
def caddyReturnOp (id : Nat) (s : State) : State :=
  if holdsGrant s id then dropGrant id s
  else if waitsGrant s id then withdraw id s
  else recErr .caddy 0x0101 s

/-- A waiting request has waited longer than so many µs (98.304 ticks each). -/
def waitedOver (s : State) (r : Req) (us : Nat) : Bool := decide (us * 98304 < (s.mtime - r.time) * 1000)

/-- A waiting request has waited so many µs or longer (R125). -/
def waitedAtLeast (s : State) (r : Req) (us : Nat) : Bool := decide (us * 98304 ≤ (s.mtime - r.time) * 1000)

/-- One request is ahead of another (R125). -/
def aheadOf (a b : Req) : Bool :=
  let pa := if a.aged then 3 else a.prio
  let pb := if b.aged then 3 else b.prio
  decide (pb < pa) || (pa == pb && (decide (arbCycle a.time < arbCycle b.time) ||
    (arbCycle a.time == arbCycle b.time && decide (a.id < b.id))))

/-- Eleven samples in a row lie above LIMIT in RUN: the brake engages in this cycle (R129). -/
def brakeDue (s : State) : Bool := s.get CADDY.STS_STATE == 1 && decide (11 ≤ s.caddy.above)

/-- The request takes part in the order: not oversize, and no cell while the brake is engaged or engages in this cycle
(R125, R127, R130, Table CADDY-4). -/
def inOrder (s : State) (r : Req) : Bool :=
  !tooBig s r.amt && !(decide (r.id < 8) && (s.get CADDY.STS_STATE != 1 || brakeDue s))

/-- A request may be granted now: it fits, and no request ahead of it has waited ARB.HOL µs (R118, R121, R125). -/
def grantable (s : State) (r : Req) : Bool :=
  inOrder s r && (r.amt == 0 || (decide ((r.amt : Int) ≤ available s) &&
    s.caddy.waits.all fun q => !(inOrder s q && aheadOf q r && waitedAtLeast s q (s.get CADDY.ARB_HOL))))

/-- The request that Caddy grants next: of those that may be granted, the first in the order (R125). -/
def nextGrant (s : State) : Option Req :=
  let c := s.caddy.waits.filter (grantable s)
  c.find? fun r => c.all fun q => q.id == r.id || aheadOf r q

/-- The grant of a request: the granted start, the sum, and the notice to REG (R121, R123). -/
def grantReq (r : Req) (s : State) : State :=
  let st := max r.start (s.mtime + s.get CADDY.FFLEAD_TICKS)
  { s with caddy := { s.caddy with
    waits := s.caddy.waits.filter (·.id != r.id)
    grants := s.caddy.grants ++ [{ id := r.id, amt := r.amt, start := st, begun := false }]
    notices := if r.amt = 0 then s.caddy.notices else s.caddy.notices ++ [(r.amt, st)] } }

/-- Every grant returned and every waiting request withdrawn (R23, R114, Table CADDY-4). -/
def caddyClear (s : State) : State := { s with caddy := { s.caddy with grants := [], waits := [] } }

/-- One sample of IMEAS.TOTAL as the brake counts it (R129). -/
def caddySample (s : State) : State :=
  let tot : Int := s.get REG.IMEAS_TOTAL
  { s with caddy := { s.caddy with
    above := if (s.get CADDY.BRAKE_LIMIT : Int) < tot then s.caddy.above + 1 else 0
    below := if tot ≤ s.get CADDY.BRAKE_LIMIT - s.get CADDY.BRAKE_HYST then s.caddy.below + 1 else 0 } }

/-! ### Register writes -/

/-- BUDGET, shadowed (R131, Table CADDY-5). -/
def writeBudget (d : W32) (s : State) : State :=
  let v := CADDY.BUDGET_AMT.ofData d
  checked .caddy [(decide (v < 20 ∨ 640 < v), 0x0100), (decide (s.get CADDY.BRAKE_LIMIT < v), 0x0104)]
    (fun t => t.put CADDY.BUDGET_AMT v) s

/-- RESERVE, shadowed (Table CADDY-5). -/
def writeReserve (d : W32) (s : State) : State :=
  let v := CADDY.RESERVE_AMT.ofData d
  checked .caddy [(decide (s.get CADDY.BUDGET_AMT ≤ v), 0x0103)] (fun t => t.put CADDY.RESERVE_AMT v) s

/-- BRAKE, at once (R131). -/
def writeBrake (d : W32) (s : State) : State :=
  let v := CADDY.BRAKE_LIMIT.ofData d
  checked .caddy [(decide (v < s.getA CADDY.BUDGET_AMT ∨ v < s.get CADDY.BUDGET_AMT), 0x0102)]
    (fun t => t.storeAll [CADDY.BRAKE_LIMIT, CADDY.BRAKE_HYST] d) s

/-- DERATE, at once, followed by a new eff (R132); a write of the value it holds has no effect (R72). -/
def writeDerate (d : W32) (s : State) : State :=
  let fs := [CADDY.DERATE_T0, CADDY.DERATE_SLOPE]
  if fs.all fun f => f.ofData d == s.get f then s else recomputeEff (s.storeAll fs d)

/-! ### The supply duty of R102 -/

/-- The lowest VDD_CORE, in µV, that a divider setting needs (Table REG-3). -/
def minVolt (cell isp fab : Nat) : Nat :=
  if 12 ≤ cell ∧ 16 ≤ isp ∧ 24 ≤ fab then 650000
  else if 7 ≤ cell ∧ 10 ≤ isp ∧ 14 ≤ fab then 700000
  else 760000

/-- VSET − LL × budget, in half µV, from the active copies (R102). -/
def steadyVolt (s : State) : Int :=
  (s.getA REG.VSET_CODE * 2500 : Nat) - (s.getA REG.LL_MOHM * s.getA CADDY.BUDGET_AMT * 5 : Nat)

/-- R102 holds for a divider setting. -/
def supplyOk (s : State) (cell isp fab : Nat) : Bool := decide ((minVolt cell isp fab * 2 : Int) ≤ steadyVolt s)

/-- An unsupported condition holds from here on (R5). -/
def unsupported (s : State) : State := { s with sys := { s.sys with unsup := Unsup.all } }

/-- After a commit of REG or CADDY the dividers in use, or being changed to, must still have their voltage
(R102, R103, log entry 8). -/
def checkSupply (s : State) : State :=
  let now := supplyOk s (s.get CLK.DIVSTS_CELL) (s.get CLK.DIVSTS_ISP) (s.get CLK.DIVSTS_FAB)
  let next := supplyOk s (s.get CLK.DIV_CELL) (s.get CLK.DIV_ISP) (s.get CLK.DIV_FAB)
  if now && next then s else unsupported s

/-! ### Commands -/

/-- CADDY_RETURN: a consumer's return arrives (R124, R412). -/
def execCaddyReturn (c : Fin 17) (s : State) : Out := onKa (caddyReturnOp c) s

/-- The consumer's request has waited longer than ARB.AGE and is not aged yet (R126). -/
def agedDue (s : State) (id : Nat) : Bool :=
  s.caddy.waits.any fun r => r.id == id && !r.aged && waitedOver s r (s.get CADDY.ARB_AGE)

def requestAgedEff (c : Nat) (s : State) : State :=
  if agedDue s c then
    { (s.put CADDY.ISR_AGED 1) with caddy := { s.caddy with
      waits := replaceIf (·.id == c) (fun r => { r with aged := true }) s.caddy.waits } }
  else s

/-- REQUEST_AGED (R126). -/
def execRequestAged (c : Fin 17) (s : State) : Out := onKa (requestAgedEff c) s

def brakeEngageEff (s : State) : State :=
  if brakeDue s then
    let t := ((s.put CADDY.STS_STATE 2).put CADDY.ISR_BRAKE 1).inc CADDY.BRKCNT_COUNT
    { t with caddy := { t.caddy with above := 0, below := 0 } }
  else s

/-- BRAKE_ENGAGE: eleven samples in a row above LIMIT (R129). -/
def execBrakeEngage (s : State) : Out := onKa brakeEngageEff s

def brake2Eff (s : State) : State :=
  if s.get CADDY.STS_STATE = 2 ∧ 100 ≤ s.caddy.above then
    let t := s.put CADDY.STS_STATE 3
    { t with caddy := { t.caddy with above := 0, below := 0 } }
  else s

/-- BRAKE2: samples above LIMIT for 10 µs, a hundred of them, in BRAKE1 (R129). -/
def execBrake2 (s : State) : Out := onKa brake2Eff s

def brakeStepBackEff (s : State) : State :=
  if s.get CADDY.STS_STATE = 3 ∧ 100 ≤ s.caddy.below then
    { (s.put CADDY.STS_STATE 2) with caddy := { s.caddy with below := 0 } }
  else if s.get CADDY.STS_STATE = 2 ∧ 100 ≤ s.caddy.below then
    { ((s.put CADDY.STS_STATE 1).put CADDY.ISR_RELEASE 1) with caddy := { s.caddy with above := 0, below := 0 } }
  else s

/-- BRAKE_STEP_BACK: every sample at or below LIMIT − HYST for 10 µs (R129). -/
def execBrakeStepBack (s : State) : Out := onKa brakeStepBackEff s

end Sys2Proof.Machine
end

