-- ==== Sys2Proof/Machine/Tim.lean ====
section
/-! DEFINITION. TIM (06_media_clock_references.md): reference monitors and qualification, selection, the loops,
holdover, and the outputs' controls. Offsets are in 0.01 ppm, loop frequencies in 0.00001 ppm. -/

namespace Sys2Proof.Machine

/-! ### References -/

/-- State of a reference (Table TIM-2). -/
def refState (s : State) (n : Nat) : Nat := s.get (TIM.RSTAT_STATE n)

/-- A reference is in one of the states Table TIM-2 calls eligible. -/
def refEligible (st : Nat) : Bool := decide (2 ≤ st ∧ st ≤ 4)

/-- RSTATn.OFF as a number (R136). -/
def refOff (s : State) (n : Nat) : Int := toSigned 16 (s.get (TIM.RSTAT_OFF n))

/-- XOEST.PPM as a number (R137). -/
def xoPpm (s : State) : Int := toSigned 16 (s.get TIM.XOEST_PPM)

def refTimer (s : State) (n : Nat) : Nat := SMap.get 0 s.tim.timers n

def setTimer (n v : Nat) (s : State) : State := { s with tim := { s.tim with timers := SMap.set 0 s.tim.timers n v } }

/-- A reference enters a state; leaving eligibility sets ISR.DISQ, REF_XO leaving QUALIFIED sets ISR.XODRIFT
(R137, R138). -/
def enterRef (n st : Nat) (s : State) : State :=
  let old := refState s n
  let t := setTimer n 0 (s.put (TIM.RSTAT_STATE n) st)
  let t := if refEligible old ∧ (st = 0 ∨ st = 5) then t.put TIM.ISR_DISQ 1 else t
  if n = 5 ∧ old = 2 ∧ st ≠ 2 then t.put TIM.ISR_XODRIFT 1 else t

/-- The measurements of a reference set. -/
def setMeas (n : Nat) (l : List Int) (s : State) : State := { s with tim := { s.tim with meas := SMap.set [] s.tim.meas n l } }

/-- A reference enters ABSENT: OFF reads 0 and FAM none, and what was measured counts no more (R136, Table TIM-9). -/
def enterAbsent (n : Nat) (s : State) : State :=
  setMeas n [] ((enterRef n 0 s).puts [(TIM.RSTAT_OFF n, 0), (TIM.RSTAT_FAM n, 0xF)])

/-- QUAL of a reference in 0.1 s, 0 acting as 1 (Table TIM-9); the copy in force since the last update (R139). -/
def refQual (s : State) (n : Nat) : Nat := max 1 (s.getA (TIM.REFCFG_QUAL n))

/-- A QUALIFIED reference's family differs from AUD.AFAM (ISR.FAMILY). -/
def familyDiffers (s : State) (n : Nat) : Bool :=
  decide (n < 4) && s.get (TIM.RSTAT_FAM n) != s.getA TIM.AUD_AFAM

/-- A reference becomes QUALIFIED (Table TIM-2). Table TIM-9 does not say when ISR.FAMILY is set: that it is on the entry
from QUALIFYING, and at an edge that changes AFAM, but not on the way back from ALARM, is DESIGN CHOICE, log entry 38. -/
def becomeQualified (n : Nat) (s : State) : State :=
  let t := (enterRef n 2 s).put TIM.ISR_QUAL 1
  if familyDiffers t n then t.put TIM.ISR_FAMILY 1 else t

/-- One judgement of a reference under Table TIM-2: `off` is the judged offset, `step` the 0.1 s units since the last
judgement. -/
def judgeRef (n : Nat) (off : Int) (step : Nat) (s : State) : State :=
  let soft : Int := s.getA (TIM.REFCFG_SOFT n) * 100
  let hard : Int := s.getA (TIM.REFCFG_HARD n) * 100
  let a := mag off
  match refState s n with
  | 0 => if a ≤ soft then enterRef n 1 s else enterRef n 5 s
  | 1 =>
    if soft < a then enterRef n 5 s
    else if refQual s n ≤ refTimer s n + step then becomeQualified n s
    else setTimer n (refTimer s n + step) s
  | 2 => if soft < a then (enterRef n 3 s).put TIM.ISR_SOFT 1 else s
  | 3 =>
    if a ≤ soft then enterRef n 2 s
    else if hard < a then (enterRef n 4 s).put TIM.ISR_HARD 1
    else s
  | 4 =>
    if a ≤ hard then enterRef n 3 s
    else if refQual s n ≤ refTimer s n + step then enterRef n 5 s
    else setTimer n (refTimer s n + step) s
  | _ => if a ≤ soft then enterRef n 1 s else s

/-- What the judgement adds to the offset of a reference other than REF_XO: XOEST.PPM once REF_XO has left QUALIFIED
(R137). -/
def xoShift (s : State) : Int := if refState s 5 = 3 ∨ refState s 5 = 4 ∨ refState s 5 = 5 then xoPpm s else 0

/-- The offset that the limits of a reference other than REF_XO are applied to (R137). -/
def judgedOff (s : State) (n : Nat) : Int := refOff s n + xoShift s

/-! ### Selection -/

/-- The QLs in use (R143). -/
def qlInUse (s : State) (n : Nat) : Nat := s.get TIM.QLSTS_LEVEL / 16 ^ n % 16

/-- Table TIM-3. -/
def qlOfClass (c : Nat) : Nat :=
  if c = 6 then 1 else if c = 7 then 2 else if c = 13 then 3 else if c = 14 then 4
  else if c = 52 ∨ c = 58 ∨ c = 187 ∨ c = 193 then 6 else if c = 248 then 10 else if c = 255 then 15 else 12

/-- QLSTS follows QL, the grandmaster's clockClass and PTPPROG (R143). -/
def qlUpdate (s : State) : State :=
  let l := s.getA TIM.QL_LEVEL
  let ptp := match s.tim.clockClass with
    | some c => if s.getA TIM.QL_PTPPROG = 0 then qlOfClass c else l / 256 % 16
    | none => l / 256 % 16
  s.put TIM.QLSTS_LEVEL (l / 4096 * 4096 + ptp * 256 + l % 256)

def prioOf (v n : Nat) : Nat := v / 8 ^ n % 8

/-- A reference is eligible for a domain (R140). -/
def eligibleFor (s : State) (d : TimDom) (n : Nat) : Bool :=
  refEligible (refState s n) && (match d with
    | .audio => prioOf (s.getA TIM.SELA_PRIO) n != 0 && (decide (4 ≤ n) || s.get (TIM.RSTAT_FAM n) == s.getA TIM.AUD_AFAM)
    | .video => prioOf (s.getA TIM.SELV_PRIO) n != 0 && qlInUse s n != 15)

/-- The rank of a reference in a domain: lower is better (R141, R142). -/
def rankOf (s : State) (d : TimDom) (n : Nat) : Nat :=
  match d with
  | .audio => prioOf (s.getA TIM.SELA_PRIO) n
  | .video => qlInUse s n * 8 + prioOf (s.getA TIM.SELV_PRIO) n

def stateFld (d : TimDom) : Fld := match d with | .audio => TIM.DSTS_ASTATE | .video => TIM.DSTS_VSTATE
def refFld (d : TimDom) : Fld := match d with | .audio => TIM.DSTS_AREF | .video => TIM.DSTS_VREF
def realFld (d : TimDom) : Fld := match d with | .audio => TIM.DSTS_REALA | .video => TIM.DSTS_REALV
def forceOf (s : State) (d : TimDom) : Nat := match d with | .audio => s.getA TIM.SELA_FORCE | .video => s.getA TIM.SELV_FORCE

/-- The reference that a domain has selected; none in HOLDOVER. -/
def selectedRef (s : State) (d : TimDom) : Option Nat := if s.get (stateFld d) = 3 then none else some (s.get (refFld d))

/-- The first-ranked eligible reference (R141, R142). -/
def firstRanked (s : State) (d : TimDom) : Option Nat :=
  let c := (List.range 6).filter (eligibleFor s d)
  c.find? fun n => c.all fun m => decide (rankOf s d n ≤ rankOf s d m)

/-- What a domain selects now (R141, R142, R144). -/
def chooseRef (s : State) (d : TimDom) : Option Nat :=
  if forceOf s d ≤ 5 then if eligibleFor s d (forceOf s d) then some (forceOf s d) else none
  else
    match firstRanked s d, d, selectedRef s d with
    | some b, .audio, some c =>
      if eligibleFor s d c ∧ s.get (stateFld d) ≠ 0 ∧ (s.getA TIM.SELA_REVERT = 0 ∨ rankOf s d c ≤ rankOf s d b) then some c
      else some b
    | b, _, _ => b

def State.loop (s : State) (d : TimDom) : LoopSt := match d with | .audio => s.tim.aud | .video => s.tim.vid

def State.setLoop (s : State) (d : TimDom) (l : LoopSt) : State :=
  match d with
  | .audio => { s with tim := { s.tim with aud := l } }
  | .video => { s with tim := { s.tim with vid := l } }

/-- The history of a loop freezes; frozen already, it keeps its frozen seconds and no longer waits to record (R148). -/
def freezeLoop (d : TimDom) (s : State) : State :=
  let l := s.loop d
  s.setLoop d { l with frozen := true, thaw := false, froze := if l.frozen then l.froze else l.sec }

/-- At a switch of the audio domain the phase of the new reference becomes the zero of its phase error (R147); where it
lies against the outputs is the reference's own: a free value. -/
def newPhase (d : TimDom) (n : Nat) (s : State) : State :=
  if d = .audio ∧ (n = 1 ∨ n = 3) then
    let (r, t) := s.fresh
    { t with tim := { t.tim with outs := { t.tim.outs with ph := r } } }
  else s

/-- A domain ranks and switches, or enters HOLDOVER (R145, R147). DESIGN CHOICE (log entry 38): the ranking as CTL.EN is
written 1 counts as a switch even where it selects REF_XO, which the domain tracked already. -/
def rankDomain (d : TimDom) (s : State) : State :=
  let new := chooseRef s d
  if s.get TIM.CTL_EN = 0 then s
  else if s.get (stateFld d) ≠ 0 ∧ new = selectedRef s d then s
  else
    match new with
    | some n =>
      let t := s.puts [(stateFld d, 1), (refFld d, n), (match d with | .audio => TIM.ISR_ASW | .video => TIM.ISR_VSW, 1)]
      let t := { t with tim := { t.tim with switches := t.tim.switches + (if d = TimDom.audio then 1 else 0) } }
      fireEdge 3 (newPhase d n (t.setLoop d { t.loop d with near := 0 }))
    | none =>
      freezeLoop d (s.puts [(stateFld d, 3), (match d with | .audio => TIM.ISR_HOLDA | .video => TIM.ISR_HOLDV, 1)])

/-- Both domains rank once (Table TIM-6). -/
def rankAll (s : State) : State := rankDomain .video (rankDomain .audio s)

/-- Loops whose selected reference is `n` freeze their history (R148). -/
def freezeOn (n : Nat) (s : State) : State :=
  let f (d : TimDom) (t : State) := if t.get (stateFld d) ≠ 0 ∧ selectedRef t d = some n then freezeLoop d t else t
  f .video (f .audio s)

/-- A change of a reference's rate: ABSENT, and the domains rank (R139, R145). -/
def refAbsent (n : Nat) (s : State) : State := if refState s n = 0 then s else rankAll (enterAbsent n s)

/-- Loss of signal of a reference: ABSENT, and the domains rank (R138, R145, R148). -/
def refLoss (n : Nat) (s : State) : State :=
  if n ≥ 5 ∨ refState s n = 0 then s else rankAll (enterAbsent n (freezeOn n s))

/-- Several references lost in one event: all enter ABSENT, then the domains rank once (Table TIM-6). -/
def refLosses (ns : List Nat) (s : State) : State :=
  match ns.filter fun n => refState s n != 0 with
  | [] => s
  | l => rankAll (l.foldl (fun t n => enterAbsent n (freezeOn n t)) s)

/-! ### The loops -/

/-- The frequency that a loop moves toward (R146, R148). That the HOLD.AVG frozen seconds are those whose number lies in the
HOLD.AVG seconds before the freeze, and that older ones across a gap in the history do not count, is DESIGN CHOICE, log
entry 38. -/
def loopTarget (s : State) (d : TimDom) : Int :=
  let l := s.loop d
  if s.get TIM.CTL_EN = 0 then 0
  else
    match selectedRef s d with
    | some n =>
      let h : Int := s.getA (TIM.REFCFG_HARD n) * 100000
      if n = 5 then 0 else max (-h) (min h (judgedOff s n * 1000)) - xoShift s * 1000
    | none =>
      let means := (l.hist.filter fun e => decide (l.froze ≤ e.1 + s.get TIM.HOLD_AVG)).map (·.2)
      if means.isEmpty then l.freq else openDiv means.sum means.length

/-- Distance of a loop's output from its selected reference is within 0.05 ppm (R149). -/
def nearRef (s : State) (d : TimDom) : Bool :=
  match selectedRef s d with
  | some n => decide (mag ((s.loop d).freq - (if n = 5 then 0 else refOff s n * 1000)) ≤ 5000)
  | none => false

/-- The step of a loop each 1 ms: SLEW × 0.01 ppm/s × 1 ms, 0 acting as 1 (R146). -/
def slewStep (s : State) (d : TimDom) : Nat :=
  max 1 (match d with | .audio => s.get TIM.DPLL_SLEWA | .video => s.get TIM.DPLL_SLEWV)

/-- The mean of each whole second enters the history unless it is frozen; a thawed history records again from a whole
second's start (R148). -/
def loopSecond (l : LoopSt) : LoopSt :=
  if l.ms + 1 < 1000 then { l with acc := l.acc + l.freq, ms := l.ms + 1 }
  else
    let m := openDiv (l.acc + l.freq) 1000
    let h := if l.frozen then l.hist else (l.sec, m) :: l.hist.filter fun e => decide (l.sec < e.1 + 60)
    { l with acc := 0, ms := 0, sec := l.sec + 1, hist := h, frozen := l.frozen && !l.thaw, thaw := false }

/-- The bandwidth code of a loop. -/
def bandwidth (s : State) (d : TimDom) : Nat := match d with | .audio => s.get TIM.DPLL_BWA | .video => s.get TIM.DPLL_BWV

/-- How far a loop moves at most in an update: the slew step, and while it tracks a selected reference no more than its
bandwidth lets it, which the manual does not give as a number (R146, log entry 12). -/
def loopReach (s : State) (d : TimDom) : Nat :=
  if s.get (stateFld d) = 1 ∨ s.get (stateFld d) = 2 then
    min (slewStep s d) (Config.loopStep (bandwidth s d) (loopTarget s d - (s.loop d).freq).natAbs)
  else slewStep s d

/-- One update of a loop (R146, R149). -/
def loopUpdate (d : TimDom) (s : State) : State :=
  let l := s.loop d
  let goal := loopTarget s d
  let k : Int := loopReach s d
  let f := if l.freq < goal then min goal (l.freq + k) else max goal (l.freq - k)
  let t := s.setLoop d (loopSecond { l with freq := f })
  let near := if nearRef t d then (t.loop d).near + 1 else 0
  let t := t.setLoop d { t.loop d with near := near }
  if t.get (stateFld d) = 2 ∧ near = 0 then t.put (stateFld d) 1 else t

/-! ### Register writes -/

/-- NOM codes that Table TIM-1 defines (R139). -/
def nomOk (n nom : Nat) : Bool :=
  if n = 2 ∨ n = 4 then decide (nom < 2) else if n = 3 then decide (nom < 6) else true

/-- REFCFGn; it acts at the next monitor update (R139, Table TIM-7). -/
def writeRefcfg (n : Nat) (d : W32) (s : State) : State :=
  let soft := (TIM.REFCFG_SOFT n).ofData d
  checked .tim [(decide (soft = 0 ∨ (TIM.REFCFG_HARD n).ofData d < soft) || !nomOk n ((TIM.REFCFG_NOM n).ofData d), 0x0100)]
    (fun t => t.storeAll [TIM.REFCFG_QUAL n, TIM.REFCFG_HARD n, TIM.REFCFG_SOFT n, TIM.REFCFG_NOM n] d) s

/-- DPLL (Table TIM-7). -/
def writeDpll (d : W32) (s : State) : State :=
  checked .tim [(decide (4 < TIM.DPLL_BWA.ofData d ∨ 4 < TIM.DPLL_BWV.ofData d), 0x0101)]
    (fun t => t.storeAll [TIM.DPLL_SLEWV, TIM.DPLL_SLEWA, TIM.DPLL_BWV, TIM.DPLL_BWA] d) s

/-- HOLD (Table TIM-7). -/
def writeHold (d : W32) (s : State) : State :=
  let v := TIM.HOLD_AVG.ofData d
  checked .tim [(decide (v = 0 ∨ 60 < v), 0x0104)] (fun t => t.put TIM.HOLD_AVG v) s

/-- AUD: AFAM, WDIV and MDIVn act at the next WCLK_OUT rising edge (R152, `takeAud`). -/
def writeAud (d : W32) (s : State) : State :=
  checked .tim [(decide (TIM.AUD_WDIV.ofData d = 3), 0x0103)]
    (fun t => t.storeAll [TIM.AUD_MDIV, TIM.AUD_AFAM, TIM.AUD_WDIV, TIM.AUD_FSDIV] d) s

/-- The selected reference of a domain has a phase (Table TIM-1, R153). -/
def hasPhase (s : State) (d : TimDom) : Bool :=
  (s.get (stateFld d) == 1 || s.get (stateFld d) == 2) && (match selectedRef s d, d with
    | some n, .audio => n == 1 || n == 2 || n == 3
    | some n, .video => n == 2 || (n == 4 && s.getA (TIM.REFCFG_NOM 4) == 1)
    | none, _ => false)

/-- REALIGN of a domain (R153). -/
def realign (d : TimDom) (s : State) : State :=
  if s.get (realFld d) = 1 then s
  else if hasPhase s d then s.put (realFld d) 1
  else recErr .tim 0x0102 s

/-- REALIGN as a register. -/
def writeRealign (d : W32) (s : State) : State :=
  let t := if TIM.REALIGN_AUD.ofData d = 1 then realign .audio s else s
  if TIM.REALIGN_VID.ofData d = 1 then realign .video t else t

/-- CTL.EN of TIM (Table TIM-6): 0 returns both domains to REF_XO, 1 ranks at once. -/
def timCtl (d : W32) (s : State) : State :=
  let en := TIM.CTL_EN.ofData d
  if en = s.get TIM.CTL_EN then s
  else if en = 1 then rankAll (s.puts [(TIM.CTL_EN, 1), (TIM.STS_STATE, 1)])
  else s.puts [(TIM.CTL_EN, 0), (TIM.STS_STATE, 0), (TIM.DSTS_ASTATE, 0), (TIM.DSTS_AREF, 5), (TIM.DSTS_VSTATE, 0),
    (TIM.DSTS_VREF, 5)]

/-- A commit of SELA, SELV or QL (R143, R145). -/
def timCommit (s : State) : State := rankAll (qlUpdate s)

/-! ### Outputs (R150 to R153) -/

/-- MTIME ticks of a second. -/
def second : Nat := 98304000

/-- gPTP's unit in a second (`PtpSt.time`). -/
def ptpSecond : Nat := 153600000000000000000

/-- The length of an MTIME tick against XO, in the unit of `LoopSt.freq`: MTIME follows the video loop (R28, R146), so a
tick lasts 10¹¹ ∕ (10¹¹ + freq) of its nominal length. -/
def tickDen (s : State) : Nat := max 1 (100000000000 + s.tim.vid.freq).toNat

/-- Synthesiser periods of 640 MTIME ticks at equal loops (R150): 24.576 or 22.5792 MHz. -/
def synthPer640 (s : State) : Nat := if s.getA TIM.AUD_AFAM = 1 then 147 else 160

def State.setOuts (s : State) (o : OutsSt) : State := { s with tim := { s.tim with outs := o } }

/-- Synthesiser time goes on by one tick (R150). -/
def synthTick (s : State) : State :=
  let o := s.tim.outs
  let n := synthPer640 s * (100000000000 + s.tim.aud.freq).toNat + o.frac
  let k := n / tickDen s
  s.setOuts { o with syn := o.syn + k, w := o.w + k, frac := n % tickDen s, wEdge := false }

/-- The length of a WCLK_OUT period in synthesiser periods (Table TIM-4). -/
def wclkLen (s : State) : Nat := 512 / 2 ^ s.getA TIM.AUD_WDIV

/-- The divider exponent of MCLK_OUTn in a copy of AUD.MDIVn. -/
def mdivOf (v n : Nat) : Nat := v / 4 ^ n % 4

/-- The level that MCLK_OUTn has inside (Table TIM-4): a new divider counts from a rising edge of the old one (R152). -/
def mclkHigh (o : OutsSt) (n : Nat) : Bool :=
  let (from', e, e0) := SMap.get (0, 0, 0) o.mclk n
  if from' ≤ o.syn then decide ((o.syn - from') % (640 * 2 ^ e) < 320 * 2 ^ e)
  else
    let p := 640 * 2 ^ e0
    decide ((p - (from' - o.syn) % p) % p < 320 * 2 ^ e0)

/-- The internal level of output n: 0 to 3 MCLK_OUTn, 4 WCLK_OUT, 5 FSYNC_OUT, 6 PPS_OUT (Table TIM-4). -/
def insideHigh (s : State) (n : Nat) : Bool :=
  let o := s.tim.outs
  if n < 4 then mclkHigh o n
  else if n = 4 then decide (o.w < 320 * wclkLen s)
  else if n = 5 then o.f == 0
  else match o.pps with
    | some m => decide (s.mtime - m < 9830400)
    | none => false

/-- The OUTEN bit of output n. -/
def outenBit (s : State) (n : Nat) : Bool :=
  if n < 4 then natBit (s.get TIM.OUTEN_MCLK) n
  else if n = 4 then s.bit TIM.OUTEN_WCLK else if n = 5 then s.bit TIM.OUTEN_FSYNC else s.bit TIM.OUTEN_PPS

/-- The level of output n of TIM: low unless it runs (R151, R157). -/
def outHigh (s : State) (n : Nat) : Bool := s.tim.outs.run.contains n && insideHigh s n

/-- MCLK_OUTn as its ball has it: none is high-impedance, without VDDIO_AON18 (R25). -/
def mclkBall (s : State) (n : Nat) : Option Bool := if railUp s .vddioAon18 then some (outHigh s n) else none

/-- fs of a reference in Hz: from the stream's status for REF_EARC, from NOM for REF_PTP and REF_WCK (Table TIM-1). -/
def refHz (s : State) (n : Nat) : Nat :=
  let nom := s.getA (TIM.REFCFG_NOM n)
  if n = 1 then
    let c := s.get APORT.SRCSTS_EARC % 8
    if c = 0 then 48000 else (if c % 2 = 1 then 44100 else 48000) * 2 ^ ((c - 1) / 2)
  else (if nom % 2 = 0 then 44100 else 48000) * 2 ^ (nom / 2)

/-- Ticks until gPTP time reaches the next multiple of 1 ∕ `hz` s, their rounding open (R153, Table TIM-9). -/
def ticksToPtp (s : State) (hz : Nat) : Int :=
  openDiv (((ptpSecond - s.ptp.time * hz % ptpSecond) % ptpSecond * tickDen s : Nat) : Int)
    (max 1 (hz * ((15625 * (100000000 + s.ptp.rate)).toNat * 100000000000)))

/-- PHERRA.TICKS as measured at a WCLK_OUT rising edge now (R147, Table TIM-9). -/
def phaseErrA (s : State) : Int :=
  if selectedRef s .audio = some 2 then ticksToPtp s (refHz s 2)
  else
    let hz := max 1 (refHz s ((selectedRef s .audio).getD 5))
    let unit := 100000000000 * synthPer640 s * hz
    let edge := (s.tim.outs.syn - s.tim.outs.w) * 100000000000 * hz
    openDiv ((s.tim.outs.ph * (synthPer640 s * hz : Nat) - edge) % (second * 100000000000 * synthPer640 s : Nat)) unit

/-- Ticks of a second of REF_AUX's pulses. -/
def auxSecond (s : State) : Int := second + openDiv (second * (s.tim.vid.freq - refOff s 4 * 1000)) 100000000000

/-- PHERRV.TICKS as measured at a PPS_OUT rising edge now (R147, Table TIM-9). -/
def phaseErrV (s : State) : Int :=
  if selectedRef s .video = some 2 then ticksToPtp s 1
  else ((s.tim.auxLast.getD 0 : Int) - s.mtime) % max 1 (auxSecond s)

/-- PHERR of a domain is measured at its edge; it is 0 with no phase (Table TIM-8). -/
def measurePhase (d : TimDom) (s : State) : State :=
  match d with
  | .audio => s.put TIM.PHERRA_TICKS (if hasPhase s .audio then (phaseErrA s).toNat else 0)
  | .video => s.put TIM.PHERRV_TICKS (if hasPhase s .video then (phaseErrV s).toNat else 0)

/-- AUD holds a change that has not taken effect (R152). -/
def audWaits (s : State) : Bool :=
  [TIM.AUD_MDIV, TIM.AUD_AFAM, TIM.AUD_WDIV].any fun f => s.get f != s.getA f

/-- MCLK_OUTn takes a new divider at a WCLK_OUT edge that lies at synthesiser time `at'`: from its next rising edge at or
after it, so that no pulse is cut (R152, log entry 13). -/
def takeMdiv (at' n : Nat) (s : State) : State :=
  let o := s.tim.outs
  let (from', e, _) := SMap.get (0, 0, 0) o.mclk n
  let e' := mdivOf (s.get TIM.AUD_MDIV) n
  if e' = e then s
  else s.setOuts { o with mclk := SMap.set (0, 0, 0) o.mclk n (from' + ceilDiv (at' - from') (640 * 2 ^ e) * (640 * 2 ^ e), e', e) }

/-- AUD takes effect at a WCLK_OUT rising edge: WCLK_OUT and FSYNC_OUT restart their count, and a new family re-ranks the
audio domain (R145, R152). -/
def takeAud (s : State) : State :=
  let fam := s.get TIM.AUD_AFAM != s.getA TIM.AUD_AFAM
  let t := repeatFor 4 (takeMdiv (s.tim.outs.syn - s.tim.outs.w)) s
  let t := [TIM.AUD_MDIV, TIM.AUD_AFAM, TIM.AUD_WDIV].foldl (fun t f => t.putA f (t.get f)) t
  let t := t.setOuts { t.tim.outs with f := 0, fsSet := false }
  if fam then
    let t := if (List.range 4).any (fun n => refState t n == 2 && familyDiffers t n) then t.put TIM.ISR_FAMILY 1 else t
    rankDomain .audio t
  else t

/-- FSYNC_OUT's count at a delayed edge, in WCLK_OUT periods: under REF_PTP, of the reference's fs times 2^WDIV, so that
an FSYNC_OUT period starts wherever gPTP time × fs ÷ FSDIV is whole (R153, Table TIM-4). -/
def fsyncCount (s : State) : Nat :=
  if selectedRef s .audio = some 2 then
    (roundHalfUp (s.ptp.time * (refHz s 2 * 2 ^ s.getA TIM.AUD_WDIV) : Nat) ptpSecond).toNat % max 1 (s.get TIM.AUD_FSDIV)
  else 0

/-- WCLK_OUT rises where its period has run out: FSYNC_OUT counts, or AUD takes effect, and PHERRA is measured (R150,
R152, R153); an edge at which AUD takes effect is no realignment's (Table TIM-6). -/
def wclkTick (s : State) : State :=
  let o := s.tim.outs
  if o.w < 640 * o.wlen then s
  else
    let t := s.setOuts { o with w := o.w - 640 * o.wlen }
    let t := if audWaits s then takeAud t
      else
        let f := if o.fsSet then fsyncCount s else if o.f + 1 < max 1 (s.get TIM.AUD_FSDIV) then o.f + 1 else 0
        t.setOuts { t.tim.outs with f := f, fsSet := false, wEdge := s.bit TIM.DSTS_REALA }
    measurePhase .audio (t.setOuts { t.tim.outs with wlen := wclkLen t })

/-- PPS_OUT rises, and starts or stops here as OUTEN has it (R151). -/
def ppsRise (s : State) : State :=
  s.setOuts { s.tim.outs with
    pps := some s.mtime
    run := (List.range 7).filter fun n => if n = 6 then outenBit s 6 else s.tim.outs.run.contains n }

/-- MTIME stands at PPSEP: PPS_OUT rises, unless a realignment has still to delay the edge (R150, R153). -/
def ppsTick (s : State) : State :=
  if s.mtime % second = s.get TIM.PPSEP_EPOCH then
    let t := measurePhase .video s
    if t.bit TIM.DSTS_REALV then t else ppsRise t
  else s

/-- A domain stands at the edge at which its pending realignment is measured (R153). -/
def atEdge (s : State) (d : TimDom) : Bool :=
  match d with
  | .audio => s.tim.outs.wEdge
  | .video => s.mtime % second == s.get TIM.PPSEP_EPOCH && s.tim.outs.pps != some s.mtime

/-- A pending realignment at its measuring edge: the next WCLK_OUT edge, or this PPS_OUT edge, is delayed by PHERR; or
the realignment lapses (R153). DESIGN CHOICE, log entry 38: the delay is all of PHERRA, also where that is longer than a
WCLK_OUT period. MCLK_OUTn is never realigned (R153); that after a delay by an odd number of synthesiser periods WCLK_OUT's
edges then need not coincide with those of an MCLK_OUT0 divided by 4 or 8 (Table TIM-4) is DEDUCED, log entry 38. -/
def realignApplyEff (d : TimDom) (s : State) : State :=
  if s.get (realFld d) = 0 ∨ !atEdge s d then s
  else
    let t := s.put (realFld d) 0
    match hasPhase s d, d with
    | true, .audio =>
      let k := (roundHalfUp (s.get TIM.PHERRA_TICKS * synthPer640 s : Nat) 640).toNat
      let o := t.tim.outs
      t.setOuts { o with wlen := o.wlen + k, fsSet := true, wEdge := false }
    | true, .video =>
      if s.get TIM.PHERRV_TICKS = 0 then ppsRise t
      else t.put TIM.PPSEP_EPOCH ((t.get TIM.PPSEP_EPOCH + s.get TIM.PHERRV_TICKS) % second)
    | false, .audio => recErr .tim 0x0102 t
    | false, .video => recErr .tim 0x0102 (ppsRise t)

/-- The phase of the audio reference moves against the outputs while their frequencies differ (R147). -/
def phaseTick (s : State) : State :=
  match selectedRef s .audio with
  | some n => s.setOuts { s.tim.outs with ph := s.tim.outs.ph + (s.tim.aud.freq - refOff s n * 1000) }
  | none => s

/-- The outputs that run after a tick from `s` to `t` (R151): an output starts at its rising edge, and stops once its
high phase is over. -/
def runAfter (s t : State) : List Nat :=
  let fell := decide (t.tim.outs.w < s.tim.outs.w)
  (List.range 7).filter fun n =>
    let rises := if n < 4 then !insideHigh s n && insideHigh t n
      else if n = 6 then t.tim.outs.pps == some t.mtime
      else fell && (n == 4 || t.tim.outs.f == 0)
    let on := s.tim.outs.run.contains n
    if rises then outenBit s n else on && (insideHigh t n || outenBit s n)

/-- TIM in a tick that has just come: a realignment that waits since the last one applies, then the outputs go on. -/
def timTick (s : State) : State :=
  let t := ppsTick (wclkTick (phaseTick (synthTick s)))
  t.setOuts { t.tim.outs with run := runAfter s t }

/-! ### Commands -/

/-- REFCFGn as written takes effect; a new NOM puts the reference in ABSENT (R139). DESIGN CHOICE, log entry 38: a NOM
that was written to another code and back before this update leaves the reference as it is. -/
def takeRefcfg (n : Nat) (s : State) : State :=
  let fs := [TIM.REFCFG_QUAL n, TIM.REFCFG_HARD n, TIM.REFCFG_SOFT n, TIM.REFCFG_NOM n]
  let t := fs.foldl (fun t f => t.putA f (t.get f)) s
  if (n = 2 ∨ n = 3 ∨ n = 4) ∧ s.getA (TIM.REFCFG_NOM n) ≠ s.get (TIM.REFCFG_NOM n) ∧ refState s n ≠ 0
  then enterAbsent n t else t

/-- REF_AUX is judged at its pulses and not at the updates (R136). -/
def ppsMode (s : State) : Bool := s.getA (TIM.REFCFG_NOM 4) == 1

/-- The rate family of a reference: as measured for REF_HRX and REF_EARC, from NOM for REF_PTP and REF_WCK, none for
REF_AUX (Table TIM-1). -/
def famOf (s : State) (n : Nat) (m : RefMeas) : Nat :=
  if n < 2 then m.fam else if n = 4 then 0xF else 1 - s.getA (TIM.REFCFG_NOM n) % 2

/-- A monitor takes a measurement: OFF is the mean of the last `k` since the reference left ABSENT, in 0.01 ppm, and
saturates (R136). -/
def takeOff (n k : Nat) (off : Int) (fam : Nat) (s : State) : State :=
  let l := (off :: SMap.get [] s.tim.meas n).take k
  (setMeas n l s).puts [(TIM.RSTAT_OFF n, ofSigned 16 (max (-32767) (min 32767 (openDiv l.sum (1000 * l.length))))),
    (TIM.RSTAT_FAM n, fam)]

/-- A reference with a signal takes its new offset and family (R136). -/
def takeMeas (n : Nat) (m : RefMeas) (s : State) : State := takeOff n 10 m.off (famOf s n m) s

/-- The block that a reference comes from has it: HRX in TMDS or FRL, EARC with a stream, the PTP port as slave (Table
TIM-1). -/
def sourceHas (s : State) (n : Nat) : Bool :=
  if n = 0 then decide (3 ≤ s.get HRX.STS_STATE) else if n = 1 then s.get EARC.STS_STATE == 4
  else if n = 2 then s.get PTP.STS_STATE == 3 else true

/-- The measurement of a reference counts at this update. -/
def measured (s : State) (n : Nat) (ms : List RefMeas) : Option RefMeas :=
  if n = 4 ∧ ppsMode s then none else (ms[n]?).filter fun m => m.present && sourceHas s n

/-- The pair of references whose offsets differ least, ties to the lower indices (R137). -/
def closestPair (c : List Nat) (off : Nat → Int) : Option (Nat × Nat) :=
  let pairs := c.flatMap fun a => (c.filter (a < ·)).map fun b => (a, b)
  let dist (p : Nat × Nat) := mag (off p.1 - off p.2)
  pairs.find? fun p => pairs.all fun q => decide (dist p ≤ dist q)

/-- The cross-comparison of XO (R137): `elig` are the references eligible before the update. -/
def crossCompare (elig : List Nat) (s : State) : State :=
  match if s.get TIM.XOCMP_EN = 1 then closestPair elig (refOff s) else none with
  | some (a, b) =>
    if mag (refOff s a - refOff s b) ≤ s.get TIM.XOCMP_AGREE * 100 then
      s.puts [(TIM.XOEST_VALID, 1), (TIM.XOEST_PPM, ofSigned 16 (openDiv (-(refOff s a + refOff s b)) 2))]
    else s.put TIM.XOEST_VALID 0
  | none => s.put TIM.XOEST_VALID 0

/-- Selected references that entered HARDWAIT freeze their loops (R148). -/
def freezeHard (before s : State) : State :=
  repeatFor 6 (fun n t => if refState t n = 4 ∧ refState before n ≠ 4 then freezeOn n t else t) s

/-- A monitor update, in the order of R137. DESIGN CHOICE (log entry 38): the QUAL timer of REF_XO stands still while
XOEST.VALID is 0 and goes on when it returns; and a reference that a new NOM has put in ABSENT at this update takes no
part in its cross-comparison and is judged in it. -/
def monitorUpdateEff (ms : List RefMeas) (s : State) : State :=
  let t := repeatFor 6 takeRefcfg s
  let t := repeatFor 5 (fun n t => match measured t n ms with | some m => takeMeas n m t | none => t) t
  let t := crossCompare ((List.range 5).filter fun n => refEligible (refState s n) && refEligible (refState t n)) t
  let t := if t.get TIM.XOEST_VALID = 1 then judgeRef 5 (xoPpm t) 1 t else t
  let t := repeatFor 5 (fun n t => if (measured t n ms).isSome then judgeRef n (judgedOff t n) 1 t else t) t
  rankAll (freezeHard s t)

/-- MONITOR_UPDATE, every 100 ms (R136 to R138, R145, R148). -/
def execMonitorUpdate (ms : List RefMeas) (s : State) : Out := onKa (monitorUpdateEff ms) s

/-- A pulse on AUX_IN is noted: the signal is present from its first pulse on, and lost 2.0 s after its last (Table
TIM-1). -/
def notePulse (s : State) : State :=
  let from' := match s.tim.auxFrom, s.tim.auxLast with
    | some f, some l => if s.mtime - l < 196608000 then f else s.mtime
    | _, _ => s.mtime
  { s with tim := { s.tim with auxFrom := some from', auxLast := some s.mtime } }

/-- REF_AUX has had a signal for its loss-of-signal window (R138, Table TIM-1). -/
def pulsesLast (s : State) : Bool :=
  match s.tim.auxFrom with
  | some f => decide (196608000 ≤ s.mtime - f)
  | none => false

def ppsPulseEff (off : Int) (s : State) : State :=
  let s := notePulse s
  if ppsMode s ∧ (refState s 4 ≠ 0 ∨ pulsesLast s) then
    let t := takeOff 4 4 off 0xF s
    rankAll (freezeHard s (judgeRef 4 (judgedOff t 4) 10 t))
  else s

/-- PPS_PULSE: `off` is the offset in 0.00001 ppm that this pulse shows against the one before (R136). -/
def execPpsPulse (off : Int) (s : State) : Out := onKa (ppsPulseEff off) s

/-- LOSS_OF_SIGNAL (R138). -/
def execLossOfSignal (r : Fin 6) (s : State) : Out := onKa (refLoss r) s

/-- REFCFG_WRITE (R139). -/
def execRefcfgWrite (r : Fin 6) (d : W32) (s : State) : Out :=
  onCore (onLink (.refcfgWrite r d) (onPage .tim (writeRefcfg r d))) s

def refRateChangeEff (n : Nat) (s : State) : State := if n < 2 then refAbsent n s else s

/-- REF_RATE_CHANGE: HRX or EARC signals another fs or family (R139). -/
def execRefRateChange (r : Fin 6) (s : State) : Out := onKa (refRateChangeEff r) s

def dpllUpdateEff (s : State) : State := loopUpdate .video (loopUpdate .audio s)

/-- DPLL_UPDATE, every 1 ms of XO time (R146). -/
def execDpllUpdate (s : State) : Out := onKa dpllUpdateEff s

/-- A domain is LOCKED (R149). DESIGN CHOICE (log entry 38): a frozen history records again only after a change from
LOCKING to LOCKED; a domain that stayed LOCKED while its reference passed through HARDWAIT keeps it frozen (R148). -/
def domainLockedEff (d : TimDom) (s : State) : State :=
  let l := s.loop d
  if s.get (stateFld d) = 1 ∧ 1000 ≤ l.near then (s.put (stateFld d) 2).setLoop d { l with thaw := l.frozen } else s

/-- DOMAIN_LOCKED (R149). -/
def execDomainLocked (d : TimDom) (s : State) : Out := onKa (domainLockedEff d) s

def outenWriteEff (d : W32) (s : State) : State :=
  s.storeAll [TIM.OUTEN_PPS, TIM.OUTEN_FSYNC, TIM.OUTEN_WCLK, TIM.OUTEN_MCLK] d

/-- OUTEN_WRITE (R151). -/
def execOutenWrite (d : W32) (s : State) : Out := onCore (onLink (.outenWrite d) (onPage .tim (outenWriteEff d))) s

/-- AUD_WRITE (R152). -/
def execAudWrite (d : W32) (s : State) : Out := onCore (onLink (.audWrite d) (onPage .tim (writeAud d))) s

/-- REALIGN_AUD (R153). -/
def execRealignAud (s : State) : Out := onCore (onLink .realignAud (onPage .tim (realign .audio))) s

/-- REALIGN_VID (R153). -/
def execRealignVid (s : State) : Out := onCore (onLink .realignVid (onPage .tim (realign .video))) s

/-- REALIGN_APPLY (R153); with no such command the next tick does it (`timTick`). -/
def execRealignApply (d : TimDom) (s : State) : Out := onKa (realignApplyEff d) s

/-- A read of MTIMEL: the low word, and the high word latched (R154). -/
def readMtimel (s : State) : W32 × State := (BitVec.ofNat 32 s.mtime, s.put TIM.MTIMEH_HIGH (s.mtime / 2 ^ 32))

/-- The data of a read goes out. -/
def answer (r : W32 × State) : State := { r.2 with out := { r.2.out with rdata := some r.1, abort := false } }

/-- MTIMEL_READ (R154). -/
def execMtimelRead (s : State) : Out := onCore (onLink .mtimelRead fun s => answer (readOnPage .tim readMtimel s)) s

end Sys2Proof.Machine
end

