-- ==== Sys2Proof/Machine/Resets.lean ====
section
/-! DEFINITION. Resets as shared operations (R22 to R24, R66 to R69, R71, R74, R114): the reset of the core domain,
the reset of everything, and the causes they leave. -/

namespace Sys2Proof.Machine

/-- A field key of the KA domain: the KA pages, and RSTCAUSE, WDOG_CTL and WDOG_KICK of SYS (Table SYS-5). -/
def keyKa (k : Nat) : Bool :=
  let a := k / 32
  a / 0x1000 == 2 || a / 0x1000 == 4 || a / 0x1000 == 5 || a / 0x1000 == 0x52 || a / 0x1000 == 0x53 ||
  a == 0x48 || a == 0x50 || a == 0x54

/-- A base address of a KA page. -/
def baseKa (b : Nat) : Bool := b == 0x2000 || b == 0x4000 || b == 0x5000 || b == 0x52000 || b == 0x53000

/-- What no reset changes: the MRAM, the fuses and the worn lines (R67). -/
def keepNvm (n : NvmSt) : NvmSt :=
  { mram := n.mram, svn := n.svn, keyHash := n.keyHash, badLines := n.badLines, weakLines := n.weakLines,
    tornLines := n.tornLines }

/-- The core-domain blocks as the reset leaves them: every core-domain block returns to its reset values and DRAM is lost; the KA domain keeps running, its pending
commits with it (R22, R66, R67, R74); Caddy takes every core grant as returned and every request as withdrawn
(R23, Table CADDY-4). -/
def coreResetBlocks (s : State) : State :=
  caddyClear { s with
    regs := SMap.drop s.regs fun k => !keyKa k
    act := SMap.drop s.act fun k => !keyKa k
    dram := []
    sys := { s.sys with
      coreUp := false, inReset := [], lateWr := [], divNow := none, divNext := none
      points := s.sys.points.filter fun e => baseKa e.1
      members := [], bootSlot := 0, bootFallback := false, factoryBad := false, reload := none }
    intc := {}, hif := {}, prs := {}, fifos := [], mbx := {}, dmcs := [], dqos := {}, cells := [], csch := {}, csis := [], isp := {}
    visr := {}, hrx := {}, htx := {}, comp := {}, mpt := {}, spout := {}, strn := {}, ptp := {}
    tim := { s.tim with clockClass := none }
    nvm := keepNvm s.nvm }

/-- The reset of the core domain; REF_HRX and REF_PTP lose their signal with their blocks (R24, Table TIM-6), and HRX counts as lost to APORT (Table COMP-2). -/
def coreReset (s : State) : State := sourceStatus false 0 (refLosses [0, 2] (qlUpdate (coreResetBlocks s)))

/-- Exactly one bit of RSTCAUSE is left set (R68). -/
def setCause (f : Fld) (s : State) : State :=
  (s.puts [(SYS.RSTCAUSE_WDCHIP, 0), (SYS.RSTCAUSE_WDSVC, 0), (SYS.RSTCAUSE_SVC, 0), (SYS.RSTCAUSE_CHIP, 0),
    (SYS.RSTCAUSE_PIN, 0), (SYS.RSTCAUSE_POR, 0)]).put f 1

/-- Everything returns to its reset values; the MRAM, the fuses, the levels that the outside drives and the waiting
commands stay (R66, R67). `seq` names the reset kind under way; the oscillator's state is left to the caller. -/
def fullReset (cause : Fld) (seq : Nat) (s : State) : State :=
  setCause cause { State.reset with
    sys := { por := s.sys.por, resetN := s.sys.resetN, perstN := s.sys.perstN, tvHpd := s.sys.tvHpd,
             xoOk := s.sys.xoOk, swing := s.sys.swing, off := s.sys.off, porCause := s.sys.porCause,
             seq := seq }
    nvm := keepNvm s.nvm, out := s.out, free := s.free, pending := s.pending }

/-- A PORESET (R66, R80): `why` is 0 for the supply, 1 for XO loss, 2 for loss of main-PLL lock. -/
def poreset (why : Nat) (s : State) : State :=
  let t := fullReset SYS.RSTCAUSE_POR 4 s
  { t with sys := { t.sys with xoOk := false, porCause := why } }

/-- VDD_AON_LOW (R388, R405): PORESET is held, with everything in its reset state and the crystal stopped (R389). During
the sequence of a PORESET the request is of equal scope and starts none (R69): its cause stays, and boot waits for the
supply. -/
def vddAonLowEff (s : State) : State :=
  let t := poreset (if s.sys.seq = 4 then s.sys.porCause else 0) s
  { t with sys := { t.sys with por := true } }

/-- A pin reset; during a PORESET's own sequence the wider one goes on and only its boot waits (R69, R389). -/
def pinReset (s : State) : State :=
  let t := if s.sys.seq = 4 then fullReset SYS.RSTCAUSE_POR 4 s
    else
      let t := fullReset SYS.RSTCAUSE_PIN 3 s
      { t with sys := { t.sys with porCause := 0 } }
  { t with sys := { t.sys with resetN := false } }

/-- A CHIP reset by command or by the watchdog (R66, R68, R88). -/
def chipReset (cause : Fld) (s : State) : State :=
  let t := fullReset cause 2 s
  { t with sys := { t.sys with chipHold := true, porCause := 0 } }

/-- A SERVICE reset by command or by the watchdog (R66, R68, R71, R93). Where VIN is back in range it ends the
unsupported condition of R411. -/
def serviceReset (cause : Fld) (s : State) : State :=
  let t := setCause cause (coreReset s)
  let t := t.puts [(TIM.STS_KEPT, 1), (CADDY.STS_KEPT, 1), (REG.STS_KEPT, 1), (EARC.STS_KEPT, 1), (APORT.STS_KEPT, 1)]
  { t with sys := { t.sys with
    svcHold := true, seq := 1
    unsup := if s.sys.unsup = Unsup.core ∧ 4500 ≤ s.get REG.VIN_MV then Unsup.none else s.sys.unsup } }

end Sys2Proof.Machine
end

