-- ==== Sys2Proof/Machine/Supply.lean ====
section
/-! DEFINITION. The core supply controller REG (04_core_supply_regulator.md): the loop's arithmetic, phases, notices
and boosts, protection and soft-start. Voltages are in half µV where no unit is named. -/

namespace Sys2Proof.Machine

/-- One µV in the unit in which ramps are held. -/
def uvUnit : Nat := 884736

/-- The set point in force, in half µV: vset_ramp, which soft-start moves in steps of 1.25 mV (R96, R116). -/
def setPoint2 (s : State) : Nat :=
  if s.get REG.STS_STATE = 1 then s.reg.ramp / (1250 * uvUnit) * 2500 else s.reg.ramp * 2 / uvUnit

/-- The sum of the boosts clamped to FF.MAX, in half µV (R104). -/
def boost2 (s : State) : Nat :=
  min ((s.reg.boosts.map (·.cur)).sum * 2 / uvUnit) (s.get REG.FF_MAX * 2500)

/-- v_tgt in half µV (R96): LL of 0.05 mΩ times IMEAS.TOTAL of 50 mA is 5 half µV per unit. In a soft-start the target
is the step it has reached, from the rail's own voltage up (R116). -/
def vTgt2 (s : State) : Nat :=
  if s.get REG.STS_STATE = 1 then setPoint2 s
  else (max 1300000 (min 1800000
    ((setPoint2 s : Int) - (s.getA REG.LL_MOHM * s.get REG.IMEAS_TOTAL * 5 : Nat) + boost2 s))).toNat

/-- VOUT.TGT: v_tgt in 1.25 mV, a quotient without a rounding rule (R96, log entry 7). -/
def voutTgt (s : State) : Nat := (openDiv (vTgt2 s) 2500).toNat % 1024

/-- The phases that may be active: PHCTL.MAXPH (Table REG-11). -/
def maxPhases (s : State) : Nat := if s.get REG.PHCTL_MAXPH = 0 then 1 else if s.get REG.PHCTL_MAXPH = 1 then 2 else 4

/-- A phase's current, 50 mA per unit (Table REG-11). -/
def phaseCur (s : State) (n : Nat) : Int := toSigned 16 (s.get (REG.IPH_CUR n))

/-- The balance trim of a phase in root periods (R99). -/
def trim (s : State) (ph : Nat) : Int :=
  let n := s.get REG.STS_NPH
  if n ≤ 1 then 0
  else
    let sum := ((List.range n).map (phaseCur s)).sum
    max (-16) (min 16 (roundHalfUp (sum - n * phaseCur s ph) (10 * n)))

/-- The on-time of a pulse of the loop (R98), with the state for the free value that a VIN of 0, or an empty clamp
range, needs (log entry 7). -/
def loopOnTime (ph : Nat) (s : State) : Nat × State :=
  let v := s.get REG.TON_VAL
  let tmin := s.get REG.TLIM_TON_MIN
  if s.get REG.TON_ADAPT = 1 then
    let hi : Int := v - s.get REG.TLIM_TOFF_MIN
    if s.get REG.VIN_MV = 0 ∨ hi < tmin then s.fresh
    else
      let t := roundHalfUp (v * vTgt2 s : Nat) (s.get REG.VIN_MV * 2000 : Nat) + trim s ph
      ((max (tmin : Int) (min hi t)).toNat, s)
  else ((max (v + trim s ph) tmin).toNat, s)

/-- The on-time of a pulse in open-loop mode (R108). -/
def openOnTime (s : State) : Nat × State :=
  let p := s.get REG.OL_PERIOD
  let tmin := s.get REG.TLIM_TON_MIN
  let hi : Int := p - s.get REG.TLIM_TOFF_MIN
  if hi < tmin then s.fresh else ((max (tmin : Int) (min hi (p * s.get REG.OL_DUTY / 1024 : Nat))).toNat, s)

/-- The next phase of the rotation (R97). -/
def nextPhase (s : State) : Nat := if s.reg.lastPh + 1 < s.get REG.STS_NPH then s.reg.lastPh + 1 else 0

/-- A dead-time step held within DT.MIN to DT.MAX (R100). -/
def deadStep (f : Fld) (step : Int) (s : State) : State :=
  let v : Int := s.get f + step
  if step = 0 then s
  else if v < s.get REG.DT_MIN ∨ (s.get REG.DT_MAX : Int) < v then s.put REG.ISR_DTCLAMP 1
  else s.put f v.toNat

/-- The dead-time adjustment of a transition of a phase, from the switch node in mV at turn-on (R100, Table REG-2). -/
def deadAdjust (ph : Nat) (hl : Bool) (sw : Int) (s : State) : State :=
  if s.get REG.DT_ADAPT = 0 then s
  else if hl then
    deadStep (REG.DTSTS_HL ph) (if sw < -250 then -1 else if (s.get REG.VIN_MV : Int) < 2 * sw then 1 else 0) s
  else
    deadStep (REG.DTSTS_LH ph) (if sw < -250 then -1 else if 10 * sw < 9 * s.get REG.VIN_MV then 1 else 0) s

/-- A root edge: `sub` counts from the first one of the present tick, of 3125/64 root periods (R81, log entry 35); REG
never acts at an edge before its last. -/
def edgeAt (sub : Nat) (s : State) : Nat := max s.reg.edge (s.mtime * 3125 / 64 + sub)

/-- The phase of the next pulse of the loop: that for which a trigger waits, while it is active; else the next of the
rotation (R97, Table REG-7). That a trigger whose phase is shed while it waits goes to the next of the rotation is
DESIGN CHOICE, log entry 36. -/
def pulsePhase (s : State) : Nat :=
  match s.reg.trig with
  | some ph => if ph < s.get REG.STS_NPH then ph else nextPhase s
  | none => nextPhase s

/-- A pulse starts on a phase at a root edge. -/
def startPulse (ph ton e : Nat) (sw : Int) (s : State) : State :=
  deadAdjust ph false sw { s with reg := { s.reg with
    pulses := s.reg.pulses ++ [{ ph := ph, ton := ton, start := e }], lastPh := ph, lastStart := some e, edge := e
    trig := none, bias := none } }

/-- A phase has been off for TLIM.TOFF_MIN at a root edge (R97). -/
def offLongEnough (s : State) (ph e : Nat) : Bool :=
  match SMap.find s.reg.offs ph with
  | some o => decide (o + s.get REG.TLIM_TOFF_MIN ≤ e)
  | none => true

/-- TLIM.TON_MIN has passed since the last pulse start on any phase (R97). -/
def startLongAgo (s : State) (e : Nat) : Bool :=
  match s.reg.lastStart with
  | some l => decide (l + s.get REG.TLIM_TON_MIN ≤ e)
  | none => true

/-- A phase is in a pulse. -/
def pulsing (s : State) (ph : Nat) : Bool := s.reg.pulses.any (·.ph == ph)

/-- REG regulates or runs in open-loop mode. -/
def regRuns (s : State) : Bool := s.get REG.STS_STATE == 2 || s.get REG.STS_STATE == 3

/-- A boost is held (R105). -/
def boostHeld (s : State) : Bool := s.reg.boosts.any fun b => b.cur != 0

/-- Measured current plus that of every notice whose start has not passed, 50 mA per unit (R105). -/
def predicted (s : State) : Nat :=
  s.get REG.IMEAS_TOTAL + ((s.reg.preds.filter fun p => decide (s.mtime ≤ p.2)).map (·.1)).sum

/-- The phase count changes, at a root edge that open-loop mode keeps (R105, R108). -/
def setPhases (n : Nat) (s : State) : State :=
  if n = s.get REG.STS_NPH then s
  else { (s.put REG.STS_NPH n) with reg := { s.reg with olFrom := edgeAt 0 s } }

/-- Phases join at once when measured or predicted current reaches ADD2 or ADD4 (R105, Table REG-4). R108 has open-loop
mode ignore feed-forward; that phases are still added there, on predicted current too, is DESIGN CHOICE, log entry
36. -/
def phaseAdd (s : State) : State :=
  let i := predicted s
  let n := s.get REG.STS_NPH
  if !regRuns s then s
  else if s.getA REG.PHTH_ADD4 * 5 ≤ i then setPhases (max n (min 4 (maxPhases s))) s
  else if s.getA REG.PHTH_ADD2 * 5 ≤ i ∧ n = 1 then setPhases (max n (min 2 (maxPhases s))) s
  else s

/-- The condition of a shed dwell holds (R105, Table REG-4). -/
def dwellHolds (s : State) : Bool :=
  let i := s.get REG.IMEAS_TOTAL
  let below (shed add : Fld) := decide (i < s.getA shed * 5 ∧ predicted s < s.getA add * 5)
  s.get REG.STS_STATE == 2 && s.get REG.PHCTL_SHED_EN == 1 && !boostHeld s &&
    ((s.get REG.STS_NPH == 4 && below REG.PHTH_SHED4 REG.PHTH_ADD4) ||
     (s.get REG.STS_NPH == 2 && below REG.PHTH_SHED2 REG.PHTH_ADD2))

/-- The dwell that runs now: it goes on for the phase count it began with, begins, or is abandoned (R105). -/
def dwellNow (s : State) : Option (Nat × Nat) :=
  if dwellHolds s then
    match s.reg.dwell with
    | some (t, n) => if n = s.get REG.STS_NPH then some (t, n) else some (s.mtime, s.get REG.STS_NPH)
    | none => some (s.mtime, s.get REG.STS_NPH)
  else none

/-- The dwell goes on, begins, or is abandoned (R105). -/
def dwellCheck (s : State) : State := { s with reg := { s.reg with dwell := dwellNow s } }

/-- Phase adding and the dwell judged afresh. -/
def phaseJudge (s : State) : State := dwellCheck (phaseAdd s)

/-- Once a soft-start's target has reached the voltage of the rail, the gates work for the rest of it (R116). -/
def biasJudge (s : State) : State :=
  { s with reg := { s.reg with bias := s.reg.bias.filter fun v => decide (setPoint2 s < v * 2) } }

/-- Soft-start begins on phase 0 alone with dead times at DT.INIT, from the voltage `vrail` in µV already on the rail
(R116). -/
def softStart (afterTrip : Bool) (vrail : Nat) (s : State) : State :=
  let t := s.puts [(REG.STS_STATE, 1), (REG.STS_PG, 0), (REG.STS_BUSY, 1), (REG.STS_NPH, 1)]
  let t := repeatFor 4 (fun n t => (t.put (REG.DTSTS_LH n) (t.get REG.DT_INIT)).put (REG.DTSTS_HL n) (t.get REG.DT_INIT)) t
  biasJudge { t with reg := { ramp := vrail * uvUnit, bias := some vrail, afterTrip := afterTrip, since := t.mtime } }

/-- STS.BUSY follows the difference of vset_ramp and the active VSET (R101). -/
def rampBusy (s : State) : State :=
  s.put REG.STS_BUSY (if s.get REG.STS_STATE = 1 ∨ s.reg.ramp ≠ s.getA REG.VSET_CODE * 1250 * uvUnit then 1 else 0)

/-- The amount by which one MTIME tick moves a ramp: SLEW.RATE × 0.1 mV/µs, 0 acting as 1 (R96, Table REG-11). -/
def slewTick (s : State) : Nat := max 1 (s.get REG.SLEW_RATE) * 900000

/-- A value moves toward another by at most a step. -/
def toward (step x goal : Nat) : Nat := if x < goal then min goal (x + step) else max goal (x - step)

/-- A boost in one tick (R104). -/
def boostTick (step : Nat) (b : Boost) : Boost :=
  if b.phase = 1 then { b with cur := min b.goal (b.cur + step) }
  else if b.phase = 2 then { b with cur := b.cur - step }
  else b

/-- The output of an auxiliary channel follows its registers (R110). -/
def auxRegs (s : State) (n : Nat) : AuxSt :=
  { period := s.get (REG.AUX_PERIOD n), high := s.get (REG.AUX_HIGH n)
    en := s.bit (if n = 0 then REG.AUXCTL_EN0 else REG.AUXCTL_EN1)
    inv := s.bit (if n = 0 then REG.AUXCTL_INV0 else REG.AUXCTL_INV1), from64 := s.mtime * 3125 }

/-- The period boundaries that an auxiliary channel has passed: at the first one what was written takes effect; a
constant output has none, and takes it at once (R110, log entry 36). -/
def auxTick (s : State) (n : Nat) (a : AuxSt) : AuxSt :=
  let now := s.mtime * 3125
  let new := auxRegs s n
  if !a.en || a.period == 0 then new
  else
    let b := a.from64 + a.period * 1024
    if now < b then a
    else if !new.en || new.period == 0 then new
    else { new with from64 := b + (now - b) / (new.period * 1024) * (new.period * 1024) }

/-- The two auxiliary channels in one tick; they run through SERVICE resets and trips (R110). -/
def auxsTick (s : State) : State :=
  repeatFor 2 (fun n t => { t with auxs := SMap.set {} t.auxs n (auxTick t n (SMap.get {} t.auxs n)) }) s

/-- The level of AUXPWMn: high for HIGH × 16 root periods of every PERIOD × 16, constant at the ends of the range,
inverted last; low while RESET_N is low, PORESET is held or a CHIP reset holds (R110, Table SYS-25). -/
def auxLevel (s : State) (n : Nat) : Bool :=
  let a := SMap.get {} s.auxs n
  let raw := a.en && a.period != 0 && (decide (a.period ≤ a.high) || decide (s.mtime * 3125 - a.from64 < a.high * 1024))
  s.sys.resetN && !s.sys.por && !s.sys.chipHold && (raw != a.inv)

/-- REG in one MTIME tick: the set point and the boosts move, and STS.BUSY and the dwell follow (R96, R101, R104, R105,
R116). R116 steps a soft-start up to VSET and says nothing of a rail that stands above it, as after an over-voltage trip:
that the target is VSET from the first tick then is DESIGN CHOICE, log entry 36. -/
def regTick (s : State) : State :=
  let goal := s.getA REG.VSET_CODE * 1250 * uvUnit
  let st := s.get REG.STS_STATE
  let ramp := if st = 1 then min goal (s.reg.ramp + 5000000)
    else if st = 2 ∨ st = 3 then toward (slewTick s) s.reg.ramp goal else s.reg.ramp
  let bs := (s.reg.boosts.map (boostTick (slewTick s))).filter fun b => !(b.phase == 2 && b.cur == 0)
  dwellCheck (rampBusy (auxsTick (biasJudge { s with reg := { s.reg with ramp := ramp, boosts := bs } })))

/-! ### Register writes -/

/-- VSET, shadowed (R101). -/
def writeVset (d : W32) (s : State) : State :=
  let v := REG.VSET_CODE.ofData d
  checked .reg [(decide (v < 520 ∨ 720 < v), 0x0100)] (fun t => t.put REG.VSET_CODE v) s

/-- TLIM, at once (Table REG-9). -/
def writeTlim (d : W32) (s : State) : State :=
  checked .reg [(decide (REG.TLIM_TON_MIN.ofData d < 48 ∨ REG.TLIM_TOFF_MIN.ofData d < 96), 0x0101)]
    (fun t => t.storeAll [REG.TLIM_TON_MIN, REG.TLIM_TOFF_MIN] d) s

/-- A dead time brought within DT.MIN to DT.MAX, or to INIT while ADAPT is 0 (R100). -/
def deadClamp (f : Fld) (s : State) : State :=
  if s.get REG.DT_ADAPT = 0 then s.put f (s.get REG.DT_INIT)
  else s.put f (max (s.get REG.DT_MIN) (min (s.get REG.DT_MAX) (s.get f)))

/-- DT (R100, Table REG-9). -/
def writeDt (d : W32) (s : State) : State :=
  let lo := REG.DT_MIN.ofData d
  let hi := REG.DT_MAX.ofData d
  let i := REG.DT_INIT.ofData d
  checked .reg [(decide (hi < lo ∨ i < lo ∨ hi < i), 0x0104)]
    (fun t => repeatFor 4 (fun n t => deadClamp (REG.DTSTS_HL n) (deadClamp (REG.DTSTS_LH n) t))
      (t.storeAll [REG.DT_MAX, REG.DT_MIN, REG.DT_INIT, REG.DT_ADAPT] d)) s

/-- PHTH, shadowed (R106). -/
def writePhth (d : W32) (s : State) : State :=
  checked .reg [(decide (REG.PHTH_ADD4.ofData d ≤ REG.PHTH_SHED4.ofData d ∨
      REG.PHTH_ADD2.ofData d ≤ REG.PHTH_SHED2.ofData d), 0x0103)]
    (fun t => t.storeAll [REG.PHTH_ADD4, REG.PHTH_SHED4, REG.PHTH_ADD2, REG.PHTH_SHED2] d) s

/-- PHCTL (R105): phases above MAXPH are shed at once. -/
def writePhctl (d : W32) (s : State) : State :=
  let t := s.storeAll [REG.PHCTL_SHED_EN, REG.PHCTL_MAXPH] d
  phaseJudge (setPhases (min (t.get REG.STS_NPH) (maxPhases t)) t)

/-- The on-time of a pulse that has run for `gone` root periods at the edge at which a new on-time takes effect: the
new one where that is longer; else it ends at once, and no earlier than TON_MIN (R107, Table REG-5). -/
def newOnTime (new gone tmin : Nat) : Nat := if gone < new then new else max gone tmin

/-- Each pulse in flight takes the on-time that a new setting gives it, on the root edge after edge `e` (R107). -/
def repulse (e : Nat) (ton : Nat → State → Nat × State) (s : State) : State :=
  let r := s.reg.pulses.foldl (fun (a : List Pulse × State) p =>
    let (n, t) := ton p.ph a.2
    (a.1 ++ [{ p with ton := newOnTime n (e + 1 - p.start) (t.get REG.TLIM_TON_MIN) }], t)) ([], s)
  { r.2 with reg := { r.2.reg with edge := e, pulses := r.1 } }

/-- TON, at once (R107); a write of the value it holds has no effect (R72). -/
def writeTon (sub : Nat) (d : W32) (s : State) : State :=
  let fs := [REG.TON_ADAPT, REG.TON_VAL]
  let t := s.storeAll fs d
  if sameWord fs d s || t.get REG.STS_STATE == 3 then t else repulse (edgeAt sub s) loopOnTime t

/-- The active phases whose last open-loop pulse began longer ago, at an edge, than the PERIOD in force (R108). -/
def overdue (s : State) (e : Nat) : List Nat :=
  (List.range (s.get REG.STS_NPH)).filter fun k =>
    match SMap.find s.reg.olStarts k with
    | some l => decide (l + s.get REG.OL_PERIOD < e)
    | none => false

/-- A PERIOD shorter than the time since a phase's last pulse start has that phase start its next one at once (R108). -/
def olAtOnce (e : Nat) (s : State) : State := { s with reg := { s.reg with olNow := (overdue s e).map fun k => (k, e) } }

/-- OL, at once (R107, R108); a write of the value it holds has no effect (R72). -/
def writeOl (sub : Nat) (d : W32) (s : State) : State :=
  let fs := [REG.OL_DUTY, REG.OL_PERIOD]
  let t := s.storeAll fs d
  if !sameWord fs d s && t.get REG.STS_STATE == 3 then
    olAtOnce (edgeAt sub s + 1) (repulse (edgeAt sub s) (fun _ => openOnTime) t)
  else t

/-- Open-loop mode begins on the root edge after this one, with no pulse of it started (R108). -/
def openLoopBegin (s : State) : State :=
  { (s.put REG.STS_STATE 3) with
    reg := { s.reg with trig := none, olAt := edgeAt 0 s + 1, olStarts := [], olFrom := 0, olNow := [] } }

/-- MODE (R108): OPEN is set only with the key; a write of 0 needs none. In a state that does not regulate the write
is stored and acts when regulation resumes (Table REG-7). -/
def writeMode (d : W32) (s : State) : State :=
  if REG.MODE_OPEN.ofData d = 1 then
    if REG.MODE_KEY.ofData d = 0x7C01 then
      let t := s.put REG.MODE_OPEN 1
      if t.get REG.STS_STATE = 2 then dwellCheck (openLoopBegin t) else t
    else recErr .reg 0x0102 s
  else
    let t := s.put REG.MODE_OPEN 0
    if t.get REG.STS_STATE = 3 then phaseJudge (t.put REG.STS_STATE 2) else t

/-- FSTAT: writing 1 to VALID clears it and the cause bits (R112). -/
def writeFstat (d : W32) (s : State) : State :=
  if REG.FSTAT_VALID.ofData d = 1 then
    s.puts [(REG.FSTAT_VALID, 0), (REG.FSTAT_OCPH, 0), (REG.FSTAT_VINLO, 0), (REG.FSTAT_OV, 0), (REG.FSTAT_OC, 0)]
  else s

/-! ### Commands -/

/-- The feedback comparator finds a trigger at an edge: the die voltage in µV below v_tgt, TON_MIN gone since the last
start; a trigger that found its phase within TOFF_MIN waits, and needs no second one (R97, Table REG-7). -/
def triggered (s : State) (e vdie : Nat) : Bool :=
  s.reg.trig.isSome || (decide (vdie * 2 < vTgt2 s) && startLongAgo s e)

def onPulseStartEff (sub vdie : Nat) (sw : Int) (s : State) : State :=
  let ph := pulsePhase s
  let e := edgeAt sub s
  if (s.get REG.STS_STATE = 1 ∨ s.get REG.STS_STATE = 2) ∧ triggered s e vdie then
    if !pulsing s ph && offLongEnough s ph e then
      let (ton, t) := loopOnTime ph s
      startPulse ph ton e sw t
    else { s with reg := { s.reg with trig := some ph } }
  else s

/-- ON_PULSE_START: `sub` is the root edge within the tick, `vdie` the die voltage in µV, `sw` the switch node in mV at
the high side's turn-on (R97 to R100). -/
def execOnPulseStart (sub : Fin 49) (vdie : Nat) (sw : Int) (s : State) : Out := onKa (onPulseStartEff sub vdie sw) s

/-- A pulse whose on-time has expired ends, and its phase is off from the end of the on-time on (R98). -/
def pulseEndEff (ph sub : Nat) (sw : Int) (s : State) : State :=
  match s.reg.pulses.find? (·.ph == ph) with
  | some p =>
    if p.start + p.ton ≤ edgeAt sub s then
      deadAdjust ph true sw { s with reg := { s.reg with
        pulses := s.reg.pulses.filter (·.ph != ph), edge := max s.reg.edge (p.start + p.ton)
        offs := SMap.insert (SMap.erase s.reg.offs ph) ph (p.start + p.ton) } }
    else s
  | none => s

/-- PULSE_END (R98, R100). -/
def execPulseEnd (ph : Fin 4) (sub : Fin 49) (sw : Int) (s : State) : Out := onKa (pulseEndEff ph sub sw) s

/-- A phase current in 50 mA from the voltage at ISNSn in µV: (V − OFFSET) ÷ GAIN, a quotient without a rounding rule; a
GAIN of 0 leaves it open (R94, R95, log entry 7). -/
def phaseAmps (v : Nat) (s : State) : Int × State :=
  let g := s.get REG.ISNS_GAIN
  if g = 0 then (toSigned 16 (s.fresh.1 % 2 ^ 16), s.fresh.2)
  else (openDiv (((v : Int) - s.get REG.ISNS_OFFSET * 1000) * 20) g, s)

/-- The phase currents measured, IPH0 first (R95). -/
def measurePhases (isns : List Nat) (s : State) : State :=
  repeatFor 4 (fun n t =>
    let (i, t) := phaseAmps (isns.getD n 0) t
    t.put (REG.IPH_CUR n) (ofSigned 16 i)) s

/-- IMEAS.TOTAL: the sum of the phase currents; the manual gives no code for a sum below 0, which is a free value
(R95, log entry 7). -/
def totalOf (s : State) : Nat × State :=
  let sum := ((List.range 4).map (phaseCur s)).sum
  if sum < 0 then s.fresh else (sum.toNat, s)

/-- The die voltage is within 50 mV of a soft-start's final target, in a soft-start that has reached it (R116). -/
def nearTarget (s : State) : Bool :=
  s.get REG.STS_STATE == 1 && s.reg.ramp == s.getA REG.VSET_CODE * 1250 * uvUnit &&
    decide (((s.get REG.VOUT_MEAS : Int) - s.getA REG.VSET_CODE).natAbs ≤ 40)

/-- What a new sample says of the rail, of power good and of the under-voltage monitor (R113, R116). -/
def judgeVoltage (s : State) : State :=
  let s := biasJudge { s with reg := { s.reg with bias := s.reg.bias.map fun _ => s.get REG.VOUT_MEAS * 1250 } }
  let low := decide (s.get REG.VOUT_MEAS < s.get REG.PROT_UVP)
  { s with reg := { s.reg with
    nearSince := if nearTarget s then some (s.reg.nearSince.getD s.mtime) else none
    uvSince := if low && regRuns s then some (s.reg.uvSince.getD s.mtime) else none
    uvSeen := low && s.reg.uvSeen } }

def regSampleEff (vout : Nat) (isns : List Nat) (vin : Nat) (s : State) : State :=
  let t := measurePhases isns ((s.put REG.VOUT_MEAS vout).put REG.VIN_MV vin)
  let (tot, t) := totalOf t
  phaseJudge (judgeVoltage (caddySample (t.put REG.IMEAS_TOTAL tot)))

/-- REG_SAMPLE: die voltage in 1.25 mV, ISNS voltages in µV, VIN in mV, every 100 ns (R95, R105, R113, R129). -/
def execRegSample (vout : Nat) (isns : List Nat) (vin : Nat) (s : State) : Out := onKa (regSampleEff vout isns vin) s

/-- REG takes no prediction and no boost: it stands in FAULT or LOCKOUT, or soft-starts after a trip (R114). -/
def regBlind (s : State) : Bool :=
  s.get REG.STS_STATE == 4 || s.get REG.STS_STATE == 5 || (s.get REG.STS_STATE == 1 && s.reg.afterTrip)

/-- The boost that a notice adds: FF.GAIN × 0.25 mV per ampere, held until its start plus FF.HOLD µs (R104). -/
def boostOf (amt start : Nat) (s : State) : Boost :=
  { goal := s.get REG.FF_GAIN * amt * 25 * (uvUnit / 2), cur := 0, start := start,
    hold := start * 1000 + max 1 (s.get REG.FF_HOLD) * 98304, phase := 0 }

/-- A notice of a granted start reaches REG (R104, R105). -/
def takeNotice (amt start : Nat) (s : State) : State :=
  let t := s.inc REG.FFCNT_NOTICES
  let late := decide (start < t.mtime)
  let t := if late then (t.inc REG.FFCNT_LATE).put REG.ISR_FFLATE 1 else t
  if late || regBlind t then t
  else
    let t := { t with reg := { t.reg with
      preds := (t.reg.preds.filter fun p => decide (t.mtime ≤ p.2)) ++ [(amt, start)] } }
    let t := if t.get REG.FF_EN = 1 then { t with reg := { t.reg with boosts := t.reg.boosts ++ [boostOf amt start t] } } else t
    phaseJudge t

def ffNoticeEff (s : State) : State :=
  match s.caddy.notices with
  | [] => s
  | (amt, start) :: rest => takeNotice amt start { s with caddy := { s.caddy with notices := rest } }

/-- FF_NOTICE: the oldest notice that Caddy has sent arrives (R104). -/
def execFfNotice (s : State) : Out := onKa ffNoticeEff s

/-- A boost's ramp must begin now to be complete at its start time, or began late (R104). -/
def rampDue (s : State) (b : Boost) : Bool := b.phase == 0 && decide (b.start ≤ s.mtime + ceilDiv b.goal (slewTick s))

/-- The first boost that a test names changes. -/
def firstBoost (p : Boost → Bool) (f : Boost → Boost) : List Boost → List Boost
  | [] => []
  | b :: t => if p b then f b :: t else b :: firstBoost p f t

def ffRampStartEff (s : State) : State :=
  dwellCheck { s with reg := { s.reg with boosts := firstBoost (rampDue s) (fun b => { b with phase := 1 }) s.reg.boosts } }

/-- FF_RAMP_START (R104). -/
def execFfRampStart (s : State) : Out := onKa ffRampStartEff s

def ffHoldEndEff (s : State) : State :=
  { s with reg := { s.reg with
    boosts := firstBoost (fun b => b.phase == 1 && decide (b.hold ≤ s.mtime * 1000)) (fun b => { b with phase := 2 })
      s.reg.boosts } }

/-- FF_HOLD_END (R104). -/
def execFfHoldEnd (s : State) : Out := onKa ffHoldEndEff s

/-- The dwell has run 100 µs (R105). -/
def shedDue (s : State) : Bool :=
  dwellHolds s && (match s.reg.dwell with
    | some (t, n) => n == s.get REG.STS_NPH && decide (100 * 98304 ≤ (s.mtime - t) * 1000)
    | none => false)

def phaseShedEff (s : State) : State :=
  if shedDue s then
    let t := setPhases (s.get REG.STS_NPH / 2) s
    dwellCheck { t with reg := { t.reg with dwell := none } }
  else s

/-- PHASE_SHED (R105, Table REG-4). -/
def execPhaseShed (s : State) : Out := onKa phaseShedEff s

/-- PHCTL_WRITE (R105). -/
def execPhctlWrite (d : W32) (s : State) : Out := onCore (onLink (.phctlWrite d) (onPage .reg (writePhctl d))) s

/-- TON_WRITE, accepted at a root edge of the tick (R107). -/
def execTonWrite (sub : Fin 49) (d : W32) (s : State) : Out :=
  onCore (onLink (.tonWrite sub d) (onPage .reg (writeTon sub d))) s

/-- OL_WRITE, accepted at a root edge of the tick (R107). -/
def execOlWrite (sub : Fin 49) (d : W32) (s : State) : Out :=
  onCore (onLink (.olWrite sub d) (onPage .reg (writeOl sub d))) s

/-- MODE_OPEN_SET (R108). -/
def execModeOpenSet (d : W32) (s : State) : Out := onCore (onLink (.modeOpenSet d) (onPage .reg (writeMode d))) s

/-- MODE_OPEN_CLEAR (R108). -/
def execModeOpenClear (d : W32) (s : State) : Out := onCore (onLink (.modeOpenClear d) (onPage .reg (writeMode d))) s

/-- The first of the instants `from`, `from` + `step`, … that is not before another. -/
def gridAt (start step atLeast : Nat) : Nat :=
  if atLeast ≤ start then start else start + ceilDiv (atLeast - start) (max 1 step) * max 1 step

/-- The root edge at which an active phase is due in open-loop mode. Phase 0 is due PERIOD after its last start, the
first time as the mode begins; phase k lies k × PERIOD ÷ (active phases) behind it, a quotient without a rounding rule,
from the last change of the phase count on (R108, log entries 7 and 36). -/
def openDue (s : State) (k : Nat) : Nat :=
  let p := s.get REG.OL_PERIOD
  let behind := (openDiv (k * p : Nat) (max 1 (s.get REG.STS_NPH))).toNat
  let after := ((SMap.find s.reg.olStarts k).map (· + 1)).getD 0
  match SMap.find s.reg.olNow k, SMap.find s.reg.olStarts 0 with
  | some e, _ => e
  | none, none => gridAt (s.reg.olAt + behind) p after
  | none, some l0 => if k = 0 then l0 + p else gridAt (l0 + behind) p (max s.reg.olFrom after)

/-- The active phase whose open-loop pulse starts at an edge: of those due, off for TOFF_MIN and not in a pulse, the
one longest due (R108). -/
def openPhase (s : State) (e : Nat) : Option Nat :=
  let c := (List.range (s.get REG.STS_NPH)).filter fun k => decide (openDue s k ≤ e) && !pulsing s k && offLongEnough s k e
  c.find? fun k => c.all fun j => decide (openDue s k ≤ openDue s j)

def openLoopPulseEff (sub : Nat) (sw : Int) (s : State) : State :=
  let e := edgeAt sub s
  if s.get REG.STS_STATE = 3 then
    match openPhase s e with
    | some k =>
      let (ton, t) := openOnTime s
      let t := startPulse k ton e sw t
      { t with reg := { t.reg with olStarts := SMap.insert (SMap.erase t.reg.olStarts k) k e, olNow := SMap.erase t.reg.olNow k } }
    | none => s
  else s

/-- OPEN_LOOP_PULSE, at a root edge of the tick (R108). -/
def execOpenLoopPulse (sub : Fin 49) (sw : Int) (s : State) : Out := onKa (openLoopPulseEff sub sw) s

/-- The phases whose current exceeds PROT.OCP × 0.25 A, as a mask (R112). -/
def overCurrent (c : TripSense) (s : State) : Nat :=
  maskIf 4 fun n =>
    decide ((s.get REG.PROT_OCP * s.get REG.ISNS_GAIN : Int) < 4 * ((c.isns.getD n 0 : Int) - s.get REG.ISNS_OFFSET * 1000))

/-- The die voltage exceeds PROT.OVP × 1.25 mV (R112). -/
def overVoltage (c : TripSense) (s : State) : Bool := decide (s.get REG.PROT_OVP * 1250 < c.vdie)

/-- VIN is below 4.2 V (R112). -/
def vinTooLow (c : TripSense) : Bool := decide (c.vin < 4200)

/-- A trip with its cause bits (R112, R114): gates low, FAULT, the causes added, and the core held in reset. -/
def tripOp (oc : Nat) (ov vinlo : Bool) (s : State) : State :=
  let t := s.puts [(REG.STS_STATE, 4), (REG.STS_PG, 0), (REG.FSTAT_VALID, 1), (REG.ISR_TRIP, 1),
    (REG.FSTAT_OCPH, s.get REG.FSTAT_OCPH ||| oc)]
  let t := if oc = 0 then t else t.put REG.FSTAT_OC 1
  let t := if ov then t.put REG.FSTAT_OV 1 else t
  let t := if vinlo then t.put REG.FSTAT_VINLO 1 else t
  let t := rampBusy (t.inc REG.FSTAT_TRIPCNT)
  coreReset { t with reg := { t.reg with
    pulses := [], boosts := [], preds := [], trig := none, dwell := none, uvSince := none, since := t.mtime } }

def regTripEff (c : TripSense) (s : State) : State :=
  if (s.get REG.STS_STATE = 1 ∨ regRuns s) ∧ (overCurrent c s ≠ 0 ∨ overVoltage c s ∨ vinTooLow c) then
    tripOp (overCurrent c s) (overVoltage c s) (vinTooLow c) s
  else s

/-- REG_TRIP: what the protection senses is judged against OCP, OVP and 4.2 V (R112). -/
def execRegTrip (c : TripSense) (s : State) : Out := onKa (regTripEff c) s

/-- The die voltage has stayed below UVP for 5 µs (R113). -/
def uvDue (s : State) : Bool :=
  match s.reg.uvSince with
  | some t => decide (5 * 98304 ≤ (s.mtime - t) * 1000)
  | none => false

def underVoltageEff (s : State) : State :=
  if regRuns s ∧ uvDue s ∧ !s.reg.uvSeen then { (s.put REG.ISR_UV 1) with reg := { s.reg with uvSeen := true } } else s

/-- UNDER_VOLTAGE (R113). -/
def execUnderVoltage (s : State) : Out := onKa underVoltageEff s

/-- So many ms of MTIME have passed since STATE changed. -/
def sinceMs (s : State) (ms : Nat) : Bool := decide (ms * 98304 ≤ s.mtime - s.reg.since)

def tripRetryEff (vrail : Nat) (s : State) : State :=
  if s.get REG.STS_STATE = 4 ∧ sinceMs s (max 1 (s.get REG.RETRY_DLY)) then
    if s.get REG.RETRY_MAX ≤ s.get REG.FSTAT_TRIPCNT then s.put REG.STS_STATE 5 else softStart true vrail s
  else s

/-- TRIP_RETRY: the soft-start after a trip begins from the `vrail` µV that remain on VDD_CORE (R115, R116). -/
def execTripRetry (vrail : Nat) (s : State) : Out := onKa (tripRetryEff vrail) s

def tripcntClearEff (s : State) : State :=
  if regRuns s ∧ sinceMs s 1000 then s.put REG.FSTAT_TRIPCNT 0 else s

/-- TRIPCNT_CLEAR: in regulation for 1 s without a break (R115). That REGULATE and OPENLOOP both count as regulation,
and that an excursion under UVP breaks it in neither, is DESIGN CHOICE, log entry 36. -/
def execTripcntClear (s : State) : Out := onKa tripcntClearEff s

/-- The soft-start has ended: its target has reached the active VSET, and the die voltage has held within ±50 mV of it
for 50 µs (R116). -/
def powerGoodDue (s : State) : Bool :=
  nearTarget s && (match s.reg.nearSince with
    | some t => decide (50 * 98304 ≤ (s.mtime - t) * 1000)
    | none => false)

def powerGoodEff (s : State) : State :=
  if powerGoodDue s then
    let t := s.puts [(REG.STS_PG, 1), (REG.STS_BUSY, 0)]
    let t := if s.get REG.MODE_OPEN = 1 then openLoopBegin t else t.put REG.STS_STATE 2
    let t := { t with
      reg := { t.reg with afterTrip := false, since := t.mtime, nearSince := none }
      sys := { t.sys with unsup :=
        if t.sys.unsup = Unsup.core ∧ 4500 ≤ t.get REG.VIN_MV then Unsup.none else t.sys.unsup } }
    phaseJudge t
  else s

/-- POWER_GOOD (R116, R411). -/
def execPowerGood (s : State) : Out := onKa powerGoodEff s

def setPointRampEndEff (s : State) : State :=
  if s.reg.ramp = s.getA REG.VSET_CODE * 1250 * uvUnit ∧ s.get REG.STS_STATE ≠ 1 then s.put REG.STS_BUSY 0 else s

/-- SET_POINT_RAMP_END: vset_ramp has reached the active VSET (R101). -/
def execSetPointRampEnd (s : State) : Out := onKa setPointRampEndEff s

end Sys2Proof.Machine
end

