-- ==== Sys2Proof/Machine/Urgency.lean ====
section
/-! DEFINITION. The urgency of the requests that wait at the ports of DQOS, and saturation (R205, R209). -/

namespace Sys2Proof.Machine

/-- An age in ticks has reached so many hundredths of a nanosecond target (R205): 98 304 ticks are 1 000 000 ns. -/
def ageReaches (ticks pct ns : Nat) : Bool := decide (pct * ns * 98304 ≤ ticks * 100000000)

/-- Urgency of a request of a port that has waited so many ticks (R205). -/
def urgencyOf (s : State) (port ticks : Nat) : Nat :=
  let lat := s.getA (DQOS.LAT_NS port)
  if ageReaches ticks (s.getA DQOS.MARK_M3) lat then 3
  else if ageReaches ticks (s.getA DQOS.MARK_M2) lat then 2
  else if ageReaches ticks (s.getA DQOS.MARK_M1) lat then 1
  else 0

/-- Requests of a port on a channel, oldest first. -/
def portReqs (s : State) (ch port : Nat) : List DqReq := s.dqos.reqs.filter fun r => r.ch == ch && r.port == port

/-- Urgency of a port on a channel: that of its oldest waiting request, 0 with none (R205). -/
def portUrgency (s : State) (ch port : Nat) : Nat :=
  match portReqs s ch port with
  | r :: _ => urgencyOf s port (s.mtime - r.time)
  | [] => 0

/-- Ticks after which a port's request reaches urgency 3 (R205). -/
def hotTicks (s : State) (port : Nat) : Nat :=
  ceilDiv (s.getA DQOS.MARK_M3 * s.getA (DQOS.LAT_NS port) * 98304) 100000000

/-- Since when a port of a channel has stayed at urgency 3, if it is there now (R209). -/
def hotSince (s : State) (ch port : Nat) : Option Nat :=
  match portReqs s ch port with
  | r :: _ => if portUrgency s ch port = 3 then
      some ((SMap.find s.dqos.hot (ch * 16 + port)).getD (r.time + hotTicks s port)) else none
  | [] => none

/-- The ports of a channel that stay at urgency 3 are remembered with their instants, the others forgotten. -/
def setHot (since : Nat → Option Nat) (ch : Nat) (s : State) : State :=
  let m := (List.range 12).foldl (fun m p =>
    let k := ch * 16 + p
    match since p with
    | some t => SMap.insert (SMap.erase m k) k t
    | none => SMap.erase m k) s.dqos.hot
  { s with dqos := { s.dqos with hot := m } }

/-- The ports of a channel at urgency 3 now. -/
def noteHot (ch : Nat) (s : State) : State := setHot (hotSince s ch) ch s

/-- A port of a channel has stayed at urgency 3 for 10 µs (R209). -/
def satOn (s : State) (ch : Nat) : Bool :=
  (List.range 12).any fun p => match hotSince s ch p with
    | some t => decide (10 * 98304 ≤ (s.mtime - t) * 1000)
    | none => false

/-- STS.SAT falls when no port is saturated (R209). -/
def clearSat (s : State) : State := if (List.range 4).any (satOn s) then s else s.put DQOS.STS_SAT 0

/-- LAT and MARK have new values: a port that they bring to urgency 3 is there from now on, one that was there and is
still has not left it (R205, R209). -/
def dqosCommit (before s : State) : State :=
  clearSat (repeatFor 4 (fun ch t => setHot (fun p =>
    if portUrgency s ch p = 3 then some ((hotSince before ch p).getD s.mtime) else none) ch t) s)

end Sys2Proof.Machine
end

