-- ==== Sys2Proof/Machine/Commit.lean ====
section
/-! DEFINITION. Shadow commit (R42 to R51): the request, the commit points, groups, and what a commit does to the block
beyond the copy. -/

namespace Sys2Proof.Machine

/-- Bytes in the unit in which policers and shapers count tokens: 1/786432 byte, so that a rate of 125 bytes per
second fills 1 a tick (R353, R356). -/
def tokenUnit : Nat := 786432

/-- The fields of a policer whose change refills its buckets (R357). -/
def policerFields (p : Nat) : List Fld :=
  [STRN.PCFG_MODE p, STRN.CIR_KBPS p, STRN.CBS_BYTES p, STRN.PIR_KBPS p, STRN.PBS_BYTES p]

/-- The buckets of a policer refilled to CBS and PBS (R357). -/
def refillPolicer (p : Nat) (s : State) : State :=
  let b : Bucket :=
    { tc := s.getA (STRN.CBS_BYTES p) * tokenUnit, tp := s.getA (STRN.PBS_BYTES p) * tokenUnit, t := s.mtime }
  { s with strn := { s.strn with buckets := SMap.set {} s.strn.buckets p b } }

/-- What a commit changes beyond the active copies: TIM ranks, Caddy recomputes eff, REG's ramp turns and its phases
are judged afresh, urgency is, Strainer refills the changed policers. -/
def commitHook (p : Page) (before s : State) : State :=
  match p with
  | .tim => timCommit s
  | .caddy => checkSupply (recomputeEff s)
  | .reg => checkSupply (phaseJudge (rampBusy s))
  | .dqos => dqosCommit before s
  | .strn => repeatFor 64 (fun k t =>
      if (policerFields k).any (fun f => before.getA f != t.getA f) then refillPolicer k t else t) s
  | _ => s

/-- The page's commit takes effect: the copy, PENDING cleared, STAMP, and its member of a group release applied
(R44, R51). -/
def applyCommit (p : Page) (s : State) : State :=
  let t := copyShadows p s
  let t := (t.put (HDR.PENDING p.base) 0).put (HDR.STAMP p.base) t.mtime
  let t := { t with sys := { t.sys with
    points := t.sys.points.filter fun e => e.1 != p.base
    members := t.sys.members.filter fun e => e.1 != p.base } }
  commitHook p s t

/-- The page waits for a commit point of this kind. -/
def awaits (s : State) (p : Page) (point : Nat) : Bool := s.sys.points.contains (p.base, point)

/-- A commit point of one page occurs (R44). -/
def commitPoint (p : Page) (point : Nat) (s : State) : State := if awaits s p point then applyCommit p s else s

/-- A TOOTH: every page that waits for one applies (Table SYS-7). -/
def toothCommits (s : State) : State := Page.all.foldl (fun t p => commitPoint p 3 t) s

/-- A commit request with its sampled point: PENDING is set; IMMEDIATE applies at once (R44, Table SYS-7). -/
def requestCommit (p : Page) (point : Nat) (s : State) : State :=
  let t := s.put (HDR.PENDING p.base) 1
  let t := { t with sys := { t.sys with points := (p.base, point) :: t.sys.points } }
  if point = 0 then applyCommit p t else t

/-- A write of SHCMT (R44, R47 to R49). -/
def writeShcmt (p : Page) (d : W32) (s : State) : State :=
  let b := p.base
  let pt := (HDR.POINT b).ofData d
  let t := s.store (HDR.GRP b) d
  let t := if p.allows pt then t.put (HDR.POINT b) pt else recErr p 0x0002 t
  if natBit d.toNat 0 && !s.bit (HDR.PENDING b) then
    if t.get (HDR.GRP b) ≠ 0 then recErr p 0x0003 t else requestCommit p (t.get (HDR.POINT b)) t
  else t

/-- The commit point of a group (SYS.GRPPT). -/
def groupPoint (s : State) (g : Nat) : Nat :=
  s.get ([SYS.GRPPT_PT1, SYS.GRPPT_PT2, SYS.GRPPT_PT3, SYS.GRPPT_PT4, SYS.GRPPT_PT5, SYS.GRPPT_PT6, SYS.GRPPT_PT7].getD (g - 1)
    SYS.GRPPT_PT1)

/-- A group release is pending (R51). -/
def groupPending (s : State) (g : Nat) : Bool := s.sys.members.any fun e => e.2 == g

/-- What a release does to one page (R49 to R51). -/
def releaseMember (g : Nat) (s : State) (p : Page) : State :=
  if p.hasShadow && !s.held p && s.get (HDR.GRP p.base) == g then
    if !p.allows (groupPoint s g) then recErr p 0x0005 s
    else if s.bit (HDR.PENDING p.base) then s
    else
      let t := { s with sys := { s.sys with members := (p.base, g) :: s.sys.members } }
      requestCommit p (groupPoint s g) t
  else s

/-- SYS.GRPCMT.REL[g] (R49, R51). -/
def releaseGroup (g : Nat) (s : State) : State :=
  if groupPending s g then s else Page.all.foldl (releaseMember g) s

/-- A write of GRPCMT: the groups whose bit is 1 are released. -/
def writeGrpcmt (d : W32) (s : State) : State :=
  repeatFor 7 (fun i t => if natBit d.toNat (i + 1) then releaseGroup (i + 1) t else t) s

/-- A write of GRPPT: a field with a code other than IMMEDIATE or TOOTH keeps its value (Table SYS-13). -/
def writeGrppt (d : W32) (s : State) : State :=
  let fs := [SYS.GRPPT_PT1, SYS.GRPPT_PT2, SYS.GRPPT_PT3, SYS.GRPPT_PT4, SYS.GRPPT_PT5, SYS.GRPPT_PT6, SYS.GRPPT_PT7]
  let ok (f : Fld) := f.ofData d == 0 || f.ofData d == 3
  let t := s.storeAll (fs.filter ok) d
  if fs.all ok then t else recErr .sys 0x0103 t

/-! ### Commands -/

def shadowCommitEff (p : Page) (d : W32) (s : State) : State := if p.hasShadow then writeShcmt p d s else s

/-- SHADOW_COMMIT: a write of SHCMT (R44). A page whose CAP.SHADOW is 0 has no such register (R36). -/
def execShadowCommit (p : Page) (d : W32) (s : State) : Out :=
  onCore (onLink (.shadowCommit p d) (onPage p (shadowCommitEff p d))) s

/-- GROUP_RELEASE: a write of SYS.GRPCMT (R49). -/
def execGroupRelease (d : W32) (s : State) : Out := onCore (onLink (.groupRelease d) (writeGrpcmt d)) s

end Sys2Proof.Machine
end

