-- ==== Sys2Proof/Machine/HostLink.lean ====
section
/-! DEFINITION. The host link, the bitstream FIFOs and the mailbox (08_host_link_and_fifos.md). The access paths
themselves, BAR2 and the management SPI slave, stand in Machine/Bus.lean. -/

namespace Sys2Proof.Machine

/-! ### Bitstream FIFOs -/

/-- Words that a FIFO can hold (R181). -/
def fifoRoom (s : State) (n : Nat) : Nat := s.get (BFIFO.CFG_SIZE n) * 16

/-- A FIFO is enabled in a direction: 0 IN, 1 OUT. -/
def fifoOn (s : State) (n dir : Nat) : Bool := s.bit (BFIFO.CTL_EN n) && s.get (BFIFO.CFG_DIR n) == dir

def fifoPage (n : Fin 16) : Page := .bfifo n

/-- A word written at DATA or DATA_END (R182, R183). -/
def fifoWrite (n : Fin 16) (w : W32) (mark : Bool) (s : State) : State :=
  let f := s.fifo n
  if !fifoOn s n 0 then recErr (fifoPage n) 0x0102 s
  else if f.items.length < fifoRoom s n then s.setFifo n { f with items := f.items ++ [(w, mark)] }
  else recErr (fifoPage n) 0x0100 (s.put (BFIFO.ISR_OVF n) 1)

/-- A read of RDATA (R182, R183). -/
def readRdata (n : Fin 16) (s : State) : W32 × State :=
  let f := s.fifo n
  if !fifoOn s n 1 then (0, recErr (fifoPage n) 0x0102 s)
  else match f.items with
    | (w, _) :: t => (w, s.setFifo n { f with items := t })
    | [] => (0, recErr (fifoPage n) 0x0101 (s.put (BFIFO.ISR_UNF n) 1))

/-- RDATA_END: VALID and END of the head (R182). -/
def rdataEnd (s : State) (n : Nat) : Nat :=
  match (s.fifo n).items with
  | (_, e) :: _ => 2 + e.toNat
  | [] => 0

/-- COUNT: words held and end-marked words held (R184). -/
def fifoCount (s : State) (n : Nat) : Nat × Nat :=
  let f := (s.fifo n).items
  (f.length, min 8191 (f.countP (·.2)))

/-- Granules of two FIFOs overlap (R181). -/
def fifoOverlap (s : State) (n m : Nat) : Bool :=
  decide (s.get (BFIFO.CFG_BASE n) < s.get (BFIFO.CFG_BASE m) + s.get (BFIFO.CFG_SIZE m) ∧
    s.get (BFIFO.CFG_BASE m) < s.get (BFIFO.CFG_BASE n) + s.get (BFIFO.CFG_SIZE n))

/-- The allocation of a FIFO allows its enable (R181). -/
def fifoAllocOk (s : State) (n : Nat) : Bool :=
  s.get (BFIFO.CFG_SIZE n) != 0 && decide (s.get (BFIFO.CFG_BASE n) + s.get (BFIFO.CFG_SIZE n) ≤ 16384) &&
    (List.range 16).all fun m => m == n || !s.bit (BFIFO.CTL_EN m) || !fifoOverlap s n m

/-- CTL.EN of a FIFO written 1 (R181). -/
def fifoEnableOp (n : Fin 16) (s : State) : State :=
  if s.bit (BFIFO.CTL_EN n) then s
  else checked (fifoPage n) [(!fifoAllocOk s n, 0x0103)]
    (fun t => t.puts [(BFIFO.CTL_EN n, 1), (BFIFO.STS_STATE n, 1)]) s

/-- CTL.EN of a FIFO written 0. -/
def fifoDisableOp (n : Nat) (s : State) : State := s.puts [(BFIFO.CTL_EN n, 0), (BFIFO.STS_STATE n, 0)]

/-- CFG: refused while EN is 1, and otherwise it empties the FIFO (R181); the direction of BFIFO15 is fixed (R188).
That an IN agent then also forgets a packet it has partly taken and stops discarding is DESIGN CHOICE, log entry 32:
the manual cuts packets at a local reset only (R232). -/
def fifoCfg (n : Fin 16) (d : W32) (s : State) : State :=
  checked (fifoPage n) [(s.bit (BFIFO.CTL_EN n), 0x0105)] (fun t =>
    let t := t.storeAll [BFIFO.CFG_BASE n, BFIFO.CFG_SIZE n] d
    let t := if n = 15 then t else t.store (BFIFO.CFG_DIR n) d
    t.setFifo n { t.fifo n with items := [], taking := none, skip := false }) s

/-- The ring whose bitstream FIFO this is, among the rings of a kind that run or stop: 0 encode, 1 decode (R232, R233,
R256). -/
def boundRing (s : State) (n kind : Nat) : Option Nat :=
  (List.range 8).find? fun r =>
    s.get (CSCH.RSTS_STATE r) != 0 && s.get (CSCH.RCFG_KIND r) == kind && s.get (CSCH.RCFG_BFIFO r) == n

/-- Fetched decode frames of a ring that still wait for their packet (R256). -/
def packetsDue (s : State) (r : Nat) : Nat :=
  s.csch.frames.countP fun f => f.ring == r && f.op == 2 && f.endT.isNone && !f.staged

/-- An agent takes packets from an IN FIFO: UPD from BFIFO15 while it receives (R188, R373), a decode ring from its
own, a packet for each fetched frame that waits for one: with none the FIFO fills (R231, R256, R263). -/
def hasTaker (s : State) (n : Nat) : Bool :=
  if n = 15 then s.get UPD.STS_STATE == 1
  else match boundRing s n 1 with
    | some r => decide ((s.fifo n).taken.length < packetsDue s r)
    | none => false

/-- Payload words of a packet (Table BFIFO-1). -/
def packetWords (len : Nat) : Nat := ceilDiv len 4

/-- The bytes of payload words, cut to the length (Table BFIFO-1). -/
def payload (ws : List W32) (len : Nat) : List Byte := (ws.flatMap fun w => leBytes 4 w.toNat).take len

/-- A framing error that the agent meets (R186): `skip` when it discards through the next end mark. -/
def framingError (n : Fin 16) (skip : Bool) (f : FifoSt) (s : State) : State :=
  recErr (fifoPage n) 0x0104 ((s.setFifo n { f with taking := none, skip := skip }).put (BFIFO.ISR_FRAME n) 1)

/-- The agent takes one item: header, payload and end mark are judged (R186). -/
def agentItem (n : Fin 16) (w : W32) (e : Bool) (f : FifoSt) (s : State) : State :=
  if f.skip then s.setFifo n { f with skip := !e }
  else
    let (typ, len, ws) := match f.taking with
      | some (t, l, ws) => (t, l, ws ++ [w])
      | none => (bitsOf w 24 8, bitsOf w 0 24, [])
    if ws.length = packetWords len then
      if e then s.setFifo n { f with taking := none, taken := f.taken ++ [{ typ := typ, bytes := payload ws len }] }
      else framingError n true f s
    else if e then framingError n false f s
    else s.setFifo n { f with taking := some (typ, len, ws) }

def bfifoAgentTakeEff (n : Fin 16) (s : State) : State :=
  let f := s.fifo n
  if fifoOn s n 0 && hasTaker s n then
    match f.items with
    | (w, e) :: t => agentItem n w e { f with items := t } s
    | [] => s
  else s

def bfifoAgentPutEff (n : Fin 16) (s : State) : State :=
  let f := s.fifo n
  if fifoOn s n 1 ∧ f.items.length < fifoRoom s n then
    match f.puts with
    | x :: t => s.setFifo n { f with items := f.items ++ [x], puts := t }
    | [] => s
  else s

/-- BFIFO_AGENT_PUT (R185). -/
def execBfifoAgentPut (n : Fin 16) (s : State) : Out := onCore (bfifoAgentPutEff n) s

/-- BFIFO_DATA (R182). -/
def execBfifoData (n : Fin 16) (w : W32) (s : State) : Out :=
  onCore (onLink (.bfifoData n w) (onPage (fifoPage n) (fifoWrite n w false))) s

/-- BFIFO_DATA_END (R182). -/
def execBfifoDataEnd (n : Fin 16) (w : W32) (s : State) : Out :=
  onCore (onLink (.bfifoDataEnd n w) (onPage (fifoPage n) (fifoWrite n w true))) s

/-- BFIFO_POP: a read of RDATA (R182). -/
def execBfifoPop (n : Fin 16) (s : State) : Out :=
  onCore (onLink (.bfifoPop n) fun s => answer (readOnPage (fifoPage n) (readRdata n) s)) s

/-- BFIFO_ENABLE (R181). -/
def execBfifoEnable (n : Fin 16) (s : State) : Out :=
  onCore (onLink (.bfifoEnable n) (onPage (fifoPage n) (fifoEnableOp n))) s

/-- BFIFO_CFG_WRITE (R181). -/
def execBfifoCfgWrite (n : Fin 16) (d : W32) (s : State) : Out :=
  onCore (onLink (.bfifoCfgWrite n d) (onPage (fifoPage n) (fifoCfg n d))) s

/-! ### The mailbox -/

def mbxState (s : State) : Nat := s.get MBX.STS_STATE

/-- REQi: refused outside IDLE (R189). -/
def writeReq (i : Nat) (d : W32) (s : State) : State :=
  checked .mbx [(mbxState s != 0, 0x0100)] (fun t => t.put (MBX.REQ_W i) d.toNat) s

def mbxRingEff (s : State) : State :=
  checked .mbx [(mbxState s != 0, 0x0101)] (fun t => fireEdge 15 (t.put MBX.STS_STATE 1)) s

def mbxAckEff (s : State) : State :=
  checked .mbx [(mbxState s != 3, 0x0102)] (fun t => t.put MBX.STS_STATE 0) s

/-- MBCTL as a register: ACK acts before RING of the same write (log entry 15). -/
def writeMbctl (d : W32) (s : State) : State :=
  let t := if natBit d.toNat 1 then mbxAckEff s else s
  if natBit d.toNat 0 then mbxRingEff t else t

/-- MBX_RING (R189). -/
def execMbxRing (s : State) : Out := onCore (onLink .mbxRing (onPage .mbx mbxRingEff)) s

/-- MBX_ACK (R189). -/
def execMbxAck (s : State) : Out := onCore (onLink .mbxAck (onPage .mbx mbxAckEff)) s

def mbxBusyEff (s : State) : State :=
  if mbxState s = 1 then { (s.put MBX.STS_STATE 2) with mbx := { answer := none } } else s

/-- MBX_BUSY (R189). -/
def execMbxBusy (s : State) : Out := onCore mbxBusyEff s

/-- Fields of REQ0 (Table MBX-1). -/
def reqCommand (s : State) : Nat := s.get (MBX.REQ_W 0) / 2 ^ 24 % 256
def reqTag (s : State) : Nat := s.get (MBX.REQ_W 0) / 2 ^ 16 % 256
def reqArgs (s : State) : Nat := s.get (MBX.REQ_W 0) % 32

/-- The commands that Utilior knows. -/
def knownCommand (c : Nat) : Bool := c == 1 || c == 2 || decide (0x20 ≤ c ∧ c ≤ 0x23)

/-- Utilior works on the posted request if its command is this one and the mailbox is BUSY: it makes the answer once. -/
def serveMbx (cmd : Nat) (f : State → (Nat × List Nat) × State) (s : State) : State :=
  if mbxState s = 2 ∧ reqCommand s = cmd ∧ s.mbx.answer = none then
    let (a, t) := f s
    { t with mbx := { answer := some a } }
  else s

/-- The response posted: RSP0 and the result words (Table MBX-1). -/
def postAnswer (st : Nat) (rs : List Nat) (s : State) : State :=
  let t := s.put (MBX.RSP_W 0) (st * 2 ^ 24 + reqTag s * 2 ^ 16 + rs.length)
  let t := repeatFor (min 15 rs.length) (fun i t => t.put (MBX.RSP_W (i + 1)) (rs.getD i 0)) t
  { (t.puts [(MBX.STS_STATE, 3), (MBX.ISR_RSP, 1)]) with mbx := { answer := none } }

def mbxDoneEff (s : State) : State :=
  if mbxState s = 2 then
    match s.mbx.answer with
    | some (st, rs) => postAnswer st rs s
    | none => if knownCommand (reqCommand s) then s else postAnswer 0x01 [] s
  else s

/-- MBX_DONE (R189); the answer of a known command is made by its own command before. -/
def execMbxDone (s : State) : Out := onCore mbxDoneEff s

/-- ECHO: the arguments come back; more than 15 words cannot be (Table MBX-1). -/
def echoAnswer (s : State) : (Nat × List Nat) × State :=
  if 15 < reqArgs s then ((0x02, []), s)
  else ((0x00, (List.range (reqArgs s)).map fun i => s.get (MBX.REQ_W (i + 1))), s)

/-- ECHO (R189). -/
def execEcho (s : State) : Out := onCore (serveMbx 0x02 echoAnswer) s

/-! ### The link -/

/-- Where the factory data lie in the MRAM, and their length (Table STORE-1). -/
def factoryAddr : Nat := 0xF10000
def factoryLen : Nat := 0x80000

/-- A doubleword of the type 0 header of the configuration space (Table HIF-1): the identity, class code 0x04_0000 with
the revision of DEVID.STEP, BAR0, BAR2/BAR3, the Subsystem IDs from factory data, where the manual gives them no place
(log entry 7); every other BAR, the expansion ROM and Interrupt Pin read 0. The place of each is that of the PCI Express
Base Specification, which the manual names (R175). -/
def cfgHeader (s : State) (o : Nat) : Nat :=
  let c := s.hif.cfg
  if o = 0x00 then 0x4880 * 2 ^ 16 + 0x1D7A
  else if o = 0x08 then 0x040000 * 2 ^ 8 + s.get SYS.DEVID_STEP
  else if o = 0x10 then c.bar0.toNat * 2 ^ 24
  else if o = 0x18 then c.bar2.toNat % 4 * 2 ^ 30 + 0xC
  else if o = 0x1C then c.bar2.toNat / 4
  else if o = 0x2C then Config.subsystem (s.mramRead factoryAddr factoryLen) % 2 ^ 32
  else 0

/-- Configuration space returns to its reset values: a reset of HIF, PERST_N low, a link that went down (R76, R176,
R190, R191). -/
def cfgReset (s : State) : State := { s with hif := {} }

/-- The link leaves L0 or L1: requests in flight are lost and LDOWN is set; the host has to restore configuration space
(R190). -/
def linkLost (s : State) : State :=
  if 2 ≤ s.get HIF.STS_STATE then
    cfgReset ((s.puts [(HIF.STS_STATE, 0), (HIF.LINK_WIDTH, 0), (HIF.LINK_SPEED, 0), (HIF.LINK_DSTATE, 0),
      (HIF.ISR_LDOWN, 1)]).inc HIF.LDCNT_COUNT)
  else cfgReset (s.put HIF.STS_STATE 0)

/-- The host's configuration of a link that is up: its configuration space, the power state it sets, and L1 where ASPM
has taken the link there (Table HIF-1, log entry 5). -/
def configureLink (host : CfgSpace) (l1 : Bool) (s : State) : State :=
  let t := s.puts [(HIF.STS_STATE, if l1 && host.aspmL1 then 3 else 2), (HIF.LINK_DSTATE, if host.d3 then 3 else 0)]
  { t with hif := { t.hif with cfg := host } }

def linkUpEff (width speed : Nat) (host : CfgSpace) (l1 : Bool) (s : State) : State :=
  if !s.sys.perstN then s
  else if s.get HIF.STS_STATE = 2 then configureLink host l1 s
  else
    let t := if s.get HIF.STS_STATE = 3 then s else s.puts [(HIF.LINK_WIDTH, width), (HIF.LINK_SPEED, speed)]
    configureLink host l1 (t.put HIF.ISR_LUP 1)

/-- LINK_UP: the link reaches L0, from training at a width and a speed code or back from L1, and the host writes its
configuration space (R76, R176); `l1` where the link then enters L1. -/
def execLinkUp (width speed : Nat) (host : CfgSpace) (l1 : Bool) (s : State) : Out := onCore (linkUpEff width speed host l1) s

/-- LINK_DOWN (R190); training begins again while PERST_N is high. -/
def execLinkDown (s : State) : Out :=
  onCore (fun s => if 2 ≤ s.get HIF.STS_STATE then (linkLost s).put HIF.STS_STATE 1 else s) s

def perstNLowEff (s : State) : State :=
  let t := cfgReset { s with sys := { s.sys with perstN := false } }
  if s.sys.coreUp then linkLost t else t

/-- PERST_N_LOW (R176, R190): the link is down; nothing else is reset. -/
def execPerstNLow (s : State) : Out := always perstNLowEff s

def perstNRiseEff (s : State) : State :=
  let t := { s with sys := { s.sys with perstN := true } }
  if s.sys.coreUp ∧ !s.sys.perstN then t.put HIF.STS_STATE 1 else t

/-- PERST_N_RISE (R176). -/
def execPerstNRise (s : State) : Out := always perstNRiseEff s

end Sys2Proof.Machine
end

