-- ==== Sys2Proof/Machine/Prs.lean ====
section
/-! DEFINITION. PRS (07_presentation_scheduler.md): the flywheel that makes teeth from frame pulses, and the event
slots. Instants are in 1/16 tick. -/

namespace Sys2Proof.Machine

/-- Now, in 1/16 tick (R158). -/
def now16 (s : State) : Nat := s.mtime * 16

/-- PRS.STS.STATE (Table PRS-1). -/
def prsState (s : State) : Nat := s.get PRS.STS_STATE

/-! ### Event slots -/

def slotState (s : State) (k : Nat) : Nat := s.get (PRS.EVCS_STATE k)

/-- A slot is ARMED. -/
def armed (s : State) (k : Nat) : Bool := slotState s k == 1

/-- A tooth event: MODE = 1 (R165). -/
def isTooth (s : State) (k : Nat) : Bool := s.get (PRS.EVACT_MODE k) == 1

/-- The number of a slot's tooth counts as past (R166); none is before the first tooth (R413). -/
def toothPast (s : State) (n : Nat) : Bool :=
  s.prs.hasTooth && decide ((s.get PRS.TCNT_COUNT + 2 ^ 32 - n % 2 ^ 32) % 2 ^ 32 < 2 ^ 31)

/-- How many teeth a number lies ahead of TCNT, 1 to 2^31. -/
def toothAhead (s : State) (n : Nat) : Nat := (n + 2 ^ 32 - s.get PRS.TCNT_COUNT) % 2 ^ 32

/-- How many teeth a past number lies behind TCNT. -/
def toothBehind (s : State) (n : Nat) : Nat := (s.get PRS.TCNT_COUNT + 2 ^ 32 - n % 2 ^ 32) % 2 ^ 32

/-- The instant of a past tooth: a MISSED one keeps its own (R170), of another it is taken by the period (R166). That this
holds too for an event that was armed before its tooth fell, and fires after the next one, is DESIGN CHOICE, log entry
39: R171 has its tooth keep the predicted instant. -/
def pastInstant (s : State) (n : Nat) : Int :=
  match SMap.find s.prs.missed n with
  | some i => i
  | none => (s.prs.last : Int) - toothBehind s n * s.prs.per

/-- The instant of a tooth number, where it is known: none before the first tooth (R413), past teeth by the period (R166),
the next tooth once the one before is resolved (R165). -/
def toothInstant (s : State) (n : Nat) : Option Int :=
  let st := prsState s
  if !s.prs.hasTooth then none
  else if toothPast s n then some (pastInstant s n)
  else if st = 2 ∨ st = 3 then
    match s.prs.due with
    | some d => if toothAhead s n = 1 then some d else if toothAhead s n = 2 then some s.prs.p else none
    | none => if toothAhead s n = 1 ∧ !s.prs.fell then some s.prs.p else none
  else if st = 4 ∧ toothAhead s n = 1 then some s.prs.p
  else none

/-- A tooth number extrapolated from the last tooth at the period (R172). -/
def toothExtrapolated (s : State) (n : Nat) : Int :=
  if toothPast s n then pastInstant s n
  else (s.prs.last : Int) + toothAhead s n * s.prs.per

/-- The target instant of a slot, where it is known (R165). -/
def slotInstant (s : State) (k : Nat) : Option Int :=
  if isTooth s k then
    (toothInstant s (s.get (PRS.EVTL_V k))).map fun i => i + s.get (PRS.EVTH_V k) * 16
  else some (s.get64 (PRS.EVTL_V k) (PRS.EVTH_V k) * 16 : Nat)

/-- The action of a slot on its way to its block (Table PRS-2). -/
def slotAct (s : State) (k : Nat) : Option PrsAct :=
  let t := s.get (PRS.EVACT_TGT k)
  match s.get (PRS.EVACT_ACTION k) with
  | 1 => some (.swap t)
  | 2 => some (.start t)
  | 3 => some (.key t)
  | 4 => some (.mute t)
  | 5 => some (.unmute t)
  | 6 => some (.gpio t (s.get (PRS.EVACT_ARG k)))
  | _ => none

/-- Now is within 2 ticks of a tooth that has fallen or is to fall (R312). -/
def nearTooth (s : State) : Bool :=
  ((if s.prs.hasTooth then [s.prs.last] else []) ++ s.prs.due.toList ++ (if s.prs.fell then [] else [s.prs.p])).any fun i =>
    decide (mag ((now16 s : Int) - i) ≤ 32)

/-- The block that an action goes to takes actions: enabled, and not in reset (R166). GPIO has no enable. -/
def actReaches (s : State) (a : PrsAct) : Bool :=
  match a with
  | .swap _ => s.bit COMP.CTL_EN && !s.held .comp
  | .start _ | .key _ => s.bit CSCH.CTL_EN && !s.held .csch
  | .mute _ | .unmute _ => s.bit APORT.CTL_EN
  | .gpio _ _ => true

/-- IRQ of a slot on fire or drop (R166). -/
def slotIrq (k : Nat) (s : State) : State := if s.bit (PRS.EVACT_IRQ k) then fireEdge (64 + k) s else s

/-- A slot is FIRED, and which tooth it was tied to is noted; COASTED if that was MISSED (R166, R170). -/
def markFired (k : Nat) (s : State) : State :=
  let n := s.get (PRS.EVTL_V k)
  let s := if isTooth s k && (SMap.find s.prs.missed n).isSome then s.put (PRS.EVCS_COASTED k) 1 else s
  let t := (s.put (PRS.EVCS_STATE k) 2).put (PRS.EVSTAMP_T k) s.mtime
  if isTooth s k then { t with prs := { t.prs with fired := SMap.insert t.prs.fired k n } } else t

/-- An action joins those under way: after the older ones, and in its tick before those of higher slots (Table PRS-3). -/
def addAct (a : ActUnderWay) : List ActUnderWay → List ActUnderWay
  | [] => [a]
  | b :: l => if b.tick = a.tick ∧ a.slot < b.slot then a :: b :: l else b :: addAct a l

/-- A slot fires (R166): its interrupt follows its action, and comes at once where no action is on its way. -/
def fireSlot (k : Nat) (s : State) : State :=
  let t := markFired k s
  match slotAct t k with
  | some a =>
    if actReaches t a then
      { t with prs := { t.prs with
        acts := addAct ⟨a, if t.bit (PRS.EVACT_IRQ k) then some k else none, k, t.mtime⟩ t.prs.acts } }
    else slotIrq k (recErr .prs 0x0104 t)
  | none => slotIrq k t

/-- A slot's event is dropped with the MISSED flag (R166, R168). -/
def dropSlot (k : Nat) (s : State) : State :=
  slotIrq k (s.puts [(PRS.EVCS_STATE k, 3), (PRS.EVSTAMP_T k, s.mtime), (PRS.EVCS_MISSED k, 1), (PRS.ISR_EVMISS, 1)])

/-- A slot whose instant is at or before now is judged (R168). -/
def judgeSlot (k : Nat) (s : State) : State :=
  match slotInstant s k with
  | some i =>
    if i ≤ now16 s then
      if s.get (PRS.EVACT_LATE_POLICY k) = 0 ∧ (now16 s : Int) - i ≤ s.get PRS.LATEMAX_TICKS * 16 then
        fireSlot k (s.puts [(PRS.EVCS_LATE k, 1), (PRS.ISR_EVLATE, 1)])
      else dropSlot k s
    else s
  | none => s

/-- An armed slot whose target instant is here fires, while PRS is enabled (R165, R169). -/
def fireDue (k : Nat) (s : State) : State :=
  match slotInstant s k with
  | some i => if armed s k ∧ s.bit PRS.CTL_EN ∧ i ≤ now16 s then fireSlot k s else s
  | none => s

/-- A tooth event becomes absolute at its extrapolated instant: the first tick at or after it (R158, R172). -/
def convertSlot (k : Nat) (s : State) : State :=
  if armed s k && isTooth s k && s.prs.hasTooth then
    let i := toothExtrapolated s (s.get (PRS.EVTL_V k)) + s.get (PRS.EVTH_V k) * 16
    let tick := (-((-i).fdiv 16)).toNat
    (s.put64 (PRS.EVTL_V k) (PRS.EVTH_V k) tick).puts [(PRS.EVACT_MODE k, 0), (PRS.EVCS_CONVERTED k, 1),
      (PRS.EVCS_COASTED k, 1), (PRS.ISR_EVCONV, 1)]
  else s

/-- Every armed tooth event converted (R172). -/
def convertAll (s : State) : State := repeatFor 64 convertSlot s

/-- The slots in ascending order: those due fire; where the first tooth since reset has just fallen, the tooth events that
waited for it are judged (R168, R172, R413, Table PRS-3). -/
def slotsInTurn (first : Bool) (s : State) : State :=
  repeatFor 64 (fun k t => if first && armed t k && isTooth t k then judgeSlot k t else fireDue k t) s

/-- SEARCH is entered: no prediction, the count of pulses begins, tooth events are converted (R162, R172). -/
def enterSearch (fresh : Bool) (s : State) : State :=
  let t := s.put PRS.STS_STATE 1
  convertAll { t with prs := { t.prs with fresh := fresh, acq := 0, fell := false, due := none } }

/-- Retrainings that wait for a tooth fall due (R197). -/
def toothDmc (s : State) : State :=
  { s with dmcs := s.dmcs.map fun e =>
      (e.1, if e.2.atTooth then { e.2 with atTooth := false, dueAt := some s.mtime } else e.2) }

/-- The pixel clock of HTX's TOOTH mode in Hz as a fraction (R312). -/
def toothClock (s : State) : Nat × Nat := (s.get HTX.HTIM_HTOT * s.get HTX.VTIM_VTOT * 98304000 * 16, max 1 s.prs.per)

/-- Twice the bits of a pixel on the link (HDMI 2.1, log entry 18): 4:2:2 takes 24 bits, 4:2:0 half. -/
def pixelBits2 (samp bpc : Nat) : Nat :=
  let c := if bpc = 1 then 10 else if bpc = 2 then 12 else 8
  if samp = 2 then 48 else if samp = 3 then 3 * c else 6 * c

/-- OUTFMT's bits, doubled. -/
def outBits2 (s : State) : Nat := pixelBits2 (s.get HTX.OUTFMT_SAMP) (s.get HTX.OUTFMT_BPC)

/-- LINK.SCR: a running TMDS link scrambles above 340 MHz of characters (R314). -/
def setScr (s : State) : State :=
  s.put HTX.LINK_SCR (if s.get HTX.STS_STATE = 4 ∧ s.get HTX.LINK_RATE = 0 ∧
    340000000 * 48 * s.htx.clock.2 < s.htx.clock.1 * outBits2 s then 1 else 0)

/-- HTX sends at a pixel clock, in Hz as a fraction, and scrambling goes by it (R312, R314): PCLK shows it in kHz, its
rounding open (Table HRX-8, log entry 7). -/
def showPclk (c : Nat × Nat) (s : State) : State :=
  setScr { (s.put HTX.PCLK_KHZ (openDiv c.1 (1000 * c.2)).toNat) with htx := { s.htx with clock := c } }

/-- The pixel clock of HTX running in TOOTH mode is updated at a tooth (R312). -/
def toothPclk (s : State) : State :=
  if s.get HTX.STS_STATE = 4 ∧ s.get HTX.CFG_MODE = 1 then showPclk (toothClock s) s else s

/-- A tooth is counted, and it is a TOOTH commit point (R160). -/
def countTooth (inst num : Nat) (s : State) : State :=
  let t := s.puts [(PRS.TCNT_COUNT, num), (PRS.ISR_TOOTH, 1)]
  toothPclk <| toothDmc (toothCommits { t with prs := { t.prs with last := inst, hasTooth := true } })

/-- A tooth falls: it counts, its commits apply, and at the first one since reset the waiting tooth events are judged
(R160, R173, R413). -/
def toothFalls (inst num : Nat) (s : State) : State :=
  let t := countTooth inst num s
  if s.prs.hasTooth then t else slotsInTurn true t

/-- FREE is entered: the first tooth falls at once, every later one PERIOD after the one before (R163). DESIGN CHOICE
(log entry 39): per is PERIOD in FREE, where R160 names none, so past tooth numbers are measured with it. -/
def enterFree (s : State) : State :=
  let per := s.get PRS.PERIOD_P16
  countTooth (now16 s) (s.get PRS.TCNT_COUNT + 1) { (s.put PRS.STS_STATE 4) with
    prs := { s.prs with p := now16 s + per, per := per, fell := false, due := none, perNew := false } }

/-- IDLE's exit and a change of TSRC while enabled (Table PRS-1, R164). DESIGN CHOICE (log entry 39): STS.MISSRUN keeps
its count on leaving COAST, until the next lock or accepted pulse (R162). -/
def enterSource (fresh : Bool) (s : State) : State :=
  if s.get PRS.CFG_TSRC = 2 then enterFree s else enterSearch fresh s

/-- A tooth is resolved with phase error e (R161, R164). -/
def resolve (e : Int) (s : State) : State :=
  let P : Int := s.get PRS.PERIOD_P16
  let per : Int := if s.prs.perNew then P
    else max (P - P.tdiv 256) (min (P + P.tdiv 256) (s.prs.per + e.tdiv 128))
  { s with prs := { s.prs with
    per := per.toNat, p := (s.prs.p + per + e.tdiv 8).toNat, e := e, perNew := false, win := s.get PRS.WINDOW_WIN } }

/-- ACQ and MISS_MAX as they act (Table PRS-7). -/
def acqOf (s : State) : Nat := max 2 (s.get PRS.CFG_ACQ)
def missMax (s : State) : Nat := max 1 (s.get PRS.CFG_MISS_MAX)

/-- The number of the tooth that ends SEARCH (R163). -/
def lockNumber (b : Nat) (s : State) : Nat :=
  if s.prs.fresh ∨ !s.prs.hasTooth then s.get PRS.TCNT_COUNT + 1
  else s.get PRS.TCNT_COUNT + (max 1 (roundHalfUp ((b * 16 : Nat) - s.prs.last) s.prs.per)).toNat

/-- A pulse in SEARCH (R162, R163). DESIGN CHOICE (log entry 39): a lock pulse whose stamp b is a tick before or after
MTIME has the tooth fall, and R413's waiting events judged, as the command comes; only the tooth's instant is b. -/
def pulseSearch (b : Nat) (s : State) : State :=
  let fits := s.prs.acq != 0 && decide (mag ((b * 16 : Nat) - ((s.prs.prev * 16 + s.get PRS.PERIOD_P16 : Nat) : Int)) ≤
    s.get PRS.WINDOW_WIN * 16)
  let acq := if fits then s.prs.acq + 1 else 1
  if acqOf s ≤ acq then
    let num := lockNumber b s
    let t := s.puts [(PRS.STS_STATE, 2), (PRS.STS_MISSRUN, 0), (PRS.ISR_LOCK, 1)]
    let P := t.get PRS.PERIOD_P16
    let t := { t with prs := { t.prs with per := P, p := b * 16 + P, fell := false, due := none, perNew := false,
                                          win := t.get PRS.WINDOW_WIN, acq := 0, locked := true } }
    toothFalls (b * 16) num t
  else { s with prs := { s.prs with acq := acq, prev := b } }

/-- A pulse lies in the window of the tooth at p (R160). -/
def inWindow (b : Nat) (s : State) : Bool := decide (mag ((b * 16 : Nat) - (s.prs.p : Int)) ≤ s.prs.win * 16)

/-- A pulse in LOCKED or COAST (R160, R161, R171). -/
def pulseTrain (b : Nat) (s : State) : State :=
  if inWindow b s && s.prs.due.isNone then
    let t := s.puts [(PRS.STS_STATE, 2), (PRS.STS_MISSRUN, 0)]
    let t := { t with prs := { t.prs with due := if t.prs.fell then none else some t.prs.p, fell := false } }
    resolve ((b * 16 : Nat) - (s.prs.p : Int)) t
  else (s.inc PRS.CNT_NOISE).put PRS.ISR_NOISE 1

def framePulseEff (src : Nat) (falling : Bool) (stamp : Nat) (s : State) : State :=
  if s.get PRS.CFG_TSRC ≠ src ∨ (src = 1 ∧ falling ≠ s.bit PRS.CFG_GPOL) ∨ 1 < mag ((stamp : Int) - s.mtime) then s
  else if prsState s = 1 then pulseSearch stamp s
  else if prsState s = 2 ∨ prsState s = 3 then pulseTrain stamp s
  else s

/-- FRAME_PULSE: `src` 0 the leading edge of HRX's VSYNC, 1 a rising or falling edge of GENLOCK_IN, of which GPOL selects
one; `stamp` is the stamp PRS takes, within one tick of now (R159 to R163). -/
def execFramePulse (src : Fin 2) (falling : Bool) (stamp : Nat) (s : State) : Out :=
  onCore (framePulseEff src falling stamp) s

/-- The tooth at its predicted instant (R160). DESIGN CHOICE (log entry 39): in FREE, where no tooth is resolved, the next
tooth's instant was fixed as the last one fell, and a new PERIOD counts from the tooth after it (R164). -/
def toothEff (s : State) : State :=
  let num := s.get PRS.TCNT_COUNT + 1
  let st := prsState s
  if st = 4 then
    if s.prs.p ≤ now16 s then
      toothFalls s.prs.p num { s with prs := { s.prs with p := s.prs.p + s.get PRS.PERIOD_P16, per := s.get PRS.PERIOD_P16 } }
    else s
  else if st = 2 ∨ st = 3 then
    match s.prs.due with
    | some d =>
      if d ≤ now16 s then toothFalls d num { s with prs := { s.prs with due := none } } else s
    | none =>
      if s.prs.p ≤ now16 s ∧ !s.prs.fell then toothFalls s.prs.p num { s with prs := { s.prs with fell := true } } else s
  else s

/-- TOOTH: the tooth at its predicted instant (R160). -/
def execTooth (s : State) : Out := onCore toothEff s

/-- A slot's event is tied to a tooth: armed for it, or fired as an event of it (R170). -/
def tiedTo (s : State) (k n : Nat) : Bool :=
  (armed s k && isTooth s k && s.get (PRS.EVTL_V k) == n) || (slotState s k == 2 && SMap.find s.prs.fired k == some n)

/-- COASTED is set on the events tied to the MISSED tooth, armed or already fired (R170). -/
def coastSlots (s : State) : State :=
  repeatFor 64 (fun k t => if tiedTo t k (t.get PRS.TCNT_COUNT) then t.put (PRS.EVCS_COASTED k) 1 else t) s

def toothMissedEff (s : State) : State :=
  let st := prsState s
  if (st = 2 ∨ st = 3) ∧ s.prs.fell ∧ s.prs.p + s.prs.win * 16 < now16 s then
    let run := min 15 (s.get PRS.STS_MISSRUN + 1)
    let t := resolve 0 { s with prs := { s.prs with
      fell := false, missed := SMap.insert s.prs.missed (s.get PRS.TCNT_COUNT) s.prs.last } }
    let t := coastSlots ((t.put PRS.STS_MISSRUN run).inc PRS.CNT_MISS)
    let t := if st = 2 then t.puts [(PRS.STS_STATE, 3), (PRS.ISR_MISS, 1)] else t
    if missMax t ≤ run then slotsInTurn false (enterSearch false (t.put PRS.ISR_SEARCH 1)) else t
  else s

/-- TOOTH_MISSED: no pulse by p + WIN (R160 to R162, R170, R172). -/
def execToothMissed (s : State) : Out := onCore toothMissedEff s

/-- The teeth of this tick: one that is due falls, and one whose window has closed is resolved (R160, R170). -/
def teethNow (s : State) : State := toothMissedEff (toothEff s)

/-- TSRC changes while PRS is enabled: a tooth that is due counts first (Table PRS-3), then the new source's state is
entered. DESIGN CHOICE (log entry 39): the slots that the tooth makes due fire as its events before SEARCH is entered. -/
def changeSource (fs : List Fld) (d : W32) (s : State) : State :=
  let t := (slotsInTurn false (teethNow s)).storeAll fs d
  slotsInTurn (!t.prs.hasTooth) (enterSource false t)

/-- CFG (R164, Table PRS-5). -/
def writePrsCfg (d : W32) (s : State) : State :=
  let fs := [PRS.CFG_MISS_MAX, PRS.CFG_ACQ, PRS.CFG_GPOL, PRS.CFG_TSRC]
  checked .prs [(decide (PRS.CFG_TSRC.ofData d = 3), 0x0100)] (fun t =>
    if t.bit PRS.CTL_EN && PRS.CFG_TSRC.ofData d != t.get PRS.CFG_TSRC then changeSource fs d t else t.storeAll fs d) s

/-- PRS_CFG_WRITE (R164). -/
def execPrsCfgWrite (d : W32) (s : State) : Out := onCore (onLink (.prsCfgWrite d) (onPage .prs (writePrsCfg d))) s

/-- PERIOD and WINDOW stay within their limits (R164, Table PRS-5). -/
def windowOk (p16 win : Nat) : Bool := decide (0x180000 ≤ p16 ∧ p16 ≤ 0xF000000 ∧ 16 ≤ win ∧ win * 64 ≤ p16)

def writePeriod (d : W32) (s : State) : State :=
  let v := PRS.PERIOD_P16.ofData d
  checked .prs [(!windowOk v (s.get PRS.WINDOW_WIN), 0x0103)]
    (fun t => { (t.put PRS.PERIOD_P16 v) with prs := { t.prs with perNew := true } }) s

/-- WINDOW takes effect from the next window to open (R164): that of the tooth at p while it has not opened. -/
def writeWindow (d : W32) (s : State) : State :=
  let v := PRS.WINDOW_WIN.ofData d
  checked .prs [(!windowOk (s.get PRS.PERIOD_P16) v, 0x0103)] (fun t =>
    let u := t.put PRS.WINDOW_WIN v
    if now16 u + u.prs.win * 16 < u.prs.p then { u with prs := { u.prs with win := v } } else u) s

/-- CTL.EN of PRS written 1 (R169): the source's state is entered, then armed slots whose instant has passed are
judged in ascending order; a converted one is never past and fires if its instant has gone (R172, Table PRS-3). -/
def prsStart (s : State) : State :=
  if s.bit PRS.CTL_EN then s
  else
    let t := enterSource true (s.put PRS.CTL_EN 1)
    repeatFor 64 (fun k u => if u.bit (PRS.EVCS_CONVERTED k) then fireDue k u else if armed u k then judgeSlot k u else u) t

/-- CTL.EN of PRS written 0: IDLE, with armed slots staying armed (R162, R169). -/
def prsStop (s : State) : State :=
  let t := s.puts [(PRS.CTL_EN, 0), (PRS.STS_STATE, 0)]
  { t with prs := { t.prs with fell := false, due := none, acq := 0 } }

/-- PRS_ENABLE (R169). -/
def execPrsEnable (s : State) : Out := onCore (onLink .prsEnable (onPage .prs prsStart)) s

/-- PRS_DISABLE (R162, R169). -/
def execPrsDisable (s : State) : Out := onCore (onLink .prsDisable (onPage .prs prsStop)) s

/-- The action and target of a slot are valid (R167, Table PRS-2). -/
def actOk (s : State) (k : Nat) : Bool :=
  let t := s.get (PRS.EVACT_TGT k)
  match s.get (PRS.EVACT_ACTION k) with
  | 0 => true
  | 1 | 4 | 5 => decide (t < 4)
  | 2 | 3 => decide (t < 8)
  | 6 => decide (t < 16)
  | _ => false

/-- A slot fires in this tick. -/
def dueNow (s : State) (k : Nat) : Bool :=
  armed s k && s.bit PRS.CTL_EN && (match slotInstant s k with
    | some i => decide (i ≤ now16 s)
    | none => false)

/-- The slots below k whose instant is here fire, in ascending order and after the teeth of this tick (Table PRS-3). -/
def fireBelow (k : Nat) (s : State) : State := repeatFor k fireDue (teethNow s)

/-- Slot k fires after the slots below it that are due. -/
def fireUpTo (k : Nat) (s : State) : State := fireDue k (fireBelow k s)

/-- A slot as ARM leaves it: ARMED with its flags clear, and a tooth event converted in SEARCH and after it (R165, R172).
That an event armed on a tooth already MISSED shows COASTED only as it fires is DESIGN CHOICE, log entry 39. -/
def armedSlot (k : Nat) (s : State) : State :=
  let t := s.puts [(PRS.EVCS_STATE k, 1), (PRS.EVCS_CONVERTED k, 0), (PRS.EVCS_COASTED k, 0), (PRS.EVCS_MISSED k, 0),
    (PRS.EVCS_LATE k, 0)]
  let t := { t with prs := { t.prs with fired := SMap.erase t.prs.fired k } }
  if prsState t = 1 ∨ (prsState t = 0 ∧ t.prs.locked) then convertSlot k t else t

/-- EVCSs.ARM (R165, R167, R168, R172, R413): a slot whose instant has passed is judged, or fires where it is converted,
after the teeth of this tick and the lower slots that are due (Table PRS-3). -/
def armSlot (k : Nat) (s : State) : State :=
  if armed s k then s
  else if !actOk s k then recErr .prs 0x0102 (s.put (PRS.EVCS_STATE k) 0)
  else if dueNow (armedSlot k s) k then
    let t := armedSlot k (fireBelow k s)
    if t.bit (PRS.EVCS_CONVERTED k) then fireDue k t else judgeSlot k t
  else armedSlot k s

/-- EVCSs.CANCEL (R167); a slot due in this tick fires instead (Table PRS-3). -/
def cancelSlot (k : Nat) (s : State) : State :=
  if dueNow s k then fireUpTo k s else if armed s k then s.put (PRS.EVCS_STATE k) 0 else s

/-- EVCSs as a register: CANCEL acts before ARM of the same write (log entry 14). -/
def writeEvcs (k : Nat) (d : W32) (s : State) : State :=
  let t := if natBit d.toNat 1 then cancelSlot k s else s
  if natBit d.toNat 0 then armSlot k t else t

/-- EVTL, EVTH and EVACT of a slot: refused while it is ARMED (R167, Table PRS-5). -/
def writeSlot (k : Nat) (fs : List Fld) (d : W32) (s : State) : State :=
  checked .prs [(armed s k, 0x0101)] (fun t => t.storeAll fs d) s

/-- EVENT_ARM (R165). -/
def execEventArm (k : Fin 64) (s : State) : Out := onCore (onLink (.eventArm k) (onPage .prs (armSlot k))) s

/-- EVENT_CANCEL (R167). -/
def execEventCancel (k : Fin 64) (s : State) : Out := onCore (onLink (.eventCancel k) (onPage .prs (cancelSlot k))) s

def eventFireEff (k : Nat) (s : State) : State := if dueNow s k then fireUpTo k s else s

/-- EVENT_FIRE: an armed slot at its target instant (R165, R166); lower slots due in the same tick go before it (Table
PRS-3). -/
def execEventFire (k : Fin 64) (s : State) : Out := onCore (eventFireEff k) s

/-- The next predicted instant; without a prediction its register is a free value (log entry 7). -/
def nextTooth (s : State) : Nat × State :=
  if 2 ≤ prsState s then ((openDiv (s.prs.due.getD s.prs.p : Nat) 16).toNat, s) else s.fresh

/-- A read of TCNT returns the number of the last tooth and latches TLAST, TNEXT, PEREST and PHERR (R160). -/
def readTcnt (s : State) : W32 × State :=
  let (nx, t) := nextTooth s
  let t := t.put64 PRS.TLASTL_T PRS.TLASTH_T (openDiv t.prs.last 16).toNat
  (BitVec.ofNat 32 (s.get PRS.TCNT_COUNT),
    t.puts [(PRS.TNEXTL_T, nx), (PRS.PEREST_P16, t.prs.per), (PRS.PHERR_E16, ofSigned 32 t.prs.e)])

/-- TCNT_READ (R160). -/
def execTcntRead (s : State) : Out := onCore (onLink .tcntRead fun s => answer (readOnPage .prs readTcnt s)) s

/-- An action under way reaches its block in its turn: it leaves the list, and acts; then its slot's interrupt is asserted
(R166, Table PRS-3). -/
def takeAct (a : PrsAct) (f : State → State) (s : State) : State :=
  match s.prs.acts with
  | b :: rest =>
    if a = b.act then
      let t := f { s with prs := { s.prs with acts := rest } }
      match b.irq with
      | some k => fireEdge (64 + k) t
      | none => t
    else s
  | [] => s

/-- A GPIO action: toggle, low or high; an ARG above 3 has no meaning given, and drives a free level (R404,
Table PRS-2, log entry 7). -/
def gpioAct (n arg : Nat) (s : State) : State :=
  let v := s.get SYS.GPIO_OUT_VAL
  let old := v / 2 ^ n % 2
  let (fv, s') := s.fresh
  let (b, t) := if arg = 1 then (0, s) else if arg = 2 then (1, s) else if arg = 0 ∨ arg = 3 then (1 - old, s) else (fv % 2, s')
  t.put SYS.GPIO_OUT_VAL (v - old * 2 ^ n + b * 2 ^ n)

/-- ACTION_GPIO (R404). -/
def execActionGpio (n : Fin 16) (arg : Byte) (s : State) : Out :=
  onCore (takeAct (.gpio n arg.toNat) (gpioAct n arg.toNat)) s

end Sys2Proof.Machine
end

