-- ==== Sys2Proof/Machine/Csch.lean ====
section
/-! DEFINITION. The job scheduler's rings (R219 to R233): queues, descriptors and their checks, starting, dropping and
the completion records (10_coding_cells_and_jobs.md, with the context checks of R237 and R255). -/

namespace Sys2Proof.Machine

/-! ### Rings -/

/-- Entries of a ring's queues (R219). -/
def ringSize (s : State) (r : Nat) : Nat := 2 ^ s.get (CSCH.RCFG_SIZE r)

/-- RSTS.STATE: 0 OFF, 1 RUN, 2 STOPPING. -/
def ringState (s : State) (r : Nat) : Nat := s.get (CSCH.RSTS_STATE r)

/-- RCFG.DEPTH, of which 0 acts as 1. -/
def ringDepth (s : State) (r : Nat) : Nat := max 1 (s.get (CSCH.RCFG_DEPTH r))

/-- The frames of a ring whose records are not written, in descriptor order. -/
def ringFrames (s : State) (r : Nat) : List Frame := s.csch.frames.filter (·.ring == r)

/-- The ended records that a ring holds: the first 16 in descriptor order, so that the one due next is among them; a frame
that ends beyond them waits with its own (Table CSCH-6, log entry 16). -/
def heldFrames (s : State) (r : Nat) : List Frame := ((ringFrames s r).filter (·.endT.isSome)).take 16

/-- Ended records that a ring holds (Table CSCH-6). -/
def heldRecords (s : State) (r : Nat) : Nat := (heldFrames s r).length

/-- A frame is waiting: an encode frame fetched and not started (R229), a decode frame with no strip dispatched
(R231, log entry 16). -/
def isWaiting (f : Frame) : Bool :=
  f.endT.isNone && (if f.op = 2 then !f.dispatched else !f.started)

/-- RSTS.WAITING. -/
def ringWaiting (s : State) (r : Nat) : Nat := (ringFrames s r).countP isWaiting

/-- STS.BUSY of CSCH: a started frame has not ended (Table CSCH-9). -/
def cschBusy (s : State) : Bool := s.csch.frames.any fun f => f.started && f.endT.isNone

/-- A frame by its number. -/
def frameOf (s : State) (num : Nat) : Option Frame := s.csch.frames.find? (·.num == num)

/-- A change of one frame. -/
def updFrame (num : Nat) (g : Frame → Frame) (s : State) : State :=
  { s with csch := { s.csch with frames := replaceIf (·.num == num) g s.csch.frames } }

/-- A change of one strip of a frame. -/
def updStrip (num j : Nat) (g : Strip → Strip) (s : State) : State :=
  updFrame num (fun f => { f with strips := f.strips.modify j g }) s

/-- ISR.CQ of a ring. -/
def cqBit (r : Nat) : Fld := HDR.ISR (Page.base .csch) (8 + r)

/-- SQTAIL (R219). -/
def writeSqtail (r : Nat) (d : W32) (s : State) : State :=
  let v := (CSCH.SQTAIL_I r).ofData d
  checked .csch [(decide (ringSize s r ≤ v), 0x0102)] (fun t => t.put (CSCH.SQTAIL_I r) v) s

/-- CQTAIL (R219). -/
def writeCqtail (r : Nat) (d : W32) (s : State) : State :=
  let v := (CSCH.CQTAIL_I r).ofData d
  checked .csch [(decide (ringSize s r ≤ v), 0x0102)] (fun t => t.put (CSCH.CQTAIL_I r) v) s

/-- SQBASE and CQBASE: only while the ring is OFF (R220). -/
def writeRingBase (r : Nat) (f : Fld) (d : W32) (s : State) : State :=
  checked .csch [(ringState s r != 0, 0x0100)] (fun t => t.store f d) s

/-- The fields of RCFG beside EN. -/
def rcfgFields (r : Nat) : List Fld :=
  [CSCH.RCFG_BFIFO r, CSCH.RCFG_DEPTH r, CSCH.RCFG_DROPPOL r, CSCH.RCFG_ISPLINK r, CSCH.RCFG_CQSRC r, CSCH.RCFG_KIND r,
   CSCH.RCFG_SIZE r]

/-- The enable of a ring is allowed (R232, Table CSCH-7). -/
def ringEnableOk (s : State) (r : Nat) : Bool :=
  let b := s.get (CSCH.RCFG_BFIFO r)
  decide (4 ≤ s.get (CSCH.RCFG_SIZE r) ∧ s.get (CSCH.RCFG_SIZE r) ≤ 12) &&
    (b == 15 || s.get (BFIFO.CFG_DIR b) == 1 - s.get (CSCH.RCFG_KIND r))

/-- The ring runs from here: its next frame is a key picture, its layers begin anew, and no request is pending (R241, R248,
Table CSCH-14). -/
def ringStart (r : Nat) (s : State) : State :=
  let t := s.puts [(CSCH.RSTS_STATE r, 1), (CSCH.KEYREQ_REQ r, 0)]
  t.setRing r { t.ring r with first := true, again := false, layers := [] }

/-- A stopping ring is OFF once its last record is written (Table CSCH-6); EN written 1 meanwhile then takes effect
(log entry 16). -/
def ringSettle (r : Nat) (s : State) : State :=
  if ringState s r = 2 ∧ ringFrames s r = [] then
    if (s.ring r).again then ringStart r s else s.put (CSCH.RSTS_STATE r) 0
  else s

/-- EN of a ring written 1 (R232). -/
def ringEnableOp (r : Nat) (s : State) : State :=
  if s.bit (CSCH.RCFG_EN r) then s
  else checked .csch [(!ringEnableOk s r, 0x0103)] (fun t =>
    let t := t.put (CSCH.RCFG_EN r) 1
    if ringState t r = 0 then ringStart r t else t.setRing r { t.ring r with again := true }) s

/-- A frame that has not started ends flushed (Table CSCH-6). -/
def flushFrame (now : Nat) (f : Frame) : Frame :=
  if f.endT.isNone && !f.started then { f with status := 5, endT := some now } else f

/-- EN of a ring written 0 (Table CSCH-6). -/
def ringDisableOp (r : Nat) (s : State) : State :=
  if s.bit (CSCH.RCFG_EN r) then
    let t := s.puts [(CSCH.RCFG_EN r, 0), (CSCH.RSTS_STATE r, 2)]
    let t := t.setRing r { t.ring r with again := false }
    ringSettle r { t with csch := { t.csch with frames := replaceIf (·.ring == r) (flushFrame t.mtime) t.csch.frames } }
  else s

/-- A write of RCFG (R220, R232): outside OFF only EN acts, and a changed field is recorded. A completion source that
CQSRC leaves deasserts (R53, R219). -/
def writeRcfg (r : Nat) (d : W32) (s : State) : State :=
  let t := if ringState s r = 0 then s.storeAll (rcfgFields r) d
    else if (rcfgFields r).any (fun f => f.ofData d != s.get f) then recErr .csch 0x0100 s
    else s
  lowerLines (if natBit d.toNat 0 then ringEnableOp r t else ringDisableOp r t)

/-- KEYREQ: W1S (R248). A request for a TEMPORAL layer is taken as one for its SRC when a frame is coded. -/
def writeKeyreq (r : Nat) (d : W32) (s : State) : State :=
  s.put (CSCH.KEYREQ_REQ r) (s.get (CSCH.KEYREQ_REQ r) ||| (CSCH.KEYREQ_REQ r).ofData d)

/-! ### Descriptors -/

/-- Bytes that must be 0. -/
def allZero (bs : List Byte) : Bool := bs.all (· == 0)

/-- Bytes [a, b) of a byte string. -/
def bytesAt (bs : List Byte) (a b : Nat) : List Byte := (bs.drop a).take (b - a)

/-- The descriptor of Table CSCH-3, read into a frame. -/
def descFrame (s : State) (r : Nat) (bs : List Byte) : Frame :=
  let n := sliceNat bs 3 1
  { num := s.csch.nextNum, ring := r, slot := s.get (CSCH.SQHEAD_I r), fid := sliceNat bs 4 4
    op := sliceNat bs 0 1, std := sliceNat bs 1 1, flags := sliceNat bs 2 1, nlayer := n
    time := sliceNat bs 8 8, deadline := sliceNat bs 16 8, ctx := sliceNat bs 24 8, surf := sliceNat bs 32 2
    bslen := sliceNat bs 36 4, bsaddr := sliceNat bs 40 8
    layers := (List.range n).map fun i =>
      { obuf := sliceNat bs (64 + 16 * i) 8, obsize := sliceNat bs (72 + 16 * i) 4
        lflags := sliceNat bs (76 + 16 * i) 1, mpt := sliceNat bs (77 + 16 * i) 1 }
    bank := s.getA (CSCH.PBANK_SEL r)
    linked := s.bit (CSCH.RCFG_ISPLINK r) }

/-- The bytes that Table CSCH-3 shows as 0, for the descriptor's kind. -/
def descZeros (bs : List Byte) (op n : Nat) : Bool :=
  sliceNat bs 2 1 < 8 && allZero (bytesAt bs 35 36) && allZero (bytesAt bs 48 64) && allZero (bytesAt bs (64 + 16 * n) 128) &&
    (if op = 1 then allZero (bytesAt bs 36 48) && (List.range n).all fun i =>
        sliceNat bs (76 + 16 * i) 1 < 4 && allZero (bytesAt bs (78 + 16 * i) (80 + 16 * i))
      else if op = 2 then allZero (bytesAt bs 34 35) && (sliceNat bs 36 4 != 0 || allZero (bytesAt bs 40 48))
      else true)

/-- The highest level of Table CSCH-1, as a context codes it (log entry 16). -/
def maxLevel (std : Nat) : Nat := if std = 0 then 52 else if std = 1 then 186 else 19

/-- A number in a frame's stream context. -/
def ctxNat (s : State) (f : Frame) (off n : Nat) : Nat := s.dramNat (f.ctx + off) n

/-- PROFILE and LEVEL of a context are supported (R221). -/
def ctxOk (s : State) (f : Frame) : Bool := decide (ctxNat s f 0 1 ≤ 1 ∧ ctxNat s f 1 1 ≤ maxLevel f.std)

/-- A number in the record of a layer in the frame's bank (Table CSCH-11). -/
def lrec (s : State) (f : Frame) (i off n : Nat) : Nat := s.dramNat (f.ctx + 512 + 512 * f.bank + 128 * i + off) n

/-- LTYPE, FACTOR and SRC of a layer. -/
def ltype (s : State) (f : Frame) (i : Nat) : Nat := lrec s f i 0 1
def lfactor (s : State) (f : Frame) (i : Nat) : Nat := lrec s f i 1 1
def lsrc (s : State) (f : Frame) (i : Nat) : Nat := lrec s f i 2 1

/-- The layer divides its input by this (R238). -/
def divisor (s : State) (f : Frame) (i : Nat) : Nat := if ltype s f i = 2 then max 1 (lfactor s f i) else 1

/-- Full range of the QP scale (R236). -/
def qpTop (std : Nat) : Nat := if std = 2 then 63 else 51

/-- The rows of a layer's record keep the constraints of Table CSCH-11 (R237). -/
def layerOk (s : State) (f : Frame) (i : Nat) : Bool :=
  let t := ltype s f i
  let fa := lfactor s f i
  let q (o : Nat) := decide (lrec s f i o 1 ≤ qpTop f.std)
  decide (t ≤ 3) && ((t == 0) == (i == 0)) &&
    (if t = 2 ∨ t = 3 then fa == 2 || fa == 4 else fa == 0) &&
    (if t = 3 then decide (lsrc s f i < i) && ltype s f (lsrc s f i) != 3 else lsrc s f i == 0) &&
    (t == 3 || (decide (lrec s f i 3 1 ≤ 3) && (lrec s f i 3 1 != 2 || decide (lrec s f i 4 4 ≤ lrec s f i 8 4)) &&
      q 17 && q 18 && q 19 && q 20)) &&
    decide (lrec s f i 16 1 ≤ 100 ∧ lrec s f i 19 1 ≤ lrec s f i 20 1 ∧ lrec s f i 21 1 ≤ 6 ∧ lrec s f i 26 1 ≤ 1) &&
    lrec s f i 27 1 == 0 && lrec s f i 34 6 == 0 && lrec s f i 112 16 == 0 &&
    (List.range 6).all fun k => lrec s f i (49 + 12 * k) 3 == 0

/-- Shown size of a layer whose input is `w` × `h` (R238). -/
def layerSize (s : State) (f : Frame) (i w h : Nat) : Nat × Nat := (w / divisor s f i, h / divisor s f i)

/-- Coded size: the shown one rounded up to a multiple of 8 (R238). -/
def codedSize (p : Nat × Nat) : Nat × Nat := (ceilDiv p.1 8 * 8, ceilDiv p.2 8 * 8)

/-- The layers that a cell codes: all but TEMPORAL ones (R238). -/
def codedLayers (s : State) (f : Frame) : List Nat := (List.range f.nlayer).filter fun i => ltype s f i != 3

/-- Pool surface `k` of a layer. -/
def poolIndex (s : State) (f : Frame) (i k : Nat) : Nat := lrec s f i (28 + 2 * k) 2

/-- No number stands twice in a list. -/
def distinct (l : List Nat) : Bool := decide l.Nodup

/-- A pool surface has the format of the profile and the size asked for. -/
def poolFits (s : State) (f : Frame) (i : Nat) (fits : Nat → Nat → Bool) : Bool :=
  match usableSurface s i with
  | some p => p.fmt == 2 + ctxNat s f 0 1 && fits p.w p.h
  | none => false

/-- STRIP_ROWS in force, in 64-row units (Table CSCH-3). -/
def stripRows (s : State) (bs : List Byte) : Nat :=
  if sliceNat bs 34 1 = 0 then max 1 (s.getA CSCH.STRIPCFG_ROWS) else sliceNat bs 34 1

/-- The bytes of an encode context's header and status area that Table CSCH-10 shows as 0. -/
def encodeZeros (s : State) (f : Frame) : Bool :=
  ctxNat s f 2 2 == 0 && allZero (s.dramRead (f.ctx + 16) 48) && allZero (s.dramRead (f.ctx + 76) 4) &&
    allZero (s.dramRead (f.ctx + 112) 400)

/-- The checks of R221 and R237 on an encode context, for an input of `w` × `h`. -/
def encodeOk (s : State) (f : Frame) (bs : List Byte) (w h : Nat) : Bool :=
  let ls := codedLayers s f
  ctxNat s f 4 4 != 0 && encodeZeros s f &&
    (List.range f.nlayer).all (layerOk s f) &&
    (ls.all fun i =>
      let z := layerSize s f i w h
      (ltype s f i != 2 || (z.1 % 2 == 0 && z.2 % 2 == 0 && decide (64 ≤ z.1 ∧ 64 ≤ z.2))) &&
      (ltype s f i != 2 || f.std == 0 || stripRows s bs % max 1 (lfactor s f i) == 0) &&
      (List.range 3).all fun k => poolFits s f (poolIndex s f i k) fun pw ph => (pw, ph) == codedSize z) &&
    distinct (ls.flatMap fun i => (List.range 3).map (poolIndex s f i))

/-- The checks of R255 on a decode context. -/
def decodeOk (s : State) (f : Frame) : Bool :=
  let n := ctxNat s f 3 1
  let ps := (List.range n).map fun j => ctxNat s f (64 + 2 * j) 2
  decide (2 ≤ n ∧ n ≤ 17 ∧ ctxNat s f 2 1 ≤ 1) && distinct ps && allZero (s.dramRead (f.ctx + 28) 36) &&
    allZero (s.dramRead (f.ctx + 64 + 2 * n) (64 - 2 * n)) &&
    (ps.all fun p => poolFits s f p fun w h => decide (ctxNat s f 4 2 ≤ w ∧ ctxNat s f 6 2 ≤ h)) &&
    (f.bslen != 0 || ctxNat s f 24 4 != 0)

/-- A packetizer stream runs with KIND 1 (R341, R344). -/
def rtpStream (s : State) (n : Nat) : Bool :=
  natBit (s.get MPT.STREN_N) n && sliceNat (SMap.get {} s.mpt.streams n : StreamSt).entry 0 1 == 1

/-- A descriptor is accepted (R221, R344). -/
def descOk (s : State) (r : Nat) (f : Frame) (bs : List Byte) : Bool :=
  decide (f.op ≤ 2 ∧ f.std ≤ 2) && descZeros bs f.op f.nlayer &&
    (f.op == 0 || (f.op == 1 + s.get (CSCH.RCFG_KIND r) && ctxOk s f &&
      match usableSurface s f.surf with
      | none => false
      | some sf =>
        let hasFifo := s.get (CSCH.RCFG_BFIFO r) != 15
        if f.op = 1 then
          decide (1 ≤ f.nlayer ∧ f.nlayer ≤ 4) && (hasFifo || f.layers.all fun l => l.lflags % 2 == 0) &&
            (f.layers.all fun l => !natBit l.lflags 1 || rtpStream s l.mpt) && encodeOk s f bs sf.w sf.h
        else f.nlayer == 0 && (hasFifo || f.bslen != 0) && decodeOk s f))

/-- The weight of the layers beyond the first, in 1/1024 (R240). -/
def layerWeight (s : State) (f : Frame) : Nat :=
  1024 + (((codedLayers s f).drop 1).map fun i =>
    if ltype s f i = 1 then 448 else 640 / (divisor s f i * divisor s f i)).sum

/-- The strips of an encode frame (R223, R240). -/
def encodeStrips (wt w h rows : Nat) : List Strip :=
  (List.range (ceilDiv h rows)).map fun j =>
    let n := min rows (h - j * rows)
    { first := j * rows, count := n, samples := w * n * wt }

/-- Consecutive decode units grouped until a strip holds `limit` luma samples (R257). -/
def groupUnits (limit : Nat) : List DecUnit → Nat → Strip → List Strip
  | [], _, c => if c.count = 0 then [] else [c]
  | u :: t, k, c =>
    let d := { c with count := c.count + 1, samples := c.samples + 1024 * u.samples, areas := c.areas ++ u.areas }
    if limit * 1024 ≤ d.samples then d :: groupUnits limit t (k + 1) { first := k + 1, count := 0, samples := 0 }
    else groupUnits limit t (k + 1) d

/-- A picture of a unit by its place. -/
def picOf (p : PicInfo) (q : Nat) : CodedPic := p.pics.getD q ⟨0, 0, false, false, false, none, false⟩

/-- The strips of the pictures of a unit; a picture whose header is in error, or without units, is a single strip (R257,
R260). -/
def decodeStrips (s : State) (p : PicInfo) (gone : List Nat) : List Strip :=
  (List.range p.pics.length).flatMap fun q =>
    let c := picOf p q
    let k := p.units.findIdx (·.pic == q)
    match groupUnits (max 1 (s.getA CSCH.STRIPCFG_ROWS) * 64 * c.picW) (if gone.contains q then [] else p.units.filter (·.pic == q)) k
      { first := k, count := 0, samples := 0 } with
    | [] => [{ first := k, count := 0, samples := 1024 * c.picW * c.picH, pic := q }]
    | l => l.map fun x => { x with pic := q }

/-- A picture is beyond its context: profile, level, bit depth, chroma format or size (Table CSCH-18, kind 2). -/
def beyondContext (s : State) (f : Frame) (p : PicInfo) (c : CodedPic) : Bool :=
  decide (ctxNat s f 0 1 < p.profile ∨ ctxNat s f 1 1 < p.level ∨ 8 + 2 * ctxNat s f 0 1 < p.depth ∨ ctxNat s f 4 2 < c.picW ∨
    ctxNat s f 6 2 < c.picH) || !p.chroma420

/-- The stream needs more than NPOOL − 1 pool surfaces (Table CSCH-18, kind 6). -/
def poolShort (s : State) (f : Frame) (p : PicInfo) : Bool :=
  decide (ctxNat s f 3 1 < p.held.length + p.pics.countP (·.keepRef) + 1)

/-- SURF is smaller than the shown picture (Table CSCH-18, kind 7). -/
def surfShort (s : State) (f : Frame) (p : PicInfo) : Bool :=
  match usableSurface s f.surf with
  | some sf => p.pics.any fun c => c.shown && decide (sf.w < c.picW ∨ sf.h < c.picH)
  | none => false

/-- The error of a picture's headers that conceals it whole: it is not kept for reference (Table CSCH-18, kinds 1, 2, 6). -/
def wholeError (s : State) (f : Frame) (p : PicInfo) (c : CodedPic) : Nat :=
  if c.bad then 1 else if beyondContext s f p c then 2 else if poolShort s f p then 6 else 0

/-- The first error that the headers of a unit show (R260, Table CSCH-18). -/
def headerError (s : State) (f : Frame) (p : PicInfo) : Nat :=
  ((p.pics.map (wholeError s f p)).find? (· != 0)).getD (if surfShort s f p then 7 else 0)

/-- The bitstream of a decode frame is known: its strips, and the error its headers show (R257, R260). -/
def takeInfo (s : State) (p : PicInfo) (f : Frame) : Frame :=
  let gone := (List.range p.pics.length).filter fun q => wholeError s f p (picOf p q) != 0
  { f with
    info := some p, staged := true, errKind := headerError s f p, errAt := (gone.headD (p.pics.findIdx (·.shown)), 0)
    gone := gone, strips := decodeStrips s p gone }

/-! ### Starting and dropping -/

/-- Frames of a ring that may start do so, while fewer than 16 ended records are held (R224, Table CSCH-6). -/
def startFrames (r : Nat) (s : State) : State :=
  if heldRecords s r < 16 then
    let go (f : Frame) : Frame := if f.ring == r && f.endT.isNone && f.want then { f with started := true } else f
    { s with csch := { s.csch with frames := s.csch.frames.map go } }
  else s

/-- A frame is dropped (R230). -/
def dropFrame (f : Frame) (s : State) : State :=
  let t := updFrame f.num (fun f => { f with status := 2, endT := some s.mtime }) s
  ((t.inc (CSCH.RDROP_COUNT f.ring)).inc CSCH.DROPCNT_COUNT).put CSCH.ISR_DROP 1

/-- The waiting encode frames of a ring are more than DEPTH: one is dropped by DROPPOL (R229). -/
def depthDrop (r : Nat) (s : State) : State :=
  let w := (ringFrames s r).filter fun f => f.op == 1 && isWaiting f
  if ringDepth s r < w.length then
    match (if s.bit (CSCH.RCFG_DROPPOL r) then w.head? else w.getLast?) with
    | some f => dropFrame f s
    | none => s
  else s

/-- Decode fetching is stalled: DEPTH frames wait (R231). -/
def fetchStalled (s : State) (r : Nat) : Bool :=
  s.get (CSCH.RCFG_KIND r) == 1 && decide (ringDepth s r ≤ ringWaiting s r)

/-- The fetched frame as it enters the ring. -/
def enterFrame (s : State) (r : Nat) (bs : List Byte) (info : PicInfo) (f : Frame) : Frame :=
  if !descOk s r f bs then { f with status := 3, endT := some s.mtime }
  else if f.op = 0 then { f with endT := some s.mtime }
  else if f.op = 1 then
    let (w, h) := match usableSurface s f.surf with
      | some sf => (sf.w, sf.h)
      | none => (0, 0)
    { f with
      want := f.flags % 2 == 0
      strips := encodeStrips (layerWeight s f) w h (64 * stripRows s bs)
      rowsIn := if f.linked then 0 else h }
  else
    let g := { f with want := true, linked := false, seq := (s.ring r).decNum }
    if f.bslen = 0 then { g with staged := false } else takeInfo s info g

/-- A decode frame that was accepted has a number of its own on its ring. -/
def countDecode (e : Frame) (s : State) : State :=
  if e.op = 2 ∧ e.endT.isNone then s.setRing e.ring { s.ring e.ring with decNum := (s.ring e.ring).decNum + 1 } else s

def descriptorFetchEff (r : Nat) (info : PicInfo) (s : State) : State :=
  if ringState s r = 1 ∧ s.get (CSCH.SQHEAD_I r) ≠ s.get (CSCH.SQTAIL_I r) ∧ !fetchStalled s r ∧ heldRecords s r < 16 then
    let bs := s.dramRead (s.get64 (CSCH.SQBASEL_A r) (CSCH.SQBASEH_A r) + 128 * s.get (CSCH.SQHEAD_I r)) 128
    let f := descFrame s r bs
    let e := enterFrame s r bs info f
    let t := countDecode e { s with csch := { s.csch with frames := s.csch.frames ++ [e], nextNum := s.csch.nextNum + 1 } }
    let t := t.put (CSCH.SQHEAD_I r) ((s.get (CSCH.SQHEAD_I r) + 1) % ringSize s r)
    let t := if f.op = 1 then t.put (CSCH.PBSTS_BANK r) f.bank else t
    if e.status = 3 then recErr .csch 0x0101 t else depthDrop r (startFrames r t)
  else s

/-- DESCRIPTOR_FETCH (R219, R221, R229, R250): the picture's syntax comes with it where BSADDR names the bitstream. -/
def execDescriptorFetch (r : Fin 8) (info : PicInfo) (s : State) : Out := onCore (descriptorFetchEff r info) s

/-- SQTAIL_WRITE (R219). -/
def execSqtailWrite (r : Fin 8) (d : W32) (s : State) : Out :=
  onCore (onLink (.sqtailWrite r d) (onPage .csch (writeSqtail r d))) s

/-- CQTAIL_WRITE (R219). -/
def execCqtailWrite (r : Fin 8) (d : W32) (s : State) : Out :=
  onCore (onLink (.cqtailWrite r d) (onPage .csch (writeCqtail r d))) s

/-- RING_ENABLE: a write of RCFG (R220, R232). -/
def execRingEnable (r : Fin 8) (d : W32) (s : State) : Out :=
  onCore (onLink (.ringEnable r d) (onPage .csch (writeRcfg r d))) s

/-- RING_DISABLE: a write of RCFG (R220, R233). -/
def execRingDisable (r : Fin 8) (d : W32) (s : State) : Out :=
  onCore (onLink (.ringDisable r d) (onPage .csch (writeRcfg r d))) s

/-- KEYREQ_WRITE (R248). -/
def execKeyreqWrite (r : Fin 8) (d : W32) (s : State) : Out :=
  onCore (onLink (.keyreqWrite r d) (onPage .csch (writeKeyreq r d))) s

/-- A START reaches a ring: the oldest fetched frame that waits for one (R224); none sets NOSTART (R233). -/
def startAction (r : Nat) (s : State) : State :=
  match (ringFrames s r).find? fun f => f.op == 1 && f.endT.isNone && !f.want with
  | some f => startFrames r (updFrame f.num (fun f => { f with want := true }) s)
  | none => s.put CSCH.ISR_NOSTART 1

/-- ACTION_START (R224, Table PRS-2). -/
def execActionStart (r : Fin 8) (s : State) : Out := onCore (takeAct (.start r) (startAction r)) s

/-- ACTION_KEY_REQUEST: a request for every layer (R248). -/
def execActionKeyRequest (r : Fin 8) (s : State) : Out :=
  onCore (takeAct (.key r) (fun t => t.put (CSCH.KEYREQ_REQ r) 15)) s

/-! ### Bitstreams from and to the FIFOs -/

/-- The oldest decode frame of a ring whose bitstream is not staged (R256). -/
def unstaged (s : State) (r : Nat) : Option Frame := (ringFrames s r).find? fun f => f.op == 2 && f.endT.isNone && !f.staged

def bitstreamStageEff (r : Nat) (info : PicInfo) (s : State) : State :=
  let n := s.get (CSCH.RCFG_BFIFO r)
  if h : n < 16 then
    match unstaged s r, (s.fifo n).taken with
    | some f, p :: rest =>
      let t := s.setFifo n { s.fifo n with taken := rest }
      if p.typ ≠ 0x08 then recErr (fifoPage ⟨n, h⟩) 0x0104 (t.put (BFIFO.ISR_FRAME n) 1)
      else
        let room := ctxNat s f 24 4
        let t := t.dramWrite (ctxNat s f 16 8) (p.bytes.take room)
        updFrame f.num (fun f => { takeInfo s info f with cutShort := p.cut || decide (room < p.bytes.length) }) t
    | _, _ => s
  else s

/-- BITSTREAM_STAGE (R232, R256): the next packet of the ring's FIFO goes to BSBUF; the picture's syntax comes with it. -/
def execBitstreamStage (r : Fin 8) (info : PicInfo) (s : State) : Out := onCore (bitstreamStageEff r info) s

/-- The words of a packet: header, payload of little-endian words, end mark on the last (Table BFIFO-1). -/
def packetItems (typ : Nat) (bs : List Byte) : List (W32 × Bool) :=
  let words := (List.range (ceilDiv bs.length 4)).map fun i => BitVec.ofNat 32 (sliceNat bs (4 * i) 4)
  let all := BitVec.ofNat 32 (typ * 2 ^ 24 + bs.length) :: words
  all.mapIdx fun i w => (w, decide (i + 1 = all.length))

/-- The frame of a ring whose copies go on: the oldest one ended with copies due (R232). -/
def copyFrame (s : State) (r : Nat) : Option Frame := (heldFrames s r).find? fun f => !f.copies.isEmpty

def layerBfifoCopyEff (r : Nat) (s : State) : State :=
  let n := s.get (CSCH.RCFG_BFIFO r)
  let q := s.fifo n
  match copyFrame s r with
  | some f =>
    match f.copies with
    | i :: rest =>
      if q.puts.isEmpty then
        let addr := (f.layers[i]?.map (·.obuf)).getD 0
        let t := s.setFifo n { q with puts := packetItems (i + 1) (s.dramRead addr (f.bytes.getD i 0)), putFor := some f.num }
        updFrame f.num (fun f => { f with copies := rest }) t
      else s
    | [] => s
  | none => s

/-- LAYER_BFIFO_COPY (R232): the next marked layer goes out as one packet, word by word as the FIFO has room (R185). -/
def execLayerBfifoCopy (r : Fin 8) (s : State) : Out := onCore (layerBfifoCopyEff r) s

/-- No word of a frame's copies is on its way, and MPT has read the layers it takes (R232, R344). -/
def copiesDone (s : State) (f : Frame) : Bool :=
  f.copies.isEmpty && f.mptDue.isEmpty && !s.fifos.any fun e => e.2.putFor == some f.num && !e.2.puts.isEmpty

/-! ### Completion -/

/-- STATUS of a record (Table CSCH-5): a status given without coding, or the highest of late, bitstream error and
output overflow. -/
def recordStatus (f : Frame) : Nat :=
  if f.status ≠ 0 then f.status
  else if f.op = 0 then 0
  else if f.overflow then 6
  else if f.errKind ≠ 0 then 4
  else if f.deadline < f.endT.getD 0 then 1 else 0

/-- RFLAGS of a record (Table CSCH-5). -/
def recordFlags (f : Frame) : Nat :=
  if f.status ≠ 0 ∨ f.op = 0 then 0
  else
    let key := if f.op = 1 then decide (f.keyMask ≠ 0) else f.info.any fun p => p.pics.any (·.key)
    f.rflags ||| (if key then 2 else 0) ||| (if f.lag ≠ 0 then 8 else 0)

/-- The record of a frame (Table CSCH-5). -/
def recordBytes (f : Frame) : List Byte :=
  leBytes 1 (recordStatus f) ++ leBytes 1 (recordFlags f) ++ leBytes 2 f.slot ++ leBytes 4 f.fid ++ leBytes 8 (f.endT.getD 0) ++
    (List.range 4).flatMap fun i => leBytes 4 (f.bytes.getD i 0)

/-- A code of the damage map: concealed goes before predicted from damage (R262). -/
def damageAt (f : Frame) (a : Nat) : Nat :=
  if f.damage.contains (a, 1) then 1 else if f.damage.contains (a, 2) then 2 else 0

/-- Bytes of film_grain_params() bits, the first bit highest (Table CSCH-17). -/
def bitBytes : List Bool → List Byte
  | a :: b :: c :: d :: e :: f :: g :: h :: t =>
    BitVec.ofNat 8 (128 * a.toNat + 64 * b.toNat + 32 * c.toNat + 16 * d.toNat + 8 * e.toNat + 4 * f.toNat + 2 * g.toNat +
      h.toNat) :: bitBytes t
  | [] => []
  | l => [BitVec.ofNat 8 ((l.zipIdx).map fun p => p.1.toNat * 2 ^ (7 - p.2)).sum]

/-- Columns of 64 × 64 areas of a picture, its areas, and the number of the first one of them (R262). -/
def areaCols (c : CodedPic) : Nat := ceilDiv c.picW 64
def areaCount (c : CodedPic) : Nat := areaCols c * ceilDiv c.picH 64
def areaBase (p : PicInfo) (q : Nat) : Nat := ((p.pics.take q).map areaCount).sum

/-- The numbers of the areas of a picture of a unit. -/
def picAreas (p : PicInfo) (q : Nat) : List Nat := (List.range (areaCount (picOf p q))).map (areaBase p q + ·)

/-- A picture of a unit is written to the pool (R259, Table CSCH-18). -/
def toPool (f : Frame) (p : PicInfo) (q : Nat) : Bool := (picOf p q).keepRef && !f.gone.contains q

/-- The status area and the damage map of a decode frame: size and map are those of its last picture, the shown one if
any is (R254, R262, log entry 16). -/
def decodeStatus (f : Frame) (s : State) : State :=
  match f.info with
  | none => s
  | some p =>
    let c := picOf p (p.pics.length - 1)
    let areas := picAreas p (p.pics.length - 1)
    let flags := (if (List.range p.pics.length).any (toPool f p) then 1 else 0) +
      (if p.pics.any (·.shown) && !surfShort s f p then 2 else 0) +
      (if p.pics.any (·.key) then 4 else 0) + (if p.grain.isEmpty then 0 else 8)
    let nd := (areas.filter fun a => damageAt f a != 0).length
    let area := leBytes 4 f.fid ++ leBytes 2 c.picW ++ leBytes 2 c.picH ++ leBytes 1 flags ++ leBytes 1 f.errKind ++ leBytes 2 nd ++
      leBytes 4 (s.ring f.ring).bsErr ++ List.replicate 112 0 ++ leBytes 2 p.grain.length ++
      ((bitBytes p.grain).take 254 ++ List.replicate (254 - (bitBytes p.grain).length) 0)
    let t := if ctxNat s f 2 1 % 2 = 1 then
        s.dramWrite (ctxNat s f 8 8) (areas.map fun a => BitVec.ofNat 8 (damageAt f a)) else s
    t.dramWrite (f.ctx + 128) area

/-- The oldest frame of a ring. -/
def oldest (s : State) (r : Nat) : Option Frame := (ringFrames s r).head?

/-- The completion queue of a ring is full (R219). -/
def cqFull (s : State) (r : Nat) : Bool := (s.get (CSCH.CQHEAD_I r) + 1) % ringSize s r == s.get (CSCH.CQTAIL_I r)

def completionRecordEff (r : Nat) (s : State) : State :=
  match oldest s r with
  | some f =>
    if f.endT.isSome && copiesDone s f && !cqFull s r then
      let h := s.get (CSCH.CQHEAD_I r)
      let t := if f.op = 2 ∧ f.status = 0 then decodeStatus f s else s
      let t := t.dramWrite (s.get64 (CSCH.CQBASEL_A r) (CSCH.CQBASEH_A r) + 32 * h) (recordBytes f)
      let t := t.put (CSCH.CQHEAD_I r) ((h + 1) % ringSize s r)
      let t := if natBit f.flags 1 then t.put (cqBit r) 1 else t
      let t := { t with csch := { t.csch with frames := t.csch.frames.filter (·.num != f.num) } }
      ringSettle r (startFrames r t)
    else s
  | none => s

/-- COMPLETION_RECORD (R219, R233, R254, R262). -/
def execCompletionRecord (r : Fin 8) (s : State) : Out := onCore (completionRecordEff r) s

end Sys2Proof.Machine
end

