-- ==== Sys2Proof/Machine/Strips.lean ====
section
/-! DEFINITION. Strips before they run: cells and estimates, eligibility, the drop test, effort, what a frame settles in
its layers and references as its first strip is dispatched, quantizers, and dispatch (R223 to R228, R238 to R252, R256
to R259). What a strip leaves stands in Machine/Coded.lean. -/

namespace Sys2Proof.Machine

/-! ### Cells and estimates -/

def cellPage (n : Fin 8) : Page := .cell n

/-- STS.STATE of a cell: 0 IDLE, 1 WAIT, 2 RUN, 3 FENCED, 4 LOADING. -/
def cellState (s : State) (n : Nat) : Nat := s.get (CELL.STS_STATE n)

/-- A cell is unfenced and in the pool (R225). -/
def poolCell (s : State) (n : Nat) : Bool := natBit (s.get CSCH.CELLMASK_POOL) n && !natBit (s.get CSCH.CELLMASK_FENCED) n

/-- P of R228: unfenced cells in the pool. -/
def poolCount (s : State) : Nat := (List.range 8).countP (poolCell s)

/-- The cell that takes the next strip: the lowest-numbered idle and unfenced one of the pool (R225). -/
def freeCell (s : State) : Option Nat :=
  (List.range 8).find? fun n => poolCell s n && cellState s n == 0 && (s.cell n).loaded

/-- EST.MINQ in percent (Table CSCH-9). -/
def minQ (s : State) : Nat := min 100 (max 1 (s.getA CSCH.EST_MINQ))

/-- The gap of R227. -/
def gapTicks (s : State) : Nat := s.get CADDY.FFLEAD_TICKS + 4

/-- est of R227, for n samples in 1/1024. -/
def estimate (s : State) (op n : Nat) : Nat :=
  ceilDiv (n * 98304000 * s.get CLK.DIVSTS_CELL * max 1 (s.getA CSCH.EST_FACTOR))
    (1024 * 6 * (if op = 2 then 497664000 else 248832000) * 100)

/-- est_min of R227. -/
def estMin (s : State) (op est : Nat) : Nat := if op = 2 then est else ceilDiv (est * minQ s) 100

/-- Estimates once made stand (Table CSCH-6). -/
def withEstimates (s : State) (f : Frame) : Frame :=
  { f with strips := f.strips.map fun x => if x.est = 0 then { x with est := estimate s f.op x.samples } else x }

/-! ### Eligibility (R224, R258, R300) -/

/-- Layer 0's size: the input surface's (R238). -/
def inputSize (s : State) (f : Frame) : Nat × Nat :=
  match usableSurface s f.surf with
  | some sf => (sf.w, sf.h)
  | none => (0, 0)

/-- Shown size of a layer of a frame (R238). -/
def shownSize (s : State) (f : Frame) (i : Nat) : Nat × Nat := layerSize s f i (inputSize s f).1 (inputSize s f).2

/-- Luma rows of an encode frame. -/
def frameRows (f : Frame) : Nat := (f.strips.getLast?.map fun x => x.first + x.count).getD 0

/-- The rows of a layer that a strip covers, up to the coded height in the last strip (R238, R240). -/
def layerRows (s : State) (f : Frame) (i : Nat) (x : Strip) : Nat × Nat :=
  let d := divisor s f i
  (x.first / d, if x.first + x.count = frameRows f then (codedSize (shownSize s f i)).2 else (x.first + x.count) / d)

/-- The input row of the linked CODE output's source that row `y` needs (R300). -/
def codeSourceRow (s : State) (y : Nat) : Nat :=
  s.getA (ISP.CROP0_Y 1) + ceilDiv ((y + 1) * s.getA (ISP.CROP1_H 1)) (max 1 (s.getA (ISP.SIZE_H 1))) - 1

/-- The predicted instant at which a row of the linked CODE output is in DRAM; 0 where none is predicted (R300). -/
def codeRowTime (s : State) (f : Frame) (y : Nat) : Nat :=
  let p := s.getA ISP.OUTSRC_CODE
  let h := s.getA (ISP.SIZE_H 1)
  if s.bit ISP.LATSTS_VALID ∧ p < 3 ∧ s.get (CSI.CFG_DEST p) = 1 ∧ h ≠ 0 then
    f.time + s.get ISP.LATSTS_FIRSTROW + codeSourceRow s (min y (h - 1)) * s.get (CSI.LINEPER_T p)
  else 0

/-- t_in of a strip: the instant predicted for its last needed row, 8 rows below its bottom (R224, R225). -/
def stripTin (s : State) (f : Frame) (x : Strip) : Nat :=
  if f.linked && f.bound then codeRowTime s f (x.first + x.count + 7) else 0

/-- The input rows of a strip are in DRAM; where the instant of its last row is predicted, dispatch comes no earlier than
2 × FFLEAD before it (R224, R225, log entry 16). -/
def inputReady (s : State) (f : Frame) (x : Strip) : Bool :=
  !f.linked || (f.bound &&
    (if stripTin s f x = 0 then decide (min (frameRows f) (x.first + x.count + 8) ≤ f.rowsIn)
      else decide (stripTin s f x ≤ s.mtime + 2 * s.get CADDY.FFLEAD_TICKS)))

/-- A strip of an earlier frame that covers rows `c` to `d` of a layer has nothing left to write in the pool rows that one
over rows `a` to `b` of the layer needs, 136 on each side of it, nor to read there (R224): its boundary rows are written
with the strip below (R215), and it reads as far as 136 rows around itself (log entry 16). -/
def stripClear (a b : Nat) (y : Strip) (c d : Nat) : Bool := y.st == 2 || decide (d + 136 + 136 ≤ a ∨ b + 136 + 136 ≤ c)

/-- The frames of the ring fetched before a frame that have not ended. -/
def earlierFrames (s : State) (f : Frame) : List Frame :=
  (ringFrames s f.ring).filter fun e => e.num < f.num && e.endT.isNone

/-- The reference rows of a strip are written and read, in the pool of every layer that it is coded in (R224, R240). -/
def refsReady (s : State) (f : Frame) (x : Strip) : Bool :=
  (earlierFrames s f).all fun e => (codedLayers s f).all fun i => !(codedLayers s e).contains i ||
    e.strips.all fun y => stripClear (layerRows s f i x).1 (layerRows s f i x).2 y (layerRows s e i y).1 (layerRows s e i y).2

/-- The pictures of other units, or of its own, that a unit's pictures reference and then those that they show again: the
places of `Frame.kept` (R259). -/
def keptPlaces (p : PicInfo) : List (Option (Nat × Nat)) := p.refs ++ (p.pics.filterMap (·.existing)).map some

/-- The place of the picture that a picture shows again. -/
def existingPlace (p : PicInfo) (q : Nat) : Nat := p.refs.length + ((p.pics.take q).filterMap (·.existing)).length

/-- A picture is one of those that a list names, seen from a frame. -/
def namedIn (f : Frame) (l : List (Nat × Nat)) (k : Kept) : Bool := l.any fun d => k.seq + d.1 == f.seq && k.pic == d.2

/-- The pictures that a strip's own units reference, or that its picture shows again (R258). -/
def stripNeeds (p : PicInfo) (x : Strip) : List (Nat × Nat) :=
  (((p.units.drop x.first).take x.count).flatMap fun u => u.refs.filterMap fun i => (p.refs[i]?).bind id) ++
    (picOf p x.pic).existing.toList

/-- A picture that a frame names has ended, or will never (R258). -/
def pictureEnded (s : State) (f : Frame) (d : Nat × Nat) : Bool :=
  if d.1 = 0 then f.done.contains d.2
  else !(earlierFrames s f).any fun e => e.op == 2 && e.seq + d.1 == f.seq && !e.done.contains d.2

/-- Every picture that a decode strip references has ended (R258). -/
def picturesReady (s : State) (f : Frame) (p : PicInfo) (x : Strip) : Bool := (stripNeeds p x).all (pictureEnded s f)

/-- Every earlier strip of the frame has been parsed up to this one's first unit (R258). -/
def earlierParsed (f : Frame) (j : Nat) : Bool := (f.strips.take j).all fun y => y.st == 2 || y.parsed || y.lost

/-- Decode frames of the ring that are on the cells. -/
def decoding (s : State) (f : Frame) : List Frame :=
  (ringFrames s f.ring).filter fun e => e.num != f.num && e.dispatched && e.endT.isNone

/-- Another decode frame of the ring that has not ended references a picture, or shows it again. -/
def neededElsewhere (s : State) (f : Frame) (k : Kept) : Bool :=
  (ringFrames s f.ring).any fun e => e.num != f.num && e.op == 2 && e.endT.isNone &&
    e.info.any fun p => namedIn e ((keptPlaces p).filterMap id) k

/-- Pool entries that a new picture cannot take: pictures the stream holds or that are predicted from, the
concealment source, and what the pictures being decoded write or read (R259, R261). -/
def poolUsed (s : State) (f : Frame) (p : PicInfo) : List Nat :=
  let g := s.ring f.ring
  ((g.dpb.filter fun k => namedIn f (p.held ++ (keptPlaces p).filterMap id) k || neededElsewhere s f k).map (·.entry)) ++
    g.concealSrc.toList ++
    (decoding s f).flatMap fun e => e.pool.filterMap id ++ (e.kept.filterMap id).map (·.entry)

/-- Pool entries that a new picture can take. -/
def poolFree (s : State) (f : Frame) (p : PicInfo) : List Nat :=
  (List.range (ctxNat s f 3 1)).filter fun j => !(poolUsed s f p).contains j

/-- A decode strip may be dispatched (R258): the pictures of its frame have found pool entries, or will. -/
def decodeReady (s : State) (f : Frame) (j : Nat) (x : Strip) : Bool :=
  f.staged && (match f.info with
    | some p => picturesReady s f p x && earlierParsed f j &&
      (f.dispatched || decide ((List.range p.pics.length).countP (toPool f p) ≤ (poolFree s f p).length) || (decoding s f).isEmpty)
    | none => false)

/-- A strip may be dispatched (R224, R258); a concealment strip always may (R267). -/
def eligible (s : State) (f : Frame) (j : Nat) (x : Strip) : Bool :=
  f.started && f.endT.isNone && x.st == 0 &&
    (x.conceal || (if f.op = 2 then decodeReady s f j x else inputReady s f x && refsReady s f x))

/-- The rank of a strip: concealment strips, then re-issued ones, then the others (R265, R267). -/
def stripRank (x : Strip) : Nat := if x.conceal then 0 else if x.reissue then 1 else 2

/-- The strips of a frame that may be next (R225). -/
def nextStrips (s : State) (f : Frame) : List (Frame × Nat × Strip) :=
  (List.range f.strips.length).filterMap fun j => (f.strips[j]?).bind fun x =>
    if eligible s f j x then some (f, j, x) else none

/-- One candidate goes ahead of another (R225). That of two frames of one ring with the same DEADLINE the strip's number
decides before the frame's age is DESIGN CHOICE, log entry 16. -/
def goesFirst (a b : Frame × Nat × Strip) : Bool :=
  let ka := [stripRank a.2.2, a.1.deadline, a.1.ring, a.2.1, a.1.num]
  let kb := [stripRank b.2.2, b.1.deadline, b.1.ring, b.2.1, b.1.num]
  decide (ka ≤ kb)

/-- The strip that is next in dispatch order (R225). -/
def nextStrip (s : State) : Option (Frame × Nat × Strip) :=
  let c := s.csch.frames.flatMap (nextStrips s)
  c.find? fun a => c.all (goesFirst a)

/-- The drop test (R228): the time left is too short even at minimum quality. -/
def dropTest (s : State) (f : Frame) : Bool :=
  f.op == 1 && decide ((f.deadline : Int) - s.mtime <
    (ceilDiv ((f.strips.map fun x => estMin s f.op x.est + gapTicks s).sum) (max 1 (min (poolCount s) f.strips.length)) : Nat))

/-- The effort of the next strip of an encode frame (R244). -/
def effortOf (s : State) (f : Frame) : Nat :=
  let left := f.strips.filter (·.st == 0)
  let n := left.length
  let goal := min f.deadline (f.time + ctxNat s f 4 4)
  let avail := ((goal : Int) - s.mtime) * (min (poolCount s) n : Nat) - (n * gapTicks s : Nat)
  max (minQ s) (min 100 ((100 * avail).fdiv ((left.map (·.est)).sum : Nat)).toNat)

/-! ### Layers at a frame's first strip (R239, R247 to R250, R268) -/

def RingSt.layer (g : RingSt) (i : Nat) : LayerSt := SMap.get {} g.layers i
def RingSt.setLayer (g : RingSt) (i : Nat) (l : LayerSt) : RingSt := { g with layers := SMap.set {} g.layers i l }

/-- The layer configuration whose change asks for key pictures (R250): LTYPE, FACTOR, SRC and POOL. -/
def layerCfg (s : State) (f : Frame) : List (List Byte) :=
  (List.range f.nlayer).map fun i =>
    let a := f.ctx + 512 + 512 * f.bank + 128 * i
    s.dramRead a 3 ++ s.dramRead (a + 28) 6

/-- A layer's own reasons for a key picture (R248, R250). -/
def ownKey (s : State) (f : Frame) (i : Nat) : Bool :=
  let g := s.ring f.ring
  let l := g.layer i
  natBit f.flags 2 || g.first || !l.begun || l.overflow || natBit (s.get (CSCH.KEYREQ_REQ f.ring)) i ||
    (lrec s f i 22 2 != 0 && decide (lrec s f i 22 2 ≤ l.since)) ||
    (match g.lastCfg with
      | some (z, was) => z != inputSize s f || was.length != f.nlayer || was[i]? != (layerCfg s f)[i]?
      | none => true)

/-- The layer that codes a layer's pictures: itself, or the SRC of a TEMPORAL one. -/
def codingLayer (s : State) (f : Frame) (i : Nat) : Nat := if ltype s f i = 3 then lsrc s f i else i

/-- The layer codes, or carries, a key picture: what is asked of a TEMPORAL layer is asked of its SRC (R247, R248). -/
def keyLayer (s : State) (f : Frame) (i : Nat) : Bool :=
  let j := codingLayer s f i
  (List.range f.nlayer).any fun k => codingLayer s f k == j && ownKey s f k

/-- The frame index of a layer in this frame (R239). -/
def frameIndex (s : State) (f : Frame) (i : Nat) : Nat :=
  if keyLayer s f i then 0 else ((s.ring f.ring).layer (codingLayer s f i)).c + 1

/-- A layer has a picture in this frame: a TEMPORAL one only where its index is a multiple of its factor (R238). -/
def carried (s : State) (f : Frame) (i : Nat) : Bool :=
  ltype s f i != 3 || frameIndex s f i % max 1 (lfactor s f i) == 0

/-- The factors of the TEMPORAL layers built on a layer (R239). -/
def decimations (s : State) (f : Frame) (i : Nat) : List Nat :=
  ((List.range f.nlayer).filter fun k => ltype s f k == 3 && lsrc s f k == i).map (lfactor s f)

/-- Unit rows of a layer (R236, R249). -/
def unitSize (std : Nat) : Nat := if std = 0 then 16 else 64
def unitRows (s : State) (f : Frame) (i : Nat) : Nat := ceilDiv (codedSize (shownSize s f i)).2 (unitSize f.std)

/-- Coded frames of the intra-refresh cycle before this one, and its band: first row and past the last (R249, R250). -/
def girPlace (s : State) (f : Frame) (i : Nat) : Nat :=
  let l := (s.ring f.ring).layer i
  if l.girn = lrec s f i 24 2 then l.gir else 0
def girBand (s : State) (f : Frame) (i : Nat) : List (Nat × Nat) :=
  let g := lrec s f i 24 2
  if keyLayer s f i ∨ g < 2 then []
  else
    let n := ceilDiv (unitRows s f i) g
    let a := girPlace s f i % g * n
    [(a, min (unitRows s f i) (a + n))]

/-- A refresh for a TEMPORAL layer falls due in a frame of this index (R268). -/
def refreshDue (c : Nat) (e : Nat × Nat × Nat) : Bool := c % max 1 e.1 == 0

/-- The unit rows that a layer codes as intra in this frame (R249, R268). -/
def intraRows (s : State) (f : Frame) (i : Nat) : List (Nat × Nat) :=
  let l := (s.ring f.ring).layer i
  if keyLayer s f i ∨ ltype s f i = 3 then []
  else girBand s f i ++ l.refresh ++ (l.refreshT.filter (refreshDue (frameIndex s f i))).map (·.2)

/-- The frame indices of the pictures that a layer may predict from (R214, R239): a SRC layer takes the previous frame whose
index is a multiple of the largest factor that divides this one's, or else the frame before; another layer the
pictures it holds, up to two. -/
def refIndices (s : State) (f : Frame) (i : Nat) : List Nat :=
  let held := ((s.ring f.ring).layer i).pics.map (·.1)
  let c := frameIndex s f i
  let ds := decimations s f i
  if keyLayer s f i ∨ ltype s f i = 3 then []
  else if ds.isEmpty then held
  else
    let d := (ds.filter fun d => c % max 1 d == 0).foldl max 1
    held.filter (· + d == c)

/-- The pictures that a layer keeps once the one of index `c` is coded: two past ones, or for a SRC layer those that a
later frame predicts from (R214, R239). -/
def keepPics (ds : List Nat) (c : Nat) (pics : List (Nat × Nat)) : List (Nat × Nat) :=
  if ds.isEmpty then pics.take 2
  else pics.filter fun e => e.1 == c || ds.any fun d => e.1 == c / max 1 d * max 1 d

/-- Pool entries that the layer's reconstruction cannot take: what it predicts from, and what later frames need. -/
def entriesHeld (s : State) (f : Frame) (i : Nat) : List Nat :=
  let pics := ((s.ring f.ring).layer i).pics
  let c := frameIndex s f i
  if keyLayer s f i then []
  else (pics.filter fun e => (refIndices s f i).contains e.1 ||
    (decimations s f i).any fun d => c % max 1 d != 0 && e.1 == c / max 1 d * max 1 d).map (·.2)

/-- Bit rate r of R241, by mode. -/
def hrdRate (s : State) (f : Frame) (i : Nat) : Nat := if lrec s f i 3 1 = 1 then lrec s f i 4 4 else lrec s f i 8 4

/-- HRD syntax is written for a layer (R243). -/
def hrdOn (s : State) (f : Frame) (i : Nat) : Bool :=
  ltype s f i != 3 && lrec s f i 26 1 % 2 == 1 && decide (1 ≤ lrec s f i 3 1 ∧ lrec s f i 3 1 ≤ 3 ∧ f.std ≤ 1)

/-- floor(900 × CPB × INIT / r) (R243); with r 0 it is open (log entry 7). -/
def removalDelay (s : State) (f : Frame) (i : Nat) : Nat :=
  let n := 900 * lrec s f i 12 4 * lrec s f i 16 1
  if hrdRate s f i = 0 then Config.byZero n else n / hrdRate s f i

/-- What the access unit of a layer says beside its slices (R238, R243, R247). -/
def unitSyn (s : State) (f : Frame) (i : Nat) : UnitSyn :=
  let z := shownSize s f (codingLayer s f i)
  { key := keyLayer s f i, coded := codedSize z, shown := z
    hrd := if hrdOn s f i then some (hrdRate s f i, lrec s f i 12 4, lrec s f i 3 1 == 1) else none
    delay := if hrdOn s f i && keyLayer s f i then some (removalDelay s f i) else none
    timing := hrdOn s f i }

/-- What a layer remembers once a frame of it is begun, its reconstruction going to a pool entry. -/
def layerBegin (s : State) (f : Frame) (i entry : Nat) : LayerSt :=
  let l := (s.ring f.ring).layer i
  let key := keyLayer s f i
  let now := carried s f i
  let c := frameIndex s f i
  { l with
    begun := true
    c := c
    since := if key then 0 else if now then l.since + 1 else l.since
    bucket := if l.begun then l.bucket else lrec s f i 12 4 * 10 * (100 - lrec s f i 16 1)
    overflow := false
    refresh := []
    refreshT := if key then [] else l.refreshT.filter fun e => !refreshDue c e
    pics := if ltype s f i = 3 then []
      else keepPics (decimations s f i) c ((c, entry) :: (if key then [] else l.pics.filter fun e => e.2 != entry))
    girn := lrec s f i 24 2
    gir := if key then 0 else girPlace s f i + 1 }

/-- The pool entry of each layer's reconstruction: a free choice among those that nothing needs (R239). -/
def chooseEntries (s : State) (f : Frame) : List Nat × State :=
  (List.range f.nlayer).foldl (fun a i =>
    let (k, t) := a.2.fresh
    let free := (List.range 3).filter fun e => !(entriesHeld s f i).contains e
    (a.1 ++ [free.getD (k % max 1 free.length) 0], t)) ([], s)

/-- The first strip of an encode frame is dispatched: keys, indices, references, bands and requests are settled (R239, R243,
R247 to R250). -/
def beginFrame (f : Frame) (s : State) : State :=
  let ls := List.range f.nlayer
  let keys := ls.filter (keyLayer s f)
  let (pools, t) := chooseEntries s f
  let t := updFrame f.num (fun f => { f with
    keyMask := (keys.map (2 ^ ·)).sum
    index := ls.map (frameIndex s f)
    intra := ls.map (intraRows s f)
    pools := pools
    refPools := ls.map fun i => (refIndices s f i).filterMap fun c =>
      ((s.ring f.ring).layer i).pics.findSome? fun e => if e.1 = c then some e.2 else none
    syn := ls.map (unitSyn s f)
    above := ls.map fun i => (girBand s f (codingLayer s f i)).head?.map (·.1) }) t
  let req := t.get (CSCH.KEYREQ_REQ f.ring)
  let t := t.put (CSCH.KEYREQ_REQ f.ring) (((List.range 4).filter fun i => natBit req i && !keys.contains i).map (2 ^ ·)).sum
  let g := ls.foldl (fun g i => g.setLayer i (layerBegin s f i (pools.getD i 0))) { s.ring f.ring with layers := [] }
  t.setRing f.ring { g with first := false, lastCfg := some (inputSize s f, layerCfg s f) }

/-! ### A decode frame's references at its first strip (R259, R261, R273) -/

/-- The kept picture that a frame names. -/
def keptBack (s : State) (f : Frame) (d : Nat × Nat) : Option Kept := (s.ring f.ring).dpb.find? (namedIn f [d])

/-- The ring of a decode frame as the frame begins: with another context it has no pictures and no concealment source yet
(R261). -/
def decodeRing (f : Frame) (g : RingSt) : RingSt :=
  let g := { g with decoded := true }
  if g.ctx = f.ctx then g else { g with ctx := f.ctx, dpb := [], concealSrc := none }

/-- The pool entries of a unit's pictures: a free choice among those that nothing needs (R259). -/
def choosePool (f : Frame) (p : PicInfo) (free : List Nat) (s : State) : List (Option Nat) × State :=
  (List.range p.pics.length).foldl (fun a q =>
    let (k, t) := a.2.fresh
    let left := free.filter fun e => !a.1.contains (some e)
    let entry := left.getD (k % max 1 left.length) (k % max 1 (ctxNat s f 3 1))
    (a.1 ++ [if toPool f p q then some entry else none], t)) ([], s)

/-- The first strip of a decode frame is dispatched: its references that have ended and its pool entries are settled; the
first picture after a reset shows error kind 5, concealed whole, unless it is a key picture (R259 to R261, R273). -/
def beginDecode (f : Frame) (p : PicInfo) (s : State) : State :=
  let noKey := !(s.ring f.ring).decoded && !(picOf p 0).key
  let t := s.setRing f.ring (decodeRing f (s.ring f.ring))
  let kept := (keptPlaces p).map fun d => d.bind (keptBack t f)
  let (pool, t) := choosePool f p (poolFree t f p) t
  updFrame f.num (fun f => { f with
    kept := kept
    pool := pool
    damage := if noKey then f.damage ++ (picAreas p 0).map fun a => (a, 1) else f.damage
    errKind := if f.errKind = 0 ∧ noKey then 5 else f.errKind
    errAt := if noKey then (0, 0) else f.errAt
    bsError := f.bsError || f.errKind != 0 || noKey }) t

/-! ### Quantizers (R236, R242, R246) -/

/-- The QP limits of a layer: QPMIN to QPMAX, or the full scale for CQP (R246). -/
def qpLimits (s : State) (f : Frame) (i : Nat) : Nat × Nat :=
  if lrec s f i 3 1 = 0 then (0, qpTop f.std) else (lrec s f i 19 1, lrec s f i 20 1)

/-- The slices of a layer from its frame's strips, joined in strip order (R265). -/
def joined (f : Frame) (i : Nat) : List Byte := f.strips.flatMap fun x => x.bytes.getD i []

/-- Bits of a layer's frame drain from, and go into, its bucket; filler bytes and the new bucket (R241). -/
def bucketStep (s : State) (f : Frame) (i bits : Nat) (b : Int) : Nat × Int :=
  let mode := lrec s f i 3 1
  let b' : Int := b + bits - (hrdRate s f i * ctxNat s f 4 4 / 98304 : Nat)
  if mode = 0 then (0, 0)
  else if mode = 1 then
    let n := if b' < 0 then ceilDiv (-b').toNat 8 else 0
    (n, b' + 8 * n)
  else (0, max 0 b')

/-- The bytes that a layer's picture has so far: what goes ahead of it, and the slices of its ended strips. -/
def bytesSoFar (f : Frame) (i : Nat) : Nat := ((f.heads[i]?).elim 0 (·.bytes.length)) + (joined f i).length

/-- The frames of a ring that code a layer, have a strip dispatched and have not ended, in their order, and this one: their
bits are on the way to the layer's bucket. -/
def bucketFrames (s : State) (f : Frame) (i : Nat) : List Frame :=
  s.csch.frames.filter fun g => g.ring == f.ring && g.op == 1 && (g.dispatched || g.num == f.num) && g.endT.isNone &&
    (codedLayers s g).contains i

/-- With `n` bytes of a layer in this frame the layer's bucket keeps B ≤ CPB × 1000 after it and after each later frame on
the cells that is no key picture, as far as their strips have ended (R241, R242). -/
def bucketFits (s : State) (f : Frame) (i n : Nat) : Bool :=
  ((bucketFrames s f i).foldl (fun (a : Int × Bool) g =>
    let b := (bucketStep s g i (8 * if g.num = f.num then n else bytesSoFar g i) a.1).2
    (b, a.2 && (decide (g.num < f.num) || natBit g.keyMask i || decide (b ≤ (lrec s g i 12 4 * 1000 : Nat)))))
    (((s.ring f.ring).layer i).bucket, true)).2

/-- A strip's QP in a layer, where rate control's choice is the free value `k` (R242). In CAPQ the QP is higher than QPI or
QPP only where the bucket does not fit the `n` bytes that the strip takes with them, which are open (log entry 43). -/
def layerQp (s : State) (f : Frame) (i k n : Nat) : Nat :=
  let (lo, hi) := qpLimits s f i
  let base := min hi (max lo (if natBit f.keyMask i then lrec s f i 17 1 else lrec s f i 18 1))
  if ltype s f i = 3 then 0
  else if lrec s f i 3 1 = 0 then base
  else if lrec s f i 3 1 = 3 then (if bucketFits s f i (bytesSoFar f i + n) then base else base + k % (hi - base + 1))
  else lo + k % (hi - lo + 1)

/-- A strip's QPs: a re-issued strip keeps those it had (R242, R252). -/
def chooseQps (f : Frame) (x : Strip) (s : State) : List Nat × State :=
  if x.qp.isEmpty ∧ f.op = 1 then
    (List.range f.nlayer).foldl (fun a i =>
      let (k, t) := a.2.fresh
      let (n, t) := t.fresh
      (a.1 ++ [layerQp s f i k n], t)) ([], s)
  else (x.qp, s)

/-- A unit's QP: the strip's plus the unit's offset, within the limits (R246). -/
def unitQp (lim : Nat × Nat) (qp : Nat) (d : Int) : Nat := (max (lim.1 : Int) (min lim.2 ((qp : Int) + d))).toNat

/-! ### Dispatch (R225, R226, R244) -/

/-- The strip goes to a cell: STATE WAIT, and the cell asks Caddy (R120, R225). -/
def assignStrip (n : Nat) (f : Frame) (j : Nat) (x : Strip) (s : State) : State :=
  let e := if f.op = 2 then 100 else x.effort.getD (effortOf s f)
  let estS := if x.conceal then ceilDiv x.est 16 else if f.op = 2 then x.est else ceilDiv (x.est * e) 100
  let start := max (s.mtime + s.get CADDY.FFLEAD_TICKS) (if x.conceal then 0 else stripTin s f x)
  let (qp, t) := chooseQps f x s
  let t := updStrip f.num j (fun x => { x with
    st := 1, estS := estS, qp := qp, parsed := false, effort := if x.conceal then x.effort else some e }) t
  let t := updFrame f.num (fun g => { g with dispatched := true, effort := if x.conceal then g.effort else min g.effort e }) t
  let t := t.puts [(CELL.STS_STATE n, 1), (CELL.JOB_RING n, f.ring), (CELL.JOB_STRIP n, j), (CELL.JOBID_ID n, f.fid)]
  let t := t.setCell n { t.cell n with job := some (f.num, j), reqStart := start, bound := [], qmap := [], uqp := [] }
  cellRequest n (f.op == 1) start t

/-- The STRIP commit points of CSCH and of the cell (Table SYS-7, Table CSCH-6). -/
def stripCommits (n : Fin 8) (s : State) : State := commitPoint (cellPage n) 2 (commitPoint .csch 2 s)

/-- Rows of a linked CODE frame that the lines received so far allow to be in DRAM; a memory pass has all of them (R300). -/
def codeRowsAllowed (s : State) (o : OutJob) : Nat :=
  let h := s.getA (ISP.SIZE_H 1)
  if o.inline ∧ (s.csi o.port).stamp = o.stamp then
    ((List.range h).takeWhile fun y => codeSourceRow s y < (s.csi o.port).rows.length).length
  else h

/-- The rows that the linked CODE output has written so far of the frame it feeds (R224). -/
def noteRows (rows : Nat) (s : State) : State :=
  match (SMap.get {} s.isp.outs 1 : OutSt).jobs with
  | o :: _ => o.frame.elim s fun num =>
      updFrame num (fun f => { f with rowsIn := max f.rowsIn (min rows (codeRowsAllowed s o)) }) s
  | [] => s

/-- A running decode strip has been parsed to its end (R258). -/
def noteParsed (n : Fin 8) (s : State) : State :=
  match (s.cell n).job with
  | some (num, j) => if cellState s n = 2 then updStrip num j (fun x => { x with parsed := true }) s else s
  | none => s

/-- What a frame settles as its first strip is dispatched. -/
def beginAny (f : Frame) (s : State) : State :=
  if f.op = 1 then beginFrame f s else f.info.elim s fun p => beginDecode f p s

/-- One dispatch (R225, R228). -/
def dispatchOne (s : State) : State :=
  match freeCell s, nextStrip s with
  | some n, some (f, j, x) =>
    if h : n < 8 ∧ s.bit CSCH.CTL_EN then
      let f := withEstimates s f
      let x := f.strips.getD j x
      let t := updFrame f.num (fun _ => f) s
      if !f.dispatched && dropTest t f then dropFrame f t
      else
        let t := stripCommits ⟨n, h.1⟩ t
        let t := if f.dispatched then t else beginAny f t
        assignStrip n ((frameOf t f.num).getD f) j x t
    else s
  | _, _ => s

def stripDispatchEff (rows : Nat) (parsed : List (Fin 8)) (s : State) : State :=
  dispatchOne (parsed.foldl (fun t n => noteParsed n t) (noteRows rows s))

/-- STRIP_DISPATCH (R225, R228, R244). With it come how far the linked CODE output has written its frame, and which cells
have parsed their decode strip to its end (log entry 31). -/
def execStripDispatch (rows : Nat) (parsed : List (Fin 8)) (s : State) : Out := onCore (stripDispatchEff rows parsed) s

end Sys2Proof.Machine
end

