-- ==== Sys2Proof/Machine/Coded.lean ====
section
/-! DEFINITION. What a strip leaves in memory, what a cell fault loses, the sequencer of a cell, and the end of strips
and frames (R215, R222, R226, R231, R235, R238, R241, R242, R246, R256 to R269, R275, R276, R279). -/

namespace Sys2Proof.Machine

/-! ### The input and the units of an encode strip (R238, R246) -/

/-- A component of a layer's input: the mean of a d × d block, rounded half up, the last row and column repeated (R238). -/
def scaledSample (at' : Nat → Nat → Nat) (d w h r c : Nat) : Nat :=
  let y := min r (h - 1)
  let x := min c (w - 1)
  let sum := ((List.range (d * d)).map fun k => at' (d * y + k / d) (d * x + k % d)).sum
  (2 * sum + d * d) / (2 * (d * d))

/-- A layer's input from the picture of the input surface (R238); Cb and Cr are interleaved. -/
def layerPicture (pic : Picture) (d w h : Nat) : Picture := fun p r c =>
  if p = 0 then scaledSample (pic 0) d w h r c
  else scaledSample (fun y x => pic 1 y (2 * x + c % 2)) d (w / 2) (h / 2) r (c / 2)

/-- A strip's input in each layer that a cell codes: luma rows, then chroma rows (R238). -/
def stripInput (s : State) (f : Frame) (x : Strip) : List (List (List Nat)) :=
  match usableSurface s f.surf with
  | some sf => (List.range f.nlayer).map fun i =>
      if ltype s f i = 3 then []
      else
        let (a, b) := layerRows s f i x
        let z := shownSize s f i
        let pic := layerPicture (sf.picture s) (divisor s f i) z.1 z.2
        let row (p r : Nat) := (List.range (codedSize z).1).map (pic p r)
        (List.range (b - a)).map (fun k => row 0 (a + k)) ++ (List.range (b / 2 - a / 2)).map fun k => row 1 (a / 2 + k)
  | none => []

/-- Unit rows that a strip covers in a layer: first and past the last (R240, R268). -/
def stripUnitRows (s : State) (f : Frame) (i : Nat) (x : Strip) : Nat × Nat :=
  let d := divisor s f i
  let u := unitSize f.std
  (x.first / d / u, ceilDiv (ceilDiv (x.first + x.count) d) u)

/-- Unit columns of a layer (R236). -/
def unitCols (s : State) (f : Frame) (i : Nat) : Nat := ceilDiv (codedSize (shownSize s f i)).1 (unitSize f.std)

/-- The sum and the number of the QPs of a strip's units in a layer (R235, R246). -/
def stripQuants (s : State) (f : Frame) (x : Strip) (uqp : List (List Nat)) (i : Nat) : Nat × Nat :=
  let us := uqp.getD i []
  if us.isEmpty then
    let (a, b) := stripUnitRows s f i x
    let n := (b - a) * unitCols s f i
    (n * x.qp.getD i 0, n)
  else (us.sum, us.length)

/-! ### Reconstruction of encode strips (R215, R242, R267) -/

/-- The surface of a layer's pool entry. -/
def poolSurface (s : State) (f : Frame) (i k : Nat) : Option Surface := surfaceAt s (poolIndex s f i k)

/-- A strip is coded as a skip strip in a layer: to hold its buffer, or as concealment of a picture that is no key
picture (R242, R267). -/
def skipped (f : Frame) (x : Strip) (skips : List Nat) (i : Nat) : Bool :=
  if x.conceal then !natBit f.keyMask i else skips.contains i

/-- What a cell reconstructs of a strip in a layer (R215, R242, R267): a skip strip is the first reference, a flat strip
the middle of the range, and 8 rows at its upper boundary, where the loop filters act, are open with every other
sample (log entry 7). -/
def reconPicture (s : State) (f : Frame) (i : Nat) (x : Strip) (skips : List Nat) (depth k : Nat) : Picture :=
  let top := (layerRows s f i x).1
  let edge (p r : Nat) : Bool := x.first != 0 && decide (r < (top + 8) / (if p = 0 then 1 else 2))
  let ref := (((f.refPools.getD i []).head?).bind (poolSurface s f i)).map (Surface.picture s)
  fun p r c =>
    if edge p r then openPicture k depth p r c
    else if skipped f x skips i then ref.elim (openPicture k depth p r c) fun pic => pic p r c
    else if x.conceal then 2 ^ (depth - 1)
    else openPicture k depth p r c

/-- An encode strip's reconstruction in its layers: all rows but its lowest 8 luma and 4 chroma ones, and those of the strip
above; the last strip writes its own lowest rows (R215). -/
def encodeRecon (f : Frame) (x : Strip) (skips : List Nat) (s : State) : State :=
  let last := x.first + x.count == frameRows f
  (codedLayers s f).foldl (fun t i =>
    match poolSurface s f i (f.pools.getD i 0) with
    | some sf =>
      let (a, b) := layerRows s f i x
      let lo := a - 8
      let hi := if last then b else b - 8
      let (k, t) := t.fresh
      let on (p r _c : Nat) : Bool := if p = 0 then decide (lo ≤ r ∧ r < hi) else decide (lo / 2 ≤ r ∧ r < hi / 2)
      storePicture sf on (reconPicture s f i x skips (fmtDepth sf.fmt) k) lo t
    | none => t) s

/-- Row `r` of a layer lies in one of some unit rows. -/
def inUnitRows (f : Frame) (rows : List (Nat × Nat)) (r : Nat) : Bool :=
  rows.any fun e => decide (e.1 * unitSize f.std ≤ r ∧ r < e.2 * unitSize f.std)

/-- Row `y` of a reference may be read for row `r` of a layer: within 136 rows of it, above the band for a row above the
band, not among the rows coded intra after a cell fault, and for no row that is coded intra (R224, R249, R268). -/
def refRow (f : Frame) (i r y : Nat) : Bool :=
  let intra := f.intra.getD i []
  let band := (f.above.getD i none).map (· * unitSize f.std)
  !inUnitRows f (intra.drop (if band.isSome then 1 else 0)) y && !inUnitRows f intra r &&
    decide (r ≤ y + 136 ∧ y ≤ r + 136) && band.all fun top => decide (top ≤ r ∨ y < top)

/-- The same for some row of a strip. -/
def stripRefRow (s : State) (f : Frame) (i : Nat) (x : Strip) (y : Nat) : Bool :=
  let (a, b) := layerRows s f i x
  (List.range (b - a)).any fun k => refRow f i (a + k) y

/-- A strip's reads: its input rows, and in each layer's references, which motion search reads as often as it will: the
extra reads are open (R217, log entry 7). -/
def encodeReads (f : Frame) (x : Strip) (s : State) : State :=
  let t := match usableSurface s f.surf with
    | some sf => readRows sf x.first (min sf.h (x.first + x.count + 8)) s
    | none => s
  (codedLayers s f).foldl (fun t i => (f.refPools.getD i []).foldl (fun t k =>
    match poolSurface s f i k with
    | some sf =>
      let (p, t) := t.fresh
      let (q, t) := t.fresh
      tcfTally p q (readWhere sf (stripRefRow s f i x) t)
    | none => t) t) t

/-! ### The blocks and the headers of encode strips (R238, R242, R243, R247) -/

/-- The rows of a reference of `h` rows that a vector names from row `r`: rounded down, with the next one where it has a
fraction, and the outermost one for rows outside. -/
def pointedRows (h r : Nat) (v : Int) : List Nat :=
  let y : Int := r + v.fdiv 4
  (if v % 4 = 0 then [y] else [y, y + 1]).map fun y => min (h - 1) y.toNat

/-- An inter block keeps to the references of its layer and to the rows it may read there (R224, R239, R249, R268). -/
def interOk (s : State) (f : Frame) (i : Nat) (b : Block) (r : Nat) : Bool :=
  let h := (codedSize (shownSize s f i)).2
  !natBit f.keyMask i && decide (r < (f.refPools.getD i []).length) &&
    (List.range b.height).all fun k => (pointedRows h (b.top + k) b.mv.1).all (refRow f i (b.top + k))

/-- Blocks of layer 0 that lie, in whole or in part, where a block of a layer divided by `d` lies. -/
def blocksBelow (d : Nat) (base : List Block) (b : Block) : List Block :=
  base.filter fun a => decide (a.top < d * (b.top + b.height) ∧ d * b.top < a.top + a.height ∧ a.left < d * (b.left + b.width) ∧
    d * b.left < a.left + a.width)

/-- Two motion vectors agree within ±8 samples of a layer divided by `d`: `u` is layer 0's, and dividing it rounds (R238). -/
def refined (d : Nat) (u v : Int) : Bool := decide ((d * v - u).natAbs ≤ 32 * d + (d - 1))

/-- A block of a layer follows layer 0's analysis: a RATE layer has layer 0's block, mode, reference and motion, unless it
must be intra where layer 0 is not; a SCALE layer's motion is layer 0's divided by F and refined within ±8 samples, from
none where layer 0 has none there (R238). -/
def followsBase (s : State) (f : Frame) (i : Nat) (base : List Block) (b : Block) : Bool :=
  if ltype s f i = 1 then
    base.any (fun a => { a with residual := b.residual } == b) ||
      (b.ref.isNone && (blocksBelow 1 base b).any (·.ref.isSome) &&
        (natBit f.keyMask i || (List.range b.height).any fun k => inUnitRows f (f.intra.getD i []) (b.top + k)))
  else if ltype s f i = 2 then
    let d := divisor s f i
    let us := ((blocksBelow d base b).filter (·.ref.isSome)).map (·.mv)
    b.ref.isNone || (if us.isEmpty then [(0, 0)] else us).any fun u => refined d u.1 b.mv.1 && refined d u.2 b.mv.2
  else true

/-- A block of a skip strip: inter with zero motion from the first reference, no residual (R242). -/
def skipBlock (b : Block) : Bool := b.ref == some 0 && b.mv == (0, 0) && !b.residual

/-- A block of a strip in a layer is coded as the strip is: a skip strip, a flat strip of a key picture, or an ordinary one
(R238, R242, R267). -/
def blockOk (s : State) (f : Frame) (x : Strip) (skips : List Nat) (i : Nat) (base : List Block) (b : Block) : Bool :=
  if skipped f x skips i then skipBlock b
  else if x.conceal then b.ref.isNone && !b.residual
  else b.ref.all (interOk s f i b) && followsBase s f i base b

/-- The blocks of a strip cover its rows of a layer, each sample once. -/
def tiles (s : State) (f : Frame) (i : Nat) (x : Strip) (bs : List Block) : Bool :=
  let (a, e) := layerRows s f i x
  let w := (codedSize (shownSize s f i)).1
  (bs.all fun b => decide (a ≤ b.top ∧ b.top + b.height ≤ e ∧ b.left + b.width ≤ w)) &&
    decide ((bs.map fun b => b.height * b.width).sum = (e - a) * w) &&
    decide (bs.Pairwise fun b c => b.top + b.height ≤ c.top ∨ c.top + c.height ≤ b.top ∨ b.left + b.width ≤ c.left ∨
      c.left + c.width ≤ b.left)

/-- The blocks that a strip's bytes code are such as its layers may have (R238, R242, R249, R267, R268). -/
def blocksHold (s : State) (f : Frame) (x : Strip) (res : StripResult) : Bool :=
  (codedLayers s f).all fun i => tiles s f i x (res.blocks.getD i []) &&
    (res.blocks.getD i []).all (blockOk s f x res.skips i (res.blocks.getD 0 []))

/-- The first byte after each start code of an Annex B byte stream. -/
def startBytes : List Byte → List Nat
  | [] => []
  | a :: t => (if a = 0 ∧ t.take 2 = [0, 1] then [((t.drop 2).head?.map BitVec.toNat).getD 0] else []) ++ startBytes t

/-- A leb128 number, and what follows it. -/
def takeLeb128 : List Byte → Nat × List Byte
  | [] => (0, [])
  | b :: t => if b.toNat < 128 then (b.toNat, t) else
    let (n, r) := takeLeb128 t
    (b.toNat % 128 + 128 * n, r)

/-- The types of up to `n` OBUs of a low-overhead stream. -/
def obuTypes : Nat → List Byte → List Nat
  | 0, _ => []
  | _, [] => []
  | n + 1, b :: t =>
    let (k, r) := takeLeb128 (if natBit b.toNat 2 then t.drop 1 else t)
    b.toNat / 8 % 16 :: obuTypes n (r.drop k)

/-- The types of the NAL units or OBUs of a header, as the coding standards number them (PRESUMED, log entry 41). -/
def headTypes (std : Nat) (bs : List Byte) : List Nat :=
  if std = 0 then (startBytes bs).map (· % 32) else if std = 1 then (startBytes bs).map (· / 2 % 64) else obuTypes bs.length bs

/-- The types that go ahead of a layer's picture: its parameter sets or sequence header for a key picture, and SEI (R243,
R247; PRESUMED, log entry 41). -/
def headNeeds (std : Nat) (u : UnitSyn) : List Nat :=
  (if u.key then (if std = 0 then [7, 8] else if std = 1 then [32, 33, 34] else [1]) else []) ++
    (if u.timing then (if std = 0 then [6] else if std = 1 then [39] else []) else [])

/-- A layer has a picture in a frame: a TEMPORAL one where its source's index is a multiple of its factor (R238). -/
def hasPicture (s : State) (f : Frame) (i : Nat) : Bool := ltype s f i != 3 || f.index.getD i 0 % max 1 (lfactor s f i) == 0

/-- What goes ahead of each layer's picture says what the rules give it: key picture, cropping window, HRD parameters and
SEI (R238, R243, R247). -/
def headsHold (s : State) (f : Frame) (heads : List Head) : Bool :=
  (List.range f.nlayer).all fun i => !hasPicture s f i || (heads[i]?).any fun h =>
    (f.syn[i]?).all fun u => h.tells == u && (headNeeds f.std u).all (headTypes f.std h.bytes).contains

/-! ### Pictures of decode strips (R258 to R261) -/

/-- The area of a luma sample of picture `q`, which is taken to lie within the picture (R262). -/
def areaOf (p : PicInfo) (q y x : Nat) : Nat :=
  let c := picOf p q
  areaBase p q + min y (c.picH - 1) / 64 * areaCols c + min x (c.picW - 1) / 64

/-- Row and column of an area in its picture `q`. -/
def areaPlace (p : PicInfo) (q a : Nat) : Nat × Nat :=
  let n := max 1 (areaCols (picOf p q))
  ((a - areaBase p q) / n, (a - areaBase p q) % n)

/-- The areas of a strip: those of its units, or its whole picture where that has none (R257, R260). -/
def stripAreas (p : PicInfo) (x : Strip) : List Nat := if x.areas.isEmpty then picAreas p x.pic else x.areas

/-- The last strip that covers an area. -/
def ownerOf (f : Frame) (p : PicInfo) (a : Nat) : Option Nat :=
  (List.range f.strips.length).reverse.find? fun j => (f.strips[j]?).any fun x => (stripAreas p x).contains a

/-- The strip that writes a luma sample of a picture: the latest that covers it or comes within 8 samples of it (R215,
R258). -/
def writerOf (f : Frame) (p : PicInfo) (q y x : Nat) : Option Nat :=
  let near := [(y, x), (y - 8, x), (y + 8, x), (y, x - 8), (y, x + 8), (y - 8, x - 8), (y - 8, x + 8), (y + 8, x - 8),
    (y + 8, x + 8)].map fun e => areaOf p q e.1 e.2
  (ownerOf f p (areaOf p q y x)).map fun j => (near.filterMap (ownerOf f p)).foldl max j

/-- Two strips share a boundary: an area of one touches an area of the other in one picture (R258). -/
def adjacent (p : PicInfo) (a b : Strip) : Bool :=
  a.pic == b.pic && a.areas.any fun u => b.areas.any fun v =>
    let near (i j : Nat) : Bool := decide (i ≤ j + 1 ∧ j ≤ i + 1)
    near (areaPlace p a.pic u).1 (areaPlace p a.pic v).1 && near (areaPlace p a.pic u).2 (areaPlace p a.pic v).2

/-- The place of a sample of a plane on the luma grid. -/
def lumaPlace (pl r c : Nat) : Nat × Nat := if pl = 0 then (r, c) else (2 * r, c / 2 * 2)

/-- The surface of a pool entry of a decode frame's context. -/
def entrySurface (s : State) (f : Frame) (e : Nat) : Option Surface := surfaceAt s (ctxNat s f (64 + 2 * e) 2)

/-- The concealment source as it stands, if a frame's context has one (R261). -/
def sourceEntry (s : State) (f : Frame) : Option Nat :=
  if (s.ring f.ring).ctx = f.ctx then (s.ring f.ring).concealSrc else none

/-- A picture at a bit depth, as a surface holds it: open where the surface has another depth. -/
def pictureAt (s : State) (depth k : Nat) (sf : Option Surface) : Picture :=
  match sf with
  | some sf => if fmtDepth sf.fmt = depth then sf.picture s else openPicture k depth
  | none => openPicture k depth

/-- The value that a concealed sample takes: the co-located one of the concealment source, or the middle of the range
(R261). -/
def concealed (s : State) (f : Frame) (depth k : Nat) : Picture :=
  match sourceEntry s f with
  | none => fun _ _ _ => 2 ^ (depth - 1)
  | some e => pictureAt s depth k (entrySurface s f e)

/-- An area of picture `q` is concealed (R260, R269). -/
def areaGone (f : Frame) (q a : Nat) : Bool := f.gone.contains q || damageAt f a == 1

/-- What picture `q` of a decode frame holds at a bit depth: `k` is its number; show_existing_frame gives the picture that
it shows again (R259, R261, R269). -/
def decodedPicture (s : State) (f : Frame) (p : PicInfo) (q k k2 depth : Nat) : Picture := fun pl r c =>
  let (y, x) := lumaPlace pl r c
  if areaGone f q (areaOf p q y x) then concealed s f depth k2 pl r c
  else if (picOf p q).existing.isSome then
    pictureAt s depth k2 ((f.kept.getD (existingPlace p q) none).bind fun e => entrySurface s f e.entry) pl r c
  else openPicture (if depth = 8 + 2 * ctxNat s f 0 1 then k else k2) depth pl r c

/-- The samples of strip `j`'s share of picture `q`, and those of areas that it conceals beside its own, as a gap of missing
units, at the boundary of a later strip that has ended already (R215, R260). -/
def strippedOn (f : Frame) (p : PicInfo) (q j pl r c : Nat) : Bool :=
  let (y, x) := lumaPlace pl r c
  let has (i : Nat) (test : Strip → Bool) : Bool := (f.strips[i]?).any test
  decide (y < (picOf p q).picH ∧ x < (picOf p q).picW) && (writerOf f p q y x).any fun w =>
    w == j || (has w (·.st == 2) && has j (·.areas.contains (areaOf p q y x)))

/-- A decode strip's share of its picture in the pool and, if shown, in SURF (R258, R259, R261, R269). -/
def decodeRecon (f : Frame) (j : Nat) (s : State) : State :=
  f.info.elim s fun p =>
    let q := ((f.strips[j]?).map (·.pic)).getD 0
    let (k, t) := s.fresh
    let (k2, t) := t.fresh
    let pool := (f.pool.getD q none).bind (entrySurface s f)
    let surf := if (picOf p q).shown && !surfShort s f p then surfaceAt s f.surf else none
    let put (sf : Surface) (u : State) : State :=
      storePicture sf (strippedOn f p q j) (decodedPicture s f p q k k2 (fmtDepth sf.fmt)) 0 u
    surf.elim (pool.elim t fun sf => put sf t) fun sf => put sf (pool.elim t fun q => put q t)

/-- A decode strip's reads (R217): in its references the areas that its own predict from, in the concealment source its
concealed areas, and of a picture shown again all of it. What it reads beside is open (log entry 7). -/
def decodeReads (f : Frame) (x : Strip) (preds : List (Nat × Nat × Nat)) (s : State) : State :=
  f.info.elim s fun p =>
    let areas := stripAreas p x
    let t := (List.range p.refs.length).foldl (fun t i => (f.kept.getD i none).elim t fun e =>
      (entrySurface s f e.entry).elim t fun sf =>
        let (a, t) := t.fresh
        let (b, t) := t.fresh
        tcfTally a b (readAreas sf (fun y c => preds.any fun d =>
          areas.contains d.1 && d.2.1 == i && decide (c < e.cols) && d.2.2 == y * e.cols + c) t)) s
    let gone := (areas.filter (areaGone f x.pic)).map (areaPlace p x.pic)
    let t := ((sourceEntry s f).bind (entrySurface s f)).elim t fun sf => readAreas sf (fun y c => gone.contains (y, c)) t
    if (picOf p x.pic).existing.isSome && gone.isEmpty then
      ((f.kept.getD (existingPlace p x.pic) none).bind fun e => entrySurface s f e.entry).elim t fun sf => readAreas sf (fun _ _ => true) t
    else t

/-! ### What a strip of a decode frame reports (R260, R262) -/

/-- A kept picture is missing from the pool, by its place (Table CSCH-18, kind 5). -/
def keptMissing (f : Frame) (i : Nat) : Bool := (f.kept.getD i none).isNone

/-- Areas of a strip whose units predict from a missing reference, or all of them where a picture to be shown again is
missing (Table CSCH-18, kind 5; R262). -/
def missingAreas (f : Frame) (x : Strip) : List Nat :=
  f.info.elim [] fun p =>
    if (picOf p x.pic).existing.isSome && keptMissing f (existingPlace p x.pic) then stripAreas p x
    else (((p.units.drop x.first).take x.count).filter fun u => u.refs.any (keptMissing f)).flatMap (·.areas)

/-- An area is predicted from a damaged area of a reference (R262). -/
def fromDamage (f : Frame) (preds : List (Nat × Nat × Nat)) (a : Nat) : Bool :=
  preds.any fun e => e.1 == a && (((f.kept[e.2.1]?).bind id).any fun k => k.damage.any fun d => d.1 == e.2.2 && d.2 != 0)

/-- The first of some areas of a picture. -/
def firstArea (q : Nat) (as : List Nat) : Nat × Nat := (q, as.min?.getD 0)

/-- An error of a kind at a picture's area: ERRKIND is that of the first one in the order of the pictures and areas, the
first to be met where two have one place (R254, R260; DEDUCED, log entry 16). -/
def noteError (kind : Nat) (place : Nat × Nat) (f : Frame) : Frame :=
  if kind ≠ 0 ∧ (f.errKind = 0 ∨ place.1 < f.errAt.1 ∨ (place.1 = f.errAt.1 ∧ place.2 < f.errAt.2)) then
    { f with errKind := kind, errAt := place }
  else f

/-- What a strip's result tells its frame (R260, R262). -/
def keepReport (x : Strip) (res : StripResult) (f : Frame) : Frame :=
  if f.op = 1 then f
  else
    let miss := missingAreas f x
    let gone := (res.concealed ++ miss).map fun a => (a, 1)
    let f := noteError (if miss.isEmpty then 0 else 5) (firstArea x.pic miss)
      (noteError res.err (firstArea x.pic (if res.concealed.isEmpty then x.areas else res.concealed)) f)
    { f with
      bsError := f.bsError || res.err != 0 || !miss.isEmpty
      damage := f.damage ++ gone ++ (x.areas.filter (fromDamage f res.preds)).map fun a => (a, 2) }

/-! ### A cell fault (R264 to R269) -/

/-- The unit rows of layer `i` are coded as intra in a frame on the cells, where its picture there is no key picture. -/
def addIntra (num i : Nat) (rows : Nat × Nat) (s : State) : State :=
  updFrame num (fun g => if natBit g.keyMask i then g else
    { g with intra := (List.range (max g.intra.length (i + 1))).map fun k => g.intra.getD k [] ++ if k = i then [rows] else [] }) s

/-- Coded frames of a ring after one that code a layer and are on the cells already. -/
def laterFrames (s : State) (f : Frame) (i : Nat) : List Frame :=
  (ringFrames s f.ring).filter fun g => f.num < g.num && g.op == 1 && g.dispatched && decide (i < g.nlayer)

/-- A concealed strip asks for intra rows in the next coded frame of a layer, and in the next one whose index is a multiple
of a factor where its own is: the frame may be on the cells already, or be still to come (R268). -/
def askRefresh (f : Frame) (x : Strip) (s : State) : State :=
  (codedLayers s f).foldl (fun t i =>
    let rows := stripUnitRows s f i x
    let later := laterFrames s f i
    let ds := (decimations s f i).filter fun d => f.index.getD i 0 % max 1 d == 0
    let t := match later.head? with
      | some g => addIntra g.num i rows t
      | none =>
        let g := t.ring f.ring
        t.setRing f.ring (g.setLayer i { g.layer i with refresh := (g.layer i).refresh ++ [rows] })
    ds.foldl (fun t d => match later.find? fun g => natBit g.keyMask i || g.index.getD i 0 % max 1 d == 0 with
      | some g => addIntra g.num i rows t
      | none =>
        let g := t.ring f.ring
        t.setRing f.ring (g.setLayer i { g.layer i with refreshT := (g.layer i).refreshT ++ [(d, rows)] })) t) s

/-- An encode strip becomes a concealment strip (R267). `code`: the error is recorded (R301). -/
def concealStrip (f : Frame) (j : Nat) (x : Strip) (code : Bool) (s : State) : State :=
  let t := updStrip f.num j (fun x => { x with st := 0, conceal := true, reissue := false }) s
  let t := updFrame f.num (fun f => { f with rflags := f.rflags ||| 1 }) t
  let t := askRefresh f x (t.inc CSCH.CONCEALCNT_COUNT)
  if code then recErr .csch 0x0105 t else t

/-- The strips whose boundary with this one it filters have ended (R215, R258, R272). -/
def boundaryReady (f : Frame) (j : Nat) (x : Strip) : Bool :=
  if f.op = 1 then j == 0 || (f.strips[j - 1]?).all (·.st == 2)
  else f.info.all fun p => (f.strips.take j).all fun y => y.st == 2 || !adjacent p y x

/-- The lost strips of a decode frame whose boundaries are ready are written, concealed, and end (R258, R269). -/
def writeLost (num : Nat) (s : State) : State :=
  (List.range (((frameOf s num).map (·.strips.length)).getD 0)).foldl (fun t j =>
    match frameOf t num with
    | some f => (f.strips[j]?).elim t fun x =>
        if x.lost && x.st != 2 && boundaryReady f j x then
          updStrip num j (fun x => { x with st := 2 }) (decodeRecon f j (decodeReads f x [] t))
        else t
    | none => t) s

/-- A lost decode strip is concealed: its areas are marked, and written as R261 gives once the earlier strips at its
boundaries have ended (R258, R269). -/
def concealDecode (f : Frame) (j : Nat) (x : Strip) (s : State) : State :=
  let as := f.info.elim [] fun p => stripAreas p x
  let t := updFrame f.num (fun f => { noteError 4 (firstArea x.pic as) f with
    rflags := f.rflags ||| 1
    damage := f.damage ++ as.map fun a => (a, 1) }) s
  writeLost f.num (updStrip f.num j (fun x => { x with lost := true }) t)

/-- RUN lost its strip: re-issue, concealment, or for a decode strip concealed areas (R265, R267, R269). -/
def loseStrip (f : Frame) (j : Nat) (x : Strip) (s : State) : State :=
  if x.conceal then updStrip f.num j (fun x => { x with st := 0 }) s
  else if (ceilDiv (x.estS * 5) 4 : Nat) ≤ (f.deadline : Int) - s.mtime then
    (updFrame f.num (fun f => { f with rflags := f.rflags ||| 4 })
      (updStrip f.num j (fun x => { x with st := 0, reissue := true, parsed := false }) s)).inc CSCH.REISSUECNT_COUNT
  else if f.op = 1 then concealStrip f j x true s
  else concealDecode f j x s

/-! ### The end of a frame -/

/-- `n` bytes of filler: a filler-data NAL unit of H.264 (type 12) or HEVC (type 38) in an Annex B byte stream, or an
OBU_PADDING with its size (R214, R241), each in the form that its coding standard gives it (PRESUMED, log entry 41);
where `n` bytes are too few for one they are open. -/
def filler (std n k : Nat) : List Byte :=
  if std = 0 ∧ 5 ≤ n then [0, 0, 1, 0x0C] ++ List.replicate (n - 5) 0xFF ++ [0x80]
  else if std = 1 ∧ 6 ≤ n then [0, 0, 1, 0x4C, 0x01] ++ List.replicate (n - 6) 0xFF ++ [0x80]
  else if std = 2 ∧ 2 ≤ n then
    let size := if n ≤ 129 then [BitVec.ofNat 8 (n - 2)]
      else
        let m := n - 5
        [m % 128 + 128, m / 128 % 128 + 128, m / 16384 % 128 + 128, m / 2097152 % 128].map (BitVec.ofNat 8)
    let pay := n - 1 - size.length
    0x7A :: size ++ List.replicate (pay - 1) 0 ++ (if pay = 0 then [] else [0x80])
  else (List.range n).map fun i => BitVec.ofNat 8 (Config.sample k 0 0 i)

/-- The bytes of a layer's access unit: its stream headers, then its slices; a TEMPORAL layer has the slices of its
source under its own headers where it carries the frame, and none otherwise (R238). -/
def unitBytes (s : State) (f : Frame) (i : Nat) : List Byte :=
  if hasPicture s f i then ((f.heads[i]?).elim [] (·.bytes)) ++ joined f (codingLayer s f i) else []

/-- The bytes a layer's frame has, filler included, and its new bucket (R241). -/
def layerBytes (s : State) (f : Frame) (i : Nat) : List Byte × Int × State :=
  let bs := unitBytes s f i
  if ltype s f i = 3 then (bs, 0, s)
  else
    let (n, b) := bucketStep s f i (8 * bs.length) ((s.ring f.ring).layer i).bucket
    let (k, t) := s.fresh
    (bs ++ filler f.std n k, b, t)

/-- One layer of an ended frame: its bitstream at OBUF, up to OBSIZE, its bucket and HRD violation (R222, R241, R242). Its
stream takes it unless that has been disabled (R344, Table SPOUT-2). -/
def endLayer (f : Frame) (i : Nat) (s : State) : State :=
  match f.layers[i]? with
  | none => s
  | some l =>
    let due := natBit l.lflags 1 && natBit (s.get MPT.STREN_N) l.mpt
    let (bs, b, t) := layerBytes s f i
    let tooLong := decide (l.obsize < bs.length)
    let t := t.dramWrite l.obuf (bs.take l.obsize)
    let t := updFrame f.num (fun f => { f with
      bytes := f.bytes ++ [min l.obsize bs.length], overflow := f.overflow || tooLong
      copies := if natBit l.lflags 0 then f.copies ++ [i] else f.copies
      mptDue := if due then f.mptDue ++ [i] else f.mptDue }) t
    let g := t.ring f.ring
    let j := codingLayer s f i
    let g := if tooLong then g.setLayer j { g.layer j with overflow := true } else g
    let g := g.setLayer i { g.layer i with bucket := b }
    let viol := natBit f.keyMask i && ltype s f i != 3 && decide ((lrec s f i 12 4 * 1000 : Nat) < b)
    t.setRing f.ring (if viol then { g with hrdViol := g.hrdViol + 1 } else g)

/-- The mean QP of a layer over the frame's units: a mean whose rounding is open (Table CSCH-10, log entry 7). -/
def meanQp (f : Frame) (i : Nat) : Nat :=
  let qs := f.strips.map fun x => x.quants.getD i (0, 0)
  (openDiv ((qs.map (·.1)).sum : Nat) (max 1 (qs.map (·.2)).sum)).toNat

/-- The status area of an encode context after a coded frame (R235, Table CSCH-10). -/
def encodeStatus (f : Frame) (s : State) : State :=
  let g := s.ring f.ring
  let area := leBytes 4 f.fid ++ leBytes 1 f.effort ++ leBytes 1 f.keyMask ++ leBytes 2 g.hrdViol ++ leBytes 4 f.lag ++ leBytes 4 0 ++
    (List.range 4).flatMap fun i =>
      if i < f.nlayer then
        leBytes 4 (g.layer i).bucket.toNat ++ leBytes 1 (meanQp f i) ++
          leBytes 1 ((f.above.getD i none).getD 0) ++ leBytes 2 0
      else leBytes 8 0
  s.dramWrite (f.ctx + 64) area

/-- The flags that any coded frame's end sets (R226, R231). -/
def endFlags (f : Frame) (s : State) : State :=
  let t := if f.op = 1 ∧ f.lag ≠ 0 then (s.inc CSCH.QLOWCNT_COUNT).put CSCH.ISR_QLOW 1 else s
  if f.deadline < s.mtime then (t.inc CSCH.LATECNT_COUNT).put CSCH.ISR_LATE 1 else t

/-- The code of an area of picture `q` in the damage map: a picture whose headers are in error is concealed whole (R262). -/
def areaDamage (f : Frame) (q a : Nat) : Nat := if f.gone.contains q then 1 else damageAt f a

/-- What an ended decode frame shows in its record: a truncated bitstream is kind 4, and an error sets DAMAGE (R232, R256,
R260, R262). -/
def endDecode (f : Frame) : Frame :=
  let e := if f.errKind = 0 ∧ f.cutShort then 4 else f.errKind
  { f with
    errKind := e, bsError := f.bsError || f.cutShort || !f.gone.isEmpty || e == 7, rflags := if e = 0 then f.rflags else f.rflags ||| 1
    bytes := [((f.strips.flatMap Strip.bytes).map List.length).sum]
    damage := f.info.elim [] fun p => (List.range p.pics.length).flatMap fun q => (picAreas p q).filterMap fun a =>
      if areaDamage f q a = 0 then none else some (a, areaDamage f q a) }

/-- A frame that names a picture takes it as it ends (R258). -/
def takeKept (k : Kept) (f : Frame) : Frame :=
  f.info.elim f fun p =>
    let take (i : Nat) (d : Option (Nat × Nat)) : Option Kept :=
      (f.kept.getD i none).orElse fun _ => if d.any fun d => namedIn f [d] k then some k else none
    { f with kept := (keptPlaces p).mapIdx take }

/-- A picture of a decode frame has ended: one in the pool is kept, with its damage map, is the concealment source, and is
there for the frames on the cells that name it (R258, R259, R261, R262). -/
def endPicture (f : Frame) (p : PicInfo) (q : Nat) (s : State) : State :=
  let t := updFrame f.num (fun f => { f with done := f.done ++ [q] }) s
  (f.pool.getD q none).elim t fun e =>
    let code (a : Nat) : Nat := areaDamage f q (areaBase p q + a)
    let k : Kept := { seq := f.seq, pic := q, entry := e, cols := areaCols (picOf p q)
                      damage := (List.range (areaCount (picOf p q))).filterMap fun a => if code a = 0 then none else some (a, code a) }
    let g := t.ring f.ring
    let t := if g.ctx = f.ctx then t.setRing f.ring { g with dpb := g.dpb ++ [k], concealSrc := some e } else t
    let here (g : Frame) : Bool := g.ring == f.ring && g.op == 2 && g.dispatched && g.endT.isNone
    { t with csch := { t.csch with frames := replaceIf here (takeKept k) t.csch.frames } }

/-- The pictures of a decode frame whose strips have all ended end, in bitstream order. -/
def settlePictures (num : Nat) (s : State) : State :=
  (List.range (((frameOf s num).bind (·.info)).elim 0 (·.pics.length))).foldl (fun t q =>
    match frameOf t num with
    | some f => f.info.elim t fun p =>
        if !f.done.contains q && f.strips.all (fun x => x.pic != q || x.st == 2) then endPicture f p q t else t
    | none => t) s

/-- What a decode ring keeps once a frame has ended: the pictures that the stream still holds, or that frames under way need
(R259). -/
def releasePictures (s : State) (f : Frame) (g : RingSt) : RingSt :=
  { g with dpb := g.dpb.filter fun k => decide (f.seq ≤ k.seq) || namedIn f (f.info.elim [] (·.held)) k || neededElsewhere s f k }

/-- The last strip of a frame has ended (R231, R235, R260). -/
def endFrame (f : Frame) (s : State) : State :=
  let t := endFlags f (updFrame f.num (fun f => { f with endT := some s.mtime }) s)
  if f.op = 1 then
    let t := (List.range f.nlayer).foldl (fun t i => endLayer f i t) t
    encodeStatus ((frameOf t f.num).getD f) t
  else
    let e := endDecode { f with endT := some s.mtime }
    let t := updFrame f.num (fun _ => e) t
    let g := releasePictures t e (t.ring f.ring)
    if e.bsError then recErr .csch 0x0104 ((t.setRing f.ring { g with bsErr := g.bsErr + 1 }).inc CSCH.BSERRCNT_COUNT)
    else t.setRing f.ring g

/-- A frame whose strips have all ended ends, after its pictures (R231, R258). -/
def settleFrame (num : Nat) (s : State) : State :=
  let t := settlePictures num s
  match frameOf t num with
  | some f => if f.endT.isNone && f.dispatched && f.strips.all (·.st == 2) then endFrame f t else t
  | none => t

/-! ### Faults -/

/-- A cell gives up its job (R264 to R266): the strip in WAIT returns unchanged, the strip in RUN is lost. -/
def dropJob (n : Nat) (s : State) : State :=
  let run := cellState s n == 2
  let t := s.setCell n { s.cell n with job := none, bound := [], qmap := [], uqp := [], input := [] }
  match (s.cell n).job with
  | none => t
  | some (num, j) =>
    let t := t.inc CSCH.FAULTCNT_COUNT
    match frameOf t num with
    | none => t
    | some f =>
      match f.strips[j]? with
      | none => t
      | some x => settleFrame num (if run then loseStrip f j x t else updStrip num j (fun x => { x with st := 0 }) t)

/-- A cell faults (R264): fenced, with its cause latched and its grant returned. -/
def fenceCell (n : Fin 8) (code : Nat) (s : State) : State :=
  let t := dropJob n (stopConsumer n s)
  let t := recErr (cellPage n) code (t.puts [(CELL.STS_STATE n, 3), (CELL.ISR_FENCE n, 1)])
  fireEdge (17 + 2 * n.val) (t.put CSCH.CELLMASK_FENCED (t.get CSCH.CELLMASK_FENCED ||| 2 ^ n.val))

/-- A cell is out of reset, loaded and not fenced. -/
def cellLive (s : State) (n : Fin 8) : Bool := decide (cellState s n ≤ 2) && !s.held (cellPage n)

def stripWatchdogEff (n : Fin 8) (s : State) : State := if cellState s n = 2 then fenceCell n 0x0102 s else s

/-- STRIP_WATCHDOG (R264): the cell has counted CFG.WDOG times its estimate in delivered cycles. -/
def execStripWatchdog (n : Fin 8) (s : State) : Out := onCore (stripWatchdogEff n) s

/-! ### The sequencer (R275, R276, R279) -/

/-- The word that a cell's strip begins at (R276); a concealment strip is an encode strip. -/
def firstWord (f : Frame) : Nat := 8 * (2 * f.std + (if f.op = 2 then 1 else 0))

/-- The fetch of a word through the fetch port (R279, R282, R283): a correctable word runs corrected, an uncorrectable one is
not executed and faults. -/
def fetchWord (n : Fin 8) (w : Nat) (s : State) : State :=
  let v := storeWord s n w
  let took (v : CsWord) (t : State) : State := t.setCell n { t.cell n with pc := w, word := v.toNat % 2 ^ 120 }
  match eccResult v with
  | 0 => took v s
  | 1 => took (eccFix v) (findCorrectable n w s)
  | _ => fenceCell n 0x0101 (showUncorrectable n w s)

/-- The counter that LOOP names after the cycle: an OP of CNT gives it a value that the datapath fixes, which is open
(R275, log entry 42). -/
def stepLoops (m : Micro) (ls : List (Nat × Nat)) (k : Nat) : List (Nat × Nat) :=
  let (op, c) := m.cmds.getD 0 (0, 0)
  if op ≠ 0 then SMap.set 0 ls c k
  else if m.next = 5 then SMap.set 0 ls c (SMap.get 0 ls c - 1)
  else ls

/-- The next address and the return addresses then held; none for a CALL with four held or a RET with none (Table
CELL-6). -/
def nextAddr (m : Micro) (c : CellSt) (conds : BitVec 32) : Option (Nat × List Nat) :=
  let up := (c.pc + 1) % 8192
  if m.next = 1 then some (m.target, c.stack)
  else if m.next = 2 then some (if condTrue m.cond conds then m.target else up, c.stack)
  else if m.next = 3 then (if c.stack.length = 4 then none else some (m.target, up :: c.stack))
  else if m.next = 4 then (match c.stack with
    | a :: rest => some (a, rest)
    | [] => none)
  else if m.next = 5 then some (if SMap.get 0 c.loops (m.cmds.getD 0 (0, 0)).2 = 0 then up else m.target, c.stack)
  else some (up, c.stack)

/-- One cycle of a running cell's sequencer (R275, R276): the word drives its resources, and the next one is fetched. -/
def seqStep (n : Fin 8) (y : Cycle) (s : State) : State :=
  let c := s.cell n
  let m := microOf c.word
  if cellState s n ≠ 2 ∨ c.ended then s
  else if 0x12 ≤ m.cond then fenceCell n 0x0100 s
  else
    let (k, t) := s.fresh
    let d := { c with drive := m.cmds, loops := stepLoops m c.loops k }
    if m.next = 7 then t.setCell n { d with ended := true }
    else if m.next = 6 ∧ !condTrue m.cond y.conds then t.setCell n { d with word := idleWord c.word }
    else match nextAddr m c y.conds with
      | none => fenceCell n 0x0100 t
      | some (a, st) => fetchWord n a (upsetWord n a y.upset (t.setCell n { d with stack := st }))

/-- A run of cycles. -/
def runCycles (n : Fin 8) (run : List Cycle) (s : State) : State := run.foldl (fun t y => seqStep n y t) s

def cellFaultEff (n : Fin 8) (run : List Cycle) (datapath : Bool) (s : State) : State :=
  if cellLive s n then
    let t := runCycles n run s
    if datapath && cellLive t n then fenceCell n 0x0100 t else t
  else s

/-- CELL_FAULT (R264, R276, R279, Table CELL-1): the cycles that lead to it, and whether the datapath then finds a fault. -/
def execCellFault (n : Fin 8) (run : List Cycle) (datapath : Bool) (s : State) : Out := onCore (cellFaultEff n run datapath) s

/-! ### Start and end of a strip -/

/-- The cell's grant is held and its start has come (R123, R225). -/
def grantedStart (s : State) (n : Nat) : Option Nat :=
  (s.caddy.grants.find? fun g => g.id == n && decide (g.start ≤ s.mtime)).map (·.start)

def stripStartEff (n : Fin 8) (s : State) : State :=
  match (s.cell n).job, grantedStart s n with
  | some (num, j), some st =>
    if cellState s n = 1 then
      match frameOf s num with
      | some f =>
        let x := f.strips.getD j { first := 0, count := 0, samples := 0 }
        let t := updFrame num (fun f => { f with lag := f.lag + (if f.op = 1 then st - (s.cell n).reqStart else 0) }) s
        let t := t.put (CELL.STS_STATE n) 2
        fetchWord n (firstWord f) (t.setCell n { t.cell n with
          stack := [], loops := [], ended := false, drive := [], input := if f.op = 1 then stripInput s f x else [] })
      | none => s
    else s
  | _, _ => s

/-- STRIP_START (R225, R226, R238, R276, R279). -/
def execStripStart (n : Fin 8) (s : State) : Out := onCore (stripStartEff n) s

/-- An encode strip's bytes keep its layers' buckets (R242, log entry 43). Key pictures and CQP have no such limit, and no
skip strips but those of concealment. Elsewhere B stays within CPB × 1000, unless it would pass that without this strip, which
is then a skip strip; and after a skip strip the remaining strips of the picture are skip strips. -/
def rateHolds (s : State) (f : Frame) (j : Nat) (x : Strip) (res : StripResult) : Bool :=
  (codedLayers s f).all fun i =>
    if lrec s f i 3 1 = 0 ∨ natBit f.keyMask i then !res.skips.contains i
    else
      let skip := skipped f x res.skips i
      let before := bytesSoFar { f with heads := if j = 0 then res.heads else f.heads } i
      (bucketFits s f i (before + (res.layers.getD i []).length) || (skip && !bucketFits s f i before)) &&
        (skip || !(f.strips.take j).any fun y => y.skips.contains i)

/-- A cell's result for an encode strip is one that the rules allow: its bytes, its blocks and, with the first strip, what
goes ahead of the layers' pictures (R238, R242, R243, R247). -/
def resultHolds (s : State) (f : Frame) (j : Nat) (x : Strip) (res : StripResult) : Bool :=
  rateHolds s f j x res && blocksHold s f x res && (j != 0 || headsHold s f res.heads)

/-- What a strip's result is kept as (R215, R235, R260). -/
def keepResult (s : State) (f : Frame) (uqp : List (List Nat)) (res : StripResult) (x : Strip) : Strip :=
  if f.op = 1 then
    { x with st := 2, bytes := res.layers, skips := if x.conceal then [] else res.skips
             quants := (List.range f.nlayer).map (stripQuants s f x uqp) }
  else { x with st := 2, bytes := [List.replicate res.consumed 0] }

/-- The areas that a strip's result conceals beside those of its units are its own (Table CSCH-18, kind 4). -/
def takeAreas (f : Frame) (res : StripResult) (x : Strip) : Strip :=
  { x with areas := x.areas ++ res.concealed.filter fun a => !f.strips.any fun y => y.areas.contains a }

/-- A strip ends on its cell: its memory effects, its result, and its frame's end if it was the last (R215, R259). -/
def finishStrip (n : Fin 8) (f : Frame) (j : Nat) (x : Strip) (res : StripResult) (s : State) : State :=
  let uqp := (s.cell n).uqp
  let t := stopConsumer n (s.put (CELL.STS_STATE n) 0)
  let t := (t.inc (CELL.STRIPS_COUNT n)).setCell n { t.cell n with job := none, bound := [], qmap := [], uqp := [], input := [] }
  if f.op = 1 then
    let t := encodeRecon f x res.skips (encodeReads f x t)
    let t := updFrame f.num (fun g => if j = 0 then { g with heads := res.heads } else g) t
    settleFrame f.num (updStrip f.num j (keepResult s f uqp res) t)
  else
    let t := updFrame f.num (keepReport x res) (updStrip f.num j (takeAreas f res) t)
    let g := (frameOf t f.num).getD f
    let t := decodeRecon g j (decodeReads g ((g.strips[j]?).getD x) res.preds t)
    settleFrame f.num (writeLost f.num (updStrip f.num j (keepResult s f uqp res) t))

def stripEndEff (n : Fin 8) (run : List Cycle) (res : StripResult) (s : State) : State :=
  if cellState s n = 2 then
    let t := runCycles n run s
    if cellState t n = 2 && (t.cell n).ended then
      match (t.cell n).job with
      | some (num, j) =>
        match frameOf t num with
        | some f =>
          let x := f.strips.getD j { first := 0, count := 0, samples := 0 }
          if boundaryReady f j x && (f.op == 2 || resultHolds t f j x res) then finishStrip n f j x res t else t
        | none => t
      | none => t
    else t
  else s

/-- STRIP_END (R215, R222, R231, R235, R241, R260, R276): the cycles up to its END word, without which the strip does not
end, and the coded bytes or the decoder's report. -/
def execStripEnd (n : Fin 8) (run : List Cycle) (res : StripResult) (s : State) : Out := onCore (stripEndEff n run res) s

end Sys2Proof.Machine
end

