-- ==== Sys2Proof/Machine/Cells.lean ====
section
/-! DEFINITION. The control store as it is read, corrected and reloaded, and the CELL reset (R77, R270, R279 to R288);
with what every local reset of a page shares (R60, R61). -/

namespace Sys2Proof.Machine

/-! ### Local and CELL resets in common -/

/-- A page enters its reset: its fields are restored, and its line to INTC falls (R60, R61). -/
def enterReset (p : Page) (s : State) : State :=
  let t := resetFields p s
  lowerLines { t with sys := { t.sys with inReset := t.sys.inReset ++ [p.base] } }

/-- A page leaves its reset: each write that came meanwhile is recorded (R60). -/
def leaveReset (p : Page) (s : State) : State :=
  let late := s.sys.lateWr.countP (· == p.base)
  let t := { s with sys := { s.sys with
    inReset := s.sys.inReset.filter (· != p.base), lateWr := s.sys.lateWr.filter (· != p.base) } }
  repeatFor late (fun _ t => recErr p 0x0004 t) t

/-! ### Readers of a control store -/

/-- A reader of the maintenance port has found what a word decodes as (R282, R283). -/
def foundWord (n : Fin 8) (w : Nat) (s : State) : State :=
  match eccResult (storeWord s n w) with
  | 0 => s
  | 1 => findCorrectable n w s
  | _ => if cellState s n = 3 then recErr (cellPage n) 0x0101 (showUncorrectable n w s)
    else fenceCell n 0x0101 (showUncorrectable n w s)

def scrubEff (n : Fin 8) (m : CsWord) (s : State) : State :=
  if s.bit (CELL.CSCFG_SCRUB_EN n) && cellLive s n && (s.cell n).loaded then
    let w := s.get (CELL.CSSTS_NEXTADDR n)
    let t := s.put (CELL.CSSTS_NEXTADDR n) (w + 1)
    let t := if w = 8191 then t.inc (CELL.CSSTS_PASSES n) else t
    foundWord n w (upsetWord n w m t)
  else s

/-- SCRUB (R281 to R283): `m` names the bits of the word that an upset has turned over since it was last read. -/
def execScrub (n : Fin 8) (m : CsWord) (s : State) : Out := onCore (scrubEff n m) s

def csWritebackEff (n : Fin 8) (stuck : CsWord) (s : State) : State :=
  let c := s.cell n
  match c.wb with
  | [] => s
  | (w, v) :: rest =>
    let t := setStoreWord n w (v ^^^ stuck) (s.setCell n { c with wb := rest })
    match eccResult (storeWord t n w) with
    | 0 => t
    | 1 => t.put (CELL.CSERR_STUCK n) 1
    | _ => foundWord n w (t.put (CELL.CSERR_STUCK n) 1)

/-- CS_WRITEBACK (R282, R283): the corrected word is written and read back; `stuck` names the bits that do not take it. -/
def execCsWriteback (n : Fin 8) (stuck : CsWord) (s : State) : Out := onCore (csWritebackEff n stuck) s

/-- Doubleword `k` of a 128-bit word (R274). -/
def csDword (v : CsWord) (k : Nat) : W32 := BitVec.ofNat 32 (v.toNat / 2 ^ (32 * k))

/-- A read of a debug window (R284, R286). -/
def readWindow (n : Fin 8) (off : Nat) (m : CsWord) (s : State) : W32 × State :=
  if bootCode s ≠ 0x10 then (0, recErr .sys 0x0104 s)
  else if cellState s n = 4 then (0, s)
  else if off % 16 / 4 = 0 then
    let w := off / 16 % 8192
    let t := upsetWord n w m s
    let v := storeWord t n w
    let (y, p) := eccSyndrome v
    let t := t.setCell n { t.cell n with latch := v }
    let t := t.puts [(CELL.CSWIN_VALID n, 1), (CELL.CSWIN_ADDR n, w), (CELL.CSWIN_RESULT n, eccResult v),
      (CELL.CSWIN_SYND n, y + (if p then 128 else 0))]
    (csDword v 0, foundWord n w t)
  else (csDword (s.cell n).latch (off % 16 / 4), s)

/-- WINDOW_READ (R284): `m` as for SCRUB. -/
def execWindowRead (n : Fin 8) (off : BitVec 17) (m : CsWord) (s : State) : Out :=
  onCore (onLink (.windowRead n off m) fun s => answer (readWindow n off.toNat m s)) s

/-! ### CELL reset -/

/-- The cells in CELL reset, in ascending number. -/
def resettingCells (s : State) : List Nat := (List.range 8).filter fun k => s.sys.inReset.contains (0x10000 + 0x1000 * k)

/-- Utilior takes up the next reload where none runs: CELL resets run one after another, in ascending number (R77). -/
def startReload (s : State) : State :=
  if s.sys.reload.isSome then s else { s with sys := { s.sys with reload := (resettingCells s).head? } }

def cellResetEff (n : Fin 8) (s : State) : State :=
  if s.held (cellPage n) then s
  else
    let t := dropJob n (stopConsumer n s)
    let t := t.put CSCH.CELLMASK_FENCED (((List.range 8).filter fun k =>
      natBit (t.get CSCH.CELLMASK_FENCED) k && k != n.val).map (2 ^ ·)).sum
    let t := (enterReset (cellPage n) t).put (CELL.STS_STATE n) 4
    startReload (t.setCell n {})

/-- CELL_RESET: CTL.LRST of a CELL page written 1 (R77, R272). -/
def execCellReset (n : Fin 8) (s : State) : Out :=
  onCore (onLink (.cellReset n) (onPage (cellPage n) (cellResetEff n))) s

/-- What a cell's store reads back as once Utilior has written it: the image, with the bits that upsets turned over. -/
def loadedStore (s : State) (upsets : List (Fin 8192 × CsWord)) : List (Nat × Byte) :=
  upsets.foldl (fun st u => withWord st u.1 (wordIn st u.1 ^^^ u.2)) (microImage s)

/-- The status of the store's readers at its reset values (R288). -/
def restoreReaders (n : Nat) (s : State) : State :=
  s.puts [(CELL.CSSTS_PASSES n, 0), (CELL.CSSTS_NEXTADDR n, 0), (CELL.CSCORR_COUNT n, 0), (CELL.CSERR_UVALID n, 0),
    (CELL.CSERR_UADDR n, 0), (CELL.CSERR_CVALID n, 0), (CELL.CSERR_STUCK n, 0), (CELL.CSERR_CADDR n, 0),
    (CELL.CSWIN_VALID n, 0), (CELL.CSWIN_RESULT n, 0), (CELL.CSWIN_SYND n, 0), (CELL.CSWIN_ADDR n, 0)]

/-- The store is loaded: a store that passes its check leaves its cell IDLE, another leaves it FENCED (R280, R288). -/
def loadStore (n : Fin 8) (st : List (Nat × Byte)) (s : State) : State :=
  let ok := storePasses s st
  let t := (restoreReaders n s).setCell n { store := st, loaded := ok }
  if ok then t.put (CELL.STS_STATE n) 0
  else (t.put (CELL.STS_STATE n) 3).put CSCH.CELLMASK_FENCED (t.get CSCH.CELLMASK_FENCED ||| 2 ^ n.val)

def cellReloadDoneEff (n : Fin 8) (upsets : List (Fin 8192 × CsWord)) (s : State) : State :=
  if s.sys.reload = some n.val ∧ s.held (cellPage n) then
    let st := loadedStore s upsets
    let t := leaveReset (cellPage n) (loadStore n st (noteReads (microAddr s) storeLen s))
    let t := startReload { t with sys := { t.sys with reload := none } }
    if storePasses s st then t else recErr (cellPage n) 0x0103 t
  else s

/-- CELL_RELOAD_DONE: the reload under way ends (R77, R270, R280); `upsets` are bits that read back otherwise than written. -/
def execCellReloadDone (n : Fin 8) (upsets : List (Fin 8192 × CsWord)) (s : State) : Out :=
  onCore (cellReloadDoneEff n upsets) s

end Sys2Proof.Machine
end

