-- ==== Sys2Proof/Machine/Clocks.lean ====
section
/-! DEFINITION. Pins, supplies, the crystal and the PLL, the resets that they and RSTCMD start, the core release, the
watchdog, and the core clock dividers (03_resets_clocks_boot.md, R66 to R89; 18_balls_and_electrical.md, R386 to R392,
R405, R411). -/

namespace Sys2Proof.Machine

/-! ### Resets by command -/

/-- The watchdog's count may have run out: it counts 1 ms periods of XO, and only at CODE 0x10 (R86, R87). -/
def wdogDue (s : State) : Bool :=
  s.sys.coreUp && s.bit SYS.WDOG_CTL_EN && bootCode s == 0x10 &&
    decide ((max 1 (s.get SYS.WDOG_CTL_TIMEOUT) - 1) * 98304 ≤ s.mtime - s.sys.wdog)

/-- An expiry would perform a CHIP reset: ACTION 1, or no kick since a watchdog SERVICE reset (R86, R88). -/
def wdogChip (s : State) : Bool := s.bit SYS.WDOG_CTL_ACTION || s.sys.wdSvc

/-- RSTCMD with KIND 1 and its key. Where the watchdog expires in the same cycle, the wider of the two resets is
performed, and of equal ones RSTCAUSE records the command (R69). -/
def rstcmdServiceEff (expiry : Bool) (s : State) : State :=
  if !s.sys.coreUp then s
  else if expiry && wdogDue s && wdogChip s then chipReset SYS.RSTCAUSE_WDCHIP s
  else serviceReset SYS.RSTCAUSE_SVC s

/-- RSTCMD_SERVICE: RSTCMD with KIND 1 (R66, R69); `expiry` when the watchdog expires in the same cycle. A SERVICE
reset also ends R411's condition. -/
def execRstcmdService (key : BitVec 16) (expiry : Bool) (s : State) : Out :=
  if key = 0x5A3C then onKa (onLink (.rstcmdService key expiry) (rstcmdServiceEff expiry)) s
  else onCore (onLink (.rstcmdService key expiry) (recErr .sys 0x0102)) s

/-- RSTCMD with KIND 2 and its key; a watchdog that expires in the same cycle is of no wider scope, and the command is
recorded (R69). -/
def rstcmdChipEff (s : State) : State := if s.sys.coreUp then chipReset SYS.RSTCAUSE_CHIP s else s

/-- RSTCMD_CHIP: RSTCMD with KIND 2 (R66, R69). It ends every unsupported condition (R5). -/
def execRstcmdChip (key : BitVec 16) (expiry : Bool) (s : State) : Out :=
  if key = 0xC3A5 then always rstcmdChipEff s else onCore (onLink (.rstcmdChip key expiry) (recErr .sys 0x0102)) s

/-! ### Supplies, crystal and PLL -/

/-- VDD_AON_LOW (R388). -/
def execVddAonLow (s : State) : Out := always vddAonLowEff s

/-- PORESET_RELEASE (R388). -/
def execPoresetRelease (s : State) : Out := always (fun s => { s with sys := { s.sys with por := false, off := s.sys.off.filter (· != .vddAon) } }) s

/-- XO_LOSS: below 150 mV for more than 1 µs, once XO_OK is 1 (R79, R80). -/
def execXoLoss (s : State) : Out := always (fun s => if s.sys.xoOk then poreset 1 s else s) s

/-- PLL_LOCK_LOSS: while XO_OK is 1 (R80). -/
def execPllLockLoss (s : State) : Out := always (fun s => if s.sys.xoOk ∧ s.sys.pll then poreset 2 s else s) s

/-- PLLSTS.XO_AMP: the measured swing in steps of 8 mV, a quotient without a rounding rule (Table CLK-4, log entry 7). -/
def xoAmp (s : State) : Nat := min 255 (openDiv s.sys.swing 8).toNat

/-- XO_OK becomes 1 as the swing first exceeds 250 mV (R79); the crystal runs only with VDDA_1V8 up (R389). -/
def xoOkEff (mv : Nat) (s : State) : State :=
  if s.sys.por ∨ mv ≤ 250 then s else { s with sys := { s.sys with xoOk := true, swing := mv, off := s.sys.off.filter (· != .vdda1v8) } }

/-- XO_OK: the amplitude detector finds a swing of `mv`; the oscillator runs while RESET_N is low too (R79, R389). -/
def execXoOk (mv : Nat) (s : State) : Out := always (xoOkEff mv) s

/-- The detector measures a swing once XO_OK is 1; one below 200 mV sets XOLOW (R79). -/
def xolowEff (mv : Nat) (s : State) : State :=
  let t := { s with sys := { s.sys with swing := mv } }
  if mv < 200 then t.put CLK.ISR_XOLOW 1 else t

/-- XOLOW: the detector's measurement (R79, log entry 31). -/
def execXolow (mv : Nat) (s : State) : Out := onCore (xolowEff mv) s

/-- The main PLL may run: XO_OK, and no reset holds boot at XO start (R81, R389, Table SYS-15). -/
def pllMayRun (s : State) : Bool := s.sys.xoOk && s.sys.resetN && !s.sys.por && !s.sys.chipHold

def pllLockEff (vrail : Nat) (s : State) : State :=
  if pllMayRun s && !s.sys.pll then softStart false vrail { s with sys := { s.sys with pll := true }, mtime := 0 }
  else s

/-- PLL_LOCK: the root runs, REG begins its soft-start from the `vrail` µV already on VDD_CORE, MTIME counts from 0
(R90, R116). -/
def execPllLock (vrail : Nat) (s : State) : Out := always (pllLockEff vrail) s

/-- RESET_N_LOW: low for 10 µs (R388, R389). -/
def execResetNLow (s : State) : Out := always (fun s => if s.sys.resetN then pinReset s else s) s

/-- RESET_N_RISE (R389). It may rise only with every rail up (R387). -/
def execResetNRise (s : State) : Out :=
  always (fun s => { s with sys := { s.sys with resetN := true, off := [] } }) s

/-- CHIP_HOLD_END: boot restarts from XO start (R66). -/
def execChipHoldEnd (s : State) : Out := always (fun s => { s with sys := { s.sys with chipHold := false } }) s

/-- What a lost rail leaves while RESET_N is high: a collapse of VDDA_1V8 stops the crystal, which is an XO loss once
XO_OK is 1 (R390, R394, R405, R411). -/
def railLossOp (r : Rail) (s : State) : State :=
  match r with
  | .vdda1v8 => if s.sys.xoOk then poreset 1 s else { s with sys := { s.sys with unsup := Unsup.all } }
  | .vinLow => { s with sys := { s.sys with unsup := if s.sys.unsup = Unsup.none then Unsup.core else s.sys.unsup } }
  | .vddAon | .vddaPll | .vddaSer | .vddqDdr | .vdda1v8Range | .vddio18 | .vddioAon18 | .vddHdmi33 | .vinHigh =>
    { s with sys := { s.sys with unsup := Unsup.all } }

/-- A rail goes down, and with it the balls it supplies (R25, R391); VIN supplies none, and VDDA_1V8 out of its range
alone is not down. -/
def railDown (r : Rail) (s : State) : State :=
  match r with
  | .vdda1v8Range | .vinLow | .vinHigh => s
  | .vddAon | .vddaPll | .vddaSer | .vddqDdr | .vdda1v8 | .vddio18 | .vddioAon18 | .vddHdmi33 =>
    { s with sys := { s.sys with off := r :: s.sys.off.filter (· != r) } }

/-- RAIL_LOSS (R390, R405, R411). -/
def railLossEff (r : Rail) (s : State) : State :=
  railDown r (if s.sys.resetN && !s.sys.por then railLossOp r s else s)

/-- RAIL_LOSS (R390, R405, R411). -/
def execRailLoss (r : Rail) (s : State) : Out := always (railLossEff r) s

/-! ### The core release -/

/-- The core reset is released: CODE 0x01, link training begins, INTC samples its level sources (R62, R69, R90). -/
def releaseCore (s : State) : State :=
  let t := { s with sys := { s.sys with coreUp := true, seq := 0 } }
  let t := t.puts [(SYS.BOOT_STATUS_CODE, 1), (SYS.BOOT_STATUS_DETAIL, 0), (HIF.STS_STATE, if s.sys.perstN then 1 else 0)]
  sampleAll t

/-- The core may be released: the root runs, REG reports power good, no hold runs (R90, R116). -/
def mayRelease (s : State) : Bool := s.sys.pll && s.bit REG.STS_PG && !s.sys.svcHold && !s.sys.coreUp

def coreReleaseEff (s : State) : State := if mayRelease s then releaseCore s else s

/-- CORE_RELEASE (R90). -/
def execCoreRelease (s : State) : Out := onKa coreReleaseEff s

def serviceHoldEndEff (s : State) : State :=
  if s.sys.svcHold then coreReleaseEff { s with sys := { s.sys with svcHold := false } } else s

/-- SERVICE_HOLD_END: the core is released where REG still regulates (R69, R93). -/
def execServiceHoldEnd (s : State) : Out := onKa serviceHoldEndEff s

/-! ### The watchdog -/

/-- The watchdog's count restarts (R86). -/
def wdogRestart (s : State) : State := { s with sys := { s.sys with wdog := s.mtime } }

/-- WDOG_KICK (R86, R88). -/
def wdogKickOp (d : W32) (s : State) : State :=
  if bitsOf d 0 16 = 0x6B1D then
    let t := if s.bit SYS.WDOG_CTL_EN then wdogRestart s else s
    { t with sys := { t.sys with wdSvc := false } }
  else recErr .sys 0x0102 s

/-- WDOG_KICK (R86). -/
def execWdogKick (d : W32) (s : State) : Out := onCore (onLink (.wdogKick d) (wdogKickOp d)) s

/-- WDOG_CTL (R86). -/
def wdogCtlOp (d : W32) (s : State) : State :=
  let t := s.storeAll [SYS.WDOG_CTL_TIMEOUT, SYS.WDOG_CTL_ACTION, SYS.WDOG_CTL_EN] d
  if t.bit SYS.WDOG_CTL_EN then wdogRestart t else t

/-- WDOG_CTL_WRITE (R86). -/
def execWdogCtlWrite (d : W32) (s : State) : Out := onCore (onLink (.wdogCtlWrite d) (wdogCtlOp d)) s

def wdogExpiryEff (s : State) : State :=
  if wdogDue s then
    if wdogChip s then chipReset SYS.RSTCAUSE_WDCHIP s
    else
      let t := serviceReset SYS.RSTCAUSE_WDSVC s
      { t with sys := { t.sys with wdSvc := true } }
  else s

/-- WDOG_EXPIRY (R86 to R88); the CHIP reset it performs ends every unsupported condition (R5). -/
def execWdogExpiry (s : State) : Out :=
  if wdogDue s && wdogChip s then always wdogExpiryEff s else onKa wdogExpiryEff s

/-! ### Core clock dividers -/

/-- The fields of a divider word: CELL, ISP, FAB, PER. -/
def divWord (v : Nat) : Nat × Nat × Nat × Nat := (v % 256, v / 2 ^ 8 % 256, v / 2 ^ 16 % 256, v / 2 ^ 24 % 256)

/-- Every field is at or above its minimum (Table CLK-1). -/
def divMin (v : Nat) : Bool :=
  let (c, i, f, p) := divWord v
  decide (6 ≤ c ∧ 8 ≤ i ∧ 12 ≤ f ∧ 24 ≤ p)

/-- The ratio rules (R84). -/
def divRatio (v : Nat) : Bool :=
  let (c, i, f, p) := divWord v
  decide (f ≤ 2 * c ∧ f ≤ 2 * i ∧ 2 * f ≤ p)

/-- The voltage that a divider word needs is there (R102). -/
def divSupply (s : State) (v : Nat) : Bool :=
  let (c, i, f, _) := divWord v
  supplyOk s c i f

/-- An accepted write: a change begins, or waits for the one in progress (R82, R83). -/
def divAccept (d : W32) (s : State) : State :=
  let t := s.storeAll [CLK.DIV_PER, CLK.DIV_FAB, CLK.DIV_ISP, CLK.DIV_CELL] d
  let t := if s.sys.divNow.isNone then
      { (t.puts [(CLK.STS_BUSY, 1), (CLK.STS_STATE, 1)]) with sys := { t.sys with divNow := some d.toNat } }
    else { t with sys := { t.sys with divNext := some d.toNat } }
  if divRatio d.toNat && divSupply s d.toNat then t else unsupported t

/-- CLK.DIV (R82 to R84, R102). -/
def writeDiv (d : W32) (s : State) : State := checked .clk [(!divMin d.toNat, 0x0100)] (divAccept d) s

/-- CLK_DIV_WRITE (R82, R83). -/
def execClkDivWrite (d : W32) (s : State) : Out := onCore (onLink (.clkDivWrite d) (writeDiv d)) s

def divdoneEff (s : State) : State :=
  match s.sys.divNow with
  | some v =>
    let (c, i, f, p) := divWord v
    let t := s.puts [(CLK.DIVSTS_CELL, c), (CLK.DIVSTS_ISP, i), (CLK.DIVSTS_FAB, f), (CLK.DIVSTS_PER, p), (CLK.ISR_DIVDONE, 1)]
    let t := { t with sys := { t.sys with divNow := s.sys.divNext, divNext := none } }
    if s.sys.divNext.isSome then t else t.puts [(CLK.STS_BUSY, 0), (CLK.STS_STATE, 0)]
  | none => s

/-- DIVDONE (R82, R83). -/
def execDivdone (s : State) : Out := onCore divdoneEff s

end Sys2Proof.Machine
end

