-- ==== Sys2Proof/Machine/Dram.lean ====
section
/-! DEFINITION. External DRAM (09_dram_controller.md): the address map, the channels' training, refresh,
self-refresh and timings, and the quality-of-service arbiter DQOS. -/

namespace Sys2Proof.Machine

/-! ### Channels -/

/-- The channel-local address L (R194). -/
def localAddr (a : Nat) : Nat := a / 2 ^ 10 * 2 ^ 8 + a % 2 ^ 8

/-- Byte in the burst, column, bank group, bank and row of a channel-local address (R194): in 16-bank mode, at 3200 MT/s,
there are no groups. -/
def burstByte (l : Nat) : Nat := l % 2 ^ 6
def columnOf (l : Nat) : Nat := l / 2 ^ 6 % 2 ^ 5
def groupMode (s : State) (n : Nat) : Bool := s.get (DMC.CFG_RATE n) != 0
def bankGroupOf (s : State) (n l : Nat) : Nat := if groupMode s n then l / 2 ^ 11 % 4 else 0
def bankInGroup (s : State) (n l : Nat) : Nat := if groupMode s n then l / 2 ^ 13 % 4 else l / 2 ^ 11 % 16
def rowOf (s : State) (n l : Nat) : Nat := l / 2 ^ 15 % 2 ^ (14 + s.get (DMC.CFG_DENS n))

/-- The number of a bank among the sixteen of a channel. -/
def bankOf (s : State) (n l : Nat) : Nat :=
  if groupMode s n then 4 * bankInGroup s n l + bankGroupOf s n l else bankInGroup s n l

/-- The installed DRAM in bytes: 2, 4 or 8 GiB (Table DMC-1, DMC0.CFG). -/
def dramSize (s : State) : Nat := 2 ^ 31 * 2 ^ s.get (DMC.CFG_DENS 0)

def dmcPage (n : Fin 4) : Page := .dmc n

/-- STS.STATE of a channel (Table DMC-8). -/
def dmcState (s : State) (n : Nat) : Nat := s.get (DMC.STS_STATE n)

/-- A channel's STATE, with BUSY while it is other than RUN. -/
def setDmcState (n st : Nat) (s : State) : State :=
  (s.put (DMC.STS_STATE n) st).put (DMC.STS_BUSY n) (if st = 1 then 0 else 1)

/-- The comparison of TEMP.TJ with TTRAIN (R199); DELTA 0 acts as 1 and more than 25 as 25. -/
def tempCompare (n : Nat) (s : State) : State :=
  let d : Int := max 1 (min 25 (s.get (DMC.TWIN_DELTA n)))
  let out := decide (d < tempDistance s n)
  let t := s.put (DMC.STS_TDELTA n) out.toNat
  if out ∧ !(s.dmc n).tempSeen then (t.put (DMC.ISR_TEMP_DELTA n) 1).setDmc n { s.dmc n with tempSeen := true } else t

/-- The timings as written take effect (R203). -/
def applyTmg (n : Nat) (s : State) : State :=
  [DMC.TMG0_TRCD n, DMC.TMG0_TRPPB n, DMC.TMG0_TRAS n, DMC.TMG0_TWR n, DMC.TMG1_TRFCPB n, DMC.TMG1_TREFI n].foldl
    (fun t f => t.putA f (t.get f)) s

/-- A refresh class read from MR4 (R201). -/
def setClass (n c : Nat) (s : State) : State :=
  let t := s.put (DMC.REFSTS_CLASS n) c
  if c = 5 then t.put (DMC.ISR_HOT n) 1 else t

/-- Four times the factor of a refresh class (Table DMC-4). -/
def classFactor (c : Nat) : Nat := [16, 4, 2, 1, 1, 1].getD c 4

/-- What classes 4 and 5 add to tRCD, tRAS, tRPpb and tRC, in ps (Table DMC-4). -/
def derate (s : State) (n : Nat) : Nat := if 4 ≤ s.get (DMC.REFSTS_CLASS n) then 1875 else 0

/-- The CK period in ps, scaled by 4267 × 11 so that it is whole at every rate: WCK runs at half the data rate and CK at a
quarter of WCK (Table DMC-1). -/
def ckPeriod (s : State) (n : Nat) : Nat := 8000000 * 4267 * 11 / [3200, 4267, 5500, 6400].getD (s.get (DMC.CFG_RATE n)) 3200

/-- A core timing in force, in ps in the scale of `ckPeriod`: the CK cycles last applied and the derate (R201, R203). -/
def coreTime (s : State) (n : Nat) (f : Nat → Fld) : Nat := s.getA (f n) * ckPeriod s n + derate s n * (4267 * 11)

/-- The per-bank interval in 1/4000000 tick: TREFI ns scaled by the class's factor (R201). -/
def refInterval (s : State) (n : Nat) : Nat := s.getA (DMC.TMG1_TREFI n) * 98304 * classFactor (s.get (DMC.REFSTS_CLASS n))

/-- The per-bank interval starts from now: no refresh is owed (R198). -/
def noRefreshOwed (n : Nat) (s : State) : State :=
  s.setDmc n { s.dmc n with postponed := 0, refNext := s.mtime * 4000000 + refInterval s n }

/-- A stall, a training or a self-refresh ends: RUN, the timings written meanwhile apply, and a poll that fell due is
performed (R202, R203, Table DMC-5). After a training or a self-refresh, `fresh`, no refresh is owed; those that fell due
in a stall are (R198, R201). -/
def dmcResume (n : Nat) (fresh : Bool) (s : State) : State :=
  let t := applyTmg n (setDmcState n 1 s)
  let t := (t.setDmc n { t.dmc n with stallTo := none }).when fresh (noRefreshOwed n)
  match (t.dmc n).mr4Due with
  | some c => setClass n c (t.setDmc n { t.dmc n with mr4Due := none })
  | none => t

/-- TRAIN: AT is stored; GO is refused outside RUN, and in RUN requests a retraining unless one is requested (R197,
Table DMC-5). That it is refused outside RUN also while GO reads 1 is the model's reading, log entry 24. -/
def writeTrain (n : Fin 4) (d : W32) (s : State) : State :=
  let t := s.store (DMC.TRAIN_AT n) d
  if (DMC.TRAIN_GO n).ofData d = 0 then t
  else if dmcState t n ≠ 1 then recErr (dmcPage n) 0x0100 t
  else if t.bit (DMC.TRAIN_GO n) then t
  else
    let u := t.put (DMC.TRAIN_GO n) 1
    if u.bit (DMC.TRAIN_AT n) then u.setDmc n { u.dmc n with atTooth := true }
    else u.setDmc n { u.dmc n with dueAt := some u.mtime }

/-- TRAIN_GO (R197). -/
def execTrainGo (n : Fin 4) (d : W32) (s : State) : Out :=
  onCore (onLink (.trainGo n d) (onPage (.dmc n) (writeTrain n d))) s

/-- A channel's retraining may start: due, in RUN, and no lower channel due at the same instant is unfinished (R197). That
one which falls due outside RUN stays due until RUN, and holds back the higher channels due with it, is DESIGN CHOICE, log
entry 24. -/
def retrainDue (s : State) (n : Nat) : Bool :=
  (s.dmc n).dueAt.isSome && dmcState s n == 1 &&
    (List.range n).all fun m => (s.dmc m).dueAt != (s.dmc n).dueAt

def retrainStartEff (n : Nat) (s : State) : State := if retrainDue s n then setDmcState n 2 s else s

/-- RETRAIN_START (R197, R198). -/
def execRetrainStart (n : Fin 4) (s : State) : Out := onCore (retrainStartEff n) s

/-- The longest run of passing steps of a sweep from step `i` on, `n` passing steps behind it: first step and length
(R196). Of two equally long the first. -/
def longestRun : List Bool → Nat → Nat → Nat × Nat → Nat × Nat
  | [], _, _, best => best
  | true :: t, i, n, best => longestRun t (i + 1) (n + 1) (if best.2 < n + 1 then (i - n, n + 1) else best)
  | false :: t, i, _, best => longestRun t (i + 1) 0 best

/-- The run that is kept of the sweeps of a lane, the widest over the VREF values, and of equally wide ones the first
(R196, log entry 24). -/
def bestRun (l : List (List Bool)) : Nat × Nat :=
  l.foldl (fun b w => let r := longestRun w 0 0 (0, 0); if b.2 < r.2 then r else b) (0, 0)

/-- The midpoint of a run, rounded down (R196). -/
def midpoint (r : Nat × Nat) : Nat := (2 * r.1 + (r.2 - 1)) / 2

/-- The VREF whose sweep is kept, by its place: the first with the widest run (R196, Table DMC-2). -/
def bestVref (l : List (List Bool)) : Nat := l.findIdx fun w => (longestRun w 0 0 (0, 0)).2 == (bestRun l).2

/-- A byte lane passes: leveling, and runs of at least 12 steps (R196). -/
def lanePasses (l : TrainLane) : Bool := l.wck && decide (12 ≤ (bestRun l.read).2) && decide (12 ≤ (bestRun l.write).2)

/-- A training succeeds: every step passes on both lanes (R196). -/
def lanesPass (ls : List TrainLane) : Bool := ls.length == 2 && ls.all lanePasses

/-- The delays, widths, WCK phases and temperature that a successful training leaves (R196). -/
def storeTraining (n : Nat) (lanes : List TrainLane) (s : State) : State :=
  let t := repeatFor 2 (fun b t => match lanes[b]? with
    | some l => t.puts [(DMC.EYE_WWIDTH n b, (bestRun l.write).2), (DMC.EYE_WCTR n b, midpoint (bestRun l.write)),
        (DMC.EYE_RWIDTH n b, (bestRun l.read).2), (DMC.EYE_RCTR n b, midpoint (bestRun l.read))]
    | none => t) s
  (t.put (DMC.TTRAIN_TJ n) (t.get CADDY.TEMP_TJ)).setDmc n { t.dmc n with tempSeen := false, wckPhase := lanes.map (·.phase) }

/-- A retraining ends (R196, R198, R212). That one that fails leaves EYEb too as it was is DESIGN CHOICE, log entry 24. -/
def retrainEndEff (n : Fin 4) (lanes : List TrainLane) (s : State) : State :=
  if dmcState s n = 2 then
    let t := s.setDmc n { s.dmc n with dueAt := none }
    let t := (t.put (DMC.TRAIN_GO n) 0).inc (DMC.TRNCNT_COUNT n)
    let t := if lanesPass lanes then (storeTraining n lanes t).put (DMC.ISR_TRNDONE n) 1
      else recErr (dmcPage n) 0x0103 (t.put (DMC.ISR_TRNFAIL n) 1)
    tempCompare n (dmcResume n true t)
  else s

/-- RETRAIN_END: what the steps found on the two lanes (R196, R198, R212). -/
def execRetrainEnd (n : Fin 4) (lanes : List TrainLane) (s : State) : Out := onCore (retrainEndEff n lanes) s

/-- REFCTL.MR4INT has passed since the channel's last poll, 0 acting as 1 (R201, Table DMC-8). -/
def mr4IsDue (s : State) (n : Nat) : Bool := decide ((s.dmc n).mr4At + max 1 (s.get (DMC.REFCTL_MR4INT n)) * 98304 ≤ s.mtime)

/-- A poll that has fallen due: in RUN it is performed, in a training or a stall kept for its end (R201, Table DMC-5). That
in self-refresh it is not performed, and stays due until RUN, is DESIGN CHOICE, log entry 24. -/
def mr4PollEff (n c : Nat) (s : State) : State :=
  if !mr4IsDue s n then s
  else
    let t := s.setDmc n { s.dmc n with mr4At := s.mtime }
    if dmcState s n = 1 then setClass n c t
    else if dmcState s n = 2 ∨ dmcState s n = 4 then t.setDmc n { t.dmc n with mr4Due := some c }
    else s

/-- MR4_POLL: `report` is the class that MR4 reports (R201). -/
def execMr4Poll (n : Fin 4) (report : Fin 6) (s : State) : Out := onCore (mr4PollEff n report) s

/-- The bank that the rotation has come to has traffic. -/
def bankBusy (s : State) (n : Nat) : Bool :=
  s.dqos.reqs.any fun r => r.ch == n && bankOf s n (localAddr r.addr) == (s.dmc n).bank

/-- The oldest refresh owed may wait for another interval: neither now nor then is it more than 8 intervals late (R201). -/
def mayPostpone (s : State) (n oldest : Nat) : Bool :=
  let i := max 1 (refInterval s n)
  bankBusy s n && decide (s.mtime * 4000000 ≤ oldest + 8 * i ∧ (s.dmc n).refNext + i ≤ oldest + 8 * i)

/-- A per-bank interval has passed: the refresh of the next bank is issued, and with it every postponed one; or it is
postponed while the bank has traffic, by at most 8 intervals (R201). A stall, in which every bank is precharged, holds no
refresh back (DEDUCED, log entry 24). -/
def perBankRefreshEff (n : Nat) (postpone : Bool) (s : State) : State :=
  let d := s.dmc n
  if (dmcState s n ≠ 1 ∧ dmcState s n ≠ 4) ∨ s.mtime * 4000000 < d.refNext then s
  else
    let next := d.refNext + max 1 (refInterval s n)
    let oldest := if d.postponed = 0 then d.refNext else d.owedAt
    if postpone ∧ mayPostpone s n oldest then
      s.setDmc n { d with postponed := d.postponed + 1, owedAt := oldest, refNext := next }
    else s.setDmc n { d with bank := (d.bank + 1 + d.postponed) % 16, postponed := 0, refNext := next }

/-- PER_BANK_REFRESH: `postpone` where the DMC puts it off, as it may while the bank has traffic (R201). -/
def execPerBankRefresh (n : Fin 4) (postpone : Bool) (s : State) : Out := onCore (perBankRefreshEff n postpone) s

/-- PWR.SR written 1: the channel enters self-refresh; one that is in it gives up its request, or the grant with which it
has not begun (R202, R412, Table CADDY-1). -/
def srRequestEff (n : Nat) (s : State) : State :=
  let t := s.put (DMC.PWR_SR n) 1
  if dmcState s n = 3 then stopConsumer (9 + n) t else t.setDmc n { t.dmc n with srDue := true }

/-- SR_REQUEST: PWR.SR written 1 (R202, R412). -/
def execSrRequest (n : Fin 4) (s : State) : Out := onCore (onLink (.srRequest n) (onPage (.dmc n) (srRequestEff n))) s

def srEntryEff (n : Nat) (s : State) : State :=
  if (s.dmc n).srDue ∧ dmcState s n = 1 then
    stopConsumer (9 + n) (setDmcState n 3 (s.setDmc n { s.dmc n with srDue := false }))
  else s

/-- SR_ENTRY (R202). -/
def execSrEntry (n : Fin 4) (s : State) : Out := onCore (srEntryEff n) s

def srExitRequestEff (n : Nat) (s : State) : State :=
  let t := (s.put (DMC.PWR_SR n) 0).setDmc n { s.dmc n with srDue := false }
  if dmcState s n = 3 then standingRequest (9 + n) t else t

/-- SR_EXIT_REQUEST: PWR.SR written 0 (R202). -/
def execSrExitRequest (n : Fin 4) (s : State) : Out :=
  onCore (onLink (.srExitRequest n) (onPage (.dmc n) (srExitRequestEff n))) s

/-- A channel stalls for a time that the manual bounds: 1 to `most` ticks, a free value (R203, log entry 24). -/
def stall (n most : Nat) (s : State) : State :=
  let (r, t) := s.fresh
  let t := setDmcState n 4 t
  t.setDmc n { t.dmc n with stallTo := some (t.mtime + 1 + r % most) }

/-- A stall ends: a mode-register read has its data, and traffic resumes (R203). -/
def stallEnd (n : Nat) (s : State) : State :=
  let t := match (s.dmc n).mrData with
    | some v => (s.puts [(DMC.MRRD_DATA n, v), (DMC.MRRD_BUSY n, 0)]).setDmc n { s.dmc n with mrData := none }
    | none => s
  dmcResume n false t

/-- The channels' stalls that end with this tick (R203). -/
def dmcTick (s : State) : State :=
  repeatFor 4 (fun n t => match (t.dmc n).stallTo with
    | some m => if dmcState t n = 4 ∧ m ≤ t.mtime then stallEnd n t else t
    | none => t) s

/-- TMG0 or TMG1 (R203): a field at 0 is refused; during a training or a self-refresh the values wait for its end, and
otherwise the channel stalls for up to 2 µs. That a write in a stall begins the stall anew is DESIGN CHOICE, log entry
24. -/
def writeTmg (n : Fin 4) (second : Bool) (d : W32) (s : State) : State :=
  let fs := if second then [DMC.TMG1_TRFCPB n, DMC.TMG1_TREFI n]
    else [DMC.TMG0_TRCD n, DMC.TMG0_TRPPB n, DMC.TMG0_TRAS n, DMC.TMG0_TWR n]
  checked (dmcPage n) [(fs.any fun f => f.ofData d == 0, 0x0101)] (fun t =>
    let u := t.storeAll fs d
    if dmcState u n = 1 ∨ dmcState u n = 4 then stall n 196 u
    else if dmcState u n = 2 ∨ dmcState u n = 3 then u
    else applyTmg n u) s

/-- TMG_WRITE (R203). -/
def execTmgWrite (n : Fin 4) (second : Bool) (d : W32) (s : State) : Out :=
  onCore (onLink (.tmgWrite n second d) (onPage (.dmc n) (writeTmg n second d))) s

/-- MRRD: the mode register that ADDR names is read in a stall of up to 200 ns; refused outside RUN (R203, Table
DMC-6). -/
def writeMrrd (n : Fin 4) (d : W32) (value : Nat) (s : State) : State :=
  checked (dmcPage n) [(dmcState s n != 1, 0x0102)] (fun t =>
    let u := stall n 19 ((t.store (DMC.MRRD_ADDR n) d).put (DMC.MRRD_BUSY n) 1)
    u.setDmc n { u.dmc n with mrData := some value }) s

/-- MRRD: `value` is what the device answers (R203). -/
def execMrrd (n : Fin 4) (d : W32) (value : Byte) (s : State) : Out :=
  onCore (onLink (.mrrd n d value) (onPage (.dmc n) (writeMrrd n d value.toNat))) s

/-- A reading that proves the junction below −40 °C, the sensor being within 3 °C of it: −44 °C or less. No reading of
eight bits proves it above +125 °C (R2, R132, log entry 8). -/
def tooCold (v : Byte) : Bool := decide (toSigned 8 v.toNat ≤ -44)

def tempUpdateEff (v : Byte) (s : State) : State :=
  let t := recomputeEff (s.put CADDY.TEMP_TJ v.toNat)
  let t := if tooCold v then unsupported t else t
  repeatFor 4 (fun n t => if dmcState t n = 1 ∨ dmcState t n = 3 ∨ dmcState t n = 4 then tempCompare n t else t) t

/-- TEMP_UPDATE: the sensor's reading in °C, two's complement, every 1 ms (R132, R199). -/
def execTempUpdate (v : Byte) (s : State) : Out := onKa (tempUpdateEff v) s

/-! ### DQOS -/

/-- GUAR in force for the channel's present window (R206). -/
def guarOf (s : State) (ch port : Nat) : Nat := (SMap.find s.dqos.guar (ch * 16 + port)).getD (dqosGuar port)

def waitingPort (s : State) (ch port : Nat) : Bool := !(portReqs s ch port).isEmpty

/-- A port that the guarantee serves in this slot (R206). DESIGN CHOICE, log entry 24: 'the channel's last window of slots'
is the one that runs, so that the bursts counted are those served in it so far. -/
def guaranteed (s : State) (ch port : Nat) : Bool :=
  waitingPort s ch port && decide (SMap.get 0 s.dqos.served (ch * 16 + port) < guarOf s ch port)

/-- Of some ports the one with the highest value, the lower number first among equals. -/
def bestPort (val : Nat → Nat) (ps : List Nat) : Option Nat := ps.find? fun p => ps.all fun q => decide (val q ≤ val p)

/-- The port that a slot of a channel serves (R206). -/
def slotPort (s : State) (ch : Nat) : Option Nat :=
  let rank (p : Nat) := s.getA (DQOS.PCFG_RANK p)
  let g := (List.range 12).filter (guaranteed s ch)
  if g.isEmpty then bestPort (fun p => portUrgency s ch p * 16 + rank p) ((List.range 12).filter (waitingPort s ch))
  else bestPort rank g

/-- A request joins its port's queue of at most 32 a channel, and its client waits while that is full (R208): the time of
acceptance is the present one. -/
def acceptReq (r : DqReq) (s : State) : State :=
  let full := decide (32 ≤ (portReqs s r.ch r.port).length) || s.dqos.held.any fun h => h.ch == r.ch && h.port == r.port
  { s with dqos := if full then { s.dqos with held := s.dqos.held ++ [r] }
                   else { s.dqos with reqs := s.dqos.reqs ++ [{ r with time := s.mtime }] } }

/-- Requests whose clients wait are accepted as far as their queues have room, in their order (R208). -/
def acceptHeld (s : State) : State :=
  s.dqos.held.foldl (fun t r => acceptReq r t) { s with dqos := { s.dqos with held := [] } }

/-- The requests for a channel that arrive: a port, and an address of that channel (R194, R208). -/
def acceptReqs (ch : Nat) (arr : List (Fin 12 × BitVec 33)) (s : State) : State :=
  (arr.filter fun a => channelOf a.2.toNat == ch).foldl
    (fun t a => acceptReq { ch := ch, port := a.1, addr := a.2.toNat, time := s.mtime } t) (acceptHeld s)

/-- The oldest request of a port on a channel is struck. -/
def popReq (ch port : Nat) : List DqReq → List DqReq
  | [] => []
  | r :: t => if r.ch = ch ∧ r.port = port then t else r :: popReq ch port t

/-- A burst is issued: the window advances, and at its end GUAR as committed comes into force (R206). -/
def countSlot (ch port : Nat) (s : State) : State :=
  let k := SMap.get 0 s.dqos.slots ch + 1
  if k < 64 then
    { s with dqos := { s.dqos with
      slots := SMap.set 0 s.dqos.slots ch k
      served := SMap.upd 0 s.dqos.served (ch * 16 + port) (· + 1) } }
  else
    { s with dqos := { s.dqos with
      slots := SMap.set 0 s.dqos.slots ch 0
      served := SMap.drop s.dqos.served fun e => e / 16 == ch
      guar := (List.range 12).foldl (fun m p => SMap.set (dqosGuar p) m (ch * 16 + p) (s.getA (DQOS.PCFG_GUAR p))) s.dqos.guar } }

/-- A request served later than LAT counts (R205). -/
def countLate (port ticks : Nat) (s : State) : State :=
  if s.getA (DQOS.LAT_NS port) * 98304 < ticks * 1000000 then (s.inc (DQOS.MISS_COUNT port)).put DQOS.ISR_LATE 1 else s

/-- A channel's grant has arrived and its granted start has not come: it has left self-refresh, and its bursts, the work
that draws the granted current, wait for the start (R123, R202; DEDUCED, log entry 24). -/
def dmcEarly (s : State) (n : Nat) : Bool := s.caddy.grants.any fun g => g.id == 9 + n && !g.begun

/-- One slot of a channel: the chosen port's oldest request is served (R205, R206). -/
def serveSlot (ch : Nat) (s : State) : State :=
  match slotPort s ch with
  | some p =>
    let age := match portReqs s ch p with
      | r :: _ => s.mtime - r.time
      | [] => 0
    let t := noteHot ch s
    let t := countSlot ch p (countLate p age { t with dqos := { t.dqos with reqs := popReq ch p t.dqos.reqs } })
    clearSat (noteHot ch (acceptHeld t))
  | none => s

def dqosSlotEff (ch : Nat) (arr : List (Fin 12 × BitVec 33)) (s : State) : State :=
  let t := acceptReqs ch arr s
  if dmcState t ch = 1 ∧ !dmcEarly t ch then serveSlot ch t else t

/-- DQOS_SLOT: `arrivals` are the requests accepted since the channel's last slot; a channel that does not run issues
no burst (R123, R198, R202, R206). -/
def execDqosSlot (ch : Fin 4) (arr : List (Fin 12 × BitVec 33)) (s : State) : Out := onCore (dqosSlotEff ch arr) s

def saturationEff (ch : Nat) (s : State) : State :=
  if satOn s ch then
    let t := if s.bit DQOS.STS_SAT then s else s.put DQOS.ISR_SAT 1
    (noteHot ch t).put DQOS.STS_SAT 1
  else s

/-- SATURATION (R209). -/
def execSaturation (ch : Fin 4) (s : State) : Out := onCore (saturationEff ch) s

/-- MARK, shadowed (R207). -/
def writeMark (d : W32) (s : State) : State :=
  let m1 := DQOS.MARK_M1.ofData d
  let m2 := DQOS.MARK_M2.ofData d
  let m3 := DQOS.MARK_M3.ofData d
  checked .dqos [(!decide (1 ≤ m1 ∧ m1 < m2 ∧ m2 < m3 ∧ m3 ≤ 99), 0x0102)]
    (fun t => t.storeAll [DQOS.MARK_M1, DQOS.MARK_M2, DQOS.MARK_M3] d) s

/-- LATp, shadowed (R207). -/
def writeLat (p : Nat) (d : W32) (s : State) : State :=
  checked .dqos [((DQOS.LAT_NS p).ofData d == 0, 0x0101)] (fun t => t.store (DQOS.LAT_NS p) d) s

/-- PCFGp, shadowed (R207): the shadow sum of GUAR stays at most 48. -/
def writeDqPcfg (p : Nat) (d : W32) (s : State) : State :=
  let sum := (((List.range 12).filter (· != p)).map fun q => s.get (DQOS.PCFG_GUAR q)).sum + (DQOS.PCFG_GUAR p).ofData d
  checked .dqos [(decide (48 < sum), 0x0100)] (fun t => t.storeAll [DQOS.PCFG_RANK p, DQOS.PCFG_GUAR p] d) s

/-- PSTSp: the highest urgency over the channels, and requests waiting (Table DQOS-4). -/
def dqPsts (s : State) (p : Nat) : Nat × Nat :=
  (((List.range 4).map fun ch => portUrgency s ch p).foldl max 0, s.dqos.reqs.countP fun r => r.port == p)

end Sys2Proof.Machine
end

