-- ==== Sys2Proof/Machine/Packets.lean ====
section
/-! DEFINITION. Bytes on the wire and CRC-32: Ethernet, IP, UDP and RTP headers, IEEE 1722 AAF, and the units of the
three coding standards (16_media_port_spout_strainer.md, R334, R342 to R345). -/

namespace Sys2Proof.Machine

/-! ### CRC-32 (IEEE 802.3) -/

/-- One bit of the CRC-32 register, least significant bit first. -/
def crcBit (c : Nat) : Nat := if c % 2 = 1 then Nat.xor (c / 2) 0xEDB88320 else c / 2

/-- One byte of the CRC-32 register. -/
def crcByte (c : Nat) (b : Byte) : Nat :=
  crcBit (crcBit (crcBit (crcBit (crcBit (crcBit (crcBit (crcBit (Nat.xor c b.toNat))))))))

/-- CRC-32 of a byte string, with the IEEE 802.3 polynomial (R334, R366). -/
def crc32 (bs : List Byte) : Nat := Nat.xor (bs.foldl crcByte 0xFFFFFFFF) 0xFFFFFFFF

/-- A byte string ends with the CRC-32 of what goes before. -/
def crcEnds (bs : List Byte) : Bool :=
  let n := bs.length - 4
  leNat (bs.drop n) == crc32 (bs.take n)

/-! ### Byte order on the wire -/

/-- Bytes of a number, most significant first. -/
def beBytes (n v : Nat) : List Byte := (leBytes n v).reverse

/-- A slice of a byte string read as a number with its most significant byte first. -/
def beAt (bs : List Byte) (off n : Nat) : Nat := leNat ((bs.drop off).take n).reverse

/-- Bytes of a string replaced from an offset. -/
def patch (bs : List Byte) (off : Nat) (new : List Byte) : List Byte := bs.take off ++ new ++ bs.drop (off + new.length)

/-! ### Ethernet frames -/

/-- The frame has an IEEE 802.1Q tag. -/
def isTagged (bs : List Byte) : Bool := beAt bs 12 2 == 0x8100

/-- Where the EtherType after any tag lies. -/
def etherOff (bs : List Byte) : Nat := if isTagged bs then 16 else 12

/-- The EtherType after any tag (R355). -/
def etherType (bs : List Byte) : Nat := beAt bs (etherOff bs) 2

/-- The VID, 0 for an untagged frame (R355). -/
def frameVid (bs : List Byte) : Nat := if isTagged bs then beAt bs 14 2 % 4096 else 0

/-- The DEI of the tag (R356). -/
def frameDei (bs : List Byte) : Bool := isTagged bs && natBit (beAt bs 14 2) 12

/-- The DSCP of an IP frame (R356). -/
def frameDscp (bs : List Byte) : Option Nat :=
  let o := etherOff bs + 2
  if etherType bs = 0x0800 then some (beAt bs (o + 1) 1 / 4)
  else if etherType bs = 0x86DD then some (beAt bs o 2 / 16 % 256 / 4)
  else none

/-- A frame to Utilior: gPTP (R337). -/
def isGptp (bs : List Byte) : Bool := beAt bs 12 2 == 0x88F7 && beAt bs 0 6 == 0x0180C200000E

/-- A PAUSE frame: of the MAC control frames the one of opcode 1 (Table MPT-1; the codes of IEEE 802.3, which R334 names). -/
def isPause (bs : List Byte) : Bool := beAt bs 12 2 == 0x8808 && beAt bs 14 2 == 1

/-- A received frame is good: length, code and FCS (R336). -/
def frameGood (bs : List Byte) (codeError : Bool) : Bool :=
  !codeError && decide (64 ≤ bs.length ∧ bs.length ≤ 1522) && crcEnds bs

/-- Padding and FCS of a transmitted frame (Table MPT-1). -/
def finishFrame (bs : List Byte) : List Byte :=
  let p := bs ++ List.replicate (60 - bs.length) 0
  p ++ leBytes 4 (crc32 p)

/-! ### IP, UDP and RTP (R343) -/

/-- The 16-bit words of a byte string summed, a last odd byte as the high half. -/
def sum16 : List Byte → Nat
  | a :: b :: t => a.toNat * 256 + b.toNat + sum16 t
  | [a] => a.toNat * 256
  | [] => 0

/-- The internet checksum of a sum: ones' complement, the carries folded in. -/
def checksum (v : Nat) : Nat :=
  let f := v % 65536 + v / 65536
  let f := f % 65536 + f / 65536
  let f := f % 65536 + f / 65536
  65535 - f

/-- A stream template's link header ends here. -/
def linkLen (h : List Byte) : Nat := etherOff h + 2

/-- The template carries IPv4. -/
def isIpv4 (h : List Byte) : Bool := etherType h == 0x0800

/-- A packet from its template with lengths, identification and checksums filled in; `p` is the UDP payload. -/
def udpPacket (h : List Byte) (ident : Nat) (p : List Byte) : List Byte :=
  let l := linkLen h
  if isIpv4 h then
    let h := patch (patch h (l + 2) (beBytes 2 (28 + p.length))) (l + 4) (beBytes 2 ident)
    let h := patch h (l + 10) [0, 0]
    let h := patch h (l + 10) (beBytes 2 (checksum (sum16 ((h.drop l).take 20))))
    patch (patch h (l + 24) (beBytes 2 (8 + p.length))) (l + 26) [0, 0] ++ p
  else
    let h := patch (patch h (l + 4) (beBytes 2 (8 + p.length))) (l + 44) (beBytes 2 (8 + p.length))
    let h := patch h (l + 46) [0, 0]
    let sum := sum16 ((h.drop (l + 8)).take 32) + (8 + p.length) + 17 + sum16 ((h.drop (l + 40)).take 8 ++ p)
    let c := checksum sum
    patch h (l + 46) (beBytes 2 (if c = 0 then 65535 else c)) ++ p

/-- The RTP header (R343). -/
def rtpHeader (marker : Bool) (pt seq ts ssrc : Nat) : List Byte :=
  [0x80, BitVec.ofNat 8 (pt % 128 + if marker then 128 else 0)] ++ beBytes 2 seq ++ beBytes 4 ts ++ beBytes 4 ssrc

/-! ### Units of the bitstreams (Table CSCH-1, R342) -/

/-- A NAL unit from its reversed bytes, without trailing zeros. -/
def endNal : Option (List Byte) → List (List Byte)
  | none => []
  | some r =>
    match r.dropWhile (· == 0) with
    | [] => []
    | n => [n.reverse]

/-- The NAL units of an Annex B byte stream. -/
def nalUnits : List Byte → Option (List Byte) → List (List Byte)
  | [], cur => endNal cur
  | [b], cur => endNal (cur.map (b :: ·))
  | [b, c], cur => endNal (cur.map fun r => c :: b :: r)
  | a :: b :: c :: t, cur =>
    if a = 0 ∧ b = 0 ∧ c = 1 then endNal cur ++ nalUnits t (some [])
    else nalUnits (b :: c :: t) (cur.map (a :: ·))

/-- A leb128 number at the start of a byte string: value and bytes. -/
def leb128 : Nat → List Byte → Nat × Nat
  | fuel + 1, b :: t =>
    if b.toNat < 128 then (b.toNat, 1)
    else
      let (v, n) := leb128 fuel t
      (b.toNat % 128 + 128 * v, n + 1)
  | _, _ => (0, 0)

/-- The OBUs of a low-overhead stream, each without its size field; the fuel bounds their number. -/
def obuUnits : Nat → List Byte → List (List Byte)
  | 0, _ => []
  | _, [] => []
  | fuel + 1, h :: t =>
    let ext := if natBit h.toNat 2 then 1 else 0
    let head := (h &&& 0xFD) :: t.take ext
    let rest := t.drop ext
    if natBit h.toNat 1 then
      let (v, n) := leb128 8 rest
      (head ++ (rest.drop n).take v) :: obuUnits fuel (rest.drop (n + v))
    else [head ++ rest]

/-- A unit that the packetizer drops: filler data, padding, temporal delimiters (R342); STD 0 H.264, 1 HEVC, 2 AV1. -/
def dropsUnit (std : Nat) (u : List Byte) : Bool :=
  let b := (u.headD 0).toNat
  if std = 0 then b % 32 == 12
  else if std = 1 then b / 2 % 64 == 38
  else b / 8 % 16 == 15 || b / 8 % 16 == 2

/-- A byte string cut into pieces of at most `n` bytes; the fuel bounds their number. -/
def chunks (n : Nat) : Nat → List Byte → List (List Byte)
  | 0, _ => []
  | fuel + 1, l => if l.length ≤ n then [l] else l.take n :: chunks n fuel (l.drop n)

/-- The pieces of a unit with a flag for the first and one for the last. -/
def pieces (n : Nat) (l : List Byte) : List (Bool × Bool × List Byte) :=
  let c := chunks n (l.length + 1) l
  c.mapIdx fun i p => (i == 0, i + 1 == c.length, p)

/-- The RTP payloads of a unit, in `room` bytes each (Table MPT-3). -/
def unitPayloads (std room : Nat) (u : List Byte) : List (List Byte) :=
  let b := (u.headD 0).toNat
  let se (st en : Bool) : Nat := (if st then 128 else 0) + if en then 64 else 0
  if std = 2 then
    (pieces (room - 1) u).map fun (st, en, p) =>
      BitVec.ofNat 8 (0x10 + (if st then 0 else 128) + if en then 0 else 64) :: p
  else if u.length ≤ room then [u]
  else if std = 0 then
    (pieces (room - 2) (u.drop 1)).map fun (st, en, p) =>
      BitVec.ofNat 8 (b / 32 * 32 + 28) :: BitVec.ofNat 8 (se st en + b % 32) :: p
  else
    (pieces (room - 3) (u.drop 2)).map fun (st, en, p) =>
      BitVec.ofNat 8 (b / 128 * 128 + 98 + b % 2) :: u.getD 1 0 :: BitVec.ofNat 8 (se st en + b / 2 % 64) :: p

/-- The RTP payloads of a layer's bitstream (R342, Table MPT-3); N marks the first packet of an AV1 key picture. -/
def layerPayloads (std room : Nat) (key : Bool) (bs : List Byte) : List (List Byte) :=
  let us := (if std = 2 then obuUnits (bs.length + 1) bs else nalUnits bs none).filter fun u => !dropsUnit std u
  match us.flatMap (unitPayloads std room) with
  | (h :: t) :: rest => ((if std = 2 ∧ key then h ||| 8 else h) :: t) :: rest
  | l => l

/-! ### IEEE 1722 AAF (Table MPT-4) -/

/-- The AVTP header. -/
def aafHeader (mr : Bool) (seq streamId ts : Nat) (wide : Bool) (nsr channels len : Nat) : List Byte :=
  [0x02, if mr then 0x89 else 0x81, BitVec.ofNat 8 seq, 0] ++ beBytes 8 streamId ++ beBytes 4 ts ++
    [if wide then 2 else 4] ++ beBytes 2 (nsr % 16 * 4096 + channels % 1024) ++ [if wide then 32 else 16] ++ beBytes 2 len ++ [0, 0]

/-- The slots of a port frame as the packet carries them: most significant byte first, the top 16 bits of a 16-bit slot. -/
def aafSlots (wide : Bool) (slots : Nat) (f : List W32) : List Byte :=
  (List.range slots).flatMap fun i => (beBytes 4 (f.getD i 0).toNat).take (if wide then 4 else 2)

end Sys2Proof.Machine
end

