-- ==== Sys2Proof/Machine/Nvm.lean ====
section
/-! DEFINITION. The MRAM and what boot reads of it: lines and their protection, the image format and its verification,
the boot record, and the choice of a slot (17_store_and_updates.md, R361 to R367, R91). -/

namespace Sys2Proof.Machine

/-! ### Lines -/

/-- A run of bytes written whole: the lines it touches are sound again (R362). -/
def storeWhole (a : Nat) (bs : List Byte) (s : State) : State :=
  let t := s.mramWrite a bs
  let keep (ls : List Nat) := ls.filter fun l => !(linesIn [l] a bs.length == [l])
  { t with nvm := { t.nvm with
      badLines := keep t.nvm.badLines, weakLines := keep t.nvm.weakLines, tornLines := keep t.nvm.tornLines } }

/-- The writing stops on the way. -/
def stopWrites (s : State) : State := { s with nvm := { s.nvm with torn := true } }

/-- The write of a line is torn: it holds an undefined value, which fails a CRC, and reads back as sound, correctable or
uncorrectable (R362, Table UPD-5). -/
def tearLine (l : Nat) (s : State) : State :=
  let (v, t) := s.fresh
  let (k, t) := t.fresh
  let t := storeWhole (64 * l) (leBytes 64 v) t
  let n := t.nvm
  { t with nvm := { n with torn := true
                           tornLines := n.tornLines ++ [l]
                           badLines := if k % 3 = 2 then n.badLines ++ [l] else n.badLines
                           weakLines := if k % 3 = 1 then n.weakLines ++ [l] else n.weakLines } }

/-- A run of bytes written, line by line: where the writing ends on the way, the lines before are written, the next one is
torn or stays, and nothing after it is written (R362, R379). -/
def mramStore (a : Nat) (bs : List Byte) (s : State) : State :=
  if s.nvm.torn then s
  else match s.nvm.left with
    | none => storeWhole a bs s
    | some (k, tears) =>
      let n := (a + bs.length + 63) / 64 - a / 64
      if n ≤ k then storeWhole a bs { s with nvm := { s.nvm with left := some (k - n, tears) } }
      else
        let t := storeWhole a (bs.take (64 * (a / 64 + k) - a)) s
        if tears then tearLine (a / 64 + k) t else stopWrites t

/-- A list of lines with more of them. -/
def addLines (ls new : List Nat) : List Nat := ls ++ new.filter fun l => !ls.contains l

/-- The MRAM as a command finds it: lines that have gone weak or uncorrectable since (R362), and where the command's writes
end on the way. -/
def State.meetStore (e : StoreEnv) (s : State) : State :=
  { s with nvm := { s.nvm with
      weakLines := addLines (s.nvm.weakLines.filter fun l => !e.bad.contains l) e.weak
      badLines := addLines s.nvm.badLines e.bad
      left := e.cut.map fun c => (c.lines, c.tears), torn := false } }

/-- The MRAM as a command finds it that writes none of it. -/
def State.meetLines (e : StoreEnv) (s : State) : State := s.meetStore { e with cut := none }

/-- What ended the writing takes its effect (R379). -/
def cutEffect (w : CutBy) (s : State) : State :=
  match w with
  | .supply => vddAonLowEff s
  | .pin => pinReset s
  | .chip => chipReset SYS.RSTCAUSE_CHIP s
  | .service => serviceReset SYS.RSTCAUSE_SVC s
  | .xo => poreset 1 s
  | .lock => poreset 2 s

/-- Work on the MRAM in its surroundings (log entry 45): a loss of the supply or a reset may end it on the way. -/
def withStore (e : StoreEnv) (f : State → State) (s : State) : State :=
  let t := f (s.meetStore e)
  let u := { t with nvm := { t.nvm with left := none, torn := false } }
  if t.nvm.torn then e.cut.elim u fun c => cutEffect c.why u else u

/-- A run of bytes touches a torn line. -/
def lineTorn (s : State) (a n : Nat) : Bool := !(linesIn s.nvm.tornLines a n).isEmpty

/-- A line that ends with its CRC-32: contents up to byte 60, then the code (R366, R368, R374). -/
def crcLine (bs : List Byte) : List Byte :=
  let b := (bs ++ List.replicate 60 0).take 60
  b ++ leBytes 4 (crc32 b)

/-- A sound line that carries a MAGIC and its CRC (R366, R368, R374). -/
def goodLine (s : State) (a magic : Nat) : Bool :=
  !lineBad s a 64 && !lineTorn s a 64 && s.mramNat a 4 == magic && crcEnds (s.mramRead a 64)

/-! ### Images -/

/-- Length of a slot (Table STORE-1). -/
def slotLen : Nat := 0x600000

/-- A number in the image of a slot (Table UPD-1). -/
def imgNat (s : State) (slot off n : Nat) : Nat := s.mramNat (slotBase slot + off) n

/-- TOTAL keeps R364: header and signature block at least, a multiple of 64, at most 6 MiB − 64. -/
def totalOk (t : Nat) : Bool := decide (512 ≤ t ∧ t ≤ slotLen - 64) && t % 64 == 0

/-- Bytes of a slot's image that Table UPD-1 gives as 0. -/
def imgZero (s : State) (slot off n : Nat) : Bool := imgNat s slot off n == 0

/-- Entry `j` of the section table: TYPE, offset, length. -/
def imgSect (s : State) (slot j : Nat) : Nat × Nat × Nat :=
  (imgNat s slot (48 + 16 * j) 1, imgNat s slot (52 + 16 * j) 4, imgNat s slot (56 + 16 * j) 4)

def imgNsect (s : State) (slot : Nat) : Nat := min 8 (imgNat s slot 23 1)
def imgNread (s : State) (slot : Nat) : Nat := min 8 (imgNat s slot 22 1)
def imgSvn (s : State) (slot : Nat) : Nat := imgNat s slot 12 1
def imgVersion (s : State) (slot : Nat) : Nat := imgNat s slot 16 4
def imgSchema (s : State) (slot : Nat) : Nat := imgNat s slot 20 2

/-- The schemas that an image reads: its own and the migratable ones (R364, R378). -/
def imgReads (s : State) (slot : Nat) : List Nat :=
  (List.range (imgNread s slot)).map fun i => imgNat s slot (24 + 2 * i) 2

/-- Zero bytes of the header (Table UPD-1). -/
def layoutOk (s : State) (slot : Nat) : Bool :=
  imgNat s slot 0 4 == 0x58465645 && imgNat s slot 4 2 == 1 && imgZero s slot 6 2 && imgZero s slot 13 3 &&
  imgZero s slot (24 + 2 * imgNread s slot) (16 - 2 * imgNread s slot) && imgZero s slot 43 5 && imgZero s slot 224 32 &&
  (List.range 8).all fun j =>
    if j < imgNsect s slot then imgZero s slot (49 + 16 * j) 3 && imgZero s slot (60 + 16 * j) 4
    else imgZero s slot (48 + 16 * j) 16

/-- No two of a list of (offset, length) overlap. -/
def noOverlap : List (Nat × Nat) → Bool
  | [] => true
  | (o, n) :: t => (t.all fun e => decide (o + n ≤ e.1 ∨ e.1 + e.2 ≤ o)) && noOverlap t

/-- The section table (R365): the types, the microcode's length, and the places. -/
def sectionsOk (s : State) (slot total : Nat) : Bool :=
  let ss := (List.range (imgNsect s slot)).map (imgSect s slot)
  let of (t : Nat) := ss.countP fun e => e.1 == t
  of 1 == 1 && of 2 == 1 && decide (of 3 ≤ 1) && (ss.all fun e => e.1 != 2 || e.2.2 == 131072) &&
  (ss.all fun e => decide (256 ≤ e.2.1 ∧ e.2.1 + e.2.2 ≤ total - 256)) && noOverlap (ss.map (·.2))

/-- UCDIGEST matches the microcode section (R365). -/
def ucOk (s : State) (slot : Nat) : Bool :=
  s.mramRead (slotBase slot + 176) 48 == Config.sha384 (s.mramRead (slotBase slot + sectionOff s slot 2) 131072)

/-- The signing key's digest (R365). -/
def keyOk (s : State) (slot total : Nat) : Bool :=
  Config.sha384 (s.mramRead (slotBase slot + total - 256) 96) == s.nvm.keyHash

/-- The signature over the image (R365). -/
def signatureOk (s : State) (slot total : Nat) : Bool :=
  let b := slotBase slot + total - 256
  Config.ecdsaP384 (s.mramRead b 48) (s.mramRead (b + 48) 48) (s.mramRead (b + 96) 48) (s.mramRead (b + 144) 48)
    (Config.sha384 (s.mramRead (slotBase slot) (total - 256)))

/-- PART and STEPMASK (R365). -/
def partOk (s : State) (slot : Nat) : Bool :=
  imgNat s slot 40 2 == 0x4880 && natBit (imgNat s slot 42 1) (s.get SYS.DEVID_STEP)

/-- The verification of a slot's image as a RESULT code of Table UPD-7: the first check of R365, in its order, that
fails; an uncorrectable line before all (R362, log entry 20). -/
def verifyImage (s : State) (slot : Nat) : Nat :=
  let total := imgNat s slot 8 4
  if lineBad s (slotBase slot) (min total slotLen) then 0x0A
  else if !layoutOk s slot then 0x01
  else if !totalOk total then 0x02
  else if !partOk s slot then 0x06
  else if !sectionsOk s slot total then 0x07
  else if !keyOk s slot total then 0x03
  else if !signatureOk s slot total then 0x04
  else if !ucOk s slot then 0x07
  else if imgSvn s slot < s.nvm.svn then 0x05
  else 0x00

/-- The read of the running image's first line (R362). -/
def noteHeader (s : State) : State := noteReads (slotBase s.nvm.running) 64 s

/-- The reads of a verification. -/
def noteImage (slot : Nat) (s : State) : State := noteReads (slotBase slot) (min (imgNat s slot 8 4) slotLen) s

/-! ### The boot record -/

/-- A boot-record copy (Table UPD-2). -/
structure BootRec where
  seq : Nat
  active : Nat
  trial : Bool
  rvt : Bool
  tries : Nat
  actId : Nat
  cline : Nat
  deriving DecidableEq, Repr

/-- Where copy `c` lies (Table STORE-1). -/
def copyAddr (c : Nat) : Nat := 0x8000 * c

/-- Copy `c`, if it is valid (R366). -/
def bootCopy (s : State) (c : Nat) : Option BootRec :=
  let a := copyAddr c
  if goodLine s a 0x43455242 then
    let flags := s.mramNat (a + 9) 1
    some { seq := s.mramNat (a + 4) 4, active := s.mramNat (a + 8) 1 % 2, trial := natBit flags 0, rvt := natBit flags 1,
           tries := s.mramNat (a + 10) 1, actId := s.mramNat (a + 12) 4, cline := s.mramNat (a + 16) 2 }
  else none

/-- Serial order of SEQ (R366). -/
def serialGreater (a b : Nat) : Bool :=
  let d := (a + 2 ^ 32 - b) % 2 ^ 32
  decide (1 ≤ d ∧ d ≤ 2 ^ 31 - 1)

/-- The newer valid copy, by its number (R366). -/
def newerIndex (s : State) : Option Nat :=
  match bootCopy s 0, bootCopy s 1 with
  | none, none => none
  | some _, none => some 0
  | none, some _ => some 1
  | some a, some b => some (if serialGreater b.seq a.seq then 1 else 0)

/-- The newer valid copy (R366). -/
def newerCopy (s : State) : Option BootRec := (newerIndex s).bind (bootCopy s)

/-- SEQ of the newer copy, 0 without one. -/
def newerSeq (s : State) : Nat := ((newerCopy s).map (·.seq)).getD 0

/-- The line of a copy (Table UPD-2). -/
def bootLine (b : BootRec) : List Byte :=
  crcLine (leBytes 4 0x43455242 ++ leBytes 4 b.seq ++ leBytes 1 b.active ++
    leBytes 1 (b.trial.toNat + 2 * b.rvt.toNat) ++ leBytes 1 b.tries ++ leBytes 1 0 ++ leBytes 4 b.actId ++
    leBytes 2 b.cline)

/-- A write of the boot record, with SEQ one above the newer copy's (R366): the copy that is not the newer is written.
`f` makes the new copy from its own SEQ. Its callers have read both copies before (`noteCopies`). -/
def writeBoot (f : Nat → BootRec) (s : State) : State :=
  let n := (newerSeq s + 1) % 2 ^ 32
  mramStore (copyAddr (if newerIndex s = some 0 then 1 else 0)) (bootLine (f n)) s

/-- The revert copy (R367, R372). -/
def revertTo (slot : Nat) (b : BootRec) (s : State) : State :=
  writeBoot (fun n => { b with seq := n, active := slot, trial := false, rvt := true }) s

/-- Journal line `n` (R368). -/
def jAddr (n : Nat) : Nat := 0xC10000 + 64 * n

/-- A journal record (Table STORE-2). `value` is a SET's value, or the 12 bytes of a CONFIRM from byte 16 on. -/
structure JRec where
  line : Nat
  lines : Nat
  typ : Nat
  seq : Nat
  schema : Nat
  key : Nat
  value : List Byte
  deriving DecidableEq, Repr

/-- The valid record at a journal line, if there is one (R369). -/
def readRec (s : State) (l : Nat) : Option JRec :=
  let a := jAddr l
  let n := s.mramNat (a + 3) 1
  if s.mramNat a 2 == 0x524A && (n == 1 || n == 2) && decide (l % 1024 + n ≤ 1024) && !lineBad s a (64 * n) && !lineTorn s a (64 * n) &&
      crcEnds (s.mramRead a (64 * n)) then
    let t := s.mramNat (a + 2) 1
    some { line := l, lines := n, typ := t, seq := s.mramNat (a + 4) 4, schema := s.mramNat (a + 8) 2,
           key := s.mramNat (a + 10) 2,
           value := s.mramRead (a + 16) (if t = 1 then min 56 (s.mramNat (a + 12) 1) else 12) }
  else none

/-- Line CLINE of a copy holds its CONFIRM record (R367). -/
def confirmed (s : State) (b : BootRec) : Bool :=
  match readRec s b.cline with
  | some r => r.typ == 3 && sliceNat r.value 0 4 == b.actId
  | none => false

/-! ### The tag and the status that a host sees -/

/-- The tag of a slot (R374). -/
def tagAddr (slot : Nat) : Nat := slotBase slot + slotLen - 64

/-- The image of a slot is pending (R374). -/
def slotPending (s : State) (slot : Nat) : Bool :=
  match newerCopy s with
  | some b => goodLine s (tagAddr slot) 0x47544C53 && s.mramNat (tagAddr slot + 4) 4 == b.seq
  | none => false

/-- The reads of both boot-record copies (R362). -/
def noteCopies (s : State) : State := noteReads (copyAddr 1) 64 (noteReads (copyAddr 0) 64 s)

/-- SLOTS follows the newer copy and the tag, which are read for it (R362, Table UPD-9). -/
def showSlots (s : State) : State :=
  let s := noteCopies s
  match newerCopy s with
  | some b => (noteReads (tagAddr (1 - b.active)) 64 s).puts [(UPD.SLOTS_PEND, (slotPending s (1 - b.active)).toNat), (UPD.SLOTS_TRIES, b.tries),
      (UPD.SLOTS_RVT, b.rvt.toNat), (UPD.SLOTS_TRIAL, b.trial.toNat), (UPD.SLOTS_ACTIVE, b.active)]
  | none => s

/-- IMGVER and IMGSCH follow the image of a slot, whose first line is read for them (Table UPD-9). -/
def showImage (slot : Nat) (s : State) : State :=
  (noteReads (slotBase slot) 64 s).puts [(UPD.IMGVER_V, imgVersion s slot), (UPD.IMGSCH_SVN, imgSvn s slot), (UPD.IMGSCH_SCHEMA, imgSchema s slot)]

/-! ### The mailbox command VERSION -/

/-- VERSION: the version of the running image, whose first line is read for it (R362), its slot and the trial flag
(Table MBX-1, Table UPD-1). Where the newer
boot-record copy differs from the boot that runs (after ARM, or after a fallback), the slot and the flag are those of
the copy, as UPD.SLOTS shows them: DESIGN CHOICE, log entry 33. -/
def versionAnswer (s : State) : (Nat × List Nat) × State :=
  if reqArgs s ≠ 0 then ((0x02, []), s)
  else ((0x00, [imgVersion s s.nvm.running, s.get UPD.SLOTS_ACTIVE + 2 * s.get UPD.SLOTS_TRIAL]), noteHeader s)

/-- VERSION (R189). -/
def execVersion (s : State) : Out := onCore (serveMbx 0x01 versionAnswer) s

/-! ### Boot -/

/-- BOOT_STATUS.CODE and DETAIL (R91). -/
def setBoot (code detail : Nat) (s : State) : State :=
  s.puts [(SYS.BOOT_STATUS_CODE, code), (SYS.BOOT_STATUS_DETAIL, detail)]

/-- A final code with recovery: the boot ROM runs UPD with BFIFO15 at its reset CFG (R91, R188). -/
def bootRecover (code detail : Nat) (s : State) : State :=
  let t := (setBoot code detail s).puts [(BFIFO.CTL_EN 15, 1), (BFIFO.STS_STATE 15, 1)]
  { t with nvm := { t.nvm with recovery := true, target := 0 } }

/-- The boot ROM goes on to verify a slot (R90, R91). -/
def bootVerify (slot : Nat) (second : Bool) (s : State) : State :=
  let t := setBoot 0x03 (slot + 2 * second.toNat) s
  { t with sys := { t.sys with bootSlot := slot, bootFallback := second } }

/-- The slot that the boot ROM chooses, with the copy it writes (R367). -/
def chooseSlot (b : BootRec) (s : State) : State :=
  if !b.trial || confirmed s b then bootVerify b.active false s
  else if 3 ≤ b.tries then bootVerify (1 - b.active) false (revertTo (1 - b.active) b s)
  else bootVerify b.active false (writeBoot (fun n => { b with seq := n, tries := b.tries + 1 }) s)

def bootRecordSelectEff (s : State) : State :=
  if s.get SYS.BOOT_STATUS_CODE = 2 then
    let t := noteCopies s
    match newerCopy s with
    | none => bootRecover 0xE1 0 t
    | some b => chooseSlot b (if b.trial then noteReads (jAddr b.cline) 64 t else t)
  else s

/-- BOOT_RECORD_SELECT (R90, R366, R367). -/
def execBootRecordSelect (e : StoreEnv) (s : State) : Out := onCore (withStore e bootRecordSelectEff) s

/-- Utilior starts from the verified slot: it checks the factory data, of which an uncorrectable line fails its CRC
(R362), and in a trial that boots the other slot it writes the revert copy (R90, R91, R367). Boot that fails the check
shows CODE 0x04 until the tick that sets 0xE4. -/
def utiliorStart (factoryOk : Bool) (s : State) : State :=
  let bad := !factoryOk || lineBad s factoryAddr factoryLen
  let t := setBoot 0x04 s.sys.bootSlot (noteReads factoryAddr factoryLen s)
  let t := { t with nvm := { t.nvm with running := s.sys.bootSlot }, sys := { t.sys with factoryBad := bad } }
  if bad then t
  else match newerCopy (noteCopies t) with
    | some b => if b.trial && b.active != s.sys.bootSlot then revertTo s.sys.bootSlot b (noteCopies t) else noteCopies t
    | none => noteCopies t

def bootVerifyDoneEff (factoryOk : Bool) (s : State) : State :=
  if s.get SYS.BOOT_STATUS_CODE = 3 then
    let t := noteImage s.sys.bootSlot s
    if verifyImage s s.sys.bootSlot = 0 then utiliorStart factoryOk t
    else if s.sys.bootFallback then bootRecover 0xE2 3 t
    else bootVerify (1 - s.sys.bootSlot) true t
  else s

/-- BOOT_VERIFY_DONE (R90, R91, R365): `factoryOk` is what the CRC of the factory data says. -/
def execBootVerifyDone (e : StoreEnv) (factoryOk : Bool) (s : State) : Out :=
  onCore (withStore e (bootVerifyDoneEff factoryOk)) s

end Sys2Proof.Machine
end

