-- ==== Sys2Proof/Machine/Journal.lean ====
section
/-! DEFINITION. The settings journal, the live set, the states of the settings, and the mailbox commands that reach
them (17_store_and_updates.md, R368 to R371, R376 to R378). -/

namespace Sys2Proof.Machine

/-! ### Segments and records -/

/-- The sequence number of an in-use segment (R368). -/
def segSeq (s : State) (g : Nat) : Option Nat :=
  if goodLine s (jAddr (1024 * g)) 0x5347534A then some (s.mramNat (jAddr (1024 * g) + 4) 4) else none

/-- The in-use segments: sequence number, segment. -/
def usedSegs (s : State) : List (Nat × Nat) := (List.range 48).filterMap fun g => (segSeq s g).map fun q => (q, g)

/-- Free segments (R368). -/
def freeSegs (s : State) : Nat := 48 - (usedSegs s).length

/-- The valid records from a line to its segment's end, with a bound on the lines. -/
def scanLines (s : State) : Nat → Nat → List JRec
  | 0, _ => []
  | n + 1, l =>
    if l % 1024 = 0 then []
    else match readRec s l with
      | some r => r :: scanLines s n (l + r.lines)
      | none => scanLines s n (l + 1)

/-- Every valid record of the in-use segments (R369). -/
def allRecs (s : State) : List JRec := (usedSegs s).flatMap fun e => scanLines s 1023 (1024 * e.2 + 1)

/-- The record with the highest SEQ of a list. -/
def newestRec : List JRec → Option JRec
  | [] => none
  | r :: t => match newestRec t with
    | some q => some (if q.seq < r.seq then r else q)
    | none => some r

/-- W of R369. -/
def retiredAt (rs : List JRec) : Nat :=
  ((newestRec (rs.filter fun r => r.typ == 3 && natBit (sliceNat r.value 4 1) 0)).map (·.seq)).getD 0

/-- The newest SET or DELETE above W for each key (R369). -/
def newestByKey (w : Nat) (rs : List JRec) : List (Nat × JRec) :=
  rs.foldl (fun m r =>
    if (r.typ == 1 || r.typ == 2) && decide (w < r.seq) then
      match SMap.find m r.key with
      | some q => if q.seq < r.seq then SMap.insert m r.key r else m
      | none => SMap.insert m r.key r
    else m) []

/-- The live records of a list of records, in the order of their keys (R369). -/
def liveOf (rs : List JRec) : List JRec := ((newestByKey (retiredAt rs) rs).map (·.2)).filter fun r => r.typ == 1

/-- The live set (R369). -/
def liveSet (s : State) : List JRec := liveOf (allRecs s)

/-- Size of records: lines × 64 (Table STORE-5). -/
def recBytes (rs : List JRec) : Nat := (rs.map fun r => 64 * r.lines).sum

/-- The uncorrectable and corrected lines of the journal that a scan meets (R362). -/
def noteJournal (s : State) : State := noteReads (jAddr 0) (48 * 65536) s

/-- JSTS and LIVE follow the journal; SEGLOW in a trial (Table STORE-5). -/
def showJournal (head : Nat) (s : State) : State :=
  let t := s.puts [(STORE.JSTS_FREE, freeSegs s), (STORE.JSTS_HEAD, head), (STORE.LIVE_BYTES, recBytes (liveSet s))]
  if freeSegs s < 4 ∧ s.get UPD.STS_STATE = 6 then t.put STORE.ISR_SEGLOW 1 else t

/-! ### Appending -/

/-- The head line (R368). -/
def headLine (s : State) : Nat := s.get STORE.JSTS_HEAD

/-- The header of a segment with a sequence number (R368). -/
def openSeg (g : Nat) (s : State) : State :=
  let q := ((usedSegs s).map (·.1)).foldl max 0 + 1
  mramStore (jAddr (1024 * g)) (crcLine (leBytes 4 0x5347534A ++ leBytes 4 q)) s

/-- The first free segment at or after `g`, around the ring. -/
def nextFree (s : State) (g : Nat) : Option Nat :=
  ((List.range 48).map fun i => (g + i) % 48).find? fun k => (segSeq s k).isNone

/-- The newest in-use segment, where no record stands in it yet: its header was written for a record that a reset or a loss
of the supply, or the wait for a confirmation, has kept away (R368, R375). -/
def emptySeg (s : State) : Option Nat :=
  (((usedSegs s).foldl (fun m e => match m with
    | some x => if x.1 < e.1 then some e else m
    | none => some e) (none : Option (Nat × Nat))).map (·.2)).filter fun g => (scanLines s 1023 (1024 * g + 1)).isEmpty

/-- Where the next record of some lines goes: the head, past the line that an armed trial has reserved, or line 1 of
the newest segment where that holds none yet, or of a new segment, whose header is written first (R368, R375). None
where every segment is in use. -/
def makeRoom (lines : Nat) (s : State) : Option (Nat × State) :=
  let h := headLine s
  let h := if s.get UPD.STS_STATE = 5 ∧ some h = (newerCopy s).map (·.cline) then h + 1 else h
  if h % 1024 ≠ 0 ∧ h % 1024 + lines ≤ 1024 ∧ (segSeq s (h / 1024)).isSome then some (h, s)
  else match emptySeg s, nextFree s (h / 1024) with
    | some g, _ => some (1024 * g + 1, s)
    | none, some g => some (1024 * g + 1, openSeg g s)
    | none, none => none

/-- The bytes of a record (Table STORE-2). -/
def recLine (typ lines seq schema key vlen : Nat) (value : List Byte) : List Byte :=
  let b := leBytes 2 0x524A ++ leBytes 1 typ ++ leBytes 1 lines ++ leBytes 4 seq ++ leBytes 2 schema ++ leBytes 2 key ++
    leBytes 1 vlen ++ leBytes 3 0 ++ value
  let b := (b ++ List.replicate (64 * lines) 0).take (64 * lines - 4)
  b ++ leBytes 4 (crc32 b)

/-- Lines of a record with a value (R368). -/
def recLines (vlen : Nat) : Nat := if 20 + vlen ≤ 64 then 1 else 2

/-- SCHEMA_OUT of the running image (R368, R378). -/
def schemaOut (s : State) : Nat := imgSchema s s.nvm.running

/-- A record written at a line, under the next SEQ (R368). -/
def putRec (line typ schema key vlen : Nat) (value : List Byte) (s : State) : State :=
  let q := s.nvm.nextSeq
  let t := mramStore (jAddr line) (recLine typ (recLines vlen) q schema key vlen value) s
  { t with nvm := { t.nvm with nextSeq := q + 1 } }

/-- Lines of a record of a type with a value. -/
def linesOf (typ : Nat) (value : List Byte) : Nat := recLines (if typ = 1 then value.length else 0)

/-- A record put at the head (R368); none where there is no room. -/
def pushRec (typ schema key : Nat) (value : List Byte) (s : State) : Option State :=
  let n := linesOf typ value
  (makeRoom n s).map fun (l, t) =>
    (putRec l typ schema key (if typ = 1 then value.length else 0) value t).put STORE.JSTS_HEAD ((l + n) % 49152)

/-- SETSTS.STATE as Table STORE-4 gives it for the live set. -/
def settingsState (s : State) : Nat :=
  let rs := liveSet s
  if rs = [] then 0
  else if rs.all fun r => r.schema == schemaOut s then 1
  else if rs.all fun r => r.schema == schemaOut s || (imgReads s s.nvm.running).contains r.schema then 2
  else 3

/-- A trial runs (R376). -/
def inTrial (s : State) : Bool := s.get UPD.STS_STATE == 6

/-- SETTINGS is UNREADABLE (R378). -/
def unreadable (s : State) : Bool := s.get STORE.SETSTS_STATE == 3

/-- The journal may be compacted: not while a trial runs, which a CONFIRM record at its line ends, and not while the records
are quarantined (R370, R376, R378). -/
def compactable (s : State) : Bool :=
  !(inTrial s && !(newerCopy s).any (confirmed s)) && !(unreadable s && settingsState s == 3)

/-- The oldest in-use segment (R370). -/
def oldestSeg (s : State) : Option Nat :=
  ((usedSegs s).foldl (fun m e => match m with
    | some x => if e.1 < x.1 then some e else m
    | none => some e) (none : Option (Nat × Nat))).map (·.2)

/-- The live records of a segment copied to the head, and then its header made invalid (R370); nothing where they find no
room. -/
def compactSeg (g : Nat) (s : State) : State :=
  let rs := (liveSet s).filter fun r => r.line / 1024 == g
  match rs.foldl (fun t r => t.bind (pushRec 1 r.schema r.key r.value)) (some s) with
  | some t =>
    let t := mramStore (jAddr (1024 * g)) (List.replicate 64 0) t
    showJournal (headLine t) t
  | none => s

/-- The segment that compaction takes: the oldest one, but neither the head's nor that of a confirmation that a boot would
still look for (R367, R370). -/
def victim (s : State) : Option Nat :=
  (oldestSeg s).filter fun g => g != headLine s / 1024 && !(newerCopy s).any fun b => b.trial && b.cline / 1024 == g

/-- Segments are compacted until four are free, as far as that may and can be done; the fuel is the number of segments. -/
def compactAll : Nat → State → State
  | 0, s => s
  | n + 1, s =>
    if 4 ≤ freeSegs s ∨ s.nvm.torn then s
    else match victim s with
      | some g => compactAll n (compactSeg g s)
      | none => s

/-- Before a record that needs a new segment, four segments are made free (R370). -/
def keepFree (lines : Nat) (s : State) : State :=
  let h := headLine s
  if (h % 1024 ≠ 0 ∧ h % 1024 + lines ≤ 1024) ∨ !compactable s then s else compactAll 48 s

/-- A record appended (R368, R370); nothing where compaction can make no room for it. -/
def appendRec (typ schema key : Nat) (value : List Byte) (s : State) : State :=
  (pushRec typ schema key value (keepFree (linesOf typ value) s)).getD s

/-- A SET, or a DELETE where there is no value, written for the running image. -/
def appendSetting (key : Nat) (v : Option (List Byte)) (s : State) : State :=
  match v with
  | some b => appendRec 1 (schemaOut s) key b s
  | none => appendRec 2 (schemaOut s) key [] s

/-- The 12 bytes of a CONFIRM record (Table STORE-2). -/
def confirmBytes (s : State) (actId : Nat) (retire : Bool) : List Byte :=
  leBytes 4 actId ++ leBytes 1 retire.toNat ++ leBytes 1 (imgSvn s s.nvm.running) ++ leBytes 2 0 ++
    leBytes 4 (imgVersion s s.nvm.running)

/-! ### Values -/

/-- A live record's value as the running image reads it (R378). -/
def liveValue (s : State) (r : JRec) : List Byte :=
  if r.schema = schemaOut s then r.value else (Config.migrate r.schema (schemaOut s) r.key r.value).take 56

/-- The default of a key in the running image (R369); a section with an uncorrectable line gives none (R362). -/
def defaultOf (s : State) (key : Nat) : Option (List Byte) :=
  let b := s.nvm.running
  match (List.range (imgNsect s b)).find? fun j => (imgSect s b j).1 == 3 with
  | some j =>
    let (_, off, len) := imgSect s b j
    if lineBad s (slotBase b + off) len then none
    else (Config.defaults (s.mramRead (slotBase b + off) len) key).map (·.take 56)
  | none => none

/-- The reads of the DEFAULTS section (R362). -/
def noteDefaults (s : State) : State :=
  let b := s.nvm.running
  ((List.range (imgNsect s b)).filter fun j => (imgSect s b j).1 == 3).foldl
    (fun t j => noteReads (slotBase b + (imgSect s b j).2.1) (imgSect s b j).2.2 t) s

/-- The staged change of a key (R376). -/
def stagedOf (s : State) (key : Nat) : Option (Option (List Byte)) := SMap.find s.nvm.staged key

/-- The value of a setting in what is staged and in the live set (R369, R376, R378). -/
def setValue (s : State) (key : Nat) : Option (List Byte) :=
  match stagedOf s key with
  | some v => v
  | none => if unreadable s then none else ((liveSet s).find? fun r => r.key == key).map (liveValue s)

/-- The value of a setting: what is staged, then the live set, then DEFAULTS (R369, R376, R378). -/
def settingValue (s : State) (key : Nat) : Option (List Byte) := (setValue s key).orElse fun _ => defaultOf s key

/-! ### Mailbox commands -/

/-- REQ1. -/
def reqArg1 (s : State) : Nat := s.get (MBX.REQ_W 1)

/-- Bytes as words, least significant byte first (R11), with a bound on the words. -/
def wordsOf : Nat → List Byte → List Nat
  | 0, _ => []
  | n + 1, bs => if bs = [] then [] else leNat (bs.take 4) :: wordsOf n (bs.drop 4)

/-- What a settings command reads: the running image's first line and the journal (R362, R369, R378). -/
def noteSettings (s : State) : State := noteJournal (noteHeader s)

/-- SET_READ: its answer (Table STORE-3). -/
def setReadAnswer (s : State) : (Nat × List Nat) × State :=
  if reqArgs s ≠ 1 then ((0x02, []), s)
  else
    let t := noteSettings s
    let t := if (setValue s (reqArg1 s % 65536)).isNone then noteDefaults t else t
    match settingValue s (reqArg1 s % 65536) with
    | some v => ((0x00, (schemaOut s * 65536 + v.length) :: wordsOf 14 v), t)
    | none => ((0x04, []), t)

/-- A refused setting write (Table STORE-3, Table UPD-8). -/
def refuseSetting (s : State) : (Nat × List Nat) × State := ((0x03, []), recErr .store 0x0101 s)

/-- Bytes of the journal that the staged changes will take (R376). -/
def stagedBytes (m : List (Nat × Option (List Byte))) : Nat :=
  (m.map fun e => 64 * (match e.2 with
    | some v => recLines v.length
    | none => 1)).sum

/-- Bytes of the live set that a confirmation would leave with some staged changes (R370, R376). -/
def liveAfter (m : List (Nat × Option (List Byte))) (s : State) : Nat :=
  let old := if unreadable s then [] else (liveSet s).filter fun r => !m.any fun e => e.1 == r.key
  (old.map fun r => 64 * recLines (liveValue s r).length).sum + stagedBytes (m.filter (·.2.isSome))

/-- A change of a setting in a trial: in memory only, up to 64 KiB of it, and none that would bring the live set above 1 MiB
(R370, R376). -/
def stageSetting (key : Nat) (v : Option (List Byte)) (s : State) : (Nat × List Nat) × State :=
  let m := SMap.insert s.nvm.staged key v
  if v.isSome && decide (65536 < stagedBytes m ∨ 1048576 < liveAfter m s) then refuseSetting s
  else ((0x00, [1]), { (s.put STORE.ISR_SETCHG 1) with nvm := { s.nvm with staged := m } })

/-- The live set would be too large with a value (R370). -/
def liveFull (key : Nat) (v : List Byte) (s : State) : Bool :=
  decide (1048576 < recBytes ((liveSet s).filter fun r => r.key != key) + 64 * recLines v.length)

/-- A record for a setting finds room, once four segments have been made free for it where that can be done. -/
def settingFits (v : Option (List Byte)) (s : State) : Bool :=
  let n := recLines ((v.map (·.length)).getD 0)
  (makeRoom n (keepFree n s)).isSome

/-- What was staged for a key in a trial that a REVERT has ended gives way to a written change (R371). -/
def unstage (key : Nat) (s : State) : State := { s with nvm := { s.nvm with staged := s.nvm.staged.filter (·.1 != key) } }

/-- A change of a setting: staged in a trial; otherwise in the MRAM when it is answered, unless it is refused (R370,
R371, R376, R378). -/
def settingChanged (key : Nat) (v : Option (List Byte)) (s : State) : (Nat × List Nat) × State :=
  if inTrial s then stageSetting key v s
  else if unreadable s || (v.map fun b => liveFull key b s).getD false || !settingFits v s then refuseSetting s
  else
    let t := unstage key (appendSetting key v s)
    ((0x00, [0]), (showJournal (headLine t) t).put STORE.ISR_SETCHG 1)

/-- A change of a setting, with the reads that it takes: none where the settings are UNREADABLE, or for a DELETE that is only
staged (R362). -/
def changeSetting (key : Nat) (v : Option (List Byte)) (s : State) : (Nat × List Nat) × State :=
  settingChanged key v (if unreadable s || (inTrial s && v.isNone) then s else noteSettings s)

/-- The value bytes in REQ2 onward. -/
def reqValue (s : State) (n : Nat) : List Byte :=
  (((List.range 14).map fun i => leBytes 4 (s.get (MBX.REQ_W (i + 2)))).flatten).take n

/-- SET_WRITE: its answer (Table STORE-3). -/
def setWriteAnswer (s : State) : (Nat × List Nat) × State :=
  let n := reqArg1 s / 65536 % 256
  if 56 < n ∨ reqArgs s ≠ 1 + ceilDiv n 4 then ((0x02, []), s)
  else changeSetting (reqArg1 s % 65536) (some (reqValue s n)) s

/-- SET_DELETE: its answer (Table STORE-3). -/
def setDeleteAnswer (s : State) : (Nat × List Nat) × State :=
  if reqArgs s ≠ 1 then ((0x02, []), s) else changeSetting (reqArg1 s % 65536) none s

/-- SET_RESET: every record is retired (R378). -/
def setResetAnswer (s : State) : (Nat × List Nat) × State :=
  if reqArgs s ≠ 0 then ((0x02, []), s)
  else if inTrial s then refuseSetting s
  else match makeRoom 1 (noteSettings s) with
    | some (l, t) =>
      let t := putRec l 3 (schemaOut t) 0 0 (confirmBytes t 0 true) t
      let t := t.puts [(STORE.JSTS_HEAD, (l + 1) % 49152), (STORE.SETSTS_STATE, 0)]
      let t := { t with nvm := { t.nvm with staged := [] } }
      ((0x00, []), (showJournal (headLine t) t).put STORE.ISR_SETCHG 1)
    | none => refuseSetting (noteSettings s)

/-! ### Compaction -/

def journalCompactionEff (s : State) : State :=
  if 5 ≤ s.get SYS.BOOT_STATUS_CODE ∧ s.get SYS.BOOT_STATUS_CODE ≤ 0x10 ∧ freeSegs s < 4 ∧ !inTrial s ∧ !unreadable s ∧
      s.nvm.work.isNone then
    match victim s with
    | some g => compactSeg g (noteJournal s)
    | none => s
  else s

/-- JOURNAL_COMPACTION (R370). -/
def execJournalCompaction (e : StoreEnv) (s : State) : Out := onCore (withStore e journalCompactionEff) s

/-! ### The scan at boot -/

/-- UPD.STS.STATE after a boot (R377). -/
def updAfterBoot (s : State) : Nat :=
  match newerCopy s with
  | some b =>
    if b.trial && !confirmed s b then 6
    else if b.rvt then 8
    else if slotPending s (1 - b.active) then 2
    else 0
  | none => 0

/-- The fuses raised to an image's SVN, unless the work ends on the way (R363, R376, R379). -/
def raiseSvn (n : Nat) (s : State) : State :=
  if s.nvm.torn then s
  else if (s.nvm.left.map (·.1)) = some 0 then stopWrites s
  else { s with nvm := { s.nvm with svn := max s.nvm.svn (min 63 n) } }

/-- Steps 4 and 5 of a confirmation; both copies are read before one is written (R362, R376). -/
def finishConfirm (b : BootRec) (s : State) : State :=
  let t := if b.trial then writeBoot (fun n => { b with seq := n, trial := false, rvt := false }) (noteCopies s) else s
  raiseSvn (imgSvn t t.nvm.running) t

/-- A boot from a confirmed slot completes its confirmation (R376). -/
def resumeConfirm (s : State) : State :=
  match newerCopy s with
  | some b => if confirmed s b && b.active == s.nvm.running then finishConfirm b s else s
  | none => s

/-- Every live record rewritten for the running image (R376, R378). -/
def writeMigrated (s : State) : State :=
  (liveSet s).foldl (fun t r => appendSetting r.key (some (liveValue s r)) t) s

/-- Head and next SEQ from the record with the highest SEQ (R369). Where that record ends its segment and the next one is
open already, with no record in it, the head is that segment's line 1: the next line to be written (R368). -/
def findHead (s : State) : State :=
  let r := newestRec (allRecs s)
  let h := (r.map fun r => (r.line + r.lines) % 49152).getD (headLine s)
  let h := if h % 1024 = 0 then ((emptySeg s).map fun g => 1024 * g + 1).getD h else h
  ({ s with nvm := { s.nvm with nextSeq := (r.map (JRec.seq · + 1)).getD 1 } }).put STORE.JSTS_HEAD h

/-- The states that a scan sets (R377, R378). -/
def scanStates (s : State) : State :=
  let t := showSlots (s.put UPD.STS_STATE (updAfterBoot s))
  let slot := 1 - ((newerCopy s).map (·.active)).getD 0
  let t := { t with nvm := { t.nvm with target := slot, dlid := newerSeq t } }
  let t := if slotPending t slot then showImage slot t else t
  t.puts [(STORE.SETSTS_SCHEMA, schemaOut t), (STORE.SETSTS_STATE, settingsState t)]

def journalScanEff (s : State) : State :=
  if s.get SYS.BOOT_STATUS_CODE = 4 ∧ !s.sys.factoryBad then
    let t := resumeConfirm (findHead (setBoot 0x05 0 (noteSettings s)))
    let t := scanStates t
    let t := if t.get STORE.SETSTS_STATE = 2 ∧ !inTrial t then writeMigrated t else t
    showJournal (headLine t) t
  else s

/-- JOURNAL_SCAN (R369, R376 to R378). -/
def execJournalScan (e : StoreEnv) (s : State) : Out := onCore (withStore e journalScanEff) s

end Sys2Proof.Machine
end

