-- ==== Sys2Proof/Machine/Boot.lean ====
section
/-! DEFINITION. The last steps of boot: the DRAM training and the load of microcode (R90, R91, R196, R213, R280). The
boot ROM's steps stand in Machine/Nvm.lean and the journal scan in Machine/Journal.lean. -/

namespace Sys2Proof.Machine

/-- A channel configured from factory data (R193, R213). -/
def configDmc (rate dens : Nat) (tmg0 tmg1 : W32) (n : Nat) (s : State) : State :=
  let t := s.puts [(DMC.CFG_RATE n, rate), (DMC.CFG_DENS n, dens)]
  let t := t.storeAll [DMC.TMG0_TRCD n, DMC.TMG0_TRPPB n, DMC.TMG0_TRAS n, DMC.TMG0_TWR n] tmg0
  applyTmg n (t.storeAll [DMC.TMG1_TRFCPB n, DMC.TMG1_TREFI n] tmg1)

/-- A channel trained at boot, with what command-bus training and the sweeps over VREF found: RUN once its granted start has
come, and in self-refresh until then (R123, R128, R196, R213, log entry 8). -/
def trainedDmc (n : Nat) (c : TrainChan) (s : State) : State :=
  let t := noRefreshOwed n (s.setDmc n { s.dmc n with
    mr4At := s.mtime, centre := c.centre
    vrefRead := c.lanes.map (bestVref ·.read), vrefWrite := c.lanes.map (bestVref ·.write) })
  let t := (storeTraining n c.lanes t).inc (DMC.TRNCNT_COUNT n)
  let t := setDmcState n (if hasBegun t (9 + n) then 1 else 3) (standingRequest (9 + n) t)
  tempCompare n t

/-- The training of a channel at boot succeeds: every step of Table DMC-2 passes (R196). -/
def chanPasses (chans : List TrainChan) (n : Nat) : Bool :=
  match chans[n]? with
  | some c => c.init && c.cbt && lanesPass c.lanes
  | none => false

/-- Utilior loads the control stores: STATE LOADING (R280). -/
def cellsLoading (s : State) : State := s.puts ((List.range 8).map fun n => (CELL.STS_STATE n, 4))

def dramTrainingDoneEff (rate dens : Nat) (tmg0 tmg1 : W32) (chans : List TrainChan) (s : State) : State :=
  if bootCode s = 6 then
    let t := repeatFor 4 (configDmc rate dens tmg0 tmg1) s
    let t := repeatFor 4 (fun n t => match chans[n]? with
      | some c => if chanPasses chans n then trainedDmc n c t else setDmcState n 5 t
      | none => setDmcState n 5 t) t
    let failed := maskIf 4 fun n => !chanPasses chans n
    if failed = 0 then setBoot 0x07 0 (cellsLoading t) else setBoot 0xE3 failed t
  else s

/-- DRAM_TRAINING_DONE (R196, R212, R213): what the factory data says, and what the training of each channel found. -/
def execDramTrainingDone (rate dens : Nat) (tmg0 tmg1 : W32) (chans : List TrainChan) (s : State) : Out :=
  onCore (dramTrainingDoneEff rate dens tmg0 tmg1 chans) s

/-- The stores of all cells are loaded (R280). -/
def loadCells (upsets : List (Fin 8 × Fin 8192 × CsWord)) (s : State) : State :=
  (List.finRange 8).foldl (fun t n => loadStore n (loadedStore s ((upsets.filter (·.1 == n)).map (·.2))) t) s

/-- DETAIL of READY (Table SYS-17). -/
def readyDetail (s : State) : Nat :=
  s.get CSCH.CELLMASK_FENCED + (if s.sys.porCause = 1 then 256 else if s.sys.porCause = 2 then 512 else 0)

def microcodeLoadDoneEff (upsets : List (Fin 8 × Fin 8192 × CsWord)) (s : State) : State :=
  if bootCode s = 7 then
    let t := loadCells upsets (noteReads (microAddr s) storeLen s)
    wdogRestart (setBoot 0x10 (readyDetail t) t)
  else s

/-- MICROCODE_LOAD_DONE: READY, and the watchdog restarts (R87, R90, R280); `upsets` as for CELL_RELOAD_DONE. -/
def execMicrocodeLoadDone (upsets : List (Fin 8 × Fin 8192 × CsWord)) (s : State) : Out :=
  onCore (microcodeLoadDoneEff upsets) s

end Sys2Proof.Machine
end

