-- ==== Sys2Proof/Machine/Intc.lean ====
section
/-! DEFINITION. INTC: pending bits, delivery and completion (02_register_pages_and_interrupts.md, R53 to R57, R62). -/

namespace Sys2Proof.Machine

/-- A source's input goes from deasserted to asserted (R53): an edge that its block has fired, or a level line that INTC
has not seen asserted. -/
def sourceDue (s : State) (src : Nat) : Bool :=
  if isEdge src then s.intc.edges.contains src else levelLine s src && !s.intc.seen.contains src

def intcSourceAssertEff (src : Nat) (s : State) : State :=
  if sourceDue s src then
    if isEdge src then assertSource src { s with intc := { s.intc with edges := s.intc.edges.erase src } }
    else seeLine src (assertSource src s)
  else s

/-- INTC_SOURCE_ASSERT (R53). -/
def execIntcSourceAssert (src : Fin 256) (s : State) : Out := onCore (intcSourceAssertEff src) s

/-- The sources that a word of 32 names. -/
def wordSources (k : Nat) (d : W32) : List Nat := ((List.range 32).filter fun b => natBit d.toNat b).map fun b => 32 * k + b

/-- SETPEND (R54). -/
def setpendOp (k : Nat) (d : W32) (s : State) : State := (wordSources k d).foldl (fun t i => assertSource i t) s

/-- SETPEND (R54). -/
def execSetpend (k : Fin 8) (d : W32) (s : State) : Out := onCore (onLink (.setpend k d) (setpendOp k d)) s

/-- CLRPEND (R53). -/
def clrpendOp (k : Nat) (d : W32) (s : State) : State := (wordSources k d).foldl (fun t i => t.put (INTC.PEND i) 0) s

/-- CLRPEND (R53). -/
def execClrpend (k : Fin 8) (d : W32) (s : State) : Out := onCore (onLink (.clrpend k d) (clrpendOp k d)) s

/-- A source is eligible on a target (R55). -/
def eligibleOn (s : State) (tgt src : Nat) : Bool :=
  s.bit (INTC.PEND src) && s.bit (INTC.ENABLE src) && !s.bit (INTC.INSVC src) && s.get (INTC.ROUTE_TGT src) == tgt

/-- The source that a target takes next: the lowest number (R55). -/
def nextOn (s : State) (tgt : Nat) : Option Nat := (List.range 256).find? (eligibleOn s tgt)

/-- The vector or the function is masked; a function whose MSI-X Enable is 0 sends no message either (R57, log
entry 5). -/
def vectorMasked (s : State) (v : Nat) : Bool :=
  s.bit (INTC.MSIXCTL_MASK v) || s.hif.cfg.funcMask || !s.hif.cfg.msixEn

/-- PBA of a vector: a message is pending while the vector or the function is masked (R57). -/
def pbaBit (s : State) (v : Nat) : Bool := vectorMasked s v && (nextOn s v).isSome

/-- A delivery: PEND cleared, INSVC set, and on a vector one message (R55, R57). -/
def deliverTo (tgt src : Nat) (s : State) : State :=
  let t := s.puts [(INTC.PEND src, 0), (INTC.INSVC src, 1)]
  if tgt < 32 then { t with intc := { t.intc with msix := t.intc.msix ++ [tgt] } } else t

def intcDeliverEff (tgt : Nat) (s : State) : State :=
  match nextOn s tgt with
  | some src => if tgt < 32 ∧ vectorMasked s tgt then s else deliverTo tgt src s
  | none => s

/-- INTC_DELIVER (R55, R57): targets 0 to 31 are vectors, 32 and 33 IRQ0_N and IRQ1_N, 34 the management controller. -/
def execIntcDeliver (tgt : Fin 35) (s : State) : Out := onCore (intcDeliverEff tgt) s

/-- IRQ0_N or IRQ1_N is asserted (R57). -/
def irqBall (s : State) (n : Nat) : Bool :=
  (List.range 256).any fun i => s.get (INTC.ROUTE_TGT i) == 32 + n && s.bit (INTC.INSVC i)

/-- EOI (R56). -/
def writeEoi (d : W32) (s : State) : State :=
  let i := bitsOf d 0 8
  if s.bit (INTC.INSVC i) then sampleSource i (s.put (INTC.INSVC i) 0) else recErr .intc 0x0100 s

/-- EOI, by the host or by Utilior (R56, R57). -/
def execEoi (d : W32) (s : State) : Out := onCore (onLink (.eoi d) (writeEoi d)) s

end Sys2Proof.Machine
end

