-- ==== Sys2Proof/Machine/Isp.lean ====
section
/-! DEFINITION. The stages of the ISP (R296, Table ISP-2): stages 1 to 7 as the manual computes them, from raw samples to
10-bit RGB, and the colour conversion of stage 8; stages 9 and 10 as far as it does. All arithmetic rounds half up and
clamps to the range of its result, a shift of a product as well (R296, log entry 44). -/

namespace Sys2Proof.Machine

/-- A frame in front of the stages: its size and 14-bit samples (R290), its parameter block, the entries of its lens-shading
grid and tone curves, and the number under which samples that the manual leaves open stand. -/
structure Sensor where
  w : Nat
  h : Nat
  raw : Nat → Nat → Nat
  pset : List Byte
  lsc : Nat → Nat
  tone : Nat → Nat
  k : Nat

/-- The Bayer channel of a site: 0 R, 1 Gr, 2 Gb, 3 B, by BAYER (Table ISP-1). -/
def Sensor.channel (f : Sensor) (r c : Nat) : Nat := (2 * (r % 2) + c % 2) ^^^ (sliceNat f.pset 10 1 % 4)

/-- The colour of a site: 0 R, 1 G, 2 B. -/
def Sensor.colour (f : Sensor) (r c : Nat) : Nat :=
  if f.channel r c = 0 then 0 else if f.channel r c = 3 then 2 else 1

/-- A value clamped to 14 bits. -/
def clamp14 (v : Int) : Nat := clampBits 14 v

/-- A 14-bit value of a product with a gain of 12 fractional bits. -/
def gained (v : Int) : Nat := clamp14 (roundHalfUp v 4096)

/-- The mean of some values, rounded half up. -/
def meanOf (l : List Int) : Int := roundHalfUp l.sum (max 1 l.length)

/-- The sites at some offsets from a site that lie in the frame. -/
def Sensor.around (f : Sensor) (r c : Nat) (offs : List (Int × Int)) : List (Nat × Nat) :=
  offs.filterMap fun o =>
    let y : Int := r + o.1
    let x : Int := c + o.2
    if 0 ≤ y ∧ y < f.h ∧ 0 ≤ x ∧ x < f.w then some (y.toNat, x.toNat) else none

/-- Stage 1: black level. -/
def Sensor.black (f : Sensor) (r c : Nat) : Nat := f.raw r c - sliceNat f.pset (2 * f.channel r c) 2

/-- Offsets of the eight nearest same-colour neighbours of a site. -/
def sameColour (green : Bool) : List (Int × Int) :=
  if green then [(-1, -1), (-1, 1), (1, -1), (1, 1), (-2, 0), (2, 0), (0, -2), (0, 2)]
  else [(-2, -2), (-2, 0), (-2, 2), (0, -2), (0, 2), (2, -2), (2, 0), (2, 2)]

/-- The median of eight values: the mean of the middle two. -/
def median8 (l : List Nat) : Nat :=
  let s := l.mergeSort (fun a b => decide (a ≤ b))
  (s.getD 3 0 + s.getD 4 0 + 1) / 2

/-- Stage 2: defect correction. Where fewer than eight such neighbours lie in the frame, the result is open. -/
def Sensor.defect (f : Sensor) (r c : Nat) : Nat :=
  let v := f.black r c
  let t := sliceNat f.pset 8 2
  let ns := (f.around r c (sameColour (f.colour r c == 1))).map fun p => f.black p.1 p.2
  if t = 0 then v
  else if ns.length < 8 then Config.sample f.k 2 r c % 16384
  else if ns.foldl max 0 + t < v ∨ v + t < ns.foldl min 65535 then median8 ns
  else v

/-- The gain of stage 3 at a site: bilinear in the 33 × 25 grid, corners included. -/
def Sensor.shade (f : Sensor) (r c : Nat) : Nat :=
  let nx := f.w - 1
  let ny := f.h - 1
  let ix := min (32 * c / nx) 31
  let iy := min (24 * r / ny) 23
  let fx := 32 * c - ix * nx
  let fy := 24 * r - iy * ny
  let g (y x : Nat) := f.lsc (4 * (33 * y + x) + f.channel r c)
  let sum := (g iy ix * (nx - fx) + g iy (ix + 1) * fx) * (ny - fy) + (g (iy + 1) ix * (nx - fx) + g (iy + 1) (ix + 1) * fx) * fy
  (2 * sum + nx * ny) / (2 * (nx * ny))

/-- Stages 3 and 5: lens shading, which LSCADDR 0 turns off, and white balance of the value that it gives. -/
def Sensor.site (f : Sensor) (r c : Nat) : Nat :=
  let v := f.defect r c
  let v := if sliceNat f.pset 16 8 = 0 then v else gained (v * f.shade r c : Nat)
  gained (v * sliceNat f.pset (24 + 2 * f.channel r c) 2 : Nat)

/-- The nearest sites of a colour around a site of another: beside, above and below, or else diagonal. -/
def Sensor.nearest (f : Sensor) (col r c : Nat) : List (Nat × Nat) :=
  let near := (f.around r c [(-1, 0), (1, 0), (0, -1), (0, 1)]).filter fun p => f.colour p.1 p.2 == col
  if near.isEmpty then (f.around r c [(-1, -1), (-1, 1), (1, -1), (1, 1)]).filter fun p => f.colour p.1 p.2 == col else near

/-- Stage 4, bilinear: a missing colour is the mean of its nearest samples. -/
def Sensor.bilinear (f : Sensor) (col r c : Nat) : Nat :=
  if f.colour r c = col then f.site r c
  else clamp14 (meanOf ((f.nearest col r c).map fun p => (f.site p.1 p.2 : Int)))

/-- The gradient along an axis at an R or B site: the two green and the two same-colour samples. -/
def gradient (g₁ g₂ v c₁ c₂ : Nat) : Nat := ((g₁ : Int) - g₂).natAbs + (2 * (v : Int) - c₁ - c₂).natAbs

/-- Stage 4, edge-aware green; where the gradients leave the frame it is open. -/
def Sensor.edgeGreen (f : Sensor) (r c : Nat) : Nat :=
  if f.colour r c = 1 then f.site r c
  else if r < 2 ∨ c < 2 ∨ f.h ≤ r + 2 ∨ f.w ≤ c + 2 then Config.sample f.k 3 r c % 16384
  else
    let hs := [f.site r (c - 1), f.site r (c + 1)]
    let vs := [f.site (r - 1) c, f.site (r + 1) c]
    let dh := gradient (f.site r (c - 1)) (f.site r (c + 1)) (f.site r c) (f.site r (c - 2)) (f.site r (c + 2))
    let dv := gradient (f.site (r - 1) c) (f.site (r + 1) c) (f.site r c) (f.site (r - 2) c) (f.site (r + 2) c)
    clamp14 (meanOf ((if dh < dv then hs else if dv < dh then vs else hs ++ vs).map Int.ofNat))

/-- Stage 4: a colour of a site. -/
def Sensor.demosaic (f : Sensor) (col r c : Nat) : Nat :=
  if sliceNat f.pset 11 1 = 1 then f.bilinear col r c
  else if col = 1 then f.edgeGreen r c
  else if f.colour r c = col then f.site r c
  else clamp14 (f.edgeGreen r c +
    meanOf ((f.nearest col r c).map fun p => (f.site p.1 p.2 : Int) - f.edgeGreen p.1 p.2))

/-- Stage 6: colour matrix. -/
def Sensor.matrix (f : Sensor) (col r c : Nat) : Nat :=
  let m (j : Nat) : Int := toSigned 16 (sliceNat f.pset (32 + 2 * (3 * col + j)) 2) * f.demosaic j r c
  clamp14 (roundHalfUp (m 0 + m 1 + m 2) 4096 + toSigned 16 (sliceNat f.pset (50 + 2 * col) 2))

/-- Stage 7: tone curves, to 10 bits. -/
def Sensor.rgb (f : Sensor) (col r c : Nat) : Nat :=
  let v := f.matrix col r c
  let e (i : Nat) : Int := (f.tone (1024 * col + min i 1023) % 1024 : Nat)
  let i := v / 16
  clampBits 10 (e i + roundHalfUp ((e (i + 1) - e i) * (v % 16 : Nat)) 16)

/-- Stage 8: YCbCr by a CSC code, of RGB in full range. -/
def Sensor.ycc (f : Sensor) (csc comp r c : Nat) : Nat := rgbToYcc csc true 10 (f.rgb 0 r c) (f.rgb 1 r c) (f.rgb 2 r c) comp

/-- Stage 9: noise reduction of Y by NRY and of Cb and Cr by NRC, where that is not 0 (Table ISP-1). -/
def Sensor.smooth (f : Sensor) (csc comp r c : Nat) : Nat :=
  let n := sliceNat f.pset (if comp = 0 then 64 else 65) 1
  if n = 0 then f.ycc csc comp r c else Config.denoise (f.ycc csc) n comp r c % 1024

/-- Stage 10: a component of an output, at 10 bits, as its job's geometry and CSC say. VIS in RGB scales what stage 7
gives; the CSC of its Y8 is open (R296, Table ISP-3). -/
def Sensor.rendered (f : Sensor) (geom : List Nat) (comp r c : Nat) : Nat :=
  let csc := geom.getD 6 0
  let pic := if csc = 4 then f.rgb else f.smooth (if csc = 5 then Config.visCsc else csc)
  Config.rescale pic (geom.take 6) comp r c % 1024

/-- The 4:2:0 picture of an output at a bit depth: chroma is the mean of each 2 × 2, 8-bit values are 10-bit ones >> 2,
rounded (Table ISP-2, stage 10). -/
def Sensor.picture (f : Sensor) (geom : List Nat) (depth : Nat) : Picture := fun p r c =>
  let v :=
    if p = 0 then f.rendered geom 0 r c
    else (meanOf ([(0, 0), (0, 1), (1, 0), (1, 1)].map fun o : Nat × Nat =>
      (f.rendered geom (1 + c % 2) (2 * r + o.1) (c / 2 * 2 + o.2) : Int))).toNat
  if depth = 8 then eightBits v else v

end Sys2Proof.Machine
end

