-- ==== Sys2Proof/Machine/Camera.lean ====
section
/-! DEFINITION. CSI-2 receivers, the image pipeline's frames, passes and outputs, and VISR's boxes
(14_camera_pipeline.md). -/

namespace Sys2Proof.Machine

/-! ### Outputs -/

def outPort (s : State) (o : Nat) : Nat :=
  s.getA (if o = 0 then ISP.OUTSRC_DISP else if o = 1 then ISP.OUTSRC_CODE else ISP.OUTSRC_VIS)

def State.ispOut (s : State) (o : Nat) : OutSt := SMap.get {} s.isp.outs o
def State.setOut (s : State) (o : Nat) (x : OutSt) : State := { s with isp := { s.isp with outs := SMap.set {} s.isp.outs o x } }

/-- The state of the ISP: 0 OFF, 1 WAITGRANT, 2 RUN. -/
def ispState (s : State) : Nat := s.get ISP.STS_STATE

/-- STS.BUSY of the ISP: a frame or a pass in progress (Table ISP-6). -/
def ispBusy (s : State) : Bool := s.isp.pass.isSome || (List.range 3).any fun o => !(s.ispOut o).jobs.isEmpty

/-- Every strip of a frame asks for refresh, as one that was never coded (R301). -/
def refreshAll (f : Frame) (s : State) : State := f.strips.foldl (fun t x => askRefresh f x t) s

/-- A linked CODE frame that the ISP abandons (R301). -/
def abandonLinked (num : Nat) (s : State) : State :=
  match frameOf s num with
  | none => s
  | some f =>
    if f.endT.isSome then s
    else if !f.dispatched then refreshAll f (dropFrame f s)
    else (List.range f.strips.length).foldl (fun t j =>
      match f.strips[j]? with
      | some x => if x.st == 0 && !x.conceal && !eligible s f j x then concealStrip f j x false t else t
      | none => t) s

/-- An output abandons one of its frames (R301): it is not published, and the ring does not advance. -/
def abandonJob (o : Nat) (x : OutJob) (s : State) : State :=
  let t := s.setOut o { s.ispOut o with jobs := (s.ispOut o).jobs.filter (· != x) }
  let t := if o = 0 then (t.inc ISP.ABN1_DISP).put ISP.ISR_DABN 1
    else if o = 1 then (t.inc ISP.ABN1_CODE).put ISP.ISR_CABN 1 else (t.inc ISP.ABN2_VIS).put ISP.ISR_VABN 1
  let t := recErr .isp 0x0102 t
  x.frame.elim t fun num => abandonLinked num t

/-- The frames of an output that a test names are abandoned. -/
def abandonWhere (o : Nat) (p : OutJob → Bool) (s : State) : State :=
  ((s.ispOut o).jobs.filter p).foldl (fun t x => abandonJob o x t) s

/-- An output abandons all that is on its way. -/
def abandonOutput (o : Nat) (s : State) : State := abandonWhere o (fun _ => true) s

/-- The in-line frame of a port with a stamp is abandoned on every output it feeds (R301). -/
def abandonFed (p stamp : Nat) (s : State) : State :=
  repeatFor 3 (fun o t => abandonWhere o (fun x => x.port == p && x.inline && x.stamp == stamp) t) s

/-- Format, ring base and last ring position of DISP and CODE, and of VIS. -/
def outFmt (s : State) (o : Nat) : Nat := s.getA (if o = 0 then ISP.DCFG_FMT else if o = 1 then ISP.CCFG_FMT else ISP.VCFG_FMT)
def outBase (s : State) (o : Nat) : Nat := s.getA (if o = 0 then ISP.DCFG_BASE else ISP.CCFG_BASE)
def outLastPos (s : State) (o : Nat) : Nat :=
  s.getA (if o = 0 then ISP.DCFG_NSURF else if o = 1 then ISP.CCFG_NSURF else ISP.VCFG_NBUF)

/-- CODE is linked to a ring (R299). -/
def codeLinked (s : State) : Bool := s.getA ISP.CCFG_LINK == 1

/-- Crop x, y, width, height, output width, height, CSC, FMT and PITCH of an output; VIS has no CSC: codes 4 and 5 stand for its RGB
and its Y8 (Table ISP-3, Table ISP-6). -/
def outGeom (s : State) (o : Nat) : List Nat :=
  [s.getA (ISP.CROP0_X o), s.getA (ISP.CROP0_Y o), s.getA (ISP.CROP1_W o), s.getA (ISP.CROP1_H o), s.getA (ISP.SIZE_W o),
    s.getA (ISP.SIZE_H o), if o = 0 then s.getA ISP.DCFG_CSC else if o = 1 then s.getA ISP.CCFG_CSC else if outFmt s 2 = 2 then 4 else 5,
    outFmt s o, if o = 2 then s.getA ISP.VCFG_PITCH else 0]

/-- The ring position after one. -/
def nextPos (s : State) (o pos : Nat) : Nat := if pos < outLastPos s o then pos + 1 else 0

/-- The ring position of an output's next frame: past those in progress. -/
def freePos (s : State) (o : Nat) : Nat :=
  match (s.ispOut o).jobs.getLast? with
  | some x => nextPos s o x.pos
  | none => (s.ispOut o).pos

/-! ### Ports -/

def csiPage (n : Fin 3) : Page := .csi n

/-- STS.STATE of a port: 0 OFF, 1 WAITFS, 2 RX, 3 LOST. -/
def csiState (s : State) (n : Nat) : Nat := s.get (CSI.STS_STATE n)

/-- Bits per sample of CFG.DT: RAW8, RAW10, RAW12 or RAW14 (Table CSI-1). -/
def rawBits (s : State) (n : Nat) : Nat := 8 + 2 * (s.get (CSI.CFG_DT n) - 0x2A)

/-- Bytes of a stored raw sample (R291). -/
def rawBytes (s : State) (n : Nat) : Nat := if s.get (CSI.CFG_DT n) = 0x2A then 1 else 2

/-- Buffers of a raw ring (Table CSI-3). -/
def rawBufs (s : State) (n : Nat) : Nat := min 4 (max 1 (s.get (CSI.RAWCFG_NBUF n)))

/-- The pitch of raw rows (R291). -/
def rawPitch (s : State) (n : Nat) : Nat := ceilDiv (s.get (CSI.SIZE_WIDTH n) * rawBytes s n) 64 * 64

/-- Where row `r` of raw buffer `b` lies (R291). -/
def rawAddr (s : State) (n b r : Nat) : Nat :=
  s.get64 (CSI.RAWADDRL_A n) (CSI.RAWADDRH_A n) + b * s.get (CSI.RAWSTRIDE_N n) + r * rawPitch s n

/-- A sample made 14 bits wide (R290). -/
def sample14 (s : State) (n v : Nat) : Nat := v * 2 ^ (14 - rawBits s n)

/-- SIZE is allowed (R290). -/
def sizeOk (s : State) (n : Nat) : Bool :=
  let w := s.get (CSI.SIZE_WIDTH n)
  let h := s.get (CSI.SIZE_HEIGHT n)
  w % 2 == 0 && h % 2 == 0 && decide (64 ≤ w ∧ w ≤ 8192 ∧ 64 ≤ h ∧ h ≤ 6144)

/-- The enable of a port is allowed (R291, Table CSI-2). -/
def csiEnableOk (s : State) (n : Nat) : Bool :=
  let dest := s.get (CSI.CFG_DEST n)
  sizeOk s n && s.get (CSI.CFG_LANES n) != 3 &&
    (dest != 1 || !(List.range 3).any fun m => m != n && s.bit (CSI.CTL_EN m) && s.get (CSI.CFG_DEST m) == 1) &&
    (dest != 2 || decide (rawPitch s n * s.get (CSI.SIZE_HEIGHT n) ≤ s.get (CSI.RAWSTRIDE_N n)))

/-- A frame is abandoned from here onward (R292), on every output that it feeds (R301); the ISP does not take up one that
it has not begun. -/
def abandonFrame (n : Fin 3) (s : State) : State :=
  let c := s.csi n
  let t := s.setCsi n { c with abandoned := true, start := false }
  let t := recErr (csiPage n) 0x0104 ((t.inc (CSI.CNT_ABNCNT n)).put (CSI.ISR_ABANDON n) 1)
  if c.dest = 1 then abandonFed n c.stamp t else t

/-- A frame in progress that is delivered somewhere and not abandoned yet. -/
def receiving (s : State) (n : Nat) : Bool := csiState s n == 2 && (s.csi n).dest != 0 && !(s.csi n).abandoned

/-- CTL.EN of a port written 1 (R291). -/
def csiEnableOp (n : Fin 3) (s : State) : State :=
  if s.bit (CSI.CTL_EN n) then s
  else checked (csiPage n) [(!csiEnableOk s n, 0x0101)] (fun t =>
    (t.puts [(CSI.CTL_EN n, 1), (CSI.STS_STATE n, 1)]).setCsi n { t.csi n with mark := none, abandoned := false, dest := 0 }) s

/-- CTL.EN of a port written 0: OFF, and a frame in progress is abandoned (log entry 17). -/
def csiDisableOp (n : Fin 3) (s : State) : State :=
  let t := if receiving s n then abandonFrame n s else s
  (t.puts [(CSI.CTL_EN n, 0), (CSI.STS_STATE n, 0)]).setCsi n { t.csi n with dest := 0, start := false, mark := none }

/-- CSI_ENABLE (R291, Table CSI-2). -/
def execCsiEnable (n : Fin 3) (s : State) : Out :=
  onCore (onLink (.csiEnable n) (onPage (csiPage n) (csiEnableOp n))) s

/-- The first free raw buffer, in ring order from the next one (R291). -/
def freeRaw (s : State) (n : Nat) : Option Nat :=
  let m := rawBufs s n
  ((List.range m).map fun k => (s.get (CSI.RAWSTS_WR n) + k) % m).find? fun b => !(s.csi n).full.any fun e => e.1 == b

/-- A frame is discarded whole (R291, R294). -/
def discardFrame (n : Nat) (s : State) : State := (s.inc (CSI.CNT_DISCNT n)).setCsi n { s.csi n with dest := 0 }

/-- What becomes of a frame that starts (R291, R294): code 3 of DEST is taken as 0 (log entry 17). -/
def routeFrame (n : Nat) (s : State) : State :=
  let c := s.csi n
  if s.get (CSI.CFG_DEST n) = 1 then
    if ispState s = 2 then s.setCsi n { c with dest := 1, start := true }
    else if ispState s = 1 then discardFrame n s
    else s.setCsi n { c with dest := 0 }
  else if s.get (CSI.CFG_DEST n) = 2 then
    match freeRaw s n with
    | some b => s.setCsi n { c with dest := 2, buf := b }
    | none => (discardFrame n s).put (CSI.ISR_RAWDROP n) 1
  else s.setCsi n { c with dest := 0 }

/-- RAWSTS.FULL: a bit for each buffer that awaits a pass (log entry 17). -/
def rawFull (s : State) (n : Nat) : Nat := (((s.csi n).full.map fun e => 2 ^ e.1)).sum

/-- A raw frame is written: its buffer awaits a pass, or is free at once if no output names the port (R291). -/
def rawDone (n : Nat) (s : State) : State :=
  let c := s.csi n
  let named := (List.range 3).any fun o => outPort s o == n
  let t := if named then s.setCsi n { c with full := c.full ++ [(c.buf, c.stamp)] } else s
  t.puts [(CSI.RAWSTS_WR n, (c.buf + 1) % rawBufs s n), (CSI.RAWSTS_FULL n, rawFull t n), (CSI.ISR_FRAME n, 1)]

/-- A frame that came whole, wherever it went (R290 to R292). -/
def wholeFrame (n : Nat) (s : State) : State :=
  let c := s.csi n
  let t := s.put (CSI.LINEPER_T n) (openDiv ((c.lineN - c.line0 : Nat) : Int) (max 1 (c.rows.length - 1))).toNat
  if c.dest = 2 then rawDone n t else t

/-- The frame in progress ends: whole if all its lines came, else abandoned if it was delivered anywhere (R292). -/
def closeFrame (n : Fin 3) (s : State) : State :=
  if csiState s n ≠ 2 ∨ (s.csi n).abandoned then s
  else if s.get (CSI.SIZE_HEIGHT n) ≤ (s.csi n).rows.length then wholeFrame n s
  else if receiving s n then abandonFrame n s
  else s

/-- A packet's header is judged: one of another virtual channel is discarded without count, a corrected one is counted, a
lost one is recorded and handled as `lost` says (R289, R292). -/
def onHead (n : Fin 3) (h : CsiHead) (lost act : State → State) (s : State) : State :=
  if csiState s n = 0 then s
  else if h.lost then lost (recErr (csiPage n) 0x0102 s)
  else if h.vc.toNat ≠ s.get (CSI.CFG_VC n) then s
  else act (if h.fixed then s.inc (CSI.FIXCNT_ECCFIX n) else s)

/-- A frame start is taken (R290, R291): the frame before, if no frame end came, is closed. -/
def frameStart (n : Fin 3) (s : State) : State :=
  let t := closeFrame n s
  let (e, t) := t.fresh
  let old := t.csi n
  let c : CsiSt := { old with
    stamp := t.mtime + e % 5 - 2, rows := [], prev := (old.stamp, old.rows), fixes := 0, abandoned := false, start := false
    dest := 0, mark := some t.mtime }
  routeFrame n ((t.put (CSI.STS_STATE n) 2).setCsi n c)

def csiFrameStartEff (n : Fin 3) (h : CsiHead) (s : State) : State := onHead n h id (frameStart n) s

/-- CSI_FRAME_START (R289 to R291): the stamp lies within 2 ticks of the arrival, where is free. -/
def execCsiFrameStart (n : Fin 3) (h : CsiHead) (s : State) : Out := onCore (csiFrameStartEff n h) s

/-- Bytes of a raw row (R291). -/
def rawRow (s : State) (n : Nat) (px : List Nat) : List Byte := px.flatMap fun v => leBytes (rawBytes s n) v

/-- A line is delivered, as it came or as repaired: `px` are its samples as received. -/
def deliverLine (n : Nat) (px : List Nat) (s : State) : State :=
  let c := s.csi n
  let t := if c.dest = 2 then s.dramWrite (rawAddr s n c.buf c.rows.length) (rawRow s n px) else s
  t.setCsi n { c with
    rows := c.rows ++ [px.map (sample14 s n)]
    line0 := if c.rows.isEmpty then s.mtime else c.line0, lineN := s.mtime }

/-- A lost line is repaired, or the frame abandoned (R292); a frame that is delivered nowhere has no line to repair. -/
def repairLine (n : Fin 3) (s : State) : State :=
  let c := s.csi n
  let y := c.rows.length
  if !receiving s n then s
  else if y = 0 ∨ s.get (CSI.LOSS_MAXFIX n) ≤ c.fixes then abandonFrame n s
  else
    let px := (c.rows.getD (if y = 1 then 0 else y - 2) []).map (· / 2 ^ (14 - rawBits s n))
    let t := (s.inc (CSI.FIXCNT_LINEFIX n)).put (CSI.ISR_LINEFIX n) 1
    deliverLine n px (t.setCsi n { c with fixes := c.fixes + 1 })

/-- A line of the frame in progress is still due. -/
def lineDue (s : State) (n : Nat) : Bool :=
  csiState s n == 2 && !(s.csi n).abandoned && decide ((s.csi n).rows.length < s.get (CSI.SIZE_HEIGHT n))

/-- The port takes this data type: the selected one, of those of Table CSI-1 (R289). -/
def takesType (s : State) (n : Nat) (dt : BitVec 6) : Bool :=
  dt.toNat == s.get (CSI.CFG_DT n) && decide (0x2A ≤ dt.toNat ∧ dt.toNat ≤ 0x2D)

/-- A line of the frame in progress is lost; where none is due, nothing is. -/
def loseLine (n : Fin 3) (s : State) : State := if lineDue s n then repairLine n s else s

/-- A long packet whose header stands (R289, R292, R293): its CRC is checked whether or not a line is due, and a wrong word
count loses its line. -/
def longPacket (n : Fin 3) (k : CsiLine) (px : List Nat) (s : State) : State :=
  match k with
  | .good => if px.length = s.get (CSI.SIZE_WIDTH n) then (if lineDue s n then deliverLine n px s else s) else loseLine n s
  | .crcError => loseLine n (recErr (csiPage n) 0x0103 s)
  | .overflow => if lineDue s n ∧ (s.csi n).dest = 1 then abandonFrame n s else s

def csiLongPacketEff (n : Fin 3) (h : CsiHead) (dt : BitVec 6) (k : CsiLine) (px : List Nat) (s : State) : State :=
  if !h.lost && !takesType s n dt then s
  else onHead n h (loseLine n) (longPacket n k px) s

/-- CSI_LONG_PACKET (R289, R290, R292, R293): a long packet with its samples as received. -/
def execCsiLongPacket (n : Fin 3) (h : CsiHead) (dt : BitVec 6) (k : CsiLine) (px : List Nat) (s : State) : Out :=
  onCore (csiLongPacketEff n h dt k px) s

/-- A frame end is taken (R291, R292). -/
def frameEnd (n : Fin 3) (s : State) : State :=
  if csiState s n = 2 then
    let t := closeFrame n s
    (t.put (CSI.STS_STATE n) 1).setCsi n { t.csi n with mark := some t.mtime }
  else s

def csiFrameEndEff (n : Fin 3) (h : CsiHead) (s : State) : State := onHead n h id (frameEnd n) s

/-- CSI_FRAME_END (R289, R291, R292). -/
def execCsiFrameEnd (n : Fin 3) (h : CsiHead) (s : State) : Out := onCore (csiFrameEndEff n h) s

/-! ### What an output writes (R296, R298) -/

/-- The raw samples of a job's frame: the lines that came in-line, or its raw buffer (R291, R293). -/
def jobRaw (s : State) (x : OutJob) : Nat → Nat → Nat :=
  let c := s.csi x.port
  if x.inline then
    let rows := if c.stamp = x.stamp then c.rows else c.prev.2
    fun r k => (rows.getD r []).getD k 0
  else fun r k => sample14 s x.port (s.dramNat (rawAddr s x.port x.buf r + rawBytes s x.port * k) (rawBytes s x.port))

/-- A job's frame in front of the stages; its tables are read as it is published (log entry 44). -/
def jobSensor (s : State) (x : OutJob) (k : Nat) : Sensor :=
  { w := s.get (CSI.SIZE_WIDTH x.port), h := s.get (CSI.SIZE_HEIGHT x.port), raw := jobRaw s x, pset := x.pset
    lsc := fun i => s.dramNat (sliceNat x.pset 16 8 + 2 * i) 2
    tone := fun i => s.dramNat (sliceNat x.pset 56 8 + 2 * i) 2, k := k }

/-- What VIS writes: Y plain, Y in TCF lossy, or the planes R, G and B, 8 bits each (Table ISP-3). -/
def storeVis (x : OutJob) (f : Sensor) (k : Nat) (s : State) : State :=
  let a := s.getA (ISP.VADDRL_A x.pos) + 2 ^ 32 * s.getA (ISP.VADDRH_A x.pos)
  let g (i : Nat) := x.geom.getD i 0
  let pl (fmt p : Nat) : Plane := { addr := a + p * g 8 * g 5, fmt := fmt, pitch := g 8, w := g 4, h := g 5 }
  let put (fmt p : Nat) (t : State) : State :=
    storePlane (pl fmt p) (fun _ _ => true) (fun r c => eightBits (f.rendered x.geom p r c)) (openPicture k 8 0) 0 t
  if g 7 = 0 then put 0 0 s else if g 7 = 1 then put 4 0 s else put 0 2 (put 0 1 (put 0 0 s))

/-- The picture of an output's frame goes to memory (R296 to R299). -/
def storeOutput (o : Nat) (x : OutJob) (s : State) : State :=
  let (k, t) := s.fresh
  let f := jobSensor s x k
  if o = 2 then storeVis x f k t
  else (surfaceAt s x.surf).elim t fun sf => storePicture sf (fun _ _ _ => true) (f.picture x.geom (fmtDepth sf.fmt)) 0 t

/-- An output shows a frame as published (R298), and its ring advances. -/
def publish (o : Nat) (x : OutJob) (s : State) : State :=
  let t := if o = 0 then ((s.put ISP.DSTS_LAST x.surf).inc ISP.DSTS_FRAMES).put ISP.ISR_DEOF 1
    else if o = 1 then ((s.put ISP.CSTS_LAST x.surf).inc ISP.CSTS_FRAMES).put ISP.ISR_CEOF 1
    else (((s.put ISP.VSTS_LAST x.pos).put64 (ISP.VTSL_T x.pos) (ISP.VTSH_T x.pos) x.stamp).inc ISP.VSTS_FRAMES).put
      ISP.ISR_VEOF 1
  let y := s.ispOut o
  fireEdge 41 (t.setOut o { jobs := y.jobs.filter (· != x), pos := nextPos s o x.pos })

/-- The black picture of a CSC at a bit depth: Y 64 of 1023, or 0 in full range, and chroma at its middle (R305; the levels
of the standards that R296 names: PRESUMED, log entry 44). -/
def blackPicture (csc depth : Nat) : Picture := fun p _ _ =>
  if p ≠ 0 then 2 ^ (depth - 1) else if csc = 3 then 0 else 2 ^ (depth - 4)

/-- DISP publishes one black frame into its next surface (R305). -/
def publishBlack (p : Nat) (s : State) : State :=
  let pos := freePos s 0
  let x : OutJob := { port := p, inline := false, buf := 0, stamp := s.mtime, pos := pos, surf := outBase s 0 + pos, pset := []
                      geom := outGeom s 0 }
  publish 0 x ((surfaceAt s x.surf).elim s fun sf =>
    storePicture sf (fun _ _ _ => true) (blackPicture (s.getA ISP.DCFG_CSC) (fmtDepth sf.fmt)) 0 s)

/-- The port has seen no frame start since the last frame end, or no frame end since a frame start, for LOSS.MS ms (R305). -/
def lossDue (s : State) (n : Nat) : Bool :=
  match (s.csi n).mark with
  | some m => decide (max 1 (s.get (CSI.LOSS_MS n)) * 98304 ≤ s.mtime - m)
  | none => false

def csiLossEff (n : Fin 3) (s : State) : State :=
  if (csiState s n = 1 ∨ csiState s n = 2) ∧ lossDue s n then
    let t := if receiving s n then abandonFrame n s else s
    let t := (t.puts [(CSI.STS_STATE n, 3), (CSI.ISR_LOSS n, 1)]).setCsi n { t.csi n with start := false, dest := 0 }
    if s.getA ISP.DCFG_LOSSBLK = 1 ∧ outPort s 0 = n ∧ ispState s = 2 then publishBlack n t else t
  else s

/-- CSI_LOSS (R305): with LOSSBLK, DISP publishes a black frame. -/
def execCsiLoss (n : Fin 3) (s : State) : Out := onCore (csiLossEff n) s

/-- A read of FSTAMPL latches FSTAMPH (R290). -/
def readFstampl (n : Nat) (s : State) : W32 × State :=
  (BitVec.ofNat 32 (s.csi n).stamp, s.put (CSI.FSTAMPH_T n) ((s.csi n).stamp / 2 ^ 32))

/-- FSTAMPL_READ (R290). -/
def execFstamplRead (n : Fin 3) (s : State) : Out :=
  onCore (onLink (.fstamplRead n) fun s => answer (readOnPage (csiPage n) (readFstampl n) s)) s

/-- The configuration of a port: refused while EN is 1 (R304, Table CSI-2). -/
def writeCsi (n : Fin 3) (fs : List Fld) (d : W32) (s : State) : State :=
  checked (csiPage n) [(s.bit (CSI.CTL_EN n), 0x0100)] (fun t => t.storeAll fs d) s

/-! ### Frame boundaries of the ISP -/

/-- A parameter block has no reserved value and no non-zero reserved byte (R295, Table ISP-1). -/
def psetOk (b : List Byte) : Bool :=
  decide (sliceNat b 10 1 ≤ 3 ∧ sliceNat b 11 1 ≤ 1 ∧ sliceNat b 64 1 ≤ 15 ∧ sliceNat b 65 1 ≤ 15) &&
    allZero (bytesAt b 12 16) && allZero (bytesAt b 66 256)

/-- The parameter block of a source is read at a boundary (R295). -/
def takePset (p : Nat) (s : State) : State :=
  let b := s.dramRead (s.getA (ISP.PSETL_A p) + 2 ^ 32 * s.getA (ISP.PSETH_A p)) 256
  if psetOk b then { s with isp := { s.isp with pset := SMap.set [] s.isp.pset p b } }
  else recErr .isp 0x0100 (s.put ISP.ISR_PSET 1)

/-- A dimension is reduced by a ratio from 1/8 to 1 (Table ISP-2). -/
def ratioOk (crop size : Nat) : Bool := decide (size ≤ crop ∧ crop ≤ 8 * size)

/-- Sizes of Table ISP-3. -/
def outSizeOk (o w h : Nat) : Bool :=
  if o = 0 then w % 2 == 0 && h % 2 == 0 && decide (64 ≤ w ∧ w ≤ 4096 ∧ 64 ≤ h ∧ h ≤ 2160)
  else if o = 1 then w % 8 == 0 && h % 8 == 0 && decide (64 ≤ w ∧ w ≤ 8192 ∧ 64 ≤ h ∧ h ≤ 4320)
  else w % 2 == 0 && h % 2 == 0 && decide (0 < w ∧ w ≤ 1280 ∧ 0 < h ∧ h ≤ 720)

/-- A surface is valid, of a format and of exactly a size (R297). -/
def surfaceIs (s : State) (i fmt w h : Nat) : Bool :=
  match surfaceAt s i with
  | some sf => sf.fmt == fmt && sf.w == w && sf.h == h
  | none => false

/-- The oldest fetched frame of the linked ring that is not yet bound (R299). -/
def bindable (s : State) : Option Frame :=
  (ringFrames s (s.getA ISP.CCFG_RING)).find? fun f => f.op == 1 && f.linked && !f.bound && f.endT.isNone

/-- The buffers that an output writes are fit for it (R297). -/
def buffersOk (s : State) (o w h : Nat) : Bool :=
  let fmt := outFmt s o
  let ring := (List.range (outLastPos s o + 1)).all fun k => surfaceIs s (outBase s o + k) fmt w h
  if o = 0 then (fmt == 0 || fmt == 2 || fmt == 4) && ring
  else if o = 1 then decide (fmt ≤ 3) && (if codeLinked s then
      (match bindable s with
        | some f => surfaceIs s f.surf fmt w h
        | none => true) else ring)
  else
    let p := s.getA ISP.VCFG_PITCH
    decide (fmt ≤ 2) && p % 64 == 0 && decide (w ≤ if fmt = 1 then 32 * p else p)

/-- The configuration of an output is valid for a source frame (R297). -/
def outputOk (s : State) (o p : Nat) : Bool :=
  let w := s.getA (ISP.SIZE_W o)
  let h := s.getA (ISP.SIZE_H o)
  let cw := s.getA (ISP.CROP1_W o)
  let ch := s.getA (ISP.CROP1_H o)
  decide (s.getA (ISP.CROP0_X o) + cw ≤ s.get (CSI.SIZE_WIDTH p) ∧ s.getA (ISP.CROP0_Y o) + ch ≤ s.get (CSI.SIZE_HEIGHT p)) &&
    ratioOk cw w && ratioOk ch h && outSizeOk o w h && buffersOk s o w h

/-- An output takes a frame of its source (R295, R297, R299); a frame that is still on its way there completes (R304). -/
def beginOutput (p buf stamp : Nat) (inline : Bool) (o : Nat) (s : State) : State :=
  if outPort s o ≠ p then s
  else
    let pos := freePos s o
    let x : OutJob := { port := p, inline := inline, buf := buf, stamp := stamp, pos := pos, surf := outBase s o + pos
                        pset := SMap.get [] s.isp.pset p, geom := outGeom s o }
    let add (x : OutJob) (t : State) : State := t.setOut o { t.ispOut o with jobs := (t.ispOut o).jobs ++ [x] }
    if !outputOk s o p then recErr .isp 0x0101 s
    else if x.pset = [] then s
    else if o = 1 ∧ codeLinked s then
      match bindable s with
      | some f => add { x with frame := some f.num, surf := f.surf } (updFrame f.num (fun f => { f with bound := true, time := stamp }) s)
      | none => s.inc ISP.ABN2_CNOMATCH
    else add x s

/-- The raw frame whose pass is next: the earliest stamp, ties to the lower port (R293). -/
def nextPass (s : State) : Option (Nat × Nat × Nat) :=
  let all := (List.range 3).flatMap fun n => (s.csi n).full.map fun e => (n, e.1, e.2)
  all.find? fun a => all.all fun b => decide (a.2.2 < b.2.2 ∨ (a.2.2 = b.2.2 ∧ a.1 ≤ b.1))

/-- A frame boundary: the FRAME commit point, the parameter block, the outputs (R295). -/
def frameBoundary (p buf stamp : Nat) (inline : Bool) (s : State) : State :=
  repeatFor 3 (beginOutput p buf stamp inline) (takePset p (commitPoint .isp 1 s))

def ispFrameBoundaryEff (p : Nat) (s : State) : State :=
  if ispState s = 2 then
    if (s.csi p).start then frameBoundary p 0 (s.csi p).stamp true (s.setCsi p { s.csi p with start := false })
    else if s.isp.pass.isNone then
      match nextPass s with
      | some (n, b, stamp) =>
        if n = p then
          frameBoundary p b stamp false ({ s with isp := { s.isp with pass := some (p, b) } }.put ISP.PASSSTS_CUR p)
        else s
      | none => s
    else s
  else s

/-- ISP_FRAME_BOUNDARY (R293, R295, R297, R299): of the port's in-line frame, or of its pass. -/
def execIspFrameBoundary (p : Fin 3) (s : State) : Out := onCore (ispFrameBoundaryEff p) s

def passEndEff (s : State) : State :=
  match s.isp.pass with
  | some (p, b) =>
    if (List.range 3).any fun o => (s.ispOut o).jobs.any fun x => x.port == p && !x.inline then s
    else
      let c := s.csi p
      let t := { s with isp := { s.isp with pass := none } }
      let t := t.setCsi p { c with full := c.full.filter fun e => e.1 != b }
      ((t.puts [(ISP.PASSSTS_CUR, 3), (CSI.RAWSTS_FULL p, rawFull t p)]).inc ISP.PASSSTS_DONE)
  | none => s

/-- PASS_END (R291, R293): once every output that the pass feeds has published. -/
def execPassEnd (s : State) : Out := onCore passEndEff s

/-- PASSSTS.PEND: frames whose passes wait. -/
def passPend (s : State) : Nat :=
  ((List.range 3).map fun n => (s.csi n).full.length).sum - (if s.isp.pass.isSome then 1 else 0)

/-- Number of an output. -/
def outNum (o : IspOut) : Nat := match o with | .disp => 0 | .code => 1 | .vis => 2

/-- CODE row 0 reached DRAM so long after the stamp, in an in-line frame (R300). -/
def measureFirst (x : OutJob) (o firstRow : Nat) (s : State) : State :=
  if o = 1 ∧ x.inline then s.puts [(ISP.LATSTS_VALID, 1), (ISP.LATSTS_FIRSTROW, firstRow)] else s

/-- The lines of an in-line frame that an output's rows need: those of its crop, and seven below them, as far as stages 2, 4
and 9 reach (R296, R298, R300; DEDUCED, log entry 17). -/
def linesFor (s : State) (x : OutJob) : Nat :=
  min (s.get (CSI.SIZE_HEIGHT x.port)) (x.geom.getD 1 0 + x.geom.getD 3 0 + 7)

def outputPublishEff (o firstRow : Nat) (s : State) : State :=
  match (s.ispOut o).jobs with
  | x :: _ =>
    if x.inline ∧ csiState s x.port = 2 ∧ (s.csi x.port).stamp = x.stamp ∧
        (s.csi x.port).rows.length < linesFor s x then s
    else
      let t := x.frame.elim s fun num => updFrame num (fun f => { f with rowsIn := frameRows f }) s
      publish o x (storeOutput o x (measureFirst x o firstRow t))
  | [] => s

/-- OUTPUT_PUBLISH (R298): the last row of the output's oldest frame is in DRAM. -/
def execOutputPublish (o : IspOut) (firstRow : Nat) (s : State) : Out := onCore (outputPublishEff (outNum o) firstRow) s

def outputAbandonEff (o : Nat) (s : State) : State :=
  match (s.ispOut o).jobs.find? (·.inline) with
  | some x => abandonJob o x s
  | none => s

/-- OUTPUT_ABANDON (R301): 32 rows of an in-line output lie unwritten. -/
def execOutputAbandon (o : IspOut) (s : State) : Out := onCore (outputAbandonEff (outNum o)) s

/-! ### VISR -/

/-- RQTAIL (R302, Table VISR-1). -/
def writeRqtail (d : W32) (s : State) : State :=
  let v := VISR.RQTAIL_I.ofData d
  checked .visr [(decide (2 ^ s.get VISR.RQCFG_SIZE ≤ v), 0x0102)] (fun t => t.put VISR.RQTAIL_I v) s

/-- RQBASE and RQCFG: refused while EN is 1 (Table VISR-1). -/
def writeVisr (fs : List Fld) (d : W32) (s : State) : State :=
  checked .visr [(s.bit VISR.CTL_EN, 0x0103)] (fun t => t.storeAll fs d) s

/-- RQTAIL_WRITE (R302). -/
def execRqtailWrite (d : W32) (s : State) : Out := onCore (onLink (.rqtailWrite d) (onPage .visr (writeRqtail d))) s

/-- A region box (Table CSCH-12). -/
def boxOf (b : List Byte) : Box :=
  { tc := sliceNat b 0 8, x := sliceNat b 8 2, y := sliceNat b 10 2, w := sliceNat b 12 2, h := sliceNat b 14 2
    vx := toSigned 16 (sliceNat b 16 2), vy := toSigned 16 (sliceNat b 18 2), dqp := toSigned 8 (sliceNat b 20 1)
    id := sliceNat b 21 1, rings := sliceNat b 22 1 }

/-- The boxes VISR holds become these. -/
def setBoxes (l : List Box) (s : State) : State := { s with visr := { boxes := l } }

/-- An entry applied to the held boxes (R302). -/
def applyBox (b : List Byte) (s : State) : State :=
  let x := boxOf b
  let rest := s.visr.boxes.filter (·.id != x.id)
  if sliceNat b 23 1 ≥ 2 ∨ !allZero (bytesAt b 24 32) then recErr .visr 0x0101 s
  else if natBit (sliceNat b 23 1) 0 then
    if rest.length < s.visr.boxes.length then setBoxes rest (s.put VISR.ISR_BOX 1) else s
  else if rest.length < s.visr.boxes.length then
    setBoxes (s.visr.boxes.map fun y => if y.id == x.id then x else y) (s.put VISR.ISR_BOX 1)
  else if s.visr.boxes.length < 64 then setBoxes (s.visr.boxes ++ [x]) (s.put VISR.ISR_BOX 1)
  else recErr .visr 0x0100 ((s.inc VISR.CNT_REFUSED).put VISR.ISR_FULL 1)

def boxIntakeEff (s : State) : State :=
  let h := s.get VISR.RQHEAD_I
  if s.bit VISR.CTL_EN ∧ h ≠ s.get VISR.RQTAIL_I then
    applyBox (s.dramRead (s.get64 VISR.RQBASEL_A VISR.RQBASEH_A + 32 * h) 32)
      (s.put VISR.RQHEAD_I ((h + 1) % 2 ^ s.get VISR.RQCFG_SIZE))
  else s

/-- BOX_INTAKE (R302): VISR reads and applies the next entry. -/
def execBoxIntake (s : State) : Out := onCore boxIntakeEff s

/-- A held box is older than EXPIRE ms (R302). -/
def boxExpired (s : State) (b : Box) : Bool := decide (b.tc + s.get VISR.RQCFG_EXPIRE * 98304 < s.mtime)

def boxExpireEff (s : State) : State :=
  let n := s.visr.boxes.countP (boxExpired s)
  setBoxes (s.visr.boxes.filter fun b => !boxExpired s b) (s.put VISR.CNT_EXPIRED (s.get VISR.CNT_EXPIRED + n))

/-- BOX_EXPIRE (R302): the 1 ms check. -/
def execBoxExpire (s : State) : Out := onCore boxExpireEff s

end Sys2Proof.Machine
end

