-- ==== Sys2Proof/Machine/Hdmi.lean ====
section
/-! DEFINITION. HDMI in and out, and the compositor (15_hdmi_earc_audio.md, R307 to R320). The link protocols and HDCP
authentication are the sender's; their outcomes are operands. -/

namespace Sys2Proof.Machine

/-! ### State of the three blocks -/

/-- HRX.STS.STATE: 0 OFF, 1 WAITGRANT, 2 NOSIG, 3 TMDS, 4 FRL. -/
def hrxState (s : State) : Nat := s.get HRX.STS_STATE

/-- HRX receives a signal. -/
def hrxSignal (s : State) : Bool := decide (3 ≤ hrxState s)

/-- HTX.STS.STATE: 0 OFF, 1 WAITGRANT, 2 NOHPD, 3 TRAIN, 4 RUN, 5 FAIL. -/
def htxState (s : State) : Nat := s.get HTX.STS_STATE

/-- COMP.STS.STATE: 0 OFF, 1 WAITGRANT, 2 RUN. -/
def compState (s : State) : Nat := s.get COMP.STS_STATE

/-- HTX runs in FOLLOW mode (R312). -/
def follows (s : State) : Bool := s.get HTX.CFG_MODE == 0

/-- HPD toward the source (R308). -/
def hrxHpd (s : State) : Bool := s.hrx.lanes && s.bit HRX.HPD_EN && s.hrx.pulse.isNone

/-- HTX enters AVMUTE: an event of a safe state is counted (Table HRX-8, R313, R319, R320). -/
def setAvmute (s : State) : State :=
  if s.htx.avmute then s
  else { ((s.inc HTX.CNT_AVMUTE).put HTX.ISR_AVMUTE 1) with htx := { s.htx with avmute := true } }

/-! ### Pixel clock and link -/

/-- The pixel clock in Hz as a fraction: in FOLLOW that of HRX (R312). -/
def pixelClock (s : State) : Nat × Nat :=
  if follows s then (s.get HRX.TIM1_HTOT * s.get HRX.TIM1_VTOT * 98304000, max 1 (s.get HRX.FPER_T)) else toothClock s

/-- Bits per second of payload of an FRL rate (Table HRX-1; 16 bits in 18, log entry 18). -/
def frlBits (r : Nat) : Nat := ([0, 9, 18, 24, 32, 40].getD r 40) * 1000000000 * 16 / 18

/-- The highest FRL rate that both ends allow, 0 for TMDS; before the television's HF-SCDB is read, that of LINK.FRLMAX
(R314, log entry 18). -/
def frlMax (s : State) : Nat := (s.htx.tvMax.elim id min) (s.get HTX.LINK_FRLMAX)

/-- The timing in the HTX registers can be carried at the highest rate that both ends allow (R314, Table HRX-1). In
FOLLOW they may hold none, and HTX is enabled all the same (Table SYS-36, step 7). -/
def timingOk (s : State) : Bool :=
  let (n, d) := toothClock s
  let b := outBits2 s
  (follows s && (s.get HTX.HTIM_HTOT == 0 || s.get HTX.VTIM_VTOT == 0)) ||
    (s.get HTX.HTIM_HTOT != 0 && s.get HTX.VTIM_VTOT != 0 &&
      decide (n ≤ 1188000000 * d ∧ s.get HTX.HTIM_HACT ≤ 4096 ∧ s.get HTX.VTIM_VACT ≤ 2160) &&
      (if frlMax s = 0 then decide (25000000 * 48 * d ≤ n * b ∧ n * b ≤ 600000000 * 48 * d)
       else decide (n * b ≤ frlBits (frlMax s) * 2 * d)))

/-- HTX leaves a running link: the link and its authentication are gone. -/
def htxLeave (st : Nat) (s : State) : State :=
  let t := s.puts [(HTX.STS_STATE, st), (HTX.LINK_RATE, 0), (HTX.LINK_SCR, 0)]
  let t := t.puts [(HTX.HDCPSTS_AUTH, 0), (HTX.HDCPSTS_VER, 0), (HTX.HDCPSTS_TYPE1OK, 0), (HTX.HDCPSTS_DEVCNT, 0)]
  { t with htx := { t.htx with noHdcp := false, encrypt := false } }

/-- The transmit lanes are powered, or EN is written 1 once more after FAIL: HTX waits for HPD and brings up the link
(R314, first-light table of 19_first_light.md). -/
def htxProceed (s : State) : State := s.put HTX.STS_STATE (if s.sys.tvHpd then 3 else 2)

/-- The timing that HTX sends from now on (R312): HTOT, HACT, VTOT, VACT. -/
def nowTiming (s : State) : Nat × Nat × Nat × Nat :=
  if follows s then (s.get HRX.TIM1_HTOT, s.get HRX.TIM0_HACT, s.get HRX.TIM1_VTOT, s.get HRX.TIM0_VACT)
  else (s.get HTX.HTIM_HTOT, s.get HTX.HTIM_HACT, s.get HTX.VTIM_VTOT, s.get HTX.VTIM_VACT)

/-- COMP shows plane 0 as BG for want of HDCP. -/
def hdcpBlocks (s : State) : Bool :=
  s.get HTX.HDCPSTS_AUTH == 0 || (s.get HRX.FMT_TYPE1 == 1 && s.get HTX.HDCPSTS_TYPE1OK == 0)

/-- The received content is encrypted. -/
def contentEncrypted (s : State) : Bool := hrxSignal s && s.bit HRX.FMT_ENC

/-- HDCP blanking of a plane 0 that would show a picture; it is counted once a frame (R311). -/
def blankHdcp (s : State) : State :=
  match s.comp.plane0 with
  | .hrx | .buffer _ =>
    if hdcpBlocks s ∧ compState s = 2 ∧ htxState s = 4 then
      let t := { s with comp := { s.comp with plane0 := .bg, hdcpCounted := true } }
      if s.comp.hdcpCounted then t else (t.inc COMP.CNT_HDCPBLK).put COMP.ISR_HDCPBLK 1
    else s
  | _ => s

/-- The link is up (R314): a rate code, 0 TMDS. -/
def htxRun (r : Nat) (s : State) : State :=
  let t := s.puts [(HTX.STS_STATE, 4), (HTX.LINK_RATE, r), (HTX.ISR_RUN, 1)]
  let t := showPclk (pixelClock t) { t with htx := { t.htx with timing := nowTiming t } }
  blankHdcp (if compState t = 2 then t else setAvmute t)

/-- The first FRL rate that trains, from one downward (R314). -/
def firstTrained (trained : List Nat) : Nat → Option Nat
  | 0 => none
  | r + 1 => if trained.contains (r + 1) then some (r + 1) else firstTrained trained r

/-- HTX has read what FRL rate the television advertises and brings up the link: TMDS where either end allows no FRL,
else FRL from the lower maximum downward (R314). -/
def htxLinkUpEff (tvMax : Nat) (trained : List Nat) (s : State) : State :=
  if htxState s = 3 then
    let t := { s with htx := { s.htx with tvMax := some tvMax } }
    if frlMax t = 0 then htxRun 0 t
    else match firstTrained trained (min 5 (frlMax t)) with
      | some r => htxRun r t
      | none => recErr .htx 0x0101 ((htxLeave 5 t).put HTX.ISR_LTFAIL 1)
  else s

/-- HTX_LINK_UP: the television's highest FRL rate, 0 for none, and the rates at which training succeeds (R314). -/
def execHtxLinkUp (tvMax : Fin 6) (trained : List (Fin 6)) (s : State) : Out :=
  onCore (htxLinkUpEff tvMax (trained.map (·.val))) s

/-- The television's HPD as HTX senses it (R314, Table COMP-2). -/
def htxHpd (high : Bool) (s : State) : State :=
  let t := s.put HTX.ISR_HPD 1
  if high then (if htxState t = 2 then t.put HTX.STS_STATE 3 else t)
  else
    let t := { t with htx := { t.htx with tvMax := none } }
    if 3 ≤ htxState t then htxLeave 2 t else t

def tvHpdChangeEff (high : Bool) (s : State) : State :=
  if s.sys.tvHpd = high then s
  else
    let t := earcHpd high { s with sys := { s.sys with tvHpd := high } }
    if t.sys.coreUp && !t.held .htx then htxHpd high t else t

/-- TV_HPD_CHANGE (R314, R321, R322, Table COMP-2). -/
def execTvHpdChange (high : Bool) (s : State) : Out := always (tvHpdChangeEff high) s

/-! ### HDCP (R311) -/

/-- HTX has authenticated, or has found no television with HDCP. -/
def downstreamSettled (s : State) : Bool := s.bit HTX.HDCPSTS_AUTH || s.htx.noHdcp

def hdcpAuthEff (side : HdcpSide) (ver devcnt : Nat) (type1ok : Bool) (s : State) : State :=
  match side with
  | .upstream =>
    if hrxSignal s ∧ downstreamSettled s ∧ (ver = 2 ∨ (ver = 1 ∧ hrxState s = 3)) then
      s.puts [(HRX.HDCPSTS_AUTH, 1), (HRX.HDCPSTS_VER, ver), (HRX.ISR_HDCP, 1)]
    else s
  | .downstream =>
    if htxState s = 4 ∧ s.bit HTX.HDCPCTL_EN ∧ ver ≤ 2 then
      if ver = 0 then { s with htx := { s.htx with noHdcp := true } }
      else
        let t := s.puts [(HTX.HDCPSTS_AUTH, 1), (HTX.HDCPSTS_VER, ver), (HTX.HDCPSTS_DEVCNT, devcnt),
          (HTX.HDCPSTS_TYPE1OK, type1ok.toNat), (HTX.ISR_HDCP, 1)]
        blankHdcp { t with htx := { t.htx with noHdcp := false, encrypt := contentEncrypted t } }
    else s

/-- HDCP_AUTH: the version found, 0 for a television without HDCP (R311); upstream 1.4 on TMDS alone (R307). -/
def execHdcpAuth (side : HdcpSide) (ver devcnt : Nat) (type1ok : Bool) (s : State) : Out :=
  onCore (hdcpAuthEff side ver devcnt type1ok) s

/-- Authentication toward the television is gone: plane 0 is BG from the next line (R311, Table COMP-2). -/
def dropDownstream (s : State) : State :=
  if s.bit HTX.HDCPSTS_AUTH then
    let t := s.puts [(HTX.HDCPSTS_AUTH, 0), (HTX.HDCPSTS_VER, 0), (HTX.HDCPSTS_DEVCNT, 0), (HTX.HDCPSTS_TYPE1OK, 0),
      (HTX.ISR_HDCP, 1)]
    blankHdcp { t with htx := { t.htx with encrypt := false } }
  else s

def dropUpstream (s : State) : State :=
  if s.bit HRX.HDCPSTS_AUTH then s.puts [(HRX.HDCPSTS_AUTH, 0), (HRX.HDCPSTS_VER, 0), (HRX.ISR_HDCP, 1)] else s

def hdcpAuthLostEff (side : HdcpSide) (s : State) : State :=
  match side with
  | .upstream => dropUpstream s
  | .downstream => dropDownstream s

/-- HDCP_AUTH_LOST (R311, Table COMP-2). -/
def execHdcpAuthLost (side : HdcpSide) (s : State) : Out := onCore (hdcpAuthLostEff side) s

/-- HDCPCTL (R311). -/
def writeHdcpctl (d : W32) (s : State) : State :=
  let t := s.store HTX.HDCPCTL_EN d
  if t.bit HTX.HDCPCTL_EN then t else dropDownstream { t with htx := { t.htx with noHdcp := false } }

/-! ### HRX -/

/-- The three happenings of R313: AVMUTE clears at the edge that follows MUTEF whole frames of the new timing. -/
def timingEvent (s : State) : State :=
  if htxState s = 4 ∧ follows s then
    let t := setAvmute s
    { t with htx := { t.htx with adopt := true, muteLeft := t.get HTX.CFG_MUTEF + 1 } }
  else s

def hrxLockEff (rate : Nat) (s : State) : State :=
  if hrxState s = 2 ∧ rate ≤ s.get HRX.CFG_FRLMAX then
    let t := s.puts [(HRX.STS_STATE, if rate = 0 then 3 else 4), (HRX.ISR_LOCK, 1)]
    if t.hrx.lostOnce then timingEvent t else t
  else s

/-- HRX_LOCK: to a TMDS signal, rate 0, or to FRL at a rate of Table HRX-1 that CFG.FRLMAX allows (R308, R309, R313). -/
def execHrxLock (rate : Fin 6) (s : State) : Out := onCore (hrxLockEff rate) s

/-- HRX has no signal any more: APORT loses the source, plane 0 is BG (R309, R317, R328). -/
def hrxLose (st : Nat) (s : State) : State :=
  if hrxSignal s then
    let t := sourceStatus false 0 (s.puts [(HRX.STS_STATE, st), (HRX.HDCPSTS_AUTH, 0), (HRX.HDCPSTS_VER, 0)])
    { t with hrx := { t.hrx with lostOnce := true, frame := none }
             comp := { t.comp with plane0 := if t.comp.plane0 = .off then .off else .bg } }
  else s.put HRX.STS_STATE st

def hrxLossEff (s : State) : State := if hrxSignal s then (hrxLose 2 s).put HRX.ISR_LOSS 1 else s

/-- HRX_LOSS (R309, R317). -/
def execHrxLoss (s : State) : Out := onCore hrxLossEff s

/-- What HRX measures of a frame, as its registers hold it (R309). -/
def hrxMeasures (f : HdmiFrame) : List (Fld × Nat) :=
  [(HRX.TIM0_VACT, f.vact), (HRX.TIM0_HACT, f.hact), (HRX.TIM1_VTOT, f.vtot), (HRX.TIM1_HTOT, f.htot), (HRX.FPER_T, f.fper),
   (HRX.FMT_TYPE1, f.type1.toNat), (HRX.FMT_ENC, f.enc.toNat), (HRX.FMT_BPC, f.bpc), (HRX.FMT_SAMP, f.samp)]

/-- The pitch of frame-buffer rows (R310). -/
def fbPitch (hact : Nat) : Nat := ceilDiv (4 * hact) 64 * 64

/-- A component of a received frame at a pixel, repeated to 4:4:4 (R310). -/
def component (f : HdmiFrame) (c x y : Nat) : Nat :=
  let cx := if c ≠ 0 ∧ 2 ≤ f.samp then 2 else 1
  let cy := if c ≠ 0 ∧ f.samp = 3 then 2 else 1
  (f.planes.getD c []).getD (y / cy * ceilDiv f.hact cx + x / cx) 0

/-- A component as a 10-bit value: 12 bits lose their two low bits (R310); 8 bits are the high ones of 10 (log entry
18). -/
def tenBits (bpc v : Nat) : Nat := if bpc = 2 then v / 4 else if bpc = 1 then v else 4 * v

/-- A pixel as the frame buffer holds it (R310). -/
def framePixel (f : HdmiFrame) (x y : Nat) : Nat :=
  tenBits f.bpc (component f 0 x y) * 2 ^ 20 + tenBits f.bpc (component f 1 x y) * 2 ^ 10 + tenBits f.bpc (component f 2 x y)

/-- The frame's rows stored at a pitch (R310). -/
def storeRows (addr pitch : Nat) (f : HdmiFrame) (s : State) : State :=
  repeatFor f.vact (fun y t =>
    t.dramWrite (addr + y * pitch) ((List.range f.hact).flatMap fun x => leBytes 4 (framePixel f x y))) s

/-- The base of a frame buffer (R310). -/
def fbBase (s : State) (k : Nat) : Nat := s.get64 HRX.FBADDRL_A HRX.FBADDRH_A + k * s.get HRX.FBSTRIDE_N

/-- The frame written into the ring (R310). -/
def storeFrame (f : HdmiFrame) (s : State) : State :=
  if s.get HRX.CFG_FB = 0 then s
  else if s.get HRX.FBSTRIDE_N < fbPitch f.hact * f.vact then recErr .hrx 0x0101 s
  else
    let k := s.hrx.nextBuf
    let t := (storeRows (fbBase s k) (fbPitch f.hact) f s).put HRX.FBSTS_LAST k
    { t with hrx := { t.hrx with nextBuf := (k + 1) % 3, newest := some k, done := t.hrx.done + 1 } }

/-- A new timing that R313 waits for is adopted at a frame start of HRX, with its clock (R312). -/
def adoptTiming (s : State) : State :=
  if s.htx.adopt ∧ follows s then
    let t := { s with htx := { s.htx with adopt := false, timing := nowTiming s } }
    if htxState t = 4 then showPclk (pixelClock t) t else t
  else s

/-- HRX supports a frame: the pixel clock, the active area and, in TMDS, the character rate of Table HRX-1 (R307). -/
def frameSupported (f : HdmiFrame) (s : State) : Bool :=
  let n := f.htot * f.vtot * 98304000
  let b := pixelBits2 f.samp f.bpc
  decide (n ≤ 1188000000 * f.fper ∧ f.hact ≤ 4096 ∧ f.vact ≤ 2160) &&
    (hrxState s != 3 || decide (25000000 * 48 * f.fper ≤ n * b ∧ n * b ≤ 600000000 * 48 * f.fper))

/-- A frame beyond Table HRX-1, which HRX does not support (R307), leaves HRX as it was (log entry 18). -/
def hrxFrameEff (f : HdmiFrame) (s : State) : State :=
  if hrxSignal s ∧ frameSupported f s then
    let t := s.puts (hrxMeasures f)
    let changed := (hrxMeasures f).any fun m => s.get m.1 != t.get m.1
    let t := adoptTiming (storeFrame f { t with hrx := { t.hrx with frame := some f } })
    let t := if changed then timingEvent (t.put HRX.ISR_TIMCHG 1) else t
    blankHdcp { t with htx := { t.htx with encrypt := contentEncrypted t && t.bit HTX.HDCPSTS_AUTH } }
  else s

/-- HRX_FRAME: a frame has been received whole; the next one starts (R309 to R311, R313). -/
def execHrxFrame (f : HdmiFrame) (s : State) : Out := onCore (hrxFrameEff f) s

/-- HPD.PULSE written 1 (R308). -/
def hpdPulseEff (s : State) : State := { (s.put HRX.HPD_PULSE 1) with hrx := { s.hrx with pulse := some s.mtime } }

/-- HPD_PULSE (R308). -/
def execHpdPulse (s : State) : Out := onCore (onLink .hpdPulse (onPage .hrx hpdPulseEff)) s

/-- HPD of HRX as a register. -/
def writeHpd (d : W32) (s : State) : State :=
  let t := s.store HRX.HPD_EN d
  if HRX.HPD_PULSE.ofData d = 1 then hpdPulseEff t else t

def hpdRestoreEff (s : State) : State :=
  match s.hrx.pulse with
  | some m => if 200 * 98304 ≤ s.mtime - m then { (s.put HRX.HPD_PULSE 0) with hrx := { s.hrx with pulse := none } } else s
  | none => s

/-- HPD_RESTORE: 200 ms after the pulse (R308). -/
def execHpdRestore (s : State) : Out := onCore hpdRestoreEff s

/-- HRX stops: HPD falls, the lanes are powered down (R308, R333). -/
def hrxStop (s : State) : State :=
  let t := hrxLose 0 s
  { t with hrx := { t.hrx with lanes := false } }

/-! ### HTX registers -/

/-- CFG of HTX: a write that leaves MODE at FOLLOW is one of R313's happenings, whatever MODE was (log entry 18). -/
def writeHtxCfg (d : W32) (s : State) : State :=
  let t := s.storeAll [HTX.CFG_MUTEF, HTX.CFG_IFPASS, HTX.CFG_APASS, HTX.CFG_MODE] d
  if follows t then timingEvent t
  else { t with htx := { t.htx with adopt := false } }

/-- OUTFMT: the character rate goes by it (R314, R316). -/
def writeOutfmt (d : W32) (s : State) : State :=
  setScr (s.storeAll [HTX.OUTFMT_VPOL, HTX.OUTFMT_HPOL, HTX.OUTFMT_BPC, HTX.OUTFMT_SAMP] d)

/-- DDC: writing BLOCK reads that EDID block (Table HRX-8). -/
def writeDdc (d : W32) (s : State) : State := (s.store HTX.DDC_BLOCK d).puts [(HTX.DDC_BUSY, 1), (HTX.DDC_NAK, 0)]

def ddcReadEndEff (data : Option (List Byte)) (s : State) : State :=
  if s.bit HTX.DDC_BUSY then
    let t := s.put HTX.DDC_BUSY 0
    match data with
    | some bs => repeatFor 32 (fun i t => t.put (HTX.EDIDRD_W i) (sliceNat bs (4 * i) 4)) t
    | none => recErr .htx 0x0102 (t.put HTX.DDC_NAK 1)
  else s

/-- DDC_READ_END: the block's 128 bytes, or none where the read was not acknowledged (Table HRX-7, Table HRX-8). -/
def execDdcReadEnd (data : Option (List Byte)) (s : State) : Out := onCore (ddcReadEndEff data) s

/-! ### COMP -/

/-- A swap of a plane is requested; of plane 0 it has no effect (R318). -/
def requestSwap (k : Nat) (s : State) : State :=
  if k = 0 then s
  else
    let v := s.get COMP.SWAP_K
    let t := if natBit v (k - 1) then s else s.put COMP.SWAP_K (v + 2 ^ (k - 1))
    { t with comp := { t.comp with swaps := t.comp.swaps ++ [(k, t.mtime)] } }

/-- SWAP (R318). -/
def writeSwap (d : W32) (s : State) : State :=
  repeatFor 3 (fun i t => if natBit d.toNat (i + 1) then requestSwap (i + 1) t else t) s

/-- SWAP_WRITE (R318). -/
def execSwapWrite (d : W32) (s : State) : Out := onCore (onLink (.swapWrite d) (onPage .comp (writeSwap d))) s

/-- ACTION_SWAP (R318, Table PRS-2). -/
def execActionSwap (k : Fin 4) (s : State) : Out := onCore (takeAct (.swap k) (requestSwap k)) s

/-- ACTION_MUTE (R327, Table PRS-2). -/
def execActionMute (k : Fin 4) (s : State) : Out := onCore (takeAct (.mute k) (portCommand false k)) s

/-- ACTION_UNMUTE (R327, Table PRS-2). -/
def execActionUnmute (k : Fin 4) (s : State) : Out := onCore (takeAct (.unmute k) (portCommand true k)) s

/-- A swap of a plane accepted before this tick is applied (R318). -/
def applySwap (k : Nat) (s : State) : State :=
  let now := s.comp.swaps.filter fun e => e.1 == k && decide (e.2 < s.mtime)
  if now.isEmpty then s
  else
    let rest := s.comp.swaps.filter fun e => !(e.1 == k && decide (e.2 < s.mtime))
    let v := s.get COMP.SWAP_K
    let t := s.puts [(COMP.PCUR_V k, s.get (COMP.PBUF_V k)), (COMP.ISR_SWAPPED, 1),
      (COMP.SWAP_K, if rest.any (·.1 == k) then v else v - v / 2 ^ (k - 1) % 2 * 2 ^ (k - 1))]
    { t with comp := { t.comp with swaps := rest, curH := if k = 3 then s.get (COMP.PBUFH_V 3) else t.comp.curH } }

/-- The surface that plane 1 or 2 shows. -/
def planeSurface (s : State) (k : Nat) : Option Surface := surfaceAt s (s.get (COMP.PCUR_V k) % 4096)

/-- A dimension is scaled by a ratio from 1/4 to 4 (R317). -/
def scaleOk (src dst : Nat) : Bool := decide (src ≤ 4 * dst ∧ dst ≤ 4 * src)

/-- A plane 1 to 3 can be shown (R317). -/
def planeOk (s : State) (k : Nat) : Bool :=
  let w := s.getA (COMP.PSIZE_W k)
  let h := s.getA (COMP.PSIZE_H k)
  let (_, hact, _, vact) := s.htx.timing
  decide (s.getA (COMP.PPOS_X k) + w ≤ hact ∧ s.getA (COMP.PPOS_Y k) + h ≤ vact) &&
    (if k = 3 then (s.get (COMP.PCUR_V 3) + 2 ^ 32 * s.comp.curH) % 64 == 0 && s.getA (COMP.PPITCH_N 3) % 64 == 0
     else match planeSurface s k with
       | some f => scaleOk f.w w && scaleOk f.h h
       | none => false)

/-- A plane 1 to 3 in the frame that begins: shown, or left out with code 0x0100 (R317). -/
def composePlane (k : Nat) (s : State) : State :=
  if s.getA (COMP.PCFG_EN k) = 0 then s
  else if planeOk s k then
    let t := if k = 3 then s else (planeSurface s k).elim s fun f => readRows f 0 f.h s
    { t with comp := { t.comp with shown := t.comp.shown ++ [k] } }
  else recErr .comp 0x0100 s

/-- An edge of TOOTH mode counts the buffers of the ring (R317): one without a buffer completed since the edge before repeats;
of those completed, all but the newest will never be shown, nor will an older one that no edge has shown. -/
def countBuffers (s : State) : State :=
  if follows s then s
  else if s.hrx.done = 0 then s.inc COMP.CNT0_FBREP
  else s.put COMP.CNT0_FBDROP (s.get COMP.CNT0_FBDROP + (s.hrx.done - 1 + s.hrx.unshown.toNat))

/-- Whether the newest completed buffer still waits to be shown after an edge (R317). -/
def noteShown (s : State) : State :=
  let waits := !follows s && (s.hrx.unshown || s.hrx.done != 0) && (match s.comp.plane0 with
    | .buffer _ => false
    | _ => true)
  { s with hrx := { s.hrx with done := 0, unshown := waits } }

/-- Plane 0 takes the newest completed buffer, in TOOTH mode (R317). -/
def takeBuffer (s : State) : State := { s with comp := { s.comp with buf0 := s.hrx.newest } }

/-- Plane 0 in the frame that begins (R317). -/
def composePlane0 (s : State) : State :=
  let show0 (p : Plane0) (t : State) : State := { t with comp := { t.comp with plane0 := p } }
  if s.getA (COMP.PCFG_EN 0) = 0 then show0 .off s
  else if !hrxSignal s then show0 .bg (s.put COMP.ISR_NOSRC 1)
  else if follows s then show0 .hrx s
  else
    let t := takeBuffer s
    match t.comp.buf0 with
    | some k => show0 (.buffer k) t
    | none => show0 .bg t

/-- The frame that begins is composed (R311, R316, R317); without COMP it is black with AVMUTE (R320), and no buffer is
counted (log entry 18). -/
def composeFrame (s : State) : State :=
  let t := { s with comp := { s.comp with
    clean := if s.comp.underflowed ∧ !s.comp.black then s.comp.clean + 1 else s.comp.clean
    black := false, plane0 := .off, shown := [], hdcpCounted := false } }
  if compState s = 2 then
    noteShown (blankHdcp (composePlane 3 (composePlane 2 (composePlane 1 (composePlane0 (countBuffers t))))))
  else setAvmute { t with comp := { t.comp with black := true }, hrx := { t.hrx with done := 0, unshown := false } }

/-- The timing of the frame that begins (R312): in FOLLOW it stays, with its clock, until a new one is adopted; in TOOTH mode
it is the registers', and the clock moves at the teeth (`toothPclk`). -/
def edgeTiming (s : State) : State :=
  if follows s ∧ s.htx.timing.1 ≠ 0 then s
  else
    let t := { s with htx := { s.htx with timing := nowTiming s } }
    if follows s then showPclk (pixelClock s) t else t

/-- An edge may fall now: in TOOTH mode, while PRS makes teeth, within 2 ticks of one (R312). -/
def edgeDue (s : State) : Bool := follows s || decide (prsState s < 2) || nearTooth s

/-- What accompanies the frame (R311, R315). -/
def edgeAncillary (s : State) : State :=
  let own := (List.range 4).filter fun i => s.bit (HTX.IF_EN i)
  let pass := follows s && s.bit HTX.CFG_IFPASS
  { s with htx := { s.htx with
    audio := follows s && s.bit HTX.CFG_APASS, ifPassed := pass, ifSent := if pass then [] else own
    encrypt := contentEncrypted s && s.bit HTX.HDCPSTS_AUTH
    muteLeft := if s.htx.adopt then s.htx.muteLeft else s.htx.muteLeft - 1 } }

def outputFrameEdgeEff (s : State) : State :=
  if htxState s = 4 ∧ edgeDue s then
    let t := edgeTiming s
    let t := if t.bit COMP.CTL_EN then commitPoint .comp 1 t else t
    edgeAncillary (composeFrame (applySwap 3 (applySwap 2 (applySwap 1 t))))
  else s

/-- OUTPUT_FRAME_EDGE (R312, R316 to R320, R329); a disabled COMP has no frame boundary (R48). -/
def execOutputFrameEdge (s : State) : Out := onCore outputFrameEdgeEff s

def avmuteClearEff (s : State) : State :=
  if s.htx.avmute ∧ htxState s = 4 ∧ compState s = 2 ∧ !s.comp.black ∧ !s.htx.adopt ∧ s.htx.muteLeft = 0 ∧
      (s.comp.underflowed → max 1 (s.get COMP.UNMUTEF_N) ≤ s.comp.clean) then
    { s with htx := { s.htx with avmute := false }, comp := { s.comp with underflowed := false, clean := 0 } }
  else s

/-- AVMUTE_CLEAR (R313, R319); with no such command the next tick does it. -/
def execAvmuteClear (s : State) : Out := onCore avmuteClearEff s

/-- COMP fetches a plane of the frame from DRAM. -/
def compFetches (s : State) : Bool :=
  !s.comp.shown.isEmpty || (match s.comp.plane0 with
    | .buffer _ => true
    | _ => false)

def compUnderflowEff (s : State) : State :=
  if compState s = 2 ∧ htxState s = 4 ∧ !s.comp.black ∧ compFetches s then
    let t := setAvmute ((s.inc COMP.CNT_UNDER).put COMP.ISR_UNDER 1)
    recErr .comp 0x0101 { t with comp := { t.comp with black := true, underflowed := true, clean := 0 } }
  else s

/-- COMP_UNDERFLOW (R319). -/
def execCompUnderflow (s : State) : Out := onCore compUnderflowEff s

/-- COMP stops: black with AVMUTE (R320). -/
def compStop (s : State) : State :=
  let t := { s with comp := { s.comp with black := true, plane0 := .off, shown := [] } }
  if htxState t = 4 then setAvmute t else t

/-- A received 10-bit triple in the matrix of OUT.CSC: R, G, B converted, Y, Cb, Cr as it is (R316). -/
def inOutMatrix (s : State) (rgb : Bool) (g b r c : Nat) : Nat :=
  if rgb then rgbToYcc (s.getA COMP.OUT_CSC) (Config.linkFull false) 10 r g b c else [g, b, r].getD c 0

/-- Sample `c` of plane 0 at a place of the active area (R317). -/
def plane0Sample (s : State) (x y c : Nat) : Nat :=
  let of (v : Nat) := inOutMatrix s (s.get HRX.FMT_SAMP == 0) (v / 2 ^ 20 % 1024) (v / 2 ^ 10 % 1024) (v % 1024) c
  match s.comp.plane0 with
  | .buffer k => of (s.dramNat (fbBase s k + y * fbPitch (s.get HRX.TIM0_HACT) + 4 * x) 4)
  | .hrx => s.hrx.frame.elim 0 fun f => of (framePixel f x y)
  | .bg | .off => [s.getA COMP.BG_Y, s.getA COMP.BG_CB, s.getA COMP.BG_CR].getD c 0

/-- Sample `c` of plane 1 or 2 at a place of its rectangle: its surface, scaled, in the output's matrix (R316, R317). -/
def surfaceSample (s : State) (k x y c : Nat) : Nat :=
  match planeSurface s k with
  | some f =>
    let v (i : Nat) := Config.scaled (Surface.picture s f)
      [f.w, f.h, fmtDepth f.fmt, s.getA (COMP.PSIZE_W k), s.getA (COMP.PSIZE_H k)] i y x % 1024
    recolour (s.getA (COMP.PCFG_CSC k)) (s.getA COMP.OUT_CSC) (v 0) (v 1) (v 2) c
  | none => 0

/-- The ARGB pixel of plane 3 at a place of its rectangle (R317). -/
def argbPixel (s : State) (x y : Nat) : Nat :=
  s.dramNat (s.get (COMP.PCUR_V 3) + 2 ^ 32 * s.comp.curH + y * s.getA (COMP.PPITCH_N 3) + 4 * x) 4

/-- A plane covers a place of the active area. -/
def planeCovers (s : State) (k x y : Nat) : Bool :=
  decide (s.getA (COMP.PPOS_X k) ≤ x ∧ x < s.getA (COMP.PPOS_X k) + s.getA (COMP.PSIZE_W k) ∧
    s.getA (COMP.PPOS_Y k) ≤ y ∧ y < s.getA (COMP.PPOS_Y k) + s.getA (COMP.PSIZE_H k))

/-- One sample of the output (R316): BG, then planes 0 to 3 in turn. A layer is the plane, its GALPHA, its PREMUL, the
pixel's alpha and the pixel's sample; a quotient without a rounding rule goes either way (log entry 7). -/
def blendSample : List (Nat × Nat × Bool × Nat × Nat) → Nat → Nat
  | [], r => r
  | (k, galpha, premul, alpha, p) :: rest, r =>
    let a := if k = 3 then (roundHalfUp (alpha * galpha : Nat) 255).toNat else galpha
    let v := if k = 3 ∧ premul then (p : Int) + openDiv ((255 - a) * r : Nat) 255 else openDiv (a * p + (255 - a) * r : Nat) 255
    blendSample rest v.toNat

/-- The layers over BG at a place, as `blendSample` takes them (R316): outside its rectangle a plane has none. -/
def layersAt (s : State) (x y c : Nat) : List (Nat × Nat × Bool × Nat × Nat) :=
  let p0 := if s.comp.plane0 = .off then [] else
    [(0, if s.comp.plane0 = .bg then 255 else s.getA (COMP.PCFG_GALPHA 0), false, 255, plane0Sample s x y c)]
  p0 ++ (s.comp.shown.filter fun k => planeCovers s k x y).map fun k =>
    let px := x - s.getA (COMP.PPOS_X k)
    let py := y - s.getA (COMP.PPOS_Y k)
    if k = 3 then
      let v := argbPixel s px py
      (3, s.getA (COMP.PCFG_GALPHA 3), s.getA (COMP.PCFG_PREMUL 3) == 1, v / 2 ^ 24 % 256,
        rgbToYcc (s.getA (COMP.PCFG_CSC 3)) true 8 (v / 2 ^ 16 % 256) (v / 2 ^ 8 % 256) (v % 256) c)
    else (k, s.getA (COMP.PCFG_GALPHA k), false, 255, surfaceSample s k px py c)

/-- Component `c` of the output at a place of the active area, in 10-bit YCbCr 4:4:4, before HTX brings it into OUTFMT
(R316): black for the rest of a frame that underflowed and while COMP does not run (R319, R320). Which code values
are black is PRESUMED (log entry 18). -/
def outputSample (s : State) (x y c : Nat) : Nat :=
  if s.comp.black then (if c ≠ 0 then 512 else if s.getA COMP.OUT_CSC = 3 then 0 else 64)
  else blendSample (layersAt s x y c) ([s.getA COMP.BG_Y, s.getA COMP.BG_CB, s.getA COMP.BG_CR].getD c 0)

/-- A 10-bit component at the depth of OUTFMT.BPC: 8, 10 or 12 bits (R316); how 10 bits become 8 is open (log entry 7), and
two low bits of 12 are 0 (PRESUMED, log entry 18). -/
def atDepth (bpc v : Nat) : Nat := if bpc = 2 then 4 * v else if bpc = 1 then v else min 255 (openDiv v 4).toNat

/-- Component `c` that HTX sends at a place of its plane, in OUTFMT's sampling and depth (R316): R, G, B or Y, Cb, Cr, the
chroma of 4:2:2 and 4:2:0 made of 4:4:4 in a way that the manual leaves open. -/
def linkSample (s : State) (x y c : Nat) : Nat :=
  let samp := s.get HTX.OUTFMT_SAMP
  let at444 (i r k : Nat) := outputSample s k r i
  atDepth (s.get HTX.OUTFMT_BPC)
    (if samp = 0 then yccToRgb (s.getA COMP.OUT_CSC) (Config.linkFull true) (at444 0 y x) (at444 1 y x) (at444 2 y x) c
     else if c = 0 ∨ samp = 1 then at444 c y x
     else Config.decimate samp at444 c y x % 1024)

end Sys2Proof.Machine
end

