-- ==== Sys2Proof/Machine/Spout.lean ====
section
/-! DEFINITION. gPTP time (R337 to R340), and Spout: the class queues' gates, guard bands and shapers
(16_media_port_spout_strainer.md, R348 to R354, R359). -/

namespace Sys2Proof.Machine

/-! ### gPTP time -/

/-- gPTP time in ns (R338). -/
def gptp (s : State) : Nat := s.ptp.time / 153600000000

/-- gPTP time in one MTIME tick (R338): 15625 / 1536 ns of XO at the rate in force, the tick as long as the video loop
makes it (R28); what falls below the unit is kept for the next tick. -/
def ptpTick (s : State) : State :=
  let n := (15625 * (100000000 + s.ptp.rate)).toNat * 100000000000 + s.ptp.frac
  { s with ptp := { s.ptp with time := s.ptp.time + n / tickDen s, frac := n % tickDen s } }

/-- gPTP time of an MTIME, as the media port converts it (R339). -/
def gOf (s : State) (m : Nat) : Int :=
  s.ptp.g0 + roundHalfUp (((m : Int) - s.ptp.m0) * 15625 * (100000000 + s.ptp.rho)) 153600000000

/-- ρ in 0.01 ppm between two samples (R339), its rounding open (log entry 7). -/
def rhoOf (g1 m1 g0 m0 : Nat) : Int :=
  openDiv (((g1 : Int) - g0) * 153600000000) (max 1 ((m1 - m0) * 15625)) - 100000000

def ptpSampleEff (s : State) : State :=
  if s.ptp.samples = [] ∨ s.ptp.m0 + 98304 ≤ s.mtime then
    let g := gptp s
    let kept := s.ptp.samples.filter fun e => decide (s.mtime ≤ e.2 + 98304000)
    let rho := match kept.getLast? with
      | some e => if e.2 < s.mtime then rhoOf g s.mtime e.1 e.2 else s.ptp.rho
      | none => s.ptp.rho
    let t := s.put PTP.RATIO_RHO (ofSigned 32 rho)
    { t with ptp := { t.ptp with g0 := g, m0 := s.mtime, rho := rho, samples := (g, s.mtime) :: kept } }
  else s

/-- PTP_SAMPLE: every 1 ms (R339). -/
def execPtpSample (s : State) : Out := onCore ptpSampleEff s

/-- An integer as OFFSET shows it: 32 bits, saturating (Table PTP-2). -/
def satur32 (x : Int) : Nat := ofSigned 32 (max (-2147483648) (min 2147483647 x))

/-- A read of TIMEL latches TIMEH and the MTIME of the same edge (R340). -/
def readTimel (s : State) : W32 × State :=
  let g := gptp s
  (BitVec.ofNat 32 g, (s.put PTP.TIMEH_T (g / 2 ^ 32)).put64 PTP.XMTIMEL_T PTP.XMTIMEH_T s.mtime)

/-- TIMEL_READ (R340). -/
def execTimelRead (s : State) : Out := onCore (onLink .timelRead fun s => answer (readOnPage .ptp readTimel s)) s

/-! ### Gates (R349 to R352) -/

/-- SPOUT.STS.STATE: 0 OPEN, 1 STARTING, 2 RUN. -/
def spoutState (s : State) : Nat := s.get SPOUT.STS_STATE

/-- The active list. -/
def actList (s : State) : Nat := s.get SPOUT.STS_ACT

/-- A swap is pending. -/
def swapPending (s : State) : Bool := s.bit SPOUT.SWAP_GO

/-- CYCLE of a list in ns. -/
def cycleOf (s : State) (l : Nat) : Nat := max 1 (s.get (SPOUT.CYCLE_NS l))

/-- Entry i of a list: gate states and interval in ns (R349). -/
def gclEntry (s : State) (l i : Nat) : Nat × Nat :=
  if l = 0 then (s.get (SPOUT.GCL0_GATES i), 8 * max 1 (s.get (SPOUT.GCL0_INTV i)))
  else (s.get (SPOUT.GCL1_GATES i), 8 * max 1 (s.get (SPOUT.GCL1_INTV i)))

/-- The entries of a cycle from one on, cut at the boundary, the last one held until it: entry, gates, ns (R349). -/
def cycleSegs (s : State) (l : Nat) : Nat → Nat → Nat → List (Nat × Nat × Nat)
  | 0, _, _ => []
  | n + 1, i, left =>
    let (g, d) := gclEntry s l i
    if left ≤ d ∨ n = 0 then [(i, g, left)] else (i, g, d) :: cycleSegs s l n (i + 1) (left - d)

/-- The segments of a whole cycle of a list. -/
def wholeCycle (s : State) (l : Nat) : List (Nat × Nat × Nat) := cycleSegs s l (s.get (SPOUT.LEN_N l)) 0 (cycleOf s l)

/-- Segments with the first `e` ns struck. -/
def dropNs : Nat → List (Nat × Nat × Nat) → List (Nat × Nat × Nat)
  | _, [] => []
  | e, (i, g, d) :: t => if e < d then (i, g, d - e) :: t else dropNs (e - d) t

/-- The boundary of the active list at or before an instant. -/
def boundaryAt (s : State) (t : Int) : Int :=
  s.spout.anchor + (t - s.spout.anchor) / (cycleOf s (actList s) : Int) * cycleOf s (actList s)

/-- The first boundary of the grid `base` + k × CYCLE of a list at or after an instant. -/
def firstBoundary (s : State) (l : Nat) (base t : Int) : Int :=
  let c : Int := cycleOf s l
  base + -((base - t) / c) * c

/-- The segments from an instant to the next boundary, while the list runs. -/
def segsFrom (s : State) (t : Int) : List (Nat × Nat × Nat) :=
  dropNs (t - boundaryAt s t).toNat (wholeCycle s (actList s))

/-- Entry and gate states at an instant. -/
def gatesAt (s : State) (t : Int) : Nat × Nat :=
  if spoutState s = 2 then
    match segsFrom s t with
    | (i, g, _) :: _ => (i, g)
    | [] => (0, 0xFF)
  else (0, 0xFF)

/-- GATES shows the present entry; a gate that closes under its class's frame is an overrun (Table SPOUT-2). -/
def refreshGates (s : State) : State :=
  let (i, g) := gatesAt s (gptp s)
  let t := s.puts [(SPOUT.GATES_ENTRY, i), (SPOUT.GATES_STATE, g)]
  match s.spout.sending with
  | some c =>
    if s.mtime * 78125 < s.mpt.laneEnd ∧ !natBit g c then
      { ((t.inc SPOUT.OVRCNT_COUNT).put SPOUT.ISR_OVERRUN 1) with spout := { t.spout with sending := none } }
    else t
  | none => t

/-- Of a need of `w` ns, what remains after segments in which the gate of a class stays open; none if it closes first. -/
def runOpen (c : Nat) : List (Nat × Nat × Nat) → Nat → Option Nat
  | [], w => some w
  | (_, g, d) :: t, w => if w = 0 then some 0 else if natBit g c then runOpen c t (w - d) else none

/-- The gate of a class stays open for `w` ns from a boundary on, list by list (R351). -/
def staysOpen (c : Nat) (s : State) : Nat → Nat → Nat → Int → Bool
  | 0, w, _, _ => w == 0
  | fuel + 1, w, l, b =>
    let l := if swapPending s ∧ b = s.spout.swapAt then 1 - l else l
    match runOpen c (wholeCycle s l) w with
    | none => false
    | some 0 => true
    | some r => staysOpen c s fuel r l (b + cycleOf s l)

/-- The gate of a class stays open for `w` ns from now (R350, R351). -/
def gateAllows (s : State) (c w : Nat) : Bool :=
  let now : Int := gptp s
  let fuel := w / 10000 + 2
  if spoutState s = 0 then true
  else if spoutState s = 1 then
    let left := (s.spout.startAt - now).toNat
    decide (w ≤ left) || staysOpen c s fuel (w - left) (actList s) s.spout.startAt
  else
    match runOpen c (segsFrom s now) w with
    | none => false
    | some 0 => true
    | some r => staysOpen c s fuel r (actList s) (boundaryAt s now + cycleOf s (actList s))

/-- BASE of a list. -/
def baseOf (s : State) (l : Nat) : Int := s.get64 (SPOUT.BASEL_T l) (SPOUT.BASEH_T l)

/-- CTL.EN of SPOUT written 1 (R350). -/
def spoutStart (s : State) : State :=
  if s.bit SPOUT.CTL_EN then s
  else
    let b := firstBoundary s (actList s) (baseOf s (actList s)) (gptp s + 2000)
    refreshGates { (s.puts [(SPOUT.CTL_EN, 1), (SPOUT.STS_STATE, 1)]) with spout := { s.spout with startAt := b } }

/-- A swap takes effect: ACT flips (R352). -/
def flipList (s : State) : State :=
  s.puts [(SPOUT.STS_ACT, 1 - actList s), (SPOUT.SWAP_GO, 0), (SPOUT.STS_BUSY, 0), (SPOUT.ISR_SWAPPED, 1)]

/-- CTL.EN of SPOUT written 0: every gate is open, and a pending swap takes effect (R350, R352, log entry 19). -/
def spoutStop (s : State) : State :=
  let t := s.puts [(SPOUT.CTL_EN, 0), (SPOUT.STS_STATE, 0)]
  refreshGates (if swapPending t then flipList t else t)

/-- SPOUT_ENABLE (R350). -/
def execSpoutEnable (s : State) : Out := onCore (onLink .spoutEnable (onPage .spout spoutStart)) s

/-- A boundary at which the list starts, or a new cycle begins, with a pending swap applied (R350, R352). -/
def gclBoundaryEff (s : State) : State :=
  let now : Int := gptp s
  if spoutState s = 1 ∧ s.spout.startAt ≤ now then
    let t := { (s.put SPOUT.STS_STATE 2) with spout := { s.spout with anchor := s.spout.startAt, cycle := s.spout.startAt } }
    refreshGates (if swapPending s ∧ s.spout.swapAt ≤ s.spout.startAt then flipList t else t)
  else if spoutState s = 2 ∧ s.spout.cycle + cycleOf s (actList s) ≤ now then
    if swapPending s ∧ s.spout.swapAt ≤ now then
      let t := flipList s
      refreshGates { t with spout := { t.spout with anchor := s.spout.swapAt, cycle := s.spout.swapAt } }
    else refreshGates { s with spout := { s.spout with cycle := boundaryAt s now } }
  else s

/-- GCL_BOUNDARY (R349, R350, R352). -/
def execGclBoundary (s : State) : Out := onCore gclBoundaryEff s

def gclEntryEff (s : State) : State := if spoutState s = 2 then refreshGates s else s

/-- GCL_ENTRY: the gate states of the entry that now runs take effect (R349). -/
def execGclEntry (s : State) : Out := onCore gclEntryEff s

/-- SWAP.GO written 1 (R352). -/
def swapGoEff (s : State) : State :=
  if swapPending s then s
  else if spoutState s = 0 then flipList s
  else
    let b := if spoutState s = 1 then firstBoundary s (actList s) s.spout.startAt (max s.spout.startAt (gptp s + 1000))
      else firstBoundary s (actList s) s.spout.anchor (gptp s + 1000)
    { (s.puts [(SPOUT.SWAP_GO, 1), (SPOUT.STS_BUSY, 1)]) with spout := { s.spout with swapAt := b } }

/-- SWAP_GO (R352). -/
def execSwapGo (s : State) : Out := onCore (onLink .swapGo (onPage .spout swapGoEff)) s

/-- gPTP time has been stepped: the cycle position follows at once (Table SPOUT-2). -/
def spoutStep (s : State) : State :=
  let now : Int := gptp s
  let t := if spoutState s = 1 then
      { s with spout := { s.spout with startAt := firstBoundary s (actList s) (baseOf s (actList s)) (now + 2000) } } else s
  let t := if spoutState t = 2 then { t with spout := { t.spout with cycle := boundaryAt t now } } else t
  let t := if swapPending t then
      { t with spout := { t.spout with
        swapAt := firstBoundary t (actList t) (if spoutState t = 1 then t.spout.startAt else t.spout.anchor) (now + 1000) } } else t
  refreshGates t

/-! ### Shapers (R353, R354) -/

/-- Tokens of a class now. -/
def tokensNow (s : State) (c : Nat) : Nat :=
  let (v, t) := SMap.get (0, 0) s.spout.tokens c
  min (s.get (SPOUT.SHBURST_BYTES c) * tokenUnit) (v + s.get (SPOUT.SHRATE_KBPS c) * (s.mtime - t))

/-- Tokens of a class set. -/
def setTokens (c v : Nat) (s : State) : State :=
  { s with spout := { s.spout with tokens := SMap.set (0, 0) s.spout.tokens c (v, s.mtime) } }

/-- The shaper of a class allows a frame of `len` bytes (R353). -/
def shaperAllows (s : State) (c len : Nat) : Bool :=
  s.get (SPOUT.SHRATE_KBPS c) == 0 || decide (len * tokenUnit ≤ tokensNow s c)

/-- SHRATE and SHBURST: a change resets the class's tokens (R354). -/
def writeShaper (c : Nat) (burst : Bool) (d : W32) (s : State) : State :=
  let fs := if burst then [SPOUT.SHBURST_TOKEN_INIT c, SPOUT.SHBURST_BYTES c] else [SPOUT.SHRATE_KBPS c]
  checked .spout [(burst && decide ((SPOUT.SHBURST_BYTES c).ofData d < 1522), 0x0102)] (fun t =>
    let u := t.storeAll fs d
    if fs.any (fun f => u.get f != t.get f) then
      setTokens c (if u.bit (SPOUT.SHBURST_TOKEN_INIT c) then u.get (SPOUT.SHBURST_BYTES c) * tokenUnit else 0) u
    else u) s

/-- SHAPER_WRITE: SHBURST of a class if `burst`, its SHRATE otherwise (R354). -/
def execShaperWrite (c : Fin 8) (burst : Bool) (d : W32) (s : State) : Out :=
  onCore (onLink (.shaperWrite c burst d) (onPage .spout (writeShaper c burst d))) s

/-! ### List registers -/

/-- A write to a list register: refused for the active and for the pending list (Table MPT-5). -/
def listLocked (s : State) (l : Nat) : Bool := l == actList s || swapPending s

/-- CYCLE and LEN. -/
def writeListSize (l : Nat) (f : Fld) (lo hi : Nat) (d : W32) (s : State) : State :=
  checked .spout [(decide (f.ofData d < lo ∨ hi < f.ofData d), 0x0100), (listLocked s l, 0x0101)] (fun t => t.store f d) s

/-- BASE and the entries. -/
def writeList (l : Nat) (fs : List Fld) (d : W32) (s : State) : State :=
  checked .spout [(listLocked s l, 0x0101)] (fun t => t.storeAll fs d) s

end Sys2Proof.Machine
end

