-- ==== Sys2Proof/Machine/Gptp.lean ====
section
/-! DEFINITION. gPTP as Utilior runs it (R337, R338, Table PTP-1): the best master clock algorithm, peer delay, two-step Sync.
The manual names IEEE 802.1AS-2020 for it; message formats, comparison, default timeouts and the delay's formula are that
standard's (PRESUMED, log entry 47). -/

namespace Sys2Proof.Machine

/-- Time of a byte on the lane in 1/5 ns (R351): 10, 100, 1000 and 2500 Mb/s. -/
def byteTime (s : State) : Nat := [4000, 400, 40, 16].getD (s.get MPT.LINKSTS_SPEED) 16

/-- A time stamp within 8 ns of the start-of-frame delimiter (R338), which lies so many bytes away. -/
def stampNear (t : Int) (s : State) : Nat × State :=
  let (k, u) := s.fresh
  ((t + (k % 17 : Nat) - 8).toNat, u)

/-! ### Stepping and steering (R338) -/

def ptpStepEff (offset : Int) (s : State) : State :=
  if s.get PTP.STS_STATE = 3 ∧ (s.get PTP.SERVO_STEP * 1000 : Int) < mag offset then
    let t := ((s.inc PTP.STEPCNT_COUNT).put PTP.ISR_STEP 1).put PTP.OFFSET_NS (satur32 offset)
    spoutStep { t with ptp := { t.ptp with time := ((t.ptp.time : Int) - offset * 153600000000).toNat, samples := [] } }
  else s

/-- PTP_STEP: `offset` is the measured offset from the grandmaster in ns (R338, Table SPOUT-2). -/
def execPtpStep (offset : Int) (s : State) : Out := onCore (ptpStepEff offset) s

/-- Utilior's servo chooses the rate of the count (R338): a free value (log entry 7). -/
def steer (s : State) : State :=
  let (r, t) := s.fresh
  { t with ptp := { t.ptp with rate := toSigned 32 r } }

/-- The port enters a state; outside SLAVE the count runs at the XO rate (R338). -/
def ptpState (n : Nat) (s : State) : State :=
  if s.get PTP.STS_STATE = n then s
  else
    let t := s.puts [(PTP.STS_STATE, n), (PTP.ISR_STATECHG, 1)]
    if n = 3 then steer t
    else
      let u := if s.get PTP.STS_STATE = 3 then refLoss 2 t else t
      { u with ptp := { u.ptp with rate := 0 } }

/-- A change of REF_PTP's QL re-ranks the domains at once (R143, R145). -/
def ptpQuality (s : State) : State :=
  let t := qlUpdate s
  if t.get TIM.QLSTS_LEVEL = s.get TIM.QLSTS_LEVEL then t else rankAll t

/-- What the held Announce says (Table PTP-2, R143). -/
def ptpMaster (gm : Option (BitVec 64 × Nat × Nat)) (s : State) : State :=
  match gm with
  | none => ptpQuality { (s.put PTP.GMQ_VALID 0) with tim := { s.tim with clockClass := none } }
  | some (id, acc, cls) =>
    let t := if s.get64 PTP.GMIDL_V PTP.GMIDH_V = id.toNat then s else s.put PTP.ISR_GMCHG 1
    let t := (t.put64 PTP.GMIDL_V PTP.GMIDH_V id.toNat).puts [(PTP.GMQ_VALID, 1), (PTP.GMQ_ACCURACY, acc), (PTP.GMQ_CLASS, cls)]
    ptpQuality { t with tim := { t.tim with clockClass := some cls } }

/-! ### Messages -/

/-- Utilior's clock and port identity. -/
def ownClock : Nat := Config.ptpIdentity % 2 ^ 64
def ownPort : Nat := ownClock * 65536 + 1

/-- What other masters are compared with, as `Announce.vec` holds it (R337, Table PTP-2). -/
def ownVec (s : State) : Nat :=
  (((s.get PTP.PCFG_PRIO1 * 256 + s.get PTP.PCFG_CLASS) * 2 ^ 24 + Config.ptpQuality % 2 ^ 24) * 256 + s.get PTP.PCFG_PRIO2) *
    2 ^ 80 + ownClock * 65536

/-- A time in a message, in ns: seconds and ns. -/
def timeBytes (ns : Nat) : List Byte := beBytes 6 (ns / 1000000000) ++ beBytes 4 (ns % 1000000000)
def timeAt (m : List Byte) (o : Nat) : Nat := beAt m o 6 * 1000000000 + beAt m (o + 6) 4

/-- The correction of a message in 1/65536 ns. -/
def correction (m : List Byte) : Int := toSigned 64 (beAt m 8 8)

/-- The sender and the sequence number of a message. -/
def sender (m : List Byte) : Nat := beAt m 20 10
def seqOf (m : List Byte) : Nat := beAt m 30 2

/-- A message of Utilior's as a frame: its type, flags, sequence number, logMessageInterval and body. -/
def gptpFrame (type flags seq log : Nat) (body : List Byte) : List Byte :=
  let control : Byte := if type = 0 then 0 else if type = 8 then 2 else 5
  beBytes 6 0x0180C200000E ++ beBytes 6 Config.ptpAddress ++ beBytes 2 0x88F7 ++
    [BitVec.ofNat 8 (16 + type), 0x12] ++ beBytes 2 (34 + body.length) ++ [0, 0] ++ beBytes 2 flags ++ List.replicate 12 0 ++
    beBytes 10 ownPort ++ beBytes 2 seq ++ [control, BitVec.ofNat 8 log] ++ body

/-- A frame of Utilior's waits for the lane. -/
def queueGptp (b : List Byte) (s : State) : State := { s with mpt := { s.mpt with gptp := s.mpt.gptp ++ [b] } }

/-- A message sent at its interval: the next of its type. -/
def sendMessage (type flags log : Nat) (body : List Byte) (s : State) : State :=
  let q := SMap.get 0 s.ptp.seqs type
  queueGptp (gptpFrame type flags q log body) { s with ptp := { s.ptp with
    seqs := SMap.set 0 s.ptp.seqs type ((q + 1) % 65536), sentAt := (type, s.mtime) :: s.ptp.sentAt.filter (·.1 != type) } }

/-- An interval of 2^log seconds in MTIME ticks. -/
def logTicks (log : Int) : Nat := if log < 0 then 98304000 / 2 ^ (-log).toNat else 98304000 * 2 ^ log.toNat

/-- A message type is due: none was sent within its interval. -/
def messageDue (s : State) (type : Nat) (log : Int) : Bool :=
  s.ptp.sentAt.all fun e => e.1 != type || decide (e.2 + logTicks log ≤ s.mtime)

/-- The body of an Announce: no UTC offset, the comparison vector, an internal oscillator, the path. -/
def announceBody (s : State) : List Byte :=
  List.replicate 13 0 ++ beBytes 16 (ownVec s) ++ [0xA0] ++ beBytes 2 8 ++ beBytes 2 8 ++ beBytes 8 ownClock

/-- The information that a Follow_Up of a grandmaster carries behind its time. -/
def followUpInfo : List Byte := beBytes 2 3 ++ beBytes 2 28 ++ beBytes 3 0x0080C2 ++ beBytes 3 1 ++ List.replicate 22 0

/-- A frame of Utilior's has gone on the lane: its egress stamp goes into the second step of a Sync or a Pdelay_Resp, or is
kept for a Pdelay_Req. -/
def gptpSent (b : List Byte) (s : State) : State :=
  let m := b.drop 14
  let type := beAt m 0 1 % 16
  let (e, t) := stampNear ((gptp s : Int) + (7 * byteTime s / 5 : Nat)) s
  if type = 0 then queueGptp (gptpFrame 8 8 (seqOf m) (beAt m 33 1) (timeBytes e ++ followUpInfo)) t
  else if type = 2 then { t with ptp := { t.ptp with asked := some (seqOf m, e), resp := none } }
  else if type = 3 then queueGptp (gptpFrame 10 8 (seqOf m) 0x7F (timeBytes e ++ (m.drop 44).take 10)) t
  else s

/-! ### What Utilior hears -/

/-- Identity, accuracy and clockClass of a held Announce (Table PTP-2). -/
def Announce.master (a : Announce) : BitVec 64 × Nat × Nat :=
  (BitVec.ofNat 64 (a.vec / 2 ^ 16), a.vec / 2 ^ 104 % 256, a.vec / 2 ^ 112 % 256)

/-- The masters that an Announce's path names. -/
def pathOf (m : List Byte) : List Nat :=
  if beAt m 64 2 = 8 then (List.range (beAt m 66 2 / 8)).map fun i => beAt m (68 + 8 * i) 8 else []

/-- An Announce stands for 3 s (announceReceiptTimeout at Table PTP-1's interval). -/
def announceStands (s : State) (a : Announce) : Bool := decide (s.mtime < a.heard + 3 * 98304000)

/-- An Announce is held if it comes from the master held, or is better than the one held; GMQ shows it at once in SLAVE. -/
def hearAnnounce (m : List Byte) (s : State) : State :=
  let a : Announce := { vec := beAt m 47 16, source := sender m, heard := s.mtime }
  let better : Bool := match s.ptp.held with
    | some h => !announceStands s h || h.source == a.source || decide (a.vec < h.vec ∨ (a.vec = h.vec ∧ a.source < h.source))
    | none => true
  if 64 ≤ m.length ∧ a.vec % 65536 < 255 ∧ !(pathOf m).contains ownClock ∧ better then
    let t := { s with ptp := { s.ptp with held := some a } }
    if t.get PTP.STS_STATE = 3 then ptpMaster (some a.master) t else t
  else s

/-- The message comes from the master that the port follows. -/
def fromMaster (m : List Byte) (s : State) : Bool :=
  s.get PTP.STS_STATE == 3 && s.ptp.held.any (·.source == sender m)

/-- A two-step Sync of the master. -/
def hearSync (m : List Byte) (g : Nat) (s : State) : State :=
  if fromMaster m s ∧ natBit (beAt m 6 2) 9 then
    { s with ptp := { s.ptp with
      sync := some (seqOf m, g, beAt m 8 8), syncEnd := some (s.mtime + 3 * logTicks (toSigned 8 (beAt m 33 1))) } }
  else s

/-- The Follow_Up of the Sync that waits for it: the offset is measured, and the count steered or stepped (R338). -/
def hearFollowUp (m : List Byte) (s : State) : State :=
  match s.ptp.sync with
  | some (q, g, c) =>
    if fromMaster m s ∧ seqOf m = q then
      let off : Int := (g : Int) - timeAt m 34 - openDiv (toSigned 64 c + correction m) 65536 - (s.ptp.pdelay.getD 0 : Nat)
      let t := { (s.put PTP.OFFSET_NS (satur32 off)) with ptp := { s.ptp with sync := none } }
      if (t.get PTP.SERVO_STEP * 1000 : Int) < mag off then ptpStepEff off t else steer t
    else s
  | none => s

/-- A Pdelay_Req is answered. -/
def hearRequest (m : List Byte) (g : Nat) (s : State) : State :=
  queueGptp (gptpFrame 3 0x208 (seqOf m) 0x7F (timeBytes g ++ (m.drop 20).take 10)) s

/-- A message answers the last Pdelay_Req. -/
def answersUs (m : List Byte) (s : State) : Bool := beAt m 44 10 == ownPort && s.ptp.asked.any (·.1 == seqOf m)

def hearResponse (m : List Byte) (g : Nat) (s : State) : State :=
  if answersUs m s then { s with ptp := { s.ptp with resp := some (g, timeAt m 34) } } else s

/-- The mean link delay in ns from the four stamps of an exchange, and two of the exchange before it for the peer's rate. -/
def linkDelay (t1 t2 t3 t4 : Nat) (before : Option (Nat × Nat)) : Nat :=
  let (n, d) : Int × Int := match before with
    | some (u3, u4) => if u3 < t3 ∧ u4 < t4 then ((t3 : Int) - u3, (t4 : Int) - u4) else (1, 1)
    | none => (1, 1)
  (openDiv (((t4 : Int) - t1) * n - ((t3 : Int) - t2) * d) (2 * d.toNat)).toNat

/-- The exchange is complete: PDELAY shows the delay. -/
def hearResponseUp (m : List Byte) (s : State) : State :=
  match s.ptp.asked, s.ptp.resp with
  | some (_, t1), some (t4, t2) =>
    if answersUs m s then
      let t3 := timeAt m 34
      let d := linkDelay t1 t2 t3 t4 s.ptp.before
      { (s.put PTP.PDELAY_NS (min d (2 ^ 32 - 1))) with ptp := { s.ptp with
        pdelay := some d, lost := 0, asked := none, resp := none, before := some (t3, t4) } }
    else s
  | _, _ => s

/-- A gPTP frame that Utilior accepts, DA through FCS, while the port is enabled (R337): domain 0, from another clock. -/
def gptpHear (b : List Byte) (s : State) : State :=
  let m := (b.take (b.length - 4)).drop 14
  let type := beAt m 0 1 % 16
  if s.bit PTP.CTL_EN ∧ beAt m 0 1 / 16 = 1 ∧ beAt m 1 1 % 16 = 2 ∧ beAt m 4 1 = 0 ∧ sender m / 65536 ≠ ownClock then
    let (g, t) := stampNear ((gptp s : Int) - ((b.length + 1) * byteTime s / 5 : Nat)) s
    if type = 11 then hearAnnounce m s
    else if type = 0 then hearSync m g t
    else if type = 8 then hearFollowUp m s
    else if type = 2 then hearRequest m g t
    else if type = 3 then hearResponse m g t
    else if type = 10 then hearResponseUp m s
    else s
  else s

/-! ### What Utilior does at its intervals -/

/-- A master whose Announce or Sync has not come in time is given up. -/
def dropMaster (s : State) : State :=
  let late := !s.ptp.held.all (announceStands s) || s.ptp.syncEnd.any fun m => decide (m ≤ s.mtime)
  if late then { s with ptp := { s.ptp with held := none, sync := none, syncEnd := none } } else s

/-- The link may carry gPTP: it is up, and its delay is measured and within neighborPropDelayThresh (Table PTP-1). -/
def linkCapable (s : State) : Bool := s.get MPT.STS_STATE == 3 && s.ptp.pdelay.any fun d => decide (d ≤ 800)

/-- The state of the port by the best master clock algorithm (R337): SLAVE of a better master, MASTER unless PRIO1 is 255,
else LISTENING. A single port is never PASSIVE (log entry 47). -/
def bestState (s : State) : Nat :=
  let able := s.get PTP.PCFG_PRIO1 != 255
  if !linkCapable s then 1
  else if s.ptp.held.any fun a => !able || decide (a.vec < ownVec s) then 3
  else if able then 2 else 1

/-- The port takes its state, and GMQ shows its master. -/
def judgePort (s : State) : State :=
  let t := ptpState (bestState s) s
  let t := if t.get PTP.STS_STATE = 3 then t else { t with ptp := { t.ptp with sync := none, syncEnd := none } }
  ptpMaster (if t.get PTP.STS_STATE = 3 then t.ptp.held.map Announce.master else none) t

/-- A Pdelay_Req goes out; after nine unanswered ones the delay counts as unknown. -/
def askDelay (s : State) : State :=
  let t := sendMessage 2 8 0 (List.replicate 20 0) s
  { t with ptp := { t.ptp with lost := t.ptp.lost + 1, pdelay := if t.ptp.lost < 9 then t.ptp.pdelay else none } }

/-- The messages whose interval has passed (Table PTP-1): Pdelay_Req, and of a master Announce and Sync. -/
def sendDue (s : State) : State :=
  let t := if messageDue s 2 0 then askDelay s else s
  if t.get PTP.STS_STATE = 2 then
    let t := if messageDue t 11 0 then sendMessage 11 8 0 (announceBody t) t else t
    let log := t.get PTP.PCFG_SYNCLOG
    if messageDue t 0 (toSigned 8 log) then sendMessage 0 0x208 log (List.replicate 10 0) t else t
  else t

def gptpMessageIntervalEff (s : State) : State :=
  if s.bit PTP.CTL_EN then
    let t := judgePort (dropMaster s)
    if t.get MPT.STS_STATE = 3 then sendDue t else t
  else s

/-- GPTP_MESSAGE_INTERVAL (R337, R338). -/
def execGptpMessageInterval (s : State) : Out := onCore gptpMessageIntervalEff s

/-- What was heard on the link is forgotten: its masters, its delay, and the peer's rate. -/
def ptpForget (s : State) : State :=
  { s with ptp := { s.ptp with
    held := none, sync := none, syncEnd := none, pdelay := none, lost := 0, asked := none, resp := none, before := none } }

/-- CTL of PTP (Table PTP-2): a port that is disabled forgets what it heard. -/
def ptpCtl (d : W32) (s : State) : State :=
  let t := s.store PTP.CTL_EN d
  if t.bit PTP.CTL_EN then t
  else
    let t := ptpForget (ptpMaster none (ptpState 0 t))
    { t with ptp := { t.ptp with sentAt := [] } }

/-- PCFG of PTP (Table MPT-5). -/
def writePtpPcfg (d : W32) (s : State) : State :=
  let v := toSigned 8 (PTP.PCFG_SYNCLOG.ofData d)
  checked .ptp [(decide (v < -7 ∨ 1 < v), 0x0100)]
    (fun t => t.storeAll [PTP.PCFG_PRIO1, PTP.PCFG_PRIO2, PTP.PCFG_CLASS, PTP.PCFG_SYNCLOG] d) s

end Sys2Proof.Machine
end

