-- ==== Sys2Proof/Machine/MediaPort.lean ====
section
/-! DEFINITION. MPT and Strainer (16_media_port_spout_strainer.md): the lane, class queues, packetizer streams, host and
receive rings, and policing. -/

namespace Sys2Proof.Machine

/-! ### The lane and its queues -/

/-- MPT.STS.STATE: 0 OFF, 1 WAITGRANT, 2 LINKDOWN, 3 UP. -/
def mptState (s : State) : Nat := s.get MPT.STS_STATE

def classQueue (s : State) (c : Nat) : List TxFrame := SMap.get [] s.mpt.queues c

/-- A class queue, with QSTS and STS.BUSY that show it. -/
def setQueue (c : Nat) (q : List TxFrame) (s : State) : State :=
  let t := { s with mpt := { s.mpt with queues := SMap.set [] s.mpt.queues c q } }
  (t.put (SPOUT.QSTS_FRAMES c) q.length).put MPT.STS_BUSY (if t.mpt.queues.isEmpty then 0 else 1)

/-- A class queue has room: 64 frames (R348). -/
def queueRoom (s : State) (c : Nat) : Nat := 64 - (classQueue s c).length

/-- A frame that the queue has room for joins it (R348). -/
def enqueue (c : Nat) (f : TxFrame) (s : State) : State := setQueue c (classQueue s c ++ [f]) s

/-- A producer meets a full queue. -/
def queueFull (s : State) : State := s.put SPOUT.ISR_QFULL 1

/-- Every queue emptied (R335). -/
def emptyQueues (s : State) : State :=
  let t := repeatFor 8 (fun c t => setQueue c [] t) s
  { t with mpt := { t.mpt with gptp := [], laneEnd := 0 }, spout := { t.spout with sending := none } }

def mptLinkUpEff (speed : Nat) (s : State) : State :=
  if mptState s = 2 ∧ (if s.bit MPT.MODE_SGMII then speed ≠ 3 else speed = 3) then
    s.puts [(MPT.STS_STATE, 3), (MPT.LINKSTS_UP, 1), (MPT.LINKSTS_SPEED, speed), (MPT.ISR_LINKUP, 1)]
  else s

/-- MPT_LINK_UP: the speed code of LINKSTS (R334, R335). -/
def execMptLinkUp (speed : Fin 4) (s : State) : Out := onCore (mptLinkUpEff speed) s

def mptLinkDownEff (s : State) : State :=
  if mptState s = 3 then
    let t := s.puts [(MPT.STS_STATE, 2), (MPT.LINKSTS_UP, 0), (MPT.ISR_LINKDOWN, 1)]
    ptpForget { t with mpt := { t.mpt with laneEnd := 0 }, spout := { t.spout with sending := none } }
  else s

/-- MPT_LINK_DOWN (R335); gPTP knows nothing of the next link (log entry 47). -/
def execMptLinkDown (s : State) : Out := onCore mptLinkDownEff s

/-! ### Sending (R348, R351, R353) -/

/-- Time on the lane of a frame of `len` bytes, DA through FCS, in ns rounded up, with the guard (R351). -/
def guardNs (s : State) (len : Nat) : Nat := ceilDiv ((len + 20) * byteTime s) 5 + s.get SPOUT.GUARD_NS

/-- A frame's bytes, DA through FCS. -/
def wireLen (f : TxFrame) : Nat := max 64 (f.bytes.length + 4)

/-- The head of a class may start now. -/
def classReady (s : State) (c : Nat) : Bool :=
  match classQueue s c with
  | [] => false
  | f :: _ => gateAllows s c (guardNs s (wireLen f)) && shaperAllows s c (wireLen f)

/-- The frame goes on the lane (R351). -/
def putOnLane (bs : List Byte) (s : State) : State :=
  let w := finishFrame bs
  let t := s.inc MPT.TXCNT_COUNT
  { t with mpt := { t.mpt with sent := w, laneEnd := s.mtime * 78125 + (w.length + 20) * byteTime s * 1536 } }

/-- The egress time stamp of a host frame (R346). -/
def stampEgress (i : Nat) (s : State) : State :=
  let (g, t) := stampNear ((gptp s : Int) + (7 * byteTime s / 5 : Nat)) s
  let t := if t.bit PTP.TXTSSTS_VALID then t.put MPT.ISR_TSOVR 1 else t
  let t := (t.put64 PTP.TXTSL_T PTP.TXTSH_T g).puts [(PTP.TXTSSTS_VALID, 1), (PTP.TXTSSTS_INDEX, i), (PTP.ISR_TXTS, 1)]
  fireEdge 52 t

/-- The head frame of a class is sent. -/
def sendClass (c : Nat) (s : State) : State :=
  match classQueue s c with
  | [] => s
  | f :: rest =>
    let t := putOnLane f.bytes (setQueue c rest s)
    let t := if t.get (SPOUT.SHRATE_KBPS c) = 0 then t else setTokens c (tokensNow t c - wireLen f * tokenUnit) t
    let t := f.ts.elim t fun i => stampEgress i t
    { t with spout := { t.spout with sending := some c } }

def frameTransmitEff (s : State) : State :=
  if mptState s = 3 ∧ s.mpt.laneEnd ≤ s.mtime * 78125 then
    match s.mpt.gptp with
    | b :: rest => gptpSent b (putOnLane b { s with mpt := { s.mpt with gptp := rest }, spout := { s.spout with sending := none } })
    | [] =>
      match ([7, 6, 5, 4, 3, 2, 1, 0] : List Nat).find? (classReady s) with
      | some c => sendClass c s
      | none => s
  else s

/-- FRAME_TRANSMIT (R337, R348, R351, R353, R346). -/
def execFrameTransmit (s : State) : Out := onCore frameTransmitEff s

/-! ### Streams (R341) -/

def streamOf (s : State) (n : Nat) : StreamSt := SMap.get {} s.mpt.streams n
def setStream (n : Nat) (x : StreamSt) (s : State) : State := { s with mpt := { s.mpt with streams := SMap.set {} s.mpt.streams n x } }

/-- A stream runs. -/
def streamOn (s : State) (n : Nat) : Bool := natBit (s.get MPT.STREN_N) n

/-- KIND, CLASS and the header template of an entry (Table MPT-2). -/
def StreamSt.kind (x : StreamSt) : Nat := sliceNat x.entry 0 1
def StreamSt.class (x : StreamSt) : Nat := sliceNat x.entry 1 1 % 8
def StreamSt.hdr (x : StreamSt) : List Byte := (x.entry.drop 56).take (sliceNat x.entry 2 1)

/-- The template of a KIND 1 stream: Ethernet, IPv4 or IPv6, UDP, and nothing more (R341, Table MPT-2). -/
def rtpTemplateOk (h : List Byte) : Bool :=
  let l := linkLen h
  if etherType h = 0x0800 then h.length == l + 28 && beAt h l 1 == 0x45 && beAt h (l + 9) 1 == 17
  else if etherType h = 0x86DD then h.length == l + 48 && beAt h l 1 / 16 == 6 && beAt h (l + 6) 1 == 17
  else false

/-- Slots and slot bytes of a port. -/
def portSlots (s : State) (k : Nat) : Nat := s.get (APORT.PCFG_SLOTS k)
def portWide (s : State) (k : Nat) : Bool := s.get (APORT.PCFG_WIDTH k) == 1

/-- Bytes of audio in an AAF packet (Table MPT-4). -/
def aafBytes (s : State) (e : List Byte) : Nat :=
  sliceNat e 25 1 * portSlots s (sliceNat e 24 1 % 4) * (if portWide s (sliceNat e 24 1 % 4) then 4 else 2)

/-- An entry may run (R341). -/
def entryOk (s : State) (e : List Byte) : Bool :=
  let hlen := sliceNat e 2 1
  let h := (e.drop 56).take hlen
  if sliceNat e 0 1 = 1 then
    decide (42 ≤ hlen ∧ hlen ≤ 66 ∧ 576 ≤ sliceNat e 4 2 ∧ sliceNat e 4 2 ≤ 1500) && rtpTemplateOk h
  else if sliceNat e 0 1 = 2 then
    decide (1 ≤ sliceNat e 25 1 ∧ sliceNat e 25 1 ≤ 64) && (if isTagged h then hlen == 18 else hlen == 14) &&
      decide (hlen + 24 + aafBytes s e + 4 ≤ 1522)
  else false

/-- A bit of STREN. -/
def setStren (n : Nat) (b : Bool) (s : State) : State :=
  let v := s.get MPT.STREN_N
  s.put MPT.STREN_N (v - v / 2 ^ n % 2 * 2 ^ n + if b then 2 ^ n else 0)

/-- STREN[n] written from 0 to 1 (R341); the first identification is free (log entry 7). -/
def streamEnableOp (n : Nat) (s : State) : State :=
  if streamOn s n then s
  else
    let e := s.dramRead (s.get64 MPT.STBASEL_A MPT.STBASEH_A + 128 * n) 128
    checked .mpt [(!entryOk s e, 0x0100)] (fun t =>
      let (i, t) := t.fresh
      let t := (setStren n true t).put (MPT.SEQ_N n) (sliceNat e 6 2)
      setStream n { entry := e, ident := i, used := (t.port (sliceNat e 24 1 % 4)).count } t) s

/-- A frame under way that a stream no longer takes, whenever the stream is enabled again: its ended layers go unread, and
LFLAGS[1] of those still coded is gone (Table SPOUT-2). -/
def leaveStream (n : Nat) (f : Frame) : Frame :=
  { f with
    mptDue := f.mptDue.filter fun i => (f.layers[i]?.map (·.mpt)).getD 0 != n
    layers := if f.dispatched then f.layers.map fun l => if l.mpt = n ∧ natBit l.lflags 1 then { l with lflags := l.lflags - 2 } else l
      else f.layers }

/-- STREN[n] written 0: the layers it would still take go unread (R341, Table SPOUT-2). -/
def streamDisableOp (n : Nat) (s : State) : State :=
  let t := setStream n {} (setStren n false s)
  { t with csch := { t.csch with frames := t.csch.frames.map (leaveStream n) } }

/-- STREN as a register. -/
def writeStren (d : W32) (s : State) : State :=
  repeatFor 16 (fun n t => if natBit d.toNat n then streamEnableOp n t else if streamOn t n then streamDisableOp n t else t) s

/-- STREAM_ENABLE (R341). -/
def execStreamEnable (n : Fin 16) (s : State) : Out :=
  onCore (onLink (.streamEnable n) (onPage .mpt (streamEnableOp n))) s

/-- STREAM_DISABLE (R341). -/
def execStreamDisable (n : Fin 16) (s : State) : Out :=
  onCore (onLink (.streamDisable n) (onPage .mpt (streamDisableOp n))) s

/-! ### RTP video (R342 to R344) -/

/-- Bytes of a packet that an RTP payload may take (R342). -/
def payloadRoom (x : StreamSt) : Nat := sliceNat x.entry 4 2 - (if isIpv4 x.hdr then 20 else 40) - 20

/-- The RTP timestamp (R343). -/
def rtpTime (x : StreamSt) (time : Nat) : Nat := (sliceNat x.entry 12 4 + time * 15 / 16384) % 2 ^ 32

/-- A packet of a stream with its sequence number and identification (R343). -/
def rtpPacket (x : StreamSt) (ts seq ident : Nat) (marker : Bool) (p : List Byte) : List Byte :=
  udpPacket x.hdr ident (rtpHeader marker (sliceNat x.entry 3 1) seq ts (sliceNat x.entry 8 4) ++ p)

/-- The packets of a layer of an ended frame (R342, R343). -/
def layerPackets (x : StreamSt) (f : Frame) (i seq : Nat) (bs : List Byte) : List (List Byte) :=
  let ps := layerPayloads f.std (payloadRoom x) (natBit f.keyMask i) bs
  ps.mapIdx fun k p => rtpPacket x (rtpTime x f.time) (seq + k) (x.ident + k) (k + 1 == ps.length) p

/-- The oldest ended frame, and its layer, that a stream takes next (R344). -/
def layerDue (s : State) (n : Nat) : Option (Frame × Nat) :=
  (s.csch.frames.filter (·.endT.isSome)).findSome? fun f =>
    (f.mptDue.find? fun i => (f.layers[i]?.map (·.mpt)).getD 0 == n).map fun i => (f, i)

/-- A stream reads the layer that is due and makes its packets. -/
def beginLayer (n : Nat) (s : State) : State :=
  let x := streamOf s n
  match x.work, layerDue s n with
  | none, some (f, i) =>
    let bs := s.dramRead ((f.layers[i]?.map (·.obuf)).getD 0) (f.bytes.getD i 0)
    setStream n { x with work := some (f.num, i, layerPackets x f i (s.get (MPT.SEQ_N n)) bs) } s
  | _, _ => s

/-- Packets of a stream go to its class queue as it has room; a layer whose packets are all queued is done (R344). -/
def queuePackets (n : Nat) (s : State) : State :=
  let x := streamOf s n
  match x.work with
  | none => s
  | some (num, i, ps) =>
    let room := queueRoom s x.class
    let now := ps.take room
    let rest := ps.drop room
    let t := now.foldl (fun t p => enqueue x.class { bytes := p } t) s
    let t := t.put (MPT.SEQ_N n) (t.get (MPT.SEQ_N n) + now.length)
    let y := { x with ident := x.ident + now.length, work := if rest.isEmpty then none else some (num, i, rest) }
    if rest.isEmpty then updFrame num (fun f => { f with mptDue := f.mptDue.erase i }) (setStream n y t)
    else queueFull (setStream n y t)

def layerPacketizeEff (n : Nat) (s : State) : State :=
  if streamOn s n ∧ (streamOf s n).kind = 1 ∧ s.bit MPT.CTL_EN then queuePackets n (beginLayer n s) else s

/-- LAYER_PACKETIZE (R342 to R344). -/
def execLayerPacketize (n : Fin 16) (s : State) : Out := onCore (layerPacketizeEff n) s

/-! ### IEEE 1722 AAF (R345) -/

/-- MTIME of the FS edge of the first port frame that a stream has not used yet. -/
def firstEdge (s : State) (k used : Nat) : Nat := ((s.port k).edges.getD ((s.port k).count - used - 1) (0, [])).1

/-- The slots of a port frame, by its number. -/
def frameSlots (s : State) (k i : Nat) : List W32 := ((s.port k).edges.getD ((s.port k).count - i - 1) (0, [])).2

/-- The AAF frame of a packet's samples (Table MPT-4). -/
def aafFrame (s : State) (n : Nat) : List Byte :=
  let x := streamOf s n
  let k := sliceNat x.entry 24 1 % 4
  let spp := sliceNat x.entry 25 1
  let wide := portWide s k
  let ts := ofSigned 32 (gOf s (firstEdge s k x.used) + sliceNat x.entry 28 4)
  x.hdr ++ aafHeader (s.tim.switches % 2 == 1) (s.get (MPT.SEQ_N n) % 256) (sliceNat x.entry 16 8) ts wide
      (portRate s (s.get (APORT.PCFG_FSSEL k)) + 3) (portSlots s k) (aafBytes s x.entry) ++
    (List.range spp).flatMap fun j => aafSlots wide (portSlots s k) (frameSlots s k (x.used + j))

def aafPacketEff (n : Nat) (s : State) : State :=
  let x := streamOf s n
  let k := sliceNat x.entry 24 1 % 4
  let spp := sliceNat x.entry 25 1
  if streamOn s n ∧ x.kind = 2 ∧ s.bit MPT.CTL_EN ∧ s.get (APORT.PCFG_DIR k) = 1 ∧ portOn s k ∧
      x.used + spp ≤ (s.port k).count then
    let b := aafFrame s n
    let t := (setStream n { x with used := x.used + spp } s).put (MPT.SEQ_N n) ((s.get (MPT.SEQ_N n) + 1) % 256)
    if queueRoom t x.class = 0 then queueFull ((t.inc MPT.AAFDROP_COUNT).put MPT.ISR_AAFDROP 1)
    else enqueue x.class { bytes := b } t
  else s

/-- MPT is enabled again: the packets whose port frames have passed meanwhile are not sent (R345). -/
def skipBacklog (s : State) : State :=
  repeatFor 16 (fun n t =>
    let x := streamOf t n
    let spp := sliceNat x.entry 25 1
    if x.kind = 2 then setStream n { x with used := x.used + ((t.port (sliceNat x.entry 24 1 % 4)).count - x.used) / spp * spp } t
    else t) s

/-- AAF_PACKET: the slots of SPP port frames, as the DSP sent them (R345). -/
def execAafPacket (n : Fin 16) (s : State) : Out := onCore (aafPacketEff n) s

/-! ### The host ring (R346) -/

/-- TXTAIL (R219, R346). -/
def writeTxtail (d : W32) (s : State) : State :=
  let v := MPT.TXTAIL_I.ofData d
  checked .mpt [(decide (2 ^ s.get MPT.TXCFG_SIZE ≤ v), 0x0102)] (fun t => t.put MPT.TXTAIL_I v) s

/-- TXTAIL_WRITE (R346). -/
def execTxtailWrite (d : W32) (s : State) : Out := onCore (onLink (.txtailWrite d) (onPage .mpt (writeTxtail d))) s

/-- A host descriptor's fields are in range (R346). -/
def txDescOk (b : List Byte) : Bool :=
  decide (60 ≤ sliceNat b 8 2 ∧ sliceNat b 8 2 ≤ 1518 ∧ sliceNat b 10 1 ≤ 7 ∧ sliceNat b 11 1 ≤ 1) && sliceNat b 12 4 == 0

def txDescriptorEff (s : State) : State :=
  let h := s.get MPT.TXHEAD_I
  if s.bit MPT.CTL_EN ∧ s.bit MPT.TXCFG_EN ∧ h ≠ s.get MPT.TXTAIL_I then
    let b := s.dramRead (s.get64 MPT.TXBASEL_A MPT.TXBASEH_A + 16 * h) 16
    let next (t : State) : State := t.put MPT.TXHEAD_I ((h + 1) % 2 ^ s.get MPT.TXCFG_SIZE)
    if !txDescOk b then recErr .mpt 0x0101 (next s)
    else if queueRoom s (sliceNat b 10 1) = 0 then queueFull s
    else
      next (enqueue (sliceNat b 10 1)
        { bytes := s.dramRead (sliceNat b 0 8) (sliceNat b 8 2), ts := if sliceNat b 11 1 = 1 then some h else none } s)
  else s

/-- TX_DESCRIPTOR (R346, R348). -/
def execTxDescriptor (s : State) : Out := onCore txDescriptorEff s

/-- BASE and CFG of a ring: refused while it is enabled, but for the write that disables it (Table MPT-5, log entry 19). -/
def writeRing (en : Fld) (fs : List Fld) (cfg : Bool) (d : W32) (s : State) : State :=
  if s.bit en then
    if cfg ∧ en.ofData d = 0 then s.put en 0 else recErr .mpt 0x0102 s
  else s.storeAll fs d

/-! ### Strainer (R355 to R357) -/

/-- A policer matches a frame (R355). -/
def polMatches (s : State) (b : List Byte) (p : Nat) : Bool :=
  s.getA (STRN.MATCH_EN p) == 1 &&
    (s.getA (STRN.MATCH_ETYPE p) == 0 || s.getA (STRN.MATCH_ETYPE p) == etherType b) &&
    (s.getA (STRN.MATCH_VID p) == 0xFFF || s.getA (STRN.MATCH_VID p) == frameVid b)

/-- The buckets of a policer, filled up to now (R356). -/
def filled (s : State) (p : Nat) : Bucket :=
  let b : Bucket := SMap.get {} s.strn.buckets p
  let dt := s.mtime - b.t
  { tc := min (s.getA (STRN.CBS_BYTES p) * tokenUnit) (b.tc + s.getA (STRN.CIR_KBPS p) * dt)
    tp := min (s.getA (STRN.PBS_BYTES p) * tokenUnit) (b.tp + s.getA (STRN.PIR_KBPS p) * dt), t := s.mtime }

/-- The pre-colour of a frame (R356): 0 green, 1 yellow, 2 red. -/
def preColour (s : State) (p : Nat) (b : List Byte) : Nat :=
  if s.getA (STRN.PCFG_CAWARE p) = 0 then 0
  else if s.getA (STRN.PCFG_CSRC p) = 0 then (if frameDei b then 1 else 0)
  else match frameDscp b with
    | some d => if [12, 20, 28, 36].contains d then 1 else if [14, 22, 30, 38].contains d then 2 else 0
    | none => 0

/-- The colour that a policer gives a frame of `n` tokens, and the buckets it leaves (R356). -/
def colour (mode pre n : Nat) (b : Bucket) : Nat × Bucket :=
  if mode = 0 then (0, b)
  else if mode = 1 then
    if pre = 0 ∧ n ≤ b.tc then (0, { b with tc := b.tc - n }) else (2, b)
  else if pre = 2 ∨ b.tp < n then (2, b)
  else if pre = 1 ∨ b.tc < n then (1, { b with tp := b.tp - n })
  else (0, { b with tc := b.tc - n, tp := b.tp - n })

/-- What becomes of a frame: dropped, passed, or passed with YELLOW (R356). -/
inductive Verdict where
  | drop | pass | yellow
  deriving DecidableEq, Repr

/-- The verdict on a yellow frame; code 3 of YACT has no meaning given, so any verdict may follow (log entry 7). -/
def yellowAct (s : State) (p : Nat) : Verdict × State :=
  let pick (a : Nat) : Verdict := if a = 0 then .pass else if a = 1 then .yellow else .drop
  if s.getA (STRN.PCFG_YACT p) = 3 then (pick (s.fresh.1 % 3), s.fresh.2) else (pick (s.getA (STRN.PCFG_YACT p)), s)

/-- A policer judges a frame (R356); its MODE 3 has no meaning given, so any colour may follow (log entry 7). -/
def judge (p : Nat) (b : List Byte) (s : State) : Verdict × State :=
  let (c, t) := if s.getA (STRN.PCFG_MODE p) = 3 then (s.fresh.1 % 3, s.fresh.2)
    else
      let (c, bk) := colour (s.getA (STRN.PCFG_MODE p)) (preColour s p b) (b.length * tokenUnit) (filled s p)
      (c, { s with strn := { s.strn with buckets := SMap.set {} s.strn.buckets p bk } })
  let (v, t) := if c = 0 then (Verdict.pass, t) else if c = 1 then yellowAct t p else (Verdict.drop, t)
  (v, if v = .drop then (t.inc (STRN.DROP_COUNT p)).put STRN.ISR_DROP 1 else t.inc (STRN.PASS_COUNT p))

/-- CTL of STRN. -/
def strnCtl (d : W32) (s : State) : State :=
  let t := s.store STRN.CTL_EN d
  t.put STRN.STS_STATE (t.get STRN.CTL_EN)

/-- CBS and PBS (R357). -/
def writeBurst (f : Fld) (d : W32) (s : State) : State :=
  checked .strn [(decide (f.ofData d < 1522), 0x0100)] (fun t => t.store f d) s

/-- PCFG of a policer (R357). -/
def writePolicer (p : Nat) (d : W32) (s : State) : State :=
  checked .strn [(decide ((STRN.PCFG_MODE p).ofData d = 2 ∧ s.get (STRN.PIR_KBPS p) < s.get (STRN.CIR_KBPS p)), 0x0100)]
    (fun t => t.storeAll [STRN.PCFG_MODE p, STRN.PCFG_CAWARE p, STRN.PCFG_CSRC p, STRN.PCFG_YACT p] d) s

/-! ### Receiving (R336, R337, R347) -/

/-- A receive ring has room: it is enabled and not full. -/
def rxRoom (s : State) (r : Nat) : Bool :=
  s.bit (MPT.RXCFG_EN r) && (s.get (MPT.RXHEAD_I r) + 1) % 2 ^ s.get (MPT.RXCFG_SIZE r) != s.get (MPT.RXTAIL_I r)

/-- The head of a slot, and the frame without FCS (R347). -/
def rxSlot (pol : Nat) (yellow : Bool) (b : List Byte) : List Byte := leBytes 2 (b.length - 4) ++ [BitVec.ofNat 8 pol, if yellow then 1 else 0]

/-- A frame written to a receive ring (R347). -/
def rxWrite (r pol : Nat) (yellow : Bool) (b : List Byte) (s : State) : State :=
  if rxRoom s r then
    let h := s.get (MPT.RXHEAD_I r)
    let a := s.get64 (MPT.RXBASEL_A r) (MPT.RXBASEH_A r) + 2048 * h
    let (g, t) := stampNear ((gptp s : Int) - ((b.length + 1) * byteTime s / 5 : Nat)) s
    let t := ((t.dramWrite a (rxSlot pol yellow b)).dramWrite (a + 8) (leBytes 8 g)).dramWrite (a + 16) (b.take (b.length - 4))
    t.put (MPT.RXHEAD_I r) ((h + 1) % 2 ^ t.get (MPT.RXCFG_SIZE r))
  else (s.inc MPT.RXFULL_COUNT).put MPT.ISR_RXFULL 1

/-- A frame that reaches Strainer (R355 to R357). -/
def strain (b : List Byte) (s : State) : State :=
  if s.bit STRN.CTL_EN then
    match (List.range 64).find? (polMatches s b) with
    | some p =>
      match judge p b s with
      | (.drop, t) => t
      | (.pass, t) => rxWrite (t.getA (STRN.MATCH_RING p)) p false b t
      | (.yellow, t) => rxWrite (t.getA (STRN.MATCH_RING p)) p true b t
    | none =>
      let t := (s.inc STRN.NOMATCHCNT_COUNT).put STRN.ISR_NOMATCH 1
      if t.getA STRN.DEFAULT_ACT = 1 then rxWrite (t.getA STRN.DEFAULT_RING) 0xFF false b t else t
  else s

/-- A gPTP frame to Utilior, which takes 200 a second (R337). -/
def takeGptp (b : List Byte) (s : State) : State :=
  let recent := s.mpt.gptpTimes.filter fun m => decide (s.mtime < m + 98304000)
  if recent.length < 200 then
    gptpHear b { s with mpt := { s.mpt with gptpTimes := recent ++ [s.mtime], toUtilior := s.mpt.toUtilior ++ [b] } }
  else s

def rxFrameEff (b : List Byte) (codeError : Bool) (s : State) : State :=
  if mptState s = 3 then
    if !frameGood b codeError then s.inc MPT.RXERR_COUNT
    else if isPause b then s
    else
      let t := s.inc MPT.RXCNT_COUNT
      if isGptp b then takeGptp b t else strain b t
  else s

/-- RX_FRAME: the bytes from DA through FCS, as received (R336, R337, R347, R355 to R357). -/
def execRxFrame (b : List Byte) (codeError : Bool) (s : State) : Out := onCore (rxFrameEff b codeError) s

end Sys2Proof.Machine
end

