-- ==== Sys2Proof/Machine/Grants.lean ====
section
/-! DEFINITION. Caddy's grants and what each consumer does when its own arrives; the standing consumers' enables and
disables (Table CADDY-1, R120 to R125, R245, R246, R294, R303, R308, R314, R320, R335, R412). -/

namespace Sys2Proof.Machine

/-! ### Region boxes and quality maps (R245, R246, R303) -/

/-- A quotient with halves away from zero (R245). -/
def roundAway (a : Int) (b : Nat) : Int :=
  let q : Int := ((2 * a.natAbs + b) / (2 * b) : Nat)
  if a < 0 then -q else q

/-- A rectangle [x0, x1) × [y0, y1) with its offset, clipped to a picture. -/
def clipRect (w h : Nat) (x0 x1 y0 y1 q : Int) : Int × Int × Int × Int × Int := (max 0 x0, min w x1, max 0 y0, min h y1, q)

/-- A held box as a strip binds it, in layer 0; none where it is too old (R245). -/
def bindBox (s : State) (f : Frame) (x : Strip) (b : Box) : Option (Int × Int × Int × Int × Int) :=
  let ts : Int := f.time + (ctxNat s f 8 4 * (2 * x.first + x.count) / 32 : Nat)
  let dt := ts - b.tc
  if (ctxNat s f 12 2 * 98304 : Nat) < dt.natAbs then none
  else
    let dx := roundAway (b.vx * dt) 98304000
    let dy := roundAway (b.vy * dt) 98304000
    let px : Int := (ctxNat s f 14 2 + dx.natAbs / 8 : Nat)
    let py : Int := (ctxNat s f 14 2 + dy.natAbs / 8 : Nat)
    let (w, h) := inputSize s f
    some (clipRect w h (b.x + dx - px) (b.x + b.w + dx + px) (b.y + dy - py) (b.y + b.h + dy + py) b.dqp)

/-- The boxes that apply to a strip of a ring, bound (R245). -/
def bindBoxes (s : State) (f : Frame) (x : Strip) : List (Int × Int × Int × Int × Int) :=
  (s.visr.boxes.filter fun b => natBit b.rings f.ring).filterMap (bindBox s f x)

/-- The static rectangles of a layer (Table CSCH-11, R245). -/
def staticRects (s : State) (f : Frame) (i : Nat) : List (Int × Int × Int × Int × Int) :=
  let (w, h) := inputSize s f
  (List.range (lrec s f i 21 1)).map fun k =>
    let v (o : Nat) : Int := (lrec s f i (40 + 12 * k + o) 2 : Nat)
    clipRect w h (v 0) (v 0 + v 4) (v 2) (v 2 + v 6) (toSigned 8 (lrec s f i (48 + 12 * k) 1))

/-- A rectangle in a layer that divides its input (R245). -/
def layerRect (d : Nat) (r : Int × Int × Int × Int × Int) : Int × Int × Int × Int × Int :=
  let up (a : Int) : Int := -((-a).fdiv d)
  (r.1.fdiv d, up r.2.1, r.2.2.1.fdiv d, up r.2.2.2.1, r.2.2.2.2)

/-- A rectangle has an area: one without has no effect (R246). -/
def hasArea (r : Int × Int × Int × Int × Int) : Bool := decide (r.1 < r.2.1 ∧ r.2.2.1 < r.2.2.2.1)

/-- The rectangles of a strip in a layer. -/
def layerRects (s : State) (f : Frame) (x : Strip) (i : Nat) : List (Int × Int × Int × Int × Int) :=
  ((bindBoxes s f x ++ staticRects s f i).filter hasArea).map (layerRect (divisor s f i))

/-- The unit [ux, ux + u) × [uy, uy + u) has a sample of a rectangle (R246). -/
def covers (u ux uy : Int) (r : Int × Int × Int × Int × Int) : Bool :=
  decide (max ux r.1 < min (ux + u) r.2.1 ∧ max uy r.2.2.1 < min (uy + u) r.2.2.2.1)

/-- The offset of a unit from the rectangles that cover it (R246). -/
def unitOffset (qs : List Int) : Int :=
  let m := qs.foldl min 0
  if m < 0 then m else qs.foldl max 0

/-- The map of a strip in a layer: one offset per unit, in raster order (R246, R303). -/
def layerMap (s : State) (f : Frame) (x : Strip) (i : Nat) : List Int :=
  let u := unitSize f.std
  let (top, past) := stripUnitRows s f i x
  let rs := layerRects s f x i
  (List.range (past - top)).flatMap fun y => (List.range (unitCols s f i)).map fun c =>
    unitOffset ((rs.filter (covers u (u * c : Nat) (u * (top + y) : Nat))).map (·.2.2.2.2))

/-- An encode strip's grant: its boxes are bound, and its map goes to the cell (R245, R303). -/
def bindStrip (n : Nat) (s : State) : State :=
  match (s.cell n).job with
  | some (num, j) =>
    match frameOf s num with
    | some f =>
      match f.strips[j]? with
      | some x =>
        if f.op = 1 ∧ !x.conceal then
          let ls := (List.range f.nlayer).map fun i => (i, ltype s f i != 3)
          let map (i : Nat) := layerMap s f x i
          let t := s.setCell n { s.cell n with
            bound := ls.map fun e => if e.2 then layerRects s f x e.1 else []
            qmap := ls.map fun e => if e.2 then map e.1 else []
            uqp := ls.map fun e => if e.2 then (map e.1).map (unitQp (qpLimits s f e.1) (x.qp.getD e.1 0)) else [] }
          t.inc VISR.MAPCNT_COUNT
        else s
      | none => s
    | none => s
  | none => s

/-! ### What a consumer does with its grant -/

/-- What a standing consumer does at its granted start (Table CADDY-1, R123, R294, R308, R314, R320, R335); a channel then
issues bursts. -/
def onGrant (id : Nat) (s : State) : State :=
  if id = 8 then s.put ISP.STS_STATE 2
  else if id ≤ 12 then s
  else if id = 13 then s.put COMP.STS_STATE 2
  else if id = 14 then { (s.put HRX.STS_STATE 2) with hrx := { s.hrx with lanes := true } }
  else if id = 15 then htxProceed s
  else s.put MPT.STS_STATE 2

/-- A consumer whose granted start has come starts its work (R123). -/
def beginWork (id : Nat) (s : State) : State :=
  onGrant id { s with caddy := { s.caddy with
    grants := replaceIf (·.id == id) (fun g => { g with begun := true }) s.caddy.grants } }

/-- The standing consumers whose granted start has come: none starts its work earlier (R123). -/
def startsDue (s : State) : List Nat :=
  (s.caddy.grants.filter fun g => decide (8 ≤ g.id) && !g.begun && decide (g.start ≤ s.mtime)).map (·.id)

/-- What granted starts bring about at an instant (R123). -/
def grantStarts (s : State) : State := (startsDue s).foldl (fun t id => beginWork id t) s

/-- A channel in self-refresh leaves it as its grant arrives (R202). -/
def dmcGranted (id : Nat) (s : State) : State :=
  if 9 ≤ id ∧ id ≤ 12 ∧ dmcState s (id - 9) = 3 then dmcResume (id - 9) true s else s

def caddyGrantEff (s : State) : State :=
  match nextGrant s with
  | some r =>
    let t := grantReq r s
    if r.id < 8 then bindStrip r.id t else grantStarts (dmcGranted r.id t)
  | none => s

/-- CADDY_GRANT: one grant of an arbitration cycle (R118, R121 to R125, R130). -/
def execCaddyGrant (s : State) : Out := onKa caddyGrantEff s

/-! ### Standing consumers -/

/-- CTL.EN and STS.STATE of a standing consumer but the DMCs. -/
def standingFields (id : Nat) : Option (Fld × Fld) :=
  if id = 8 then some (ISP.CTL_EN, ISP.STS_STATE) else if id = 13 then some (COMP.CTL_EN, COMP.STS_STATE)
  else if id = 14 then some (HRX.CTL_EN, HRX.STS_STATE) else if id = 15 then some (HTX.CTL_EN, HTX.STS_STATE)
  else if id = 16 then some (MPT.CTL_EN, MPT.STS_STATE) else none

/-- A consumer goes to WAITGRANT and asks (Table CADDY-1). -/
def askStanding (id : Nat) (e st : Fld) (s : State) : State := standingRequest id (s.puts [(e, 1), (st, 1)])

/-- CTL.EN of a standing consumer written 1. HTX refuses a timing that it cannot carry, and leaves FAIL by a new
write (R314). -/
def standingEnable (id : Nat) (s : State) : State :=
  match standingFields id with
  | none => s
  | some (e, st) =>
    if id = 15 then
      checked .htx [(!timingOk s, 0x0100)] (fun t =>
        if !t.bit e then askStanding id e st t else if htxState t = 5 then htxProceed t else t) s
    else if s.bit e then s else askStanding id e st (if id = 16 then skipBacklog s else s)

/-- The ISP stops: what is on its way is abandoned (log entry 17). -/
def ispStop (s : State) : State :=
  let t := repeatFor 3 abandonOutput s
  { (t.put ISP.PASSSTS_CUR 3) with isp := { t.isp with pass := none } }

/-- What a standing consumer gives up as it stops (R314, R320, R335). -/
def stopBlock (id : Nat) (s : State) : State :=
  if id = 8 then ispStop s
  else if id = 13 then compStop s
  else if id = 14 then hrxStop s
  else if id = 15 then htxLeave 0 s
  else if id = 16 then ptpForget ((emptyQueues s).put MPT.LINKSTS_UP 0)
  else s

/-- CTL.EN of a standing consumer written 0: the block stops, then its grant is returned or its request withdrawn
(Table CADDY-1, R412). -/
def standingDisable (id : Nat) (s : State) : State :=
  match standingFields id with
  | none => s
  | some (e, st) => if s.bit e then stopConsumer id ((stopBlock id s).puts [(e, 0), (st, 0)]) else s

/-- The page whose CTL enables a standing consumer. -/
def consumerPage (id : Nat) : Page :=
  if id = 8 then .isp else if id = 13 then .comp else if id = 14 then .hrx else if id = 15 then .htx else .mpt

/-- A channel asks as it is initialised, in the CODE 0x06 window of boot (R120, R196). -/
def dmcInit (n : Nat) (s : State) : State :=
  if dmcState s n = 0 ∧ bootCode s = 6 then standingRequest (9 + n) s else s

/-- CONSUMER_ENABLE (R120); a cell asks only with a strip, so the event is none for it. -/
def execConsumerEnable (c : Fin 17) (s : State) : Out :=
  onCore (fun s =>
    if c.val < 8 then s
    else if 9 ≤ c.val ∧ c.val ≤ 12 then dmcInit (c.val - 9) s
    else onLink (.consumerEnable c) (onPage (consumerPage c) (standingEnable c)) s) s

/-- CONSUMER_DISABLE (R120, R412); cells and channels have no enable. -/
def execConsumerDisable (c : Fin 17) (s : State) : Out :=
  onCore (fun s =>
    if c.val < 8 ∨ (9 ≤ c.val ∧ c.val ≤ 12) then s
    else onLink (.consumerDisable c) (onPage (consumerPage c) (standingDisable c)) s) s

end Sys2Proof.Machine
end

