-- ==== Sys2Proof/Machine/Local.lean ====
section
/-! DEFINITION. Local resets of the pages that have one (R60, R61, R78, Table HIF-3, R174, R232, R301, R333), the CTL of
KA pages (R71), and the clearing of error latches (R41). -/

namespace Sys2Proof.Machine

/-! ### What a block gives up as its local reset begins -/

/-- An IN FIFO's agent keeps a packet that is cut: a decode frame receives it as far as it came, UPD drops it (R232,
Table UPD-6). -/
def cutTaking (n : Nat) (f : FifoSt) : List Packet :=
  match f.taking with
  | some (typ, len, ws) => if n = 15 then f.taken else f.taken ++ [{ typ := typ, bytes := payload ws len, cut := true }]
  | none => f.taken

/-- A FIFO empties; an encode copy in progress ends, and its record says so (R232, Table HIF-3). -/
def resetFifo (n : Nat) (s : State) : State :=
  let f := s.fifo n
  let t := s.setFifo n { taken := cutTaking n f }
  match f.putFor with
  | some num => if f.puts.isEmpty then t else updFrame num (fun f => { f with rflags := f.rflags ||| 16 }) t
  | none => t

/-- MPT empties its queues, takes the link down and stops its streams (R334 to R360). -/
def resetMpt (s : State) : State :=
  let t := repeatFor 16 (fun n t => streamDisableOp n t) (stopBlock 16 s)
  stopConsumer 16 { t with mpt := {} }

/-- The block behind a page, as its local reset leaves it. -/
def resetBlock (p : Page) (s : State) : State :=
  match p with
  | .prs => { s with prs := {} }
  | .csi n => (csiDisableOp n s).setCsi n {}
  | .isp =>
    let t := stopConsumer 8 (stopBlock 8 s)
    { t with isp := {} }
  | .visr => { s with visr := {} }
  | .mpt => resetMpt s
  | .hrx =>
    let t := stopConsumer 14 (stopBlock 14 s)
    { t with hrx := {} }
  | .htx =>
    let t := stopConsumer 15 (stopBlock 15 s)
    { t with htx := {} }
  | .comp =>
    let t := stopConsumer 13 (stopBlock 13 s)
    { t with comp := {} }
  | .bfifo n => resetFifo n s
  | .sys | .clk | .tim | .caddy | .reg | .intc | .store | .upd | .hif | .mbx | .cell _ | .csch | .tcf | .dmc _ | .dqos
  | .spout | .strn | .ptp | .earc | .aport => s

/-- CTL.LRST written 1: a CELL reset on a CELL page, a local reset on another page that has one, nothing on the rest
(R36, R77, R78). R69 ignores a request of equal or narrower scope during a reset sequence; that a reset of another page
is no such request and runs on its own beside the one under way is DESIGN CHOICE, log entry 34. -/
def localResetOp (p : Page) (s : State) : State :=
  match p with
  | .cell n => cellResetEff n s
  | _ => if p.hasLrst then enterReset p (resetBlock p s) else s

/-- LOCAL_RESET (R78). -/
def execLocalReset (p : Page) (s : State) : Out := onCore (onLink (.localReset p) (onPage p (localResetOp p))) s

/-- A page leaves its local reset; a CELL page waits for its reload (R77, R78). -/
def localResetDoneEff (p : Page) (s : State) : State :=
  match p with
  | .cell _ => s
  | _ => if s.held p then leaveReset p s else s

/-- LOCAL_RESET_DONE (R60, R78). -/
def execLocalResetDone (p : Page) (s : State) : Out := onCore (localResetDoneEff p) s

/-! ### CTL of the KA pages -/

/-- A write of CTL on a KA page clears STS.KEPT (R71); CTL of TIM, APORT and EARC has fields of its own. -/
def kaCtlOp (p : Page) (d : W32) (s : State) : State :=
  match p with
  | .tim => timCtl d (s.put TIM.STS_KEPT 0)
  | .aport => aportCtl d s
  | .earc => earcCtl d s
  | .caddy => s.put CADDY.STS_KEPT 0
  | .reg => s.put REG.STS_KEPT 0
  | _ => s

/-- KA_CTL_WRITE (R71). -/
def execKaCtlWrite (p : Page) (d : W32) (s : State) : Out :=
  onCore (onLink (.kaCtlWrite p d) (onPage p (kaCtlOp p d))) s

/-! ### Error latches -/

/-- A write of EFIRST (R41). -/
def writeEfirst (p : Page) (d : W32) (s : State) : State := if natBit d.toNat 31 then clearErr p s else s

/-- EFIRST_CLEAR (R41). -/
def execEfirstClear (p : Page) (d : W32) (s : State) : Out :=
  onCore (onLink (.efirstClear p d) (onPage p (writeEfirst p d))) s

end Sys2Proof.Machine
end

