-- ==== Sys2Proof/Machine/Update.lean ====
section
/-! DEFINITION. Firmware updates: the states of UPD, its commands and the chunks it takes (17_store_and_updates.md,
R372 to R376, Table UPD-3). -/

namespace Sys2Proof.Machine

/-- The states that Table UPD-3 lists for a command: 1 START, 2 VERIFY, 3 ARM, 4 CONFIRM, 5 REVERT, 6 ABORT. -/
def updStates (op : Nat) : List Nat := [[], [0, 2, 4, 7, 8], [2], [4], [6], [5, 6], [1, 2, 4]].getD op []

/-- A command in a state for which it is listed, and not while BUSY, acts; another is refused (R372). -/
def updGate (op : Nat) (act : State → State) (s : State) : State :=
  if (updStates op).contains (s.get UPD.STS_STATE) && !s.bit UPD.STS_BUSY then act s
  else recErr .upd 0x0101 (s.put UPD.RESULT_CODE 0x08)

/-- UPD goes to a state and its work is done (R372). -/
def updDone (st : Nat) (s : State) : State := s.puts [(UPD.STS_STATE, st), (UPD.ISR_DONE, 1)]

/-- The slot that START writes: the inactive one of the newer copy, or the recovery's (R361, R372). -/
def startTarget (s : State) : Nat :=
  if s.nvm.recovery then s.nvm.target else 1 - ((newerCopy s).map (·.active)).getD 0

/-- Writing of the boot record or the journal begins: BUSY until it ends (R372). -/
def startWork (op : Nat) (cut : Option StoreCut) (s : State) : State :=
  { (s.puts [(UPD.STS_BUSY, 1), (STORE.STS_STATE, 1)]) with nvm := { s.nvm with work := some (op, cut) } }

def updStartAct (s : State) : State :=
  let slot := startTarget s
  let t := mramStore (slotBase slot) (List.replicate 64 0) (mramStore (tagAddr slot) (List.replicate 64 0) s)
  let f := t.fifo 15
  let t := t.setFifo 15 { f with taken := [] }
  let t := { t with nvm := { t.nvm with target := slot, dlid := newerSeq s, head := [] } }
  let t := t.puts [(UPD.RCVD_N, 0), (UPD.TOTAL_N, 0), (UPD.IMGVER_V, 0), (UPD.IMGSCH_SVN, 0), (UPD.IMGSCH_SCHEMA, 0)]
  showSlots (updDone 1 t)

/-- CMD.OP 1 (Table UPD-3). -/
def updStartEff (s : State) : State := updGate 1 updStartAct s

/-- CMD.OP 6: the tag is zeroed (Table UPD-3). -/
def updAbortEff (s : State) : State :=
  updGate 6 (fun s => showSlots ((mramStore (tagAddr s.nvm.target) (List.replicate 64 0) s).put UPD.STS_STATE 0)) s

/-- CMD.OP 2 (Table UPD-3). -/
def updVerifyEff (s : State) : State := updGate 2 (fun s => s.puts [(UPD.STS_STATE, 3), (UPD.STS_BUSY, 1)]) s

/-- The two copies of a recovery, both read before: copy 1 with SEQ n, then copy 0 with SEQ n + 1. -/
def recoveryCopies (s : State) : State :=
  let s := noteCopies s
  let n := ((newerCopy s).map fun b => (b.seq + 1) % 2 ^ 32).getD 1
  let b (q : Nat) : BootRec :=
    { seq := q, active := s.nvm.target, trial := false, rvt := false, tries := 0, actId := 0, cline := 0 }
  mramStore (copyAddr 0) (bootLine (b ((n + 1) % 2 ^ 32))) (mramStore (copyAddr 1) (bootLine (b n)) s)

/-- A new segment header before ARM's copy, where the head has no line (R375). -/
def armHead (s : State) : State :=
  match makeRoom 1 s with
  | some (l, t) => t.put STORE.JSTS_HEAD l
  | none => s

/-- The copy that arms a trial; the copies and the journal are read for it (R362, R375). -/
def armCopy (s : State) : State :=
  let t := armHead (noteJournal (noteCopies s))
  let t := writeBoot (fun n => { seq := n, active := t.nvm.target, trial := true, rvt := false, tries := 0, actId := n,
                                 cline := headLine t }) t
  showJournal (headLine t) t

/-- CMD.OP 3 (R375, Table UPD-3). -/
def updArmEff (cut : Option StoreCut) (s : State) : State := updGate 3 (startWork 3 cut) s

/-- The end of ARM (R375, Table UPD-3). -/
def armDone (s : State) : State := showSlots (updDone 5 (if s.nvm.recovery then recoveryCopies s else armCopy s))

/-- Steps 1 to 3 of a confirmation: the CONFIRM record at CLINE, the migrated live set, the staged changes (R376). -/
def confirmRecords (b : BootRec) (s : State) : State :=
  let s := noteSettings s
  let st := s.get STORE.SETSTS_STATE
  let retire := st == 3 || st == 2
  let old := liveSet s
  let t := putRec b.cline 3 (schemaOut s) 0 0 (confirmBytes s b.actId retire) s
  let t := if headLine t = b.cline then t.put STORE.JSTS_HEAD ((b.cline + 1) % 49152) else t
  let t := if st = 2 then old.foldl (fun t r => appendSetting r.key (some (liveValue s r)) t) t else t
  let t := t.nvm.staged.foldl (fun t e => appendSetting e.1 e.2 t) t
  { t with nvm := { t.nvm with staged := [] } }

/-- The end of CONFIRM (R376). -/
def confirmDone (s : State) : State :=
  match newerCopy s with
  | some b =>
    let t := finishConfirm b (confirmRecords b s)
    let t := showSlots (updDone 7 t)
    showJournal (headLine t) (t.put STORE.SETSTS_STATE (settingsState t))
  | none => s

/-- CMD.OP 4 (R376). -/
def updConfirmEff (cut : Option StoreCut) (s : State) : State := updGate 4 (startWork 4 cut) s

/-- The end of REVERT (Table UPD-3). -/
def revertDone (s : State) : State :=
  match newerCopy s with
  | some b => showSlots (updDone 8 (revertTo (1 - b.active) b (noteCopies s)))
  | none => s

/-- CMD.OP 5 (Table UPD-3). -/
def updRevertEff (cut : Option StoreCut) (s : State) : State := updGate 5 (startWork 5 cut) s

/-- The work that runs, at its end (R372). -/
def workDone (op : Nat) (s : State) : State :=
  let t := s.puts [(UPD.STS_BUSY, 0), (STORE.STS_STATE, 0)]
  if op = 3 then armDone t else if op = 4 then confirmDone t else revertDone t

/-- The boot-record and journal writes that run end; a loss of the supply or a reset may cut them (R372, R379, R380, log entry
46). -/
def finishWork (s : State) : State :=
  match s.nvm.work with
  | some (op, cut) => withStore { cut := cut } (workDone op) { s with nvm := { s.nvm with work := none } }
  | none => s

/-- CMD as a register (R372, Table UPD-8): an OP that Table UPD-9 does not give is in no state's list. -/
def writeUpdCmd (d : W32) (s : State) : State :=
  if bitsOf d 16 16 ≠ 0x7E55 then recErr .upd 0x0100 s
  else match bitsOf d 0 4 with
    | 1 => updStartEff s
    | 2 => updVerifyEff s
    | 3 => updArmEff none s
    | 4 => updConfirmEff none s
    | 5 => updRevertEff none s
    | 6 => updAbortEff s
    | op => updGate op (fun s => s) s

/-- A command reaches UPD's page (R92). -/
def execUpdStart (e : StoreEnv) (s : State) : Out :=
  onCore (onLink (.updStart e) (onPage .upd (withStore e updStartEff))) s
/-- UPD_VERIFY (R372). -/
def execUpdVerify (s : State) : Out := onCore (onLink .updVerify (onPage .upd updVerifyEff)) s
/-- UPD_ARM (R375). -/
def execUpdArm (e : StoreEnv) (s : State) : Out :=
  onCore (onLink (.updArm e) <| onPage .upd fun s => updArmEff e.cut (s.meetLines e)) s
/-- UPD_CONFIRM (R376). -/
def execUpdConfirm (e : StoreEnv) (s : State) : Out :=
  onCore (onLink (.updConfirm e) <| onPage .upd fun s => updConfirmEff e.cut (s.meetLines e)) s
/-- UPD_REVERT (R372). -/
def execUpdRevert (e : StoreEnv) (s : State) : Out :=
  onCore (onLink (.updRevert e) <| onPage .upd fun s => updRevertEff e.cut (s.meetLines e)) s
/-- UPD_ABORT (R372). -/
def execUpdAbort (e : StoreEnv) (s : State) : Out :=
  onCore (onLink (.updAbort e) (onPage .upd (withStore e updAbortEff))) s

/-! ### Chunks -/

/-- A discarded packet (R373). -/
def discardChunk (s : State) : State := recErr .upd 0x0102 (s.put UPD.RESULT_CODE 0x09)

/-- The image is complete: first line, then the tag (R374, Table UPD-3). -/
def imageDone (s : State) : State :=
  let slot := s.nvm.target
  let t := mramStore (slotBase slot) s.nvm.head s
  let t := mramStore (tagAddr slot) (crcLine (leBytes 4 0x47544C53 ++ leBytes 4 t.nvm.dlid)) t
  showSlots ((showImage slot t).puts [(UPD.STS_STATE, 2), (UPD.ISR_RXDONE, 1)])

/-- The data of a packet accepted at RCVD: the first line is held back (R373, R374). -/
def writeChunk (bs : List Byte) (s : State) : State :=
  let r := s.get UPD.RCVD_N
  let k := 64 - r
  let t := { s with nvm := { s.nvm with head := s.nvm.head ++ bs.take k } }
  let t := if k < bs.length then mramStore (slotBase t.nvm.target + r + k) (bs.drop k) t else t
  let t := t.put UPD.RCVD_N (r + bs.length)
  if r + bs.length = t.get UPD.TOTAL_N then imageDone t else t

/-- UPD returns to IDLE for a bad header (R373). -/
def badHeader (code : Nat) (s : State) : State := s.puts [(UPD.STS_STATE, 0), (UPD.RESULT_CODE, code)]

/-- The header, as far as it has arrived: from its bytes 0 to 11 on TOTAL is shown, and a wrong MAGIC, FORMAT or TOTAL takes
UPD back to IDLE (R373). -/
def judgeHeader (h : List Byte) (s : State) : State :=
  if h.length < 12 then s
  else
    let t := s.put UPD.TOTAL_N (sliceNat h 8 4)
    if sliceNat h 0 4 ≠ 0x58465645 ∨ sliceNat h 4 2 ≠ 1 then badHeader 0x01 t
    else if !totalOk (sliceNat h 8 4) then badHeader 0x02 t
    else t

/-- A packet's data at RCVD (R373). -/
def acceptChunk (bs : List Byte) (s : State) : State :=
  let h := s.nvm.head ++ bs
  let t := judgeHeader h s
  if h.length < 12 then writeChunk bs s
  else if t.get UPD.STS_STATE ≠ 1 then t
  else if sliceNat h 8 4 < s.get UPD.RCVD_N + bs.length then discardChunk t else writeChunk bs t

/-- The header is judged as soon as it has arrived, while its packet is still being taken (R373). -/
def judgeArriving (s : State) : State :=
  let f := s.fifo 15
  match f.taking with
  | some (typ, len, ws) =>
    let bs := payload ws len
    if s.get UPD.STS_STATE = 1 ∧ f.taken = [] ∧ typ = 0x40 ∧ 5 ≤ len ∧ len ≤ 65540 ∧ 4 ≤ bs.length ∧
        sliceNat bs 0 4 = s.get UPD.RCVD_N then judgeHeader (s.nvm.head ++ bs.drop 4) s
    else s
  | none => s

/-- BFIFO_AGENT_TAKE (R185, R186); what the agent of BFIFO15 has taken may complete a header (R373). -/
def execBfifoAgentTake (n : Fin 16) (s : State) : Out :=
  onCore (fun s => let t := bfifoAgentTakeEff n s; if n = 15 then judgeArriving t else t) s

/-- A packet as UPD takes it (R373). -/
def takeChunk (p : Packet) (s : State) : State :=
  if p.typ ≠ 0x40 then recErr (fifoPage 15) 0x0104 (s.put (BFIFO.ISR_FRAME 15) 1)
  else if p.bytes.length < 5 ∨ 65540 < p.bytes.length ∨ sliceNat p.bytes 0 4 ≠ s.get UPD.RCVD_N then discardChunk s
  else acceptChunk (p.bytes.drop 4) s

def updChunkEff (s : State) : State :=
  if s.get UPD.STS_STATE = 1 then
    let f := s.fifo 15
    match f.taken with
    | p :: rest => judgeArriving (takeChunk p (s.setFifo 15 { f with taken := rest }))
    | [] => s
  else s

/-- UPD_CHUNK (R373): UPD takes the oldest packet that has come whole out of BFIFO15. -/
def execUpdChunk (e : StoreEnv) (s : State) : Out := onCore (withStore e updChunkEff) s

def verifyEndEff (s : State) : State :=
  if s.get UPD.STS_STATE = 3 then
    let r := verifyImage s s.nvm.target
    let t := (noteImage s.nvm.target s).puts [(UPD.STS_BUSY, 0), (UPD.RESULT_CODE, r)]
    if r = 0 then updDone 4 t else recErr .upd 0x0103 ((updDone 2 t).put UPD.ISR_VFAIL 1)
  else s

/-- VERIFY_END (R365, Table UPD-3). -/
def execVerifyEnd (e : StoreEnv) (s : State) : Out := onCore (fun s => verifyEndEff (s.meetLines e)) s

/-! ### The mailbox commands of the settings -/

/-- Utilior serves a settings command once the work that runs has ended (Table UPD-6). -/
def serveSetting (e : StoreEnv) (cmd : Nat) (f : State → (Nat × List Nat) × State) (s : State) : State :=
  withStore e (serveMbx cmd f) (finishWork s)

/-- SET_READ (R371). -/
def execSetRead (e : StoreEnv) (s : State) : Out := onCore (serveSetting e 0x20 setReadAnswer) s
/-- SET_WRITE (R371). -/
def execSetWrite (e : StoreEnv) (s : State) : Out := onCore (serveSetting e 0x21 setWriteAnswer) s
/-- SET_DELETE (R371). -/
def execSetDelete (e : StoreEnv) (s : State) : Out := onCore (serveSetting e 0x22 setDeleteAnswer) s
/-- SET_RESET (R378). -/
def execSetReset (e : StoreEnv) (s : State) : Out := onCore (serveSetting e 0x23 setResetAnswer) s

end Sys2Proof.Machine
end

