-- ==== Sys2Proof/Machine/Bus.lean ====
section
/-! DEFINITION. The access paths: writes and reads of BAR0 (R12 to R16, R34 to R36, R59, R60, R92), the special
registers of every page, BAR2 (R178, R310) and the management SPI slave (R179, R180). -/

namespace Sys2Proof.Machine

/-! ### Writes, page by page: a register with a rule of its own, else its fields by their access codes -/

/-- RSTCMD as a register (Table SYS-13). -/
def writeRstcmd (d : W32) (s : State) : State :=
  let key := SYS.RSTCMD_KEY.ofData d
  match SYS.RSTCMD_KIND.ofData d with
  | 1 => if key = 0x5A3C then rstcmdServiceEff false s else recErr .sys 0x0102 s
  | 2 => if key = 0xC3A5 then rstcmdChipEff s else recErr .sys 0x0102 s
  | _ => s

def writeSys (o : Nat) (d : W32) (s : State) : State :=
  if o = 0x4C then writeRstcmd d s
  else if o = 0x50 then wdogCtlOp d s
  else if o = 0x54 then wdogKickOp d s
  else if o = 0x60 then writeGrppt d s
  else if o = 0x64 then writeGrpcmt d s
  else plainWrite .sys o d s

def writeTim (o : Nat) (d : W32) (s : State) : State :=
  if o = 0x4C then writeDpll d s
  else if o = 0x50 then writeHold d s
  else if o = 0x54 then writeAud d s
  else if o = 0x58 then outenWriteEff d s
  else if o = 0x5C then writeRealign d s
  else match slotAt 0x60 4 6 o with
    | some n => writeRefcfg n d s
    | none => plainWrite .tim o d s

def writePrs (o : Nat) (d : W32) (s : State) : State :=
  if o = 0x40 then writePrsCfg d s
  else if o = 0x44 then writePeriod d s
  else if o = 0x48 then writeWindow d s
  else match slotAt 0x400 16 64 o with
    | some k => if o % 16 = 12 then writeEvcs k d s else writeSlot k (fieldsAt .prs o) d s
    | none => plainWrite .prs o d s

def writeCaddy (o : Nat) (d : W32) (s : State) : State :=
  if o = 0x40 then writeBudget d s
  else if o = 0x44 then writeReserve d s
  else if o = 0x48 then writeBrake d s
  else if o = 0x4C then writeDerate d s
  else plainWrite .caddy o d s

def writeReg (o : Nat) (d : W32) (s : State) : State :=
  if o = 0x40 then writeVset d s
  else if o = 0x4C then writeTon 0 d s
  else if o = 0x50 then writeTlim d s
  else if o = 0x54 then writeDt d s
  else if o = 0x58 then writePhth d s
  else if o = 0x5C then writePhctl d s
  else if o = 0x64 then writeMode d s
  else if o = 0x68 then writeOl 0 d s
  else if o = 0x78 then writeFstat d s
  else plainWrite .reg o d s

/-- INTC: the route of source 15 is fixed, and a write of it is an error (R64, Table SYS-11). -/
def writeIntc (o : Nat) (d : W32) (s : State) : State :=
  if o = 0x100 then writeEoi d s
  else if o = 0x43C then recErr .intc 0x0101 s
  else match slotAt 0x60 4 8 o with
    | some k => setpendOp k d s
    | none => match slotAt 0x80 4 8 o with
      | some k => clrpendOp k d s
      | none => plainWrite .intc o d s

def writeMbx (o : Nat) (d : W32) (s : State) : State :=
  if o = 0xC0 then writeMbctl d s
  else match slotAt 0x40 4 16 o with
    | some i => writeReq i d s
    | none => plainWrite .mbx o d s

/-- A register of ring `r` of CSCH, at an offset within the ring's 64 bytes. -/
def writeRingReg (r o : Nat) (full : Nat) (d : W32) (s : State) : State :=
  if o < 0x10 then (fieldsAt .csch full).foldl (fun t f => writeRingBase r f d t) s
  else if o = 0x10 then writeRcfg r d s
  else if o = 0x14 then writeSqtail r d s
  else if o = 0x20 then writeCqtail r d s
  else if o = 0x2C then writeKeyreq r d s
  else plainWrite .csch full d s

def writeCsch (o : Nat) (d : W32) (s : State) : State :=
  match slotAt 0x100 64 8 o with
  | some r => writeRingReg r (o % 64) o d s
  | none => plainWrite .csch o d s

/-- CSI: every configuration register is refused while EN is 1 (R304, Table CSI-2). -/
def writeCsiReg (n : Fin 3) (o : Nat) (d : W32) (s : State) : State :=
  if 0x40 ≤ o ∧ o ≤ 0x58 then writeCsi n (fieldsAt (.csi n) o) d s else plainWrite (.csi n) o d s

def writeVisrReg (o : Nat) (d : W32) (s : State) : State :=
  if o = 0x4C then writeRqtail d s
  else if 0x40 ≤ o ∧ o ≤ 0x48 then writeVisr (fieldsAt .visr o) d s
  else plainWrite .visr o d s

/-- DMC: what the device answers to a mode-register read is free here (log entry 7). -/
def writeDmc (n : Fin 4) (o : Nat) (d : W32) (s : State) : State :=
  if o = 0x44 then writeTrain n d s
  else if o = 0x60 then writeTmg n false d s
  else if o = 0x64 then writeTmg n true d s
  else if o = 0x68 then writeMrrd n d s.fresh.1 s.fresh.2
  else if o = 0x6C then (if (DMC.PWR_SR n).ofData d = 1 then srRequestEff n s else srExitRequestEff n s)
  else plainWrite (.dmc n) o d s

def writeDqos (o : Nat) (d : W32) (s : State) : State :=
  if o = 0x40 then writeMark d s
  else match slotAt 0x100 16 12 o with
    | some p => if o % 16 = 0 then writeLat p d s else if o % 16 = 4 then writeDqPcfg p d s else plainWrite .dqos o d s
    | none => plainWrite .dqos o d s

/-- A register of receive ring `r` of MPT. -/
def writeRxReg (r o full : Nat) (d : W32) (s : State) : State :=
  if o < 8 then writeRing (MPT.RXCFG_EN r) (fieldsAt .mpt full) false d s
  else if o = 8 then writeRing (MPT.RXCFG_EN r) (fieldsAt .mpt full) true d s
  else plainWrite .mpt full d s

def writeMpt (o : Nat) (d : W32) (s : State) : State :=
  if o = 0x50 then writeStren d s
  else if o = 0x54 ∨ o = 0x58 then writeRing MPT.TXCFG_EN (fieldsAt .mpt o) false d s
  else if o = 0x5C then writeRing MPT.TXCFG_EN (fieldsAt .mpt o) true d s
  else if o = 0x60 then writeTxtail d s
  else match slotAt 0x80 32 4 o with
    | some r => writeRxReg r (o % 32) o d s
    | none => plainWrite .mpt o d s

/-- A register of list `l` of SPOUT: CYCLE, BASE and LEN (Table MPT-5). -/
def writeListReg (l o full : Nat) (d : W32) (s : State) : State :=
  if o = 0 then writeListSize l (SPOUT.CYCLE_NS l) 10000 1000000000 d s
  else if o = 12 then writeListSize l (SPOUT.LEN_N l) 1 256 d s
  else writeList l (fieldsAt .spout full) d s

def writeSpout (o : Nat) (d : W32) (s : State) : State :=
  if o = 0x60 then (if natBit d.toNat 0 then swapGoEff s else s)
  else match slotAt 0x40 16 2 o with
    | some l => writeListReg l (o % 16) o d s
    | none => match slotAt 0x80 8 8 o with
      | some c => writeShaper c (o % 8 = 4) d s
      | none => match slotAt 0x800 0x400 2 o with
        | some l => writeList l (fieldsAt .spout o) d s
        | none => plainWrite .spout o d s

def writeStrn (o : Nat) (d : W32) (s : State) : State :=
  match slotAt 0x800 32 64 o with
  | some p =>
    if o % 32 = 0x4 then writePolicer p d s
    else if o % 32 = 0xC then writeBurst (STRN.CBS_BYTES p) d s
    else if o % 32 = 0x14 then writeBurst (STRN.PBS_BYTES p) d s
    else plainWrite .strn o d s
  | none => plainWrite .strn o d s

def writeHtx (o : Nat) (d : W32) (s : State) : State :=
  if o = 0x40 then writeHtxCfg d s
  else if o = 0x44 then writeOutfmt d s
  else if o = 0x60 then writeHdcpctl d s
  else if o = 0x68 then writeDdc d s
  else plainWrite .htx o d s

def writeAport (o : Nat) (d : W32) (s : State) : State :=
  if o = 0x60 then writeMute d s
  else if o = 0x70 then writePen d s
  else match slotAt 0x40 4 4 o with
    | some k => writePcfg k d s
    | none => plainWrite .aport o d s

def writeBfifo (n : Fin 16) (o : Nat) (d : W32) (s : State) : State :=
  if o = 0x40 then fifoWrite n d false s
  else if o = 0x44 then fifoWrite n d true s
  else if o = 0x50 then fifoCfg n d s
  else plainWrite (.bfifo n) o d s

/-- A write past the common header. -/
def writeBody (p : Page) (o : Nat) (d : W32) (s : State) : State :=
  match p with
  | .sys => writeSys o d s
  | .clk => if o = 0x40 then writeDiv d s else plainWrite .clk o d s
  | .tim => writeTim o d s
  | .prs => writePrs o d s
  | .caddy => writeCaddy o d s
  | .reg => writeReg o d s
  | .intc => writeIntc o d s
  | .upd => if o = 0x40 then writeUpdCmd d s else plainWrite .upd o d s
  | .mbx => writeMbx o d s
  | .csch => writeCsch o d s
  | .csi n => writeCsiReg n o d s
  | .visr => writeVisrReg o d s
  | .dmc n => writeDmc n o d s
  | .dqos => writeDqos o d s
  | .mpt => writeMpt o d s
  | .spout => writeSpout o d s
  | .strn => writeStrn o d s
  | .ptp => if o = 0x40 then writePtpPcfg d s else plainWrite .ptp o d s
  | .hrx => if o = 0x44 then writeHpd d s else plainWrite .hrx o d s
  | .htx => writeHtx o d s
  | .earc => if o = 0x44 ∧ natBit d.toNat 0 then capctlUpdEff s else plainWrite .earc o d s
  | .aport => writeAport o d s
  | .comp => if o = 0x48 then writeSwap d s else plainWrite .comp o d s
  | .bfifo n => writeBfifo n o d s
  | .store | .hif | .cell _ | .tcf | .isp => plainWrite p o d s

/-! ### The header -/

/-- CTL.EN with STS.STATE following it, 0 or 1. -/
def enWithState (e st : Fld) (d : W32) (s : State) : State := (s.put e (e.ofData d)).put st (e.ofData d)

/-- CTL.EN of a standing consumer as a register. -/
def standingCtl (id : Nat) (en : Bool) (s : State) : State := if en then standingEnable id s else standingDisable id s

/-- A write of CTL: LRST starts the reset and the rest of the write is lost in it (R61); else EN acts. -/
def writeCtl (p : Page) (d : W32) (s : State) : State :=
  let en := natBit d.toNat 0
  if p.hasLrst && natBit d.toNat 1 then localResetOp p s
  else match p with
    | .prs => if en then prsStart s else prsStop s
    | .csi n => if en then csiEnableOp n s else csiDisableOp n s
    | .bfifo n => if en then fifoEnableOp n s else fifoDisableOp n s
    | .isp => standingCtl 8 en s
    | .comp => standingCtl 13 en s
    | .hrx => standingCtl 14 en s
    | .htx => standingCtl 15 en s
    | .mpt => standingCtl 16 en s
    | .visr => enWithState VISR.CTL_EN VISR.STS_STATE d s
    | .csch => enWithState CSCH.CTL_EN CSCH.STS_STATE d s
    | .spout => if en then spoutStart s else spoutStop s
    | .strn => strnCtl d s
    | .ptp => ptpCtl d s
    | .tim | .caddy | .reg | .earc | .aport => kaCtlOp p d s
    | .sys | .clk | .intc | .store | .upd | .hif | .mbx | .cell _ | .tcf | .dmc _ | .dqos => s

/-- A write at an offset of a page that is reached and not in reset (R13, R36, R43). -/
def writePage (p : Page) (o : Nat) (d : W32) (s : State) : State :=
  if o = 0x8 then writeCtl p d s
  else if o = 0x10 then writeEfirst p d s
  else if o = 0x18 ∨ o = 0x1C then lowerLines (plainWrite p o d s)
  else if o = 0x20 then shadowCommitEff p d s
  else if o < 0x40 then s
  else writeBody p o d s

/-- A 32-bit write of BAR0, over either path (R12, R35, R92, R286). -/
def busWrite (a : Nat) (d : W32) (s : State) : State :=
  match target a with
  | .page p o => onPage p (writePage p o d) s
  | .window n _ => if bootCode s ≠ 0x10 then recErr .sys 0x0104 s else recErr (.cell n) 0x0104 s
  | .nothing => recErr .sys 0x0100 s

/-- A write that is the CHIP command, the one access that acts under every unsupported condition (R5). -/
def chipWrite (a : Nat) (d : W32) : Bool :=
  target a == .page .sys 0x4C && SYS.RSTCMD_KIND.ofData d == 2 && SYS.RSTCMD_KEY.ofData d == 0xC3A5

/-- The gate of an access that may carry the CHIP command (R5). -/
def onBus (chip : Bool) (f : State → State) (s : State) : Out :=
  if chip then always (fun s => if s.sys.coreUp then f s else s) s else onCore f s

/-- An access of the link: the CHIP command does not wait, since nothing that waits survives it (R66, R177, log entry 3). -/
def linkBus (chip : Bool) (c : Instr) (f : State → State) (s : State) : Out := onBus chip (if chip then f else onLink c f) s

/-! ### Reads -/

/-- The loop of a domain slews (R149). -/
def slewing (s : State) (d : TimDom) : Bool := (s.loop d).freq != loopTarget s d

/-- FREQ of a domain: the loop's offset in 0.01 ppm, a quotient without a rounding rule (log entry 7). -/
def freqShown (s : State) (d : TimDom) : Nat := ofSigned 16 (openDiv (s.loop d).freq 1000)

/-- What a page shows without storing it, beside its stored fields. -/
def shownRead (p : Page) (o : Nat) (s : State) : Nat :=
  match p with
  | .sys => if o = 0x64 then (List.range 8).foldl (fun v g => v + bitsAt g (groupPending s g) * 0x101) 0 else 0
  | .clk => if o = 0x48 then xoAmp s * 2 ^ 8 else 0
  | .tim =>
    if o = 0xC then bitsAt 8 (slewing s .audio || slewing s .video || s.bit TIM.DSTS_REALA || s.bit TIM.DSTS_REALV)
    else if o = 0x94 then bitsAt 31 (hasPhase s .audio)
    else if o = 0x98 then bitsAt 31 (hasPhase s .video)
    else if o = 0x9C then freqShown s .audio + freqShown s .video * 2 ^ 16
    else 0
  | .prs =>
    if o = 0xC then bitsAt 8 ((List.range 64).any (armed s))
    else if o = 0x70 then maskOf 32 (armed s)
    else if o = 0x74 then maskOf 32 fun k => armed s (k + 32)
    else match slotAt 0x400 16 64 o with
      | some k => if o % 16 = 12 then bitsAt 0 (armed s k) else 0
      | none => 0
  | .caddy =>
    if o = 0xC then bitsAt 8 (!s.caddy.waits.isEmpty)
    else if o = 0x98 then maskOf 17 (holdsGrant s)
    else if o = 0x9C then maskOf 17 (waitsGrant s)
    else 0
  | .intc => if o = 0xC00 then maskOf 32 (pbaBit s) else 0
  | .store =>
    if o = 0x54 then s.nvm.svn
    else match slotAt 0x60 4 12 o with
      | some i => sliceNat s.nvm.keyHash (4 * i) 4
      | none => 0
  | .csch =>
    if o = 0xC then bitsAt 8 (cschBusy s)
    else match slotAt 0x100 64 8 o with
      | some r => if o % 64 = 0x24 then ringWaiting s r * 2 ^ 8 else 0
      | none => 0
  | .isp => if o = 0xC then bitsAt 8 (ispBusy s) else if o = 0xF4 then min 15 (passPend s) else 0
  | .visr =>
    if o = 0x54 then s.visr.boxes.length
    else match slotAt 0x60 4 8 o with
      | some k => maskOf 32 fun b => s.visr.boxes.any fun x => x.id == 32 * k + b
      | none => 0
  | .dqos =>
    match slotAt 0x100 16 12 o with
    | some q => if o % 16 = 8 then min 255 (dqPsts s q).2 + (dqPsts s q).1 * 2 ^ 30 else 0
    | none => 0
  | .htx => if o = 0xC then bitsAt 9 s.sys.tvHpd else 0
  | .bfifo n =>
    if o = 0x48 then rdataEnd s n
    else if o = 0x54 then (fifoCount s n).1 + (fifoCount s n).2 * 2 ^ 19
    else 0
  | .reg => if o = 0x80 then voutTgt s * 2 ^ 16 else 0
  | .upd | .hif | .mbx | .cell _ | .tcf | .csi _ | .dmc _ | .mpt | .spout | .strn | .ptp | .hrx | .earc | .aport
  | .comp => 0

/-- A read without a side effect (R13, R16). -/
def showPage (p : Page) (o : Nat) (s : State) : W32 :=
  BitVec.ofNat 32 (headerRead p o s + plainRead p o s + shownRead p o s)

/-- GPIO_IN: a ball that the device drives shows GPIO_OUT, the level of any other is measured outside the model (R404, log
entry 7). -/
def readGpio (s : State) : W32 × State :=
  let dir := s.get SYS.GPIO_DIR_OE
  (BitVec.ofNat 32 (((List.range 16).filter fun n =>
    natBit (if natBit dir n then s.get SYS.GPIO_OUT_VAL else s.fresh.1) n).map (2 ^ ·)).sum, s.fresh.2)

/-- A read at an offset of a page that is reached and not in reset, with its side effect (R14). -/
def readPage (p : Page) (o : Nat) (s : State) : W32 × State :=
  match p with
  | .sys => if o = 0x78 then readGpio s else (showPage p o s, s)
  | .tim =>
    if o = 0xB0 then readMtimel s
    else (showPage p o s, s)
  | .prs => if o = 0x50 then readTcnt s else (showPage p o s, s)
  | .csi n => if o = 0x60 then readFstampl n s else (showPage p o s, s)
  | .ptp => if o = 0x60 then readTimel s else (showPage p o s, s)
  | .bfifo n => if o = 0x4C then readRdata n s else (showPage p o s, s)
  | .caddy =>
    if o = 0x90 then (BitVec.ofNat 32 (effShown s * 2 ^ 16 + granted s), s) else (showPage p o s, s)
  | .clk | .reg | .intc | .store | .upd | .hif | .mbx | .cell _ | .csch | .tcf | .isp | .visr | .dmc _ | .dqos
  | .mpt | .spout | .strn | .hrx | .htx | .earc | .aport | .comp => (showPage p o s, s)

/-- A read of a page in local or CELL reset (R60). -/
def readHeld (p : Page) (o : Nat) (s : State) : W32 × State :=
  if o = 0x0 ∨ o = 0x4 then (BitVec.ofNat 32 (headerRead p o s), s)
  else if o = 0x8 then (2, s)
  else if o = 0xC then (BitVec.ofNat 32 (plainRead p o s ||| 2 ^ 8), s)
  else (BitVec.ofNat 32 s.fresh.1, s.fresh.2)

/-- A 32-bit read of BAR0 (R12, R35, R60, R92, R284); a window read finds no upset of its own (log entry 21). -/
def busRead (a : Nat) (s : State) : W32 × State :=
  match target a with
  | .page p o => if reached p s && s.held p then readHeld p o s else readOnPage p (readPage p o) s
  | .window n o => readWindow n (dwordOf o) 0 s
  | .nothing => (0, recErr .sys 0x0100 s)

/-! ### Commands of BAR0 -/

/-- A write with fewer than four byte enables is discarded, and its page records it; one with all four is an ordinary
write (R59, Table SYS-6). DESIGN CHOICE, log entry 21: such a write to a page in reset records only 0x0004 (R60), to an
undecoded address only 0x0100 (R35), and to a page that BAR0 does not reach only 0x0104 (R92). -/
def partialWriteEff (a : Nat) (be : BitVec 4) (d : W32) (s : State) : State :=
  if be = 15 then busWrite a d s
  else match target a with
    | .page p _ => onPage p (recErr p 0x0001) s
    | .window n _ => if bootCode s ≠ 0x10 then recErr .sys 0x0104 s else recErr (.cell n) 0x0001 s
    | .nothing => recErr .sys 0x0100 s

/-- REGISTER_WRITE over the link (R43, R177). -/
def execRegisterWrite (addr : BitVec 24) (d : W32) (s : State) : Out :=
  linkBus (chipWrite addr.toNat d) (.registerWrite addr d) (busWrite addr.toNat d) s

/-- An access outside every page: a read returns 0 (R35). -/
def undecodedAccessEff (a : Nat) (write : Bool) (s : State) : State :=
  if target a = .nothing then
    if write then recErr .sys 0x0100 s else answer (0, recErr .sys 0x0100 s)
  else s

/-- UNDECODED_ACCESS (R35); an address that a page or a window decodes is none (log entry 2). -/
def execUndecodedAccess (addr : BitVec 24) (write : Bool) (s : State) : Out :=
  onCore (onLink (.undecodedAccess addr write) (undecodedAccessEff addr.toNat write)) s

/-- A request longer than two doublewords: Completer Abort, or discarded (R59). The abort is an uncorrectable error of
Advanced Error Reporting, in the bit that the PCI Express Base Specification gives it (R175, log entry 5). -/
def longRequestEff (write : Bool) (s : State) : State :=
  let t := recErr .sys 0x0101 s
  if write then t
  else { t with
    out := { t.out with rdata := none, abort := true }
    hif := { t.hif with cfg := { t.hif.cfg with aerUnc := t.hif.cfg.aerUnc ||| 0x8000 } } }

/-- LONG_BAR0_REQUEST (R59). -/
def execLongBar0Request (addr : BitVec 24) (write : Bool) (s : State) : Out :=
  onCore (onLink (.longBar0Request addr write) (longRequestEff write)) s

/-- PARTIAL_WRITE (R59). -/
def execPartialWrite (addr : BitVec 24) (be : BitVec 4) (d : W32) (s : State) : Out :=
  linkBus (be == 15 && chipWrite addr.toNat d) (.partialWrite addr be d) (partialWriteEff addr.toNat be d) s

/-! ### BAR2 -/

/-- The bytes that a request covers. -/
def bar2Size (op : Bar2Op) : Nat := match op with | .read n => n | .write bs => bs.length

/-- B2BASE.SEL as a request that waits leaves it. -/
def selAfter (sel : Nat) (r : LinkReq) : Nat :=
  match r with
  | .bar0 (.registerWrite a d) => if target a.toNat = .page .hif 0x44 then HIF.B2BASE_SEL.ofData d else sel
  | .bar0 (.partialWrite a be d) => if be = 15 ∧ target a.toNat = .page .hif 0x44 then HIF.B2BASE_SEL.ofData d else sel
  | .bar0 _ | .bar2 _ _ => sel

/-- The DRAM address of an offset of BAR2: the last B2BASE write of the link that has come before applies, also one that
still waits for a write to DRAM (R177, R178, log entry 3). -/
def bar2Addr (s : State) (off : Nat) : Nat := s.hif.waits.foldl selAfter (s.get HIF.B2BASE_SEL) * 2 ^ 30 + off

/-- A request touches the HRX frame-buffer ring while HRX.CTL.EN is 1 (R310). -/
def inFrameRing (s : State) (a n : Nat) : Bool :=
  let lo := s.get64 HRX.FBADDRL_A HRX.FBADDRH_A
  s.bit HRX.CTL_EN && decide (max lo a < min (lo + 3 * s.get HRX.FBSTRIDE_N) (a + n))

/-- A request touches a channel in self-refresh (R178). -/
def inSelfRefresh (s : State) (a n : Nat) : Bool := (List.range n).any fun i => dmcState s (channelOf (a + i)) == 3

/-- Why a request is refused (R178, R310, Table HIF-4): the codes of all its reasons, lowest first (R40). -/
def bar2Refusal (s : State) (a n : Nat) : List Nat :=
  ([(decide (bootCode s ≠ 0x10 ∨ dramSize s < a + n), 0x0100), (inSelfRefresh s a n, 0x0101),
    (inFrameRing s a n, 0x0104)].filter (·.1)).map (·.2)

/-- The enabled bytes of a write (R178). -/
def bar2Store : Nat → List (Byte × Bool) → State → State
  | _, [], s => s
  | a, (b, en) :: t, s => bar2Store (a + 1) t (if en then s.dramWrite a [b] else s)

/-- The host has written DRAM: a ring whose decode context, of 128 bytes, it wrote into has no concealment source any
more (R261). -/
def contextWritten (a n : Nat) (s : State) : State :=
  repeatFor 8 (fun r t =>
    let g := t.ring r
    if a < g.ctx + 128 ∧ g.ctx < a + n then t.setRing r { g with concealSrc := none } else t) s

/-- A request is carried out at a DRAM address (R178). -/
def bar2Perform (a : Nat) (op : Bar2Op) (s : State) : State :=
  match op with
  | .read n => { s with out := { s.out with bar2 := s.dramRead a n } }
  | .write bs => contextWritten a bs.length (bar2Store a bs s)

/-- A request to a training or stalled channel waits, and to one whose granted start has not come (Table DMC-5, R123). -/
def bar2Stalled (s : State) (a n : Nat) : Bool := (List.range n).any fun i =>
  dmcState s (channelOf (a + i)) != 1 || dmcEarly s (channelOf (a + i))

/-- A request that still waits: of BAR2, to a training or stalled channel (Table DMC-5). -/
def linkStalled (s : State) (r : LinkReq) : Bool :=
  match r with
  | .bar2 a op => bar2Stalled s a (bar2Size op)
  | .bar0 _ => false

def bar2AccessEff (off : Nat) (op : Bar2Op) (s : State) : State :=
  let a := bar2Addr s off
  match bar2Refusal s a (bar2Size op), op with
  | [], op =>
    if s.hif.waits.isEmpty && !bar2Stalled s a (bar2Size op) then bar2Perform a op s
    else linkWait (.bar2 a op) s
  | cs, .read n =>
    let t := recErrs .hif cs s
    { t with out := { t.out with bar2 := List.replicate n 0 } }
  | cs, .write _ => recErrs .hif cs s

/-- BAR2_ACCESS (R178, R310). -/
def execBar2Access (off : BitVec 30) (op : Bar2Op) (s : State) : Out := onCore (bar2AccessEff off.toNat op) s

/-! ### The management SPI slave -/

/-- What the slave sends after the frame's header (Table HIF-2). -/
def spiSend (bs : List Byte) (s : State) : State := { s with out := { s.out with spi := bs } }

/-- The frame's command and address allow an access (R180). -/
def spiOk (cmd : Byte) (a : Nat) : Bool := (cmd == 0x0B || cmd == 0x02) && a % 4 == 0

/-- A read frame whose address is complete (R180): an access happens even where the frame is cut after it. -/
def spiReadEff (a : Nat) (cut : Bool) (s : State) : State :=
  let (w, t) := busRead a s
  spiSend (if cut then [] else 1 :: beBytes 4 w.toNat) t

/-- A write frame (R180). -/
def spiWriteEff (a : Nat) (d : W32) (cut : Bool) (s : State) : State :=
  if cut then spiSend [] (recErr .hif 0x0103 s) else spiSend [1] (busWrite a d s)

/-- A frame with an unknown command or a misaligned address: status 0x02 (R180). -/
def spiBad (after : List Byte) (cut : Bool) (s : State) : State :=
  spiSend (if cut then [] else 2 :: after) (recErr .hif 0x0102 s)

def spiReadFrameEff (cmd : Byte) (a : Nat) (cut : Bool) (s : State) : State :=
  if !spiOk cmd a then spiBad [0, 0, 0, 0] cut s
  else if cmd = 0x0B then spiReadEff a cut s
  else spiWriteEff a 0 true s

/-- SPI_READ_FRAME: command byte, address, and whether the frame ended after its address. With the write command it is
a write frame without its data (R179, R180). -/
def execSpiReadFrame (cmd : Byte) (addr : BitVec 24) (cut : Bool) (s : State) : Out :=
  onCore (spiReadFrameEff cmd addr.toNat cut) s

def spiWriteFrameEff (cmd : Byte) (a : Nat) (d : W32) (cut : Bool) (s : State) : State :=
  if !spiOk cmd a then spiBad [] cut s
  else if cmd = 0x02 then spiWriteEff a d cut s
  else spiReadEff a cut s

/-- SPI_WRITE_FRAME: `cut` when the frame ends before its last data bit. With the read command the four bytes after the
address are ignored and a read is performed (R179, R180). -/
def execSpiWriteFrame (cmd : Byte) (addr : BitVec 24) (d : W32) (cut : Bool) (s : State) : Out :=
  onBus (cmd == 0x02 && !cut && chipWrite addr.toNat d) (spiWriteFrameEff cmd addr.toNat d cut) s

end Sys2Proof.Machine
end

