-- ==== Sys2Proof/Machine/Dispatch.lean ====
section
/-! DEFINITION. One arm per command: each calls its meaning. -/

namespace Sys2Proof.Machine

def exec (i : Instr) (s : State) : Host.Outcome State Fault Refusal :=
  match i with
  -- register pages and interrupts (R34 to R65)
  | .registerWrite addr data => Sys2Proof.Machine.execRegisterWrite addr data s
  | .undecodedAccess addr write => Sys2Proof.Machine.execUndecodedAccess addr write s
  | .longBar0Request addr write => Sys2Proof.Machine.execLongBar0Request addr write s
  | .partialWrite addr be data => Sys2Proof.Machine.execPartialWrite addr be data s
  | .efirstClear p data => Sys2Proof.Machine.execEfirstClear p data s
  | .shadowCommit p data => Sys2Proof.Machine.execShadowCommit p data s
  | .groupRelease data => Sys2Proof.Machine.execGroupRelease data s
  | .intcSourceAssert src => Sys2Proof.Machine.execIntcSourceAssert src s
  | .setpend k data => Sys2Proof.Machine.execSetpend k data s
  | .clrpend k data => Sys2Proof.Machine.execClrpend k data s
  | .intcDeliver tgt => Sys2Proof.Machine.execIntcDeliver tgt s
  | .eoi data => Sys2Proof.Machine.execEoi data s
  -- resets, clocks and boot (R66 to R93, R386 to R392)
  | .rstcmdService key expiry => Sys2Proof.Machine.execRstcmdService key expiry s
  | .rstcmdChip key expiry => Sys2Proof.Machine.execRstcmdChip key expiry s
  | .vddAonLow => Sys2Proof.Machine.execVddAonLow s
  | .poresetRelease => Sys2Proof.Machine.execPoresetRelease s
  | .xoLoss => Sys2Proof.Machine.execXoLoss s
  | .pllLockLoss => Sys2Proof.Machine.execPllLockLoss s
  | .resetNLow => Sys2Proof.Machine.execResetNLow s
  | .resetNRise => Sys2Proof.Machine.execResetNRise s
  | .chipHoldEnd => Sys2Proof.Machine.execChipHoldEnd s
  | .serviceHoldEnd => Sys2Proof.Machine.execServiceHoldEnd s
  | .cellReset n => Sys2Proof.Machine.execCellReset n s
  | .cellReloadDone n readbackOk => Sys2Proof.Machine.execCellReloadDone n readbackOk s
  | .localReset p => Sys2Proof.Machine.execLocalReset p s
  | .localResetDone p => Sys2Proof.Machine.execLocalResetDone p s
  | .kaCtlWrite p data => Sys2Proof.Machine.execKaCtlWrite p data s
  | .wdogKick data => Sys2Proof.Machine.execWdogKick data s
  | .wdogCtlWrite data => Sys2Proof.Machine.execWdogCtlWrite data s
  | .wdogExpiry => Sys2Proof.Machine.execWdogExpiry s
  | .clkDivWrite data => Sys2Proof.Machine.execClkDivWrite data s
  | .divdone => Sys2Proof.Machine.execDivdone s
  | .xoOk mv => Sys2Proof.Machine.execXoOk mv s
  | .xolow mv => Sys2Proof.Machine.execXolow mv s
  | .pllLock vrail => Sys2Proof.Machine.execPllLock vrail s
  | .coreRelease => Sys2Proof.Machine.execCoreRelease s
  | .bootRecordSelect env => Sys2Proof.Machine.execBootRecordSelect env s
  | .bootVerifyDone env factoryOk => Sys2Proof.Machine.execBootVerifyDone env factoryOk s
  | .journalScan env => Sys2Proof.Machine.execJournalScan env s
  | .dramTrainingDone rate dens tmg0 tmg1 chans => Sys2Proof.Machine.execDramTrainingDone rate dens tmg0 tmg1 chans s
  | .microcodeLoadDone bad => Sys2Proof.Machine.execMicrocodeLoadDone bad s
  | .linkUp width speed host l1 => Sys2Proof.Machine.execLinkUp width speed host l1 s
  | .linkDown => Sys2Proof.Machine.execLinkDown s
  | .perstNLow => Sys2Proof.Machine.execPerstNLow s
  | .railLoss r => Sys2Proof.Machine.execRailLoss r s
  -- core supply controller (R94 to R117, R411)
  | .onPulseStart e vdie sw => Sys2Proof.Machine.execOnPulseStart e vdie sw s
  | .pulseEnd ph e sw => Sys2Proof.Machine.execPulseEnd ph e sw s
  | .regSample vout iph vin => Sys2Proof.Machine.execRegSample vout iph vin s
  | .ffNotice => Sys2Proof.Machine.execFfNotice s
  | .ffRampStart => Sys2Proof.Machine.execFfRampStart s
  | .ffHoldEnd => Sys2Proof.Machine.execFfHoldEnd s
  | .phaseShed => Sys2Proof.Machine.execPhaseShed s
  | .phctlWrite data => Sys2Proof.Machine.execPhctlWrite data s
  | .tonWrite e data => Sys2Proof.Machine.execTonWrite e data s
  | .olWrite e data => Sys2Proof.Machine.execOlWrite e data s
  | .modeOpenSet data => Sys2Proof.Machine.execModeOpenSet data s
  | .modeOpenClear data => Sys2Proof.Machine.execModeOpenClear data s
  | .openLoopPulse e sw => Sys2Proof.Machine.execOpenLoopPulse e sw s
  | .regTrip c => Sys2Proof.Machine.execRegTrip c s
  | .underVoltage => Sys2Proof.Machine.execUnderVoltage s
  | .tripRetry vrail => Sys2Proof.Machine.execTripRetry vrail s
  | .tripcntClear => Sys2Proof.Machine.execTripcntClear s
  | .powerGood => Sys2Proof.Machine.execPowerGood s
  -- Caddy (R118 to R134, R412)
  | .consumerEnable c => Sys2Proof.Machine.execConsumerEnable c s
  | .consumerDisable c => Sys2Proof.Machine.execConsumerDisable c s
  | .caddyGrant => Sys2Proof.Machine.execCaddyGrant s
  | .caddyReturn c => Sys2Proof.Machine.execCaddyReturn c s
  | .requestAged c => Sys2Proof.Machine.execRequestAged c s
  | .brakeEngage => Sys2Proof.Machine.execBrakeEngage s
  | .brake2 => Sys2Proof.Machine.execBrake2 s
  | .brakeStepBack => Sys2Proof.Machine.execBrakeStepBack s
  | .tempUpdate tj => Sys2Proof.Machine.execTempUpdate tj s
  -- TIM (R135 to R157)
  | .monitorUpdate meas => Sys2Proof.Machine.execMonitorUpdate meas s
  | .ppsPulse off => Sys2Proof.Machine.execPpsPulse off s
  | .lossOfSignal r => Sys2Proof.Machine.execLossOfSignal r s
  | .refcfgWrite r data => Sys2Proof.Machine.execRefcfgWrite r data s
  | .refRateChange r => Sys2Proof.Machine.execRefRateChange r s
  | .dpllUpdate => Sys2Proof.Machine.execDpllUpdate s
  | .domainLocked d => Sys2Proof.Machine.execDomainLocked d s
  | .outenWrite data => Sys2Proof.Machine.execOutenWrite data s
  | .audWrite data => Sys2Proof.Machine.execAudWrite data s
  | .realignAud => Sys2Proof.Machine.execRealignAud s
  | .realignVid => Sys2Proof.Machine.execRealignVid s
  | .realignApply d => Sys2Proof.Machine.execRealignApply d s
  | .mtimelRead => Sys2Proof.Machine.execMtimelRead s
  -- PRS (R158 to R174, R413)
  | .framePulse src falling stamp => Sys2Proof.Machine.execFramePulse src falling stamp s
  | .tooth => Sys2Proof.Machine.execTooth s
  | .toothMissed => Sys2Proof.Machine.execToothMissed s
  | .prsCfgWrite data => Sys2Proof.Machine.execPrsCfgWrite data s
  | .prsEnable => Sys2Proof.Machine.execPrsEnable s
  | .prsDisable => Sys2Proof.Machine.execPrsDisable s
  | .eventArm slot => Sys2Proof.Machine.execEventArm slot s
  | .eventCancel slot => Sys2Proof.Machine.execEventCancel slot s
  | .eventFire slot => Sys2Proof.Machine.execEventFire slot s
  | .tcntRead => Sys2Proof.Machine.execTcntRead s
  | .actionSwap k => Sys2Proof.Machine.execActionSwap k s
  | .actionStart r => Sys2Proof.Machine.execActionStart r s
  | .actionKeyRequest r => Sys2Proof.Machine.execActionKeyRequest r s
  | .actionMute k => Sys2Proof.Machine.execActionMute k s
  | .actionUnmute k => Sys2Proof.Machine.execActionUnmute k s
  | .actionGpio n arg => Sys2Proof.Machine.execActionGpio n arg s
  -- host link, BFIFOs, mailbox (R175 to R191)
  | .bar2Access off op => Sys2Proof.Machine.execBar2Access off op s
  | .spiReadFrame cmd addr cut => Sys2Proof.Machine.execSpiReadFrame cmd addr cut s
  | .spiWriteFrame cmd addr data cut => Sys2Proof.Machine.execSpiWriteFrame cmd addr data cut s
  | .bfifoData n w => Sys2Proof.Machine.execBfifoData n w s
  | .bfifoDataEnd n w => Sys2Proof.Machine.execBfifoDataEnd n w s
  | .bfifoPop n => Sys2Proof.Machine.execBfifoPop n s
  | .bfifoEnable n => Sys2Proof.Machine.execBfifoEnable n s
  | .bfifoCfgWrite n data => Sys2Proof.Machine.execBfifoCfgWrite n data s
  | .bfifoAgentTake n => Sys2Proof.Machine.execBfifoAgentTake n s
  | .bfifoAgentPut n => Sys2Proof.Machine.execBfifoAgentPut n s
  | .mbxRing => Sys2Proof.Machine.execMbxRing s
  | .mbxBusy => Sys2Proof.Machine.execMbxBusy s
  | .mbxDone => Sys2Proof.Machine.execMbxDone s
  | .mbxAck => Sys2Proof.Machine.execMbxAck s
  | .version => Sys2Proof.Machine.execVersion s
  | .echo => Sys2Proof.Machine.execEcho s
  | .setRead env => Sys2Proof.Machine.execSetRead env s
  | .setWrite env => Sys2Proof.Machine.execSetWrite env s
  | .setDelete env => Sys2Proof.Machine.execSetDelete env s
  | .setReset env => Sys2Proof.Machine.execSetReset env s
  -- external DRAM (R192 to R213)
  | .trainGo n data => Sys2Proof.Machine.execTrainGo n data s
  | .retrainStart n => Sys2Proof.Machine.execRetrainStart n s
  | .retrainEnd n lanes => Sys2Proof.Machine.execRetrainEnd n lanes s
  | .mr4Poll n report => Sys2Proof.Machine.execMr4Poll n report s
  | .perBankRefresh n postpone => Sys2Proof.Machine.execPerBankRefresh n postpone s
  | .srRequest n => Sys2Proof.Machine.execSrRequest n s
  | .srEntry n => Sys2Proof.Machine.execSrEntry n s
  | .srExitRequest n => Sys2Proof.Machine.execSrExitRequest n s
  | .tmgWrite n second data => Sys2Proof.Machine.execTmgWrite n second data s
  | .mrrd n data value => Sys2Proof.Machine.execMrrd n data value s
  | .dqosSlot ch arrivals => Sys2Proof.Machine.execDqosSlot ch arrivals s
  | .saturation ch => Sys2Proof.Machine.execSaturation ch s
  -- coding cells and the job scheduler (R214 to R273)
  | .sqtailWrite r data => Sys2Proof.Machine.execSqtailWrite r data s
  | .descriptorFetch r info => Sys2Proof.Machine.execDescriptorFetch r info s
  | .cqtailWrite r data => Sys2Proof.Machine.execCqtailWrite r data s
  | .completionRecord r => Sys2Proof.Machine.execCompletionRecord r s
  | .ringEnable r data => Sys2Proof.Machine.execRingEnable r data s
  | .ringDisable r data => Sys2Proof.Machine.execRingDisable r data s
  | .stripDispatch codeRows parsed => Sys2Proof.Machine.execStripDispatch codeRows parsed s
  | .stripStart n => Sys2Proof.Machine.execStripStart n s
  | .stripEnd n run res => Sys2Proof.Machine.execStripEnd n run res s
  | .layerBfifoCopy r => Sys2Proof.Machine.execLayerBfifoCopy r s
  | .keyreqWrite r data => Sys2Proof.Machine.execKeyreqWrite r data s
  | .bitstreamStage r info => Sys2Proof.Machine.execBitstreamStage r info s
  | .cellFault n run datapath => Sys2Proof.Machine.execCellFault n run datapath s
  | .stripWatchdog n => Sys2Proof.Machine.execStripWatchdog n s
  -- control store (R274 to R288)
  | .scrub n upset => Sys2Proof.Machine.execScrub n upset s
  | .csWriteback n stuck => Sys2Proof.Machine.execCsWriteback n stuck s
  | .windowRead n off upset => Sys2Proof.Machine.execWindowRead n off upset s
  -- cameras and the image pipeline (R289 to R306)
  | .csiEnable n => Sys2Proof.Machine.execCsiEnable n s
  | .csiFrameStart n head => Sys2Proof.Machine.execCsiFrameStart n head s
  | .csiLongPacket n head dt kind pixels => Sys2Proof.Machine.execCsiLongPacket n head dt kind pixels s
  | .csiFrameEnd n head => Sys2Proof.Machine.execCsiFrameEnd n head s
  | .csiLoss n => Sys2Proof.Machine.execCsiLoss n s
  | .fstamplRead n => Sys2Proof.Machine.execFstamplRead n s
  | .ispFrameBoundary src => Sys2Proof.Machine.execIspFrameBoundary src s
  | .passEnd => Sys2Proof.Machine.execPassEnd s
  | .outputPublish o firstRow => Sys2Proof.Machine.execOutputPublish o firstRow s
  | .outputAbandon o => Sys2Proof.Machine.execOutputAbandon o s
  | .rqtailWrite data => Sys2Proof.Machine.execRqtailWrite data s
  | .boxIntake => Sys2Proof.Machine.execBoxIntake s
  | .boxExpire => Sys2Proof.Machine.execBoxExpire s
  -- HDMI, eARC, audio ports (R307 to R333)
  | .hrxLock rate => Sys2Proof.Machine.execHrxLock rate s
  | .hrxLoss => Sys2Proof.Machine.execHrxLoss s
  | .hrxFrame f => Sys2Proof.Machine.execHrxFrame f s
  | .hpdPulse => Sys2Proof.Machine.execHpdPulse s
  | .hpdRestore => Sys2Proof.Machine.execHpdRestore s
  | .hdcpAuth side ver devcnt type1ok => Sys2Proof.Machine.execHdcpAuth side ver devcnt type1ok s
  | .tvHpdChange high => Sys2Proof.Machine.execTvHpdChange high s
  | .htxLinkUp tvMax trained => Sys2Proof.Machine.execHtxLinkUp tvMax trained s
  | .outputFrameEdge => Sys2Proof.Machine.execOutputFrameEdge s
  | .avmuteClear => Sys2Proof.Machine.execAvmuteClear s
  | .compUnderflow => Sys2Proof.Machine.execCompUnderflow s
  | .swapWrite data => Sys2Proof.Machine.execSwapWrite data s
  | .earcLink => Sys2Proof.Machine.execEarcLink s
  | .earcStream => Sys2Proof.Machine.execEarcStream s
  | .heartbeatLost => Sys2Proof.Machine.execHeartbeatLost s
  | .capctlUpd => Sys2Proof.Machine.execCapctlUpd s
  | .earcChannelStatus cs fmt => Sys2Proof.Machine.execEarcChannelStatus cs fmt s
  | .mute k => Sys2Proof.Machine.execMute k s
  | .unmute k => Sys2Proof.Machine.execUnmute k s
  | .sourceChange earc status => Sys2Proof.Machine.execSourceChange earc status s
  | .sourceResume earc => Sys2Proof.Machine.execSourceResume earc s
  -- media port (R334 to R360)
  | .mptLinkUp speed => Sys2Proof.Machine.execMptLinkUp speed s
  | .mptLinkDown => Sys2Proof.Machine.execMptLinkDown s
  | .rxFrame bytes codeError => Sys2Proof.Machine.execRxFrame bytes codeError s
  | .ptpSample => Sys2Proof.Machine.execPtpSample s
  | .ptpStep offset => Sys2Proof.Machine.execPtpStep offset s
  | .timelRead => Sys2Proof.Machine.execTimelRead s
  | .streamEnable n => Sys2Proof.Machine.execStreamEnable n s
  | .streamDisable n => Sys2Proof.Machine.execStreamDisable n s
  | .layerPacketize n => Sys2Proof.Machine.execLayerPacketize n s
  | .aafPacket n => Sys2Proof.Machine.execAafPacket n s
  | .txtailWrite data => Sys2Proof.Machine.execTxtailWrite data s
  | .txDescriptor => Sys2Proof.Machine.execTxDescriptor s
  | .frameTransmit => Sys2Proof.Machine.execFrameTransmit s
  | .spoutEnable => Sys2Proof.Machine.execSpoutEnable s
  | .gclBoundary => Sys2Proof.Machine.execGclBoundary s
  | .gclEntry => Sys2Proof.Machine.execGclEntry s
  | .swapGo => Sys2Proof.Machine.execSwapGo s
  | .shaperWrite c burst data => Sys2Proof.Machine.execShaperWrite c burst data s
  -- store, settings, updates (R361 to R381)
  | .updStart env => Sys2Proof.Machine.execUpdStart env s
  | .updChunk env => Sys2Proof.Machine.execUpdChunk env s
  | .updVerify => Sys2Proof.Machine.execUpdVerify s
  | .verifyEnd env => Sys2Proof.Machine.execVerifyEnd env s
  | .updArm env => Sys2Proof.Machine.execUpdArm env s
  | .updConfirm env => Sys2Proof.Machine.execUpdConfirm env s
  | .updRevert env => Sys2Proof.Machine.execUpdRevert env s
  | .updAbort env => Sys2Proof.Machine.execUpdAbort env s
  | .journalCompaction env => Sys2Proof.Machine.execJournalCompaction env s
  -- rows added at the end of the table
  | .portFsEdge k samples => Sys2Proof.Machine.execPortFsEdge k samples s
  | .setPointRampEnd => Sys2Proof.Machine.execSetPointRampEnd s
  | .hdcpAuthLost side => Sys2Proof.Machine.execHdcpAuthLost side s
  | .perstNRise => Sys2Proof.Machine.execPerstNRise s
  | .gptpMessageInterval => Sys2Proof.Machine.execGptpMessageInterval s
  | .ddcReadEnd data => Sys2Proof.Machine.execDdcReadEnd data s

end Sys2Proof.Machine
end

