-- ==== Sys2Proof/Machine/Tick.lean ====
section
/-! DEFINITION. What a tick of the media clock brings about by itself, with no command waiting (log entry 1). -/

namespace Sys2Proof.Machine

/-- Boot goes on by itself with the tick after a step has ended: from the core release to the selection of the boot
record, from a failed check of the factory data to its final code, and from the journal scan to the DRAM training (R90,
R91, log entry 23). -/
def bootTick (s : State) : State :=
  if bootCode s = 0x01 then setBoot 0x02 0 s
  else if bootCode s = 0x04 ∧ s.sys.factoryBad then setBoot 0xE4 0 s
  else if bootCode s = 0x05 then setBoot 0x06 0 s else s

/-- The media clock counts. -/
def clockTick (s : State) : State := { s with mtime := (s.mtime + 1) % 2 ^ 64 }

/-- The oldest request of the link is carried out, in its turn; an access that stops goes on waiting (R177, log entry 3). -/
def linkPerform (r : LinkReq) (rest : List LinkReq) (s : State) : State :=
  match r with
  | .bar2 a op => bar2Perform a op { s with hif := { s.hif with waits := rest } }
  | .bar0 c =>
    match exec c { s with hif := { s.hif with waits := rest, turn := true } } with
    | .next t => { t with hif := { t.hif with turn := false } }
    | .fault _ | .refused _ => s

/-- The link in a tick: the oldest request that waits is carried out where its channels run (Table DMC-5). That a tick
carries out one, so that each completion shows, is DESIGN CHOICE, log entry 3. -/
def linkTick (s : State) : State :=
  match s.hif.waits with
  | [] => s
  | r :: rest => if linkStalled s r then s else linkPerform r rest s

/-- One tick of MTIME (R27): the media clock, the gPTP count, REG's ramps and TIM's outputs advance,
stalls end and AVMUTE clears, while the main PLL's root runs (log entry 1). -/
def tick (s : State) : State :=
  if s.sys.pll then
    let s := realignApplyEff .video (realignApplyEff .audio s)
    let t := grantStarts (regTick (clockTick s))
    timTick (if s.sys.coreUp then finishWork (avmuteClearEff (linkTick (dmcTick (bootTick (ptpTick t))))) else t)
  else s

end Sys2Proof.Machine
end

