-- ==== Sys2Proof/Machine/Balls.lean ====
section
/-! DEFINITION. The balls as the state of the block drives them (18_balls_and_electrical.md, Tables SYS-25 and APORT-2):
readings of State that no command needs. -/

namespace Sys2Proof.Machine

/-- The signal balls, by group (Table SYS-25). -/
inductive Ball where
  | pcie
  | csi (port : Fin 3)
  | mpt
  | hrxLanes
  | hrxDdc
  | hrxHpd
  | htxLanes
  | htxDdc
  | htxHpd
  | heac
  | lpddrControl
  | lpddrData
  | crystal
  | gateHigh (ph : Fin 4)
  | gateLow (ph : Fin 4)
  | auxPwm (n : Fin 2)
  | clockOut (n : Fin 7)
  | portClock (n : Fin 4)
  | portData (n : Fin 4)
  | spiMiso
  | irqN (n : Fin 2)
  | gpio (n : Fin 16)
  | spiIn (n : Fin 3)
  | perstN
  | testEn
  | resetN
  | wckIn
  | auxIn
  | genlockIn
  | sense (n : Fin 9)
  deriving DecidableEq, Repr

/-- What a ball does: high-impedance or undriven, an input with or without its pull-down, a level, electrical idle, or the
signals of its block's function. -/
inductive Drive where
  | undriven
  | input (pull : Bool)
  | level (high : Bool)
  | idle
  | active
  deriving DecidableEq, Repr

/-- The reset column of Table SYS-25 applies: RESET_N low, PORESET held, or the hold of a CHIP reset (R392). -/
def ballsReset (s : State) : Bool := s.sys.por || !s.sys.resetN || s.sys.chipHold

/-- The rails that supply a ball (Tables SYS-20 and SYS-21). -/
def ballRails : Ball → List Rail
  | .pcie | .csi _ => [.vddaSer, .vdda1v8]
  | .mpt | .htxLanes => [.vddaSer]
  | .hrxLanes => [.vddHdmi33, .vddaSer]
  | .hrxDdc | .hrxHpd | .htxDdc | .htxHpd | .heac => [.vddHdmi33]
  | .lpddrControl | .lpddrData => [.vddqDdr]
  | .crystal | .sense _ => [.vdda1v8]
  | .gateHigh _ | .gateLow _ | .auxPwm _ | .clockOut _ | .portClock _ | .portData _ | .resetN | .wckIn | .auxIn
  | .genlockIn => [.vddioAon18]
  | .spiMiso | .irqN _ | .gpio _ | .spiIn _ | .perstN | .testEn => [.vddio18]

/-- A ball of a core-domain block: as in reset from the reset to the core release and until the block is enabled. -/
def whenUp (s : State) (up : Bool) (rest : Drive) : Drive := if s.sys.coreUp && up then .active else rest

/-- REG switches: while the root runs, in regulation, in open loop, and in a soft-start whose target has reached the rail
(R90, R112, R116). -/
def regSwitches (s : State) : Bool :=
  let st := s.get REG.STS_STATE
  s.sys.pll && (st == 2 || st == 3 || (st == 1 && s.reg.bias.isNone))

/-- A phase has ended a pulse and its TOFF_MIN still runs (R105, Table REG-7). -/
def offRuns (s : State) (ph : Nat) : Bool :=
  match SMap.find s.reg.offs ph with
  | some o => decide (edgeAt 0 s < o + s.get REG.TLIM_TOFF_MIN)
  | none => false

/-- GHn and GLn: low in reset and while REG does not switch; GHn high in a pulse; GLn high outside it on an active phase,
and on one that is shed until the TOFF_MIN after its last pulse is over (R94, R105, R116). That GLn is high on an active
phase that has had no pulse yet, as on one just added, is DESIGN CHOICE, log entry 36. The dead times are left out. -/
def gateLevel (s : State) (ph : Nat) (high : Bool) : Bool :=
  !ballsReset s && regSwitches s &&
    (if pulsing s ph then high else !high && (decide (ph < s.get REG.STS_NPH) || offRuns s ph))

/-- The LPDDR5 balls are driven: from CODE 0x06 on, and at 0xE3, which follows it (R91, Table SYS-25). -/
def dramDriven (s : State) : Bool := decide (6 ≤ bootCode s ∧ bootCode s ≤ 0x10) || bootCode s == 0xE3

/-- A ball whose supplies are up (R22 to R25, R110, R331, R392, R404, R406). A DDC line is open drain: high-impedance but
while its block works it. -/
def drive (s : State) : Ball → Drive
  | .pcie => whenUp s true .idle
  | .csi p => whenUp s (s.bit (CSI.CTL_EN p.val)) .undriven
  | .mpt => whenUp s (decide (2 ≤ mptState s)) .idle
  | .hrxLanes => whenUp s s.hrx.lanes .undriven
  | .hrxDdc => whenUp s (s.bit HRX.CTL_EN) .undriven
  | .hrxHpd => .level (s.sys.coreUp && hrxHpd s)
  | .htxLanes => whenUp s (htxState s == 4) .idle
  | .htxDdc => whenUp s (s.bit HTX.CTL_EN) .undriven
  | .heac => if ballsReset s then .undriven else if s.bit EARC.CTL_EN then .active else .undriven
  | .lpddrControl => whenUp s (dramDriven s) (.level false)
  | .lpddrData => whenUp s (dramDriven s) .undriven
  | .crystal => if railUp s .vddAon then .active else .undriven
  | .gateHigh ph => .level (gateLevel s ph.val true)
  | .gateLow ph => .level (gateLevel s ph.val false)
  | .auxPwm n => .level (auxLevel s n.val)
  | .clockOut n => .level (!ballsReset s && outHigh s n.val)
  | .portClock n => if !ballsReset s && portOn s n.val then .active else .level false
  | .portData n =>
    if s.get (APORT.PCFG_DIR n.val) = 1 then .input false
    else if !ballsReset s && portOn s n.val then .active else .level false
  | .spiMiso => .undriven
  | .irqN n => if irqBall s n.val then .level false else .undriven
  | .gpio n =>
    if natBit (s.get SYS.GPIO_DIR_OE) n.val then .level (natBit (s.get SYS.GPIO_OUT_VAL) n.val)
    else .input (natBit (s.get SYS.GPIO_PULL_PD) n.val)
  | .perstN | .testEn | .resetN => .input true
  | .htxHpd | .spiIn _ | .wckIn | .auxIn | .genlockIn | .sense _ => .input false

/-- A ball: undriven, which is high-impedance, without a supply of its own (R25, R391, R393). -/
def ball (s : State) (b : Ball) : Drive := if (ballRails b).all (railUp s) then drive s b else .undriven

end Sys2Proof.Machine
end

