-- ==== Sys2Proof/Safety.lean ====
section
/-! DEFINITION. What counts as safe, in the terms that claims use: a state whose stores are in canonical form, a step that
goes on, and a run that stops nowhere. -/

namespace Sys2Proof.Machine

/-- A memory is in canonical form: addresses strictly rising, and no entry equal to what an unlisted byte reads as
(log entry 6). -/
def Memory.wf (m : List Host.Cell) : Bool := SMap.wf memDefault m

/-- Every store of the state is in canonical form. -/
abbrev State.storesOk (s : State) : Prop := Memory.wf s.dram = true ∧ Memory.wf s.nvm.mram = true

/-- No unsupported condition holds (R5). -/
abbrev State.supported (s : State) : Prop := s.sys.unsup = Unsup.none

/-- The core is out of reset and nothing unsupported holds: commands act. -/
abbrev State.live (s : State) : Prop := s.sys.unsup = Unsup.none ∧ s.sys.coreUp = true

/-- The KA domain runs: the main PLL is locked and nothing unsupported stops it (R90, R411). -/
abbrev State.kaLive (s : State) : Prop := s.sys.unsup ≠ Unsup.all ∧ s.sys.pll = true

/-- BAR0 reaches a page, its block is not in local or CELL reset, and no access of the link waits that this one would
follow: its registers answer (R60, R92, R177). -/
abbrev State.answers (s : State) (p : Page) : Prop := reached p s = true ∧ s.held p = false ∧ writeWaits s = false

/-- The register files are in canonical order: keys strictly rising. -/
abbrev State.regsOk (s : State) : Prop := SMap.rising s.regs = true ∧ SMap.rising s.act = true

/-- Every register field but the named ones reads as before. -/
def State.regsBut (s t : State) (fs : List Fld) : Prop := ∀ g : Fld, (∀ f ∈ fs, g.key ≠ f.key) → t.get g = s.get g

/-- Only the named register fields may differ: every other field, and every other part of the state (active copies,
both memories, the blocks' own state, the media clock, the queue, what the outside receives) is as before. -/
def State.only (s t : State) (fs : List Fld) : Prop := t = { s with regs := t.regs } ∧ s.regsBut t fs

/-- The error latch of a page. -/
def errFields (p : Page) : List Fld :=
  [HDR.EFIRST_SRC p.base, HDR.EFIRST_VALID p.base, HDR.EOVF p.base, HDR.ISR_ERR p.base]

/-- An error of a page with a source code, as R39 says: ISR.ERR is set; the code is latched where EFIRST.VALID was 0,
and EOVF is set where it was 1. -/
def records (p : Page) (code : Nat) (s t : State) : Prop :=
  t.get (HDR.ISR_ERR p.base) = 1 ∧
  (s.bit (HDR.EFIRST_VALID p.base) = false →
    t.get (HDR.EFIRST_SRC p.base) = code ∧ t.get (HDR.EFIRST_VALID p.base) = 1 ∧ t.get (HDR.EOVF p.base) = s.get (HDR.EOVF p.base)) ∧
  (s.bit (HDR.EFIRST_VALID p.base) = true →
    t.get (HDR.EFIRST_SRC p.base) = s.get (HDR.EFIRST_SRC p.base) ∧ t.get (HDR.EFIRST_VALID p.base) = 1 ∧
    t.get (HDR.EOVF p.base) = 1)

/-- The causes of RSTCAUSE (Table SYS-13). -/
def rstCauses : List Fld :=
  [SYS.RSTCAUSE_WDCHIP, SYS.RSTCAUSE_WDSVC, SYS.RSTCAUSE_SVC, SYS.RSTCAUSE_CHIP, SYS.RSTCAUSE_PIN, SYS.RSTCAUSE_POR]

/-- Exactly one cause is shown (R68). -/
def onlyCause (cause : Fld) (t : State) : Prop := ∀ c ∈ rstCauses, t.get c = if c = cause then 1 else 0

/-- What a reset wider than SERVICE leaves (R66 to R68): every register but RSTCAUSE at its reset value, no active copy
of its own, one cause, the blocks as after reset, the root stopped and the core held; the MRAM, the fuses and the queue
as they were. That DRAM then lists nothing is the model's reading of lost contents (log entry 6). -/
def restored (cause : Fld) (s t : State) : Prop :=
  (∀ f : Fld, (∀ c ∈ rstCauses, f.key ≠ c.key) → t.get f = f.rst) ∧ onlyCause cause t ∧
  t = { State.reset with regs := t.regs, sys := t.sys, nvm := t.nvm, out := s.out, free := s.free, pending := s.pending } ∧
  t.sys.pll = false ∧ t.sys.coreUp = false ∧ t.sys.unsup = Unsup.none ∧
  t.nvm.mram = s.nvm.mram ∧ t.nvm.svn = s.nvm.svn ∧ t.nvm.keyHash = s.nvm.keyHash

/-- What a SERVICE reset leaves (R22, R23, R66 to R68, R71): every core-domain register at its reset value, no active
copy of one, one cause, the core held; KEPT set on the five KA pages; REG and the watchdog's configuration, the media
clock, the MRAM, the fuses and the queue as they were; every grant returned. -/
def serviced (cause : Fld) (s t : State) : Prop :=
  (∀ f : Fld, keyKa f.key = false → t.get f = f.rst ∧ t.getA f = f.rst) ∧ onlyCause cause t ∧
  (∀ f ∈ [TIM.STS_KEPT, CADDY.STS_KEPT, REG.STS_KEPT, EARC.STS_KEPT, APORT.STS_KEPT], t.get f = 1) ∧
  (∀ f : Fld, keyIn 0x5000 f.key = true → f.key ≠ REG.STS_KEPT.key → t.get f = s.get f) ∧
  (∀ f ∈ [SYS.WDOG_CTL_TIMEOUT, SYS.WDOG_CTL_ACTION, SYS.WDOG_CTL_EN], t.get f = s.get f) ∧
  t.reg = s.reg ∧ t.mtime = s.mtime ∧ t.sys.pll = s.sys.pll ∧ t.sys.coreUp = false ∧ t.sys.svcHold = true ∧
  t.caddy.grants = [] ∧ t.caddy.waits = [] ∧
  t.nvm.mram = s.nvm.mram ∧ t.nvm.svn = s.nvm.svn ∧ t.nvm.keyHash = s.nvm.keyHash ∧ t.pending = s.pending

/-- The step goes on. -/
def State.goesOn (s : State) : Prop := ∃ t, step s = .next t

/-- Commands whose effect reaches DRAM: the paths that write or lose it (R67, R177, R195), a power failure in a write of
the MRAM with them, and the register paths that carry such a command. -/
def writesDram : Instr → Bool
  | .registerWrite .. | .partialWrite .. | .rstcmdService .. | .rstcmdChip .. | .vddAonLow | .xoLoss
  | .pllLockLoss | .resetNLow | .cellReset .. | .localReset .. | .wdogExpiry | .railLoss .. | .regTrip ..
  | .bar2Access .. | .spiReadFrame .. | .spiWriteFrame .. | .completionRecord .. | .stripStart ..
  | .stripEnd .. | .bitstreamStage .. | .cellFault .. | .stripWatchdog .. | .scrub .. | .csWriteback .. | .windowRead ..
  | .csiLongPacket .. | .csiLoss .. | .outputPublish .. | .hrxFrame .. | .rxFrame .. | .bootRecordSelect ..
  | .bootVerifyDone .. | .journalScan .. | .setRead .. | .setWrite .. | .setDelete .. | .setReset .. | .updStart ..
  | .updChunk .. | .updAbort .. | .journalCompaction .. => true
  | _ => false

/-- Commands whose effect reaches the MRAM: the boot record and the journal, the slots, and the register paths that
carry such a command (R361 to R381). What a command of UPD leaves to write is written at a tick. -/
def writesMram : Instr → Bool
  | .registerWrite .. | .partialWrite .. | .bootRecordSelect .. | .bootVerifyDone .. | .journalScan ..
  | .spiReadFrame .. | .spiWriteFrame .. | .setRead .. | .setWrite .. | .setDelete .. | .setReset .. | .updStart ..
  | .updChunk .. | .updAbort .. | .journalCompaction .. => true
  | _ => false

/-- Commands that set the media clock: resets wider than SERVICE, the watchdog and the register paths that can cause
one, a power failure in a write of the MRAM, and the lock of the main PLL (R22, R67, R90). -/
def movesMtime : Instr → Bool
  | .registerWrite .. | .partialWrite .. | .rstcmdService .. | .rstcmdChip .. | .vddAonLow | .xoLoss | .pllLockLoss
  | .resetNLow | .wdogExpiry | .pllLock .. | .railLoss .. | .spiReadFrame .. | .spiWriteFrame .. | .bootRecordSelect ..
  | .bootVerifyDone .. | .journalScan .. | .setRead .. | .setWrite .. | .setDelete .. | .setReset .. | .updStart ..
  | .updChunk .. | .updAbort .. | .journalCompaction .. => true
  | _ => false

/-- A command's arm answers a next state that has a property. -/
def yields (i : Instr) (s : State) (P : State → Prop) : Prop := ∃ t, exec i s = .next t ∧ P t

/-- A command answers with an error of a page and changes nothing else (R35, R39). -/
def refuses (i : Instr) (p : Page) (code : Nat) (s : State) : Prop :=
  yields i s fun t => records p code s t ∧ s.only t (errFields p)

/-- A page's pending commit is applied (R44): every shadowed field's active copy is its shadow, PENDING is 0, and STAMP takes
the media clock's low 32 bits. -/
def applied (p : Page) (s t : State) : Prop :=
  t.get (HDR.PENDING p.base) = 0 ∧ t.get (HDR.STAMP p.base) = s.mtime % 2 ^ 32 ∧
  ∀ f : Fld, keyShadow p f.key = true → t.getA f = s.get f

end Sys2Proof.Machine
end

