-- ==== Sys2Proof/WellFormed.lean ====
section
/-! DEFINITION. Which commands are well-formed: the limits that the manual sets to what an outside party can supply with
a step: lengths of lists, codes of fields, alignment of addresses. A meaning does not rest on them. -/

namespace Sys2Proof

/-- A value fits in `w` bits. -/
def fits (w v : Nat) : Bool := decide (v < 2 ^ w)

/-- A value fits in `w` bits as two's complement. -/
def fitsSigned (w : Nat) (v : Int) : Bool := decide (-(2 ^ (w - 1) : Int) ≤ v ∧ v < (2 ^ (w - 1) : Int))

/-- An access address is that of a doubleword (R12). -/
def aligned4 (a : BitVec 24) : Bool := a.toNat % 4 == 0

/-- One measurement a reference, each in the layout of RSTAT (R136, Table TIM-9). -/
def measOk (ms : List RefMeas) : Bool :=
  ms.length == 6 && ms.all fun m => fitsSigned 16 m.off && (m.fam ≤ 2 || m.fam == 15)

/-- A received frame has its fields in their registers' widths, and three planes of components of its depth (R309,
R310, Table HRX-8). -/
def hdmiOk (f : HdmiFrame) : Bool :=
  let cw := if 2 ≤ f.samp then ceilDiv f.hact 2 else f.hact
  let ch := if f.samp = 3 then ceilDiv f.vact 2 else f.vact
  fits 16 f.vact && fits 16 f.hact && fits 16 f.vtot && fits 16 f.htot && fits 28 f.fper && f.bpc ≤ 2 && f.samp ≤ 3 &&
    f.planes.length == 3 && (f.planes.getD 0 []).length == f.hact * f.vact &&
    (f.planes.drop 1).all (fun c => c.length == cw * ch) && f.planes.all (·.all (fits (8 + 2 * f.bpc)))

/-- A long packet that arrives whole has samples of at most 14 bits (R290). -/
def lineOk (kind : CsiLine) (px : List Nat) : Bool := kind != .good || px.all (fits 14)

/-- What the syntax of an access or temporal unit says stays within its fields; it has a picture, and a decode unit names one
of its pictures and references of its list (R257 to R262, Table CSCH-18). -/
def picOk (p : PicInfo) : Bool :=
  !p.pics.isEmpty && p.pics.all (fun c => fits 16 c.picW && fits 16 c.picH) && p.profile ≤ 2 &&
    p.units.all fun u => decide (u.pic < p.pics.length) && u.refs.all fun r => decide (r < p.refs.length)

/-- A sweep of a byte lane: so many settings, and steps that EYEb's fields can number (R196, Table DMC-8). -/
def sweepOk (settings : Nat) (w : List (List Bool)) : Bool := w.length == settings && w.all fun r => decide (r.length ≤ 256)

/-- What the training of a lane finds, at so many VREF settings (Table DMC-2). -/
def laneOk (settings : Nat) (l : TrainLane) : Bool := sweepOk settings l.read && sweepOk settings l.write

/-- A BAR2 request stays in the 1 GiB of the BAR, and a read has at most 4 KiB (Table HIF-1). -/
def bar2Ok (off : BitVec 30) (op : Bar2Op) : Bool :=
  match op with
  | .read n => decide (1 ≤ n ∧ n ≤ 4096 ∧ off.toNat + n ≤ 2 ^ 30)
  | .write bs => decide (1 ≤ bs.length ∧ off.toNat + bs.length ≤ 2 ^ 30)

/-- The pages whose CTL has LRST (R78), and the CELL pages (R77). -/
def Page.resets : Page → Bool
  | .prs | .cell _ | .csi _ | .isp | .visr | .mpt | .hrx | .htx | .comp | .bfifo _ => true
  | .sys | .clk | .tim | .caddy | .reg | .intc | .store | .upd | .hif | .mbx | .csch | .tcf | .dmc _ | .dqos | .spout
  | .strn | .ptp | .earc | .aport => false

/-- The pages of the KA domain (Table SYS-5). -/
def Page.keepAlive : Page → Bool
  | .tim | .caddy | .reg | .earc | .aport => true
  | .sys | .clk | .prs | .intc | .store | .upd | .hif | .mbx | .cell _ | .csch | .tcf | .csi _ | .isp | .visr | .dmc _
  | .dqos | .mpt | .spout | .strn | .ptp | .hrx | .htx | .comp | .bfifo _ => false

/-- Lines of the MRAM, each once and in one condition (R361, R362). -/
def storeOk (e : StoreEnv) : Bool :=
  decide (e.weak.Nodup ∧ e.bad.Nodup ∧ (∀ l ∈ e.weak, l < 2 ^ 18 ∧ l ∉ e.bad) ∧ ∀ l ∈ e.bad, l < 2 ^ 18)

/-- The command's operands are what the manual lets a sender supply. -/
def Instr.wf : Instr → Bool
  | .registerWrite a _ => aligned4 a
  | .undecodedAccess a _ => aligned4 a
  | .longBar0Request a _ => aligned4 a
  | .partialWrite a be _ => aligned4 a && be != 15
  | .localReset p => p.resets
  | .localResetDone p => p.resets
  | .kaCtlWrite p _ => p.keepAlive
  | .dramTrainingDone rate dens _ _ chans => decide (rate ≤ 3 ∧ dens ≤ 2) && chans.length == 4 &&
      chans.all fun c => c.lanes.length == 2 && c.lanes.all (laneOk 16)
  | .retrainEnd _ lanes => lanes.length == 2 && lanes.all (laneOk 1)
  | .linkUp width speed _ _ => (width == 1 || width == 2) && decide (1 ≤ speed ∧ speed ≤ 3)
  | .regSample vout isns vin => fits 16 vout && fits 16 vin && isns.length == 4
  | .regTrip c => c.isns.length == 4
  | .monitorUpdate ms => measOk ms
  | .bar2Access off op => bar2Ok off op
  | .csiLongPacket _ _ _ k px => lineOk k px
  | .descriptorFetch _ i => picOk i
  | .bitstreamStage _ i => picOk i
  | .stripEnd _ _ r => [0, 3, 4].contains r.err
  | .windowRead _ off _ => off.toNat % 4 == 0
  | .outputPublish _ n => fits 24 n
  | .hrxFrame f => hdmiOk f
  | .hdcpAuth _ v n _ => v ≤ 2 && fits 8 n
  | .portFsEdge _ xs => decide (xs.length ≤ 16)
  | .earcChannelStatus cs _ => cs.length == 6
  | .rxFrame bs _ => decide (5 ≤ bs.length)
  | .ddcReadEnd d => (d.map fun bs => bs.length == 128).getD true
  | .bootRecordSelect e | .bootVerifyDone e _ | .journalScan e | .setRead e | .setWrite e | .setDelete e | .setReset e
  | .updStart e | .updChunk e | .verifyEnd e | .updArm e | .updConfirm e | .updRevert e | .updAbort e
  | .journalCompaction e => storeOk e
  | .efirstClear .. | .shadowCommit .. | .groupRelease .. | .intcSourceAssert .. | .setpend .. | .clrpend ..
  | .intcDeliver .. | .eoi .. | .rstcmdService .. | .rstcmdChip .. | .vddAonLow | .poresetRelease | .xoLoss
  | .pllLockLoss | .resetNLow | .resetNRise | .chipHoldEnd | .serviceHoldEnd | .cellReset .. | .cellReloadDone ..
  | .wdogKick .. | .wdogCtlWrite .. | .wdogExpiry | .clkDivWrite .. | .divdone | .xoOk .. | .xolow .. | .pllLock ..
  | .coreRelease | .microcodeLoadDone .. | .linkDown
  | .perstNLow | .railLoss .. | .onPulseStart .. | .pulseEnd .. | .ffNotice | .ffRampStart | .ffHoldEnd
  | .phaseShed | .phctlWrite .. | .tonWrite .. | .olWrite .. | .modeOpenSet .. | .modeOpenClear ..
  | .openLoopPulse .. | .underVoltage | .tripRetry .. | .tripcntClear | .powerGood | .consumerEnable ..
  | .consumerDisable .. | .caddyGrant | .caddyReturn .. | .requestAged .. | .brakeEngage | .brake2 | .brakeStepBack
  | .tempUpdate .. | .ppsPulse .. | .lossOfSignal .. | .refcfgWrite .. | .refRateChange .. | .dpllUpdate
  | .domainLocked .. | .outenWrite .. | .audWrite .. | .realignAud | .realignVid | .realignApply .. | .mtimelRead
  | .framePulse .. | .tooth | .toothMissed | .prsCfgWrite .. | .prsEnable | .prsDisable | .eventArm .. | .eventCancel ..
  | .eventFire .. | .tcntRead | .actionSwap .. | .actionStart .. | .actionKeyRequest .. | .actionMute ..
  | .actionUnmute .. | .actionGpio .. | .spiReadFrame .. | .spiWriteFrame .. | .bfifoData .. | .bfifoDataEnd ..
  | .bfifoPop .. | .bfifoEnable .. | .bfifoCfgWrite .. | .bfifoAgentTake .. | .bfifoAgentPut .. | .mbxRing
  | .mbxBusy | .mbxDone | .mbxAck | .version | .echo | .trainGo ..
  | .retrainStart .. | .mr4Poll .. | .perBankRefresh .. | .srRequest .. | .srEntry .. | .srExitRequest ..
  | .tmgWrite .. | .mrrd .. | .dqosSlot .. | .saturation .. | .sqtailWrite .. | .cqtailWrite ..
  | .completionRecord .. | .ringEnable .. | .ringDisable .. | .stripDispatch .. | .stripStart .. | .layerBfifoCopy ..
  | .keyreqWrite .. | .cellFault .. | .stripWatchdog .. | .scrub .. | .csWriteback .. | .csiEnable ..
  | .csiFrameStart .. | .csiFrameEnd .. | .csiLoss .. | .fstamplRead .. | .ispFrameBoundary .. | .passEnd
  | .outputAbandon .. | .rqtailWrite .. | .boxIntake | .boxExpire | .hrxLock .. | .htxLinkUp .. | .hrxLoss | .hpdPulse
  | .hpdRestore | .tvHpdChange .. | .outputFrameEdge | .avmuteClear | .compUnderflow | .swapWrite .. | .earcLink
  | .earcStream | .heartbeatLost | .capctlUpd | .mute .. | .unmute .. | .sourceChange .. | .sourceResume ..
  | .mptLinkUp .. | .mptLinkDown | .ptpSample | .ptpStep .. | .timelRead | .streamEnable .. | .streamDisable ..
  | .layerPacketize .. | .aafPacket .. | .txtailWrite .. | .txDescriptor | .frameTransmit | .spoutEnable
  | .gclBoundary | .gclEntry | .swapGo | .shaperWrite .. | .updVerify | .setPointRampEnd
  | .hdcpAuthLost .. | .perstNRise | .gptpMessageInterval => true

end Sys2Proof
end

