-- ==== Sys2Proof/Certificates/Slice0/Obligations.lean ====
section
/-! DEFINITION. The statements for the provers, family by family, from the manual's rules. `yields i s P` says that the
command's arm answers a next state with P; `s.only t fs` that nothing but the named register fields differs. -/



open Sys2Proof Sys2Proof.Machine

/-- For every command, rest of the queue and state: step with the command at the front of the queue is exec of that
command on the state with the queue's rest. -/
def Obligations.StepRunsTheFrontCommand : Prop :=
  ∀ (i : Instr) (rest : List Instr) (s : State), s.pending = i :: rest →
    step s = exec i { s with pending := rest }

/-- With nothing waiting, a step answers a next state: while the main PLL runs, UPD writes nothing and no request
waits on the link, MTIME goes up by one, wrapping at 2^64, and neither memory, nor the non-volatile state, nor the
queue changes; boot goes on to CODE 0x02 or 0x06 where a step of it has ended, and from a factory record that
fails its CRC to 0xE4; a boot-record or journal write of UPD ends and is BUSY no more; while the PLL does not run,
nothing changes. That a tick is what an idle step does is the model's choice (log entry 1). -/
def Obligations.EmptyQueuePassesOneTick : Prop :=
  (∀ (s : State), s.pending = [] → s.sys.pll = true → s.nvm.work = none → s.hif.waits = [] →
    ∃ t, step s = .next t ∧ t.mtime = (s.mtime + 1) % 2 ^ 64 ∧ t.pending = [] ∧ t.dram = s.dram ∧ t.nvm = s.nvm) ∧
  (∀ (s : State), s.pending = [] → s.sys.pll = true → s.sys.coreUp = true → s.nvm.work = none → s.hif.waits = [] →
    (s.get SYS.BOOT_STATUS_CODE = 1 ∨ s.get SYS.BOOT_STATUS_CODE = 5) →
    ∃ t, step s = .next t ∧ t.get SYS.BOOT_STATUS_CODE = s.get SYS.BOOT_STATUS_CODE + 1 ∧
      t.get SYS.BOOT_STATUS_DETAIL = 0) ∧
  (∀ (s : State), s.pending = [] → s.sys.pll = true → s.sys.coreUp = true → s.nvm.work = none → s.hif.waits = [] →
    s.get SYS.BOOT_STATUS_CODE = 4 →
    ∃ t, step s = .next t ∧ t.get SYS.BOOT_STATUS_CODE = if s.sys.factoryBad then 0xE4 else 4) ∧
  (∀ (s : State), s.pending = [] → s.sys.pll = true → s.sys.coreUp = true → s.nvm.work = some (4, none) →
    s.hif.waits = [] →
    ∃ t, step s = .next t ∧ t.nvm.work = none ∧ t.get UPD.STS_BUSY = 0) ∧
  (∀ (s : State), s.pending = [] → s.sys.pll = false →
    step s = .next s)

/-- Right after reset the queue is empty, both memories are in canonical form, and the fields that the SYS and INTC
tables give reset values show them: DEVID.PART 0x4880, BOOT_STATUS.CODE 0, RSTCAUSE.POR 1 and no other cause,
WDOG_CTL.TIMEOUT 0x3E8, no PEND or INSVC bit, ROUTE 0xFF but 0x22 for source 15, no error latched on any page. -/
def Obligations.ResetLeavesTheResetValues : Prop :=
  (
    State.reset.pending = [] ∧ State.reset.storesOk ∧ State.reset.regsOk) ∧
  (
    State.reset.get SYS.DEVID_PART = 0x4880 ∧ State.reset.get SYS.BOOT_STATUS_CODE = 0 ∧
      State.reset.get SYS.RSTCAUSE_POR = 1 ∧ State.reset.get SYS.RSTCAUSE_PIN = 0 ∧
      State.reset.get SYS.RSTCAUSE_CHIP = 0 ∧ State.reset.get SYS.RSTCAUSE_SVC = 0 ∧
      State.reset.get SYS.RSTCAUSE_WDCHIP = 0 ∧ State.reset.get SYS.RSTCAUSE_WDSVC = 0 ∧
      State.reset.get SYS.WDOG_CTL_TIMEOUT = 0x3E8) ∧
  (∀ (i : Nat),
    State.reset.get (INTC.PEND i) = 0 ∧ State.reset.get (INTC.INSVC i) = 0 ∧
      State.reset.get (INTC.ROUTE_TGT i) = if i = 15 then 0x22 else 0xFF) ∧
  (∀ (p : Page),
    State.reset.get (HDR.EFIRST_VALID p.base) = 0 ∧ State.reset.get (HDR.ISR_ERR p.base) = 0)

/-- For every state whose DRAM and MRAM are in canonical form (addresses strictly rising, no entry equal to what an
unlisted byte reads as) and whose register files are in order: if the step answers a next state, that state has
both properties. It holds for every command of the table and for the idle tick. -/
def Obligations.EveryStepKeepsTheCanonicalForm : Prop :=
  ∀ (s t : State), s.storesOk → s.regsOk → step s = .next t →
    t.storesOk ∧ t.regsOk

/-- Every command answers a next state in every state in which no unsupported condition holds; the only fault is the
unsupported condition, and it is given only while one holds (R5, log entry 8); no command is ever refused. -/
def Obligations.CommandsStopOnlyWhenUnsupported : Prop :=
  (∀ (i : Instr) (s : State), s.supported →
    ∃ t, exec i s = .next t) ∧
  (∀ (i : Instr) (s : State) (f : Fault), exec i s = .fault f →
    f = .unsupportedCondition ∧ ¬ s.supported) ∧
  (∀ (i : Instr) (s : State) (r : Refusal),
    exec i s ≠ .refused r)

/-- For every command and state: if exec answers a next state, its queue is the queue before. The queue is the model's
own, and that no effect of a command puts a command into it is log entry 29's design choice;
95_what_each_step_holds.md lists the commands. -/
def Obligations.CommandsLeaveTheQueue : Prop :=
  ∀ (i : Instr) (s t : State), exec i s = .next t →
    t.pending = s.pending

/-- For every command that answers a next state: the key hash in the fuses is the same, the fused SVN has not fallen,
and unless the command is one of those that append to the journal, write a boot copy or a slot, or carry a
register write (writesMram), every byte of the MRAM is the same. No reset is among the latter but through the
register paths. -/
def Obligations.MramChangesOnlyByItsCommands : Prop :=
  ∀ (i : Instr) (s t : State), exec i s = .next t →
    t.nvm.keyHash = s.nvm.keyHash ∧ s.nvm.svn ≤ t.nvm.svn ∧ (writesMram i = false → t.nvm.mram = s.nvm.mram)

/-- For every command that answers a next state and is not one of those whose effect reaches DRAM (writesDram: writes
over BAR2, engines that write pictures, records and rings, resets that lose it, and the register paths): every
byte of DRAM reads as before. -/
def Obligations.DramChangesOnlyByItsCommands : Prop :=
  ∀ (i : Instr) (s t : State) (a : Nat), exec i s = .next t → writesDram i = false →
    t.dramByte a = s.dramByte a

/-- For every command that answers a next state and is not a reset wider than SERVICE, the watchdog, the lock of the
main PLL or a register path (movesMtime): MTIME is as before. A SERVICE reset is among those that leave it. -/
def Obligations.MtimeMovesOnlyInWideResets : Prop :=
  ∀ (i : Instr) (s t : State), exec i s = .next t → movesMtime i = false →
    t.mtime = s.mtime

/-- An access to an address outside every page records 0x0100 on SYS and a read returns 0; a BAR0 request longer than
two doublewords records 0x0101 on SYS and a read is aborted; a write without all four byte enables is discarded
and records 0x0001 on its page; each changes no other register and nothing else but what a read returns and the
function's own error status. A write with all four byte enables is an ordinary register write. While a write waits
on the link, an access waits behind it (R177, stated with BAR2). -/
def Obligations.BadRequestsRecordAndChangeNothingElse : Prop :=
  (∀ (s : State) (a : BitVec 24) (w : Bool), s.live → target a.toNat = .nothing → writeWaits s = false →
    yields (.undecodedAccess a w) s fun t => records .sys 0x0100 s t ∧ s.regsBut t (errFields .sys) ∧
      t = { s with regs := t.regs, out := t.out } ∧
      t.out = if w then s.out else { s.out with rdata := some 0, abort := false }) ∧
  (∀ (s : State) (a : BitVec 24) (w : Bool), s.live → writeWaits s = false →
    yields (.longBar0Request a w) s fun t => records .sys 0x0101 s t ∧ s.regsBut t (errFields .sys) ∧
      t = { s with regs := t.regs, out := t.out, hif := t.hif } ∧
      t.out = (if w then s.out else { s.out with rdata := none, abort := true }) ∧
      t.hif = if w then s.hif else { s.hif with cfg := { s.hif.cfg with aerUnc := t.hif.cfg.aerUnc } }) ∧
  (∀ (s : State) (a : BitVec 24) (be : BitVec 4) (d : W32) (p : Page) (o : Nat), s.live →
    target a.toNat = .page p o → s.answers p → be ≠ 15 →
    yields (.partialWrite a be d) s fun t => records p 0x0001 s t ∧ s.only t (errFields p)) ∧
  (∀ (s : State) (a : BitVec 24) (d : W32), writeWaits s = false →
    exec (.partialWrite a 15 d) s = exec (.registerWrite a d) s)

/-- On a page that answers, a write of EFIRST with bit 31 set clears VALID, SRC and EOVF and nothing else; one without
it changes nothing. An error that the page records next, as one of the same cycle does, is latched: its code in
SRC, VALID 1, EOVF.OVF 0, ISR.ERR 1, and nothing else changes. -/
def Obligations.EfirstClearEmptiesTheLatch : Prop :=
  (∀ (s : State) (p : Page) (d : W32), s.live → s.answers p → natBit d.toNat 31 = true →
    yields (.efirstClear p d) s fun t => t.get (HDR.EFIRST_VALID p.base) = 0 ∧ t.get (HDR.EFIRST_SRC p.base) = 0 ∧
      t.get (HDR.EOVF p.base) = 0 ∧ s.only t [HDR.EFIRST_VALID p.base, HDR.EFIRST_SRC p.base, HDR.EOVF p.base]) ∧
  (∀ (s : State) (p : Page) (d : W32), s.live → s.answers p → natBit d.toNat 31 = false →
    exec (.efirstClear p d) s = .next s) ∧
  (∀ (s t : State) (p : Page) (d : W32) (code : Nat), s.live → s.answers p → natBit d.toNat 31 = true →
    code < 2 ^ 16 → exec (.efirstClear p d) s = .next t →
    (recErr p code t).get (HDR.EFIRST_SRC p.base) = code ∧ (recErr p code t).get (HDR.EFIRST_VALID p.base) = 1 ∧
      (recErr p code t).get (HDR.EOVF p.base) = 0 ∧ (recErr p code t).get (HDR.ISR_ERR p.base) = 1 ∧
      t.only (recErr p code t) (errFields p))

/-- On the pages whose registers have no rule of their own (STORE, HIF, TCF, ISP) a write past the header gives each
RW field its bits, clears the bits written 1 of each W1C field and leaves every other field and everything else; a
page BAR0 does not reach yet records 0x0104 on SYS and nothing else; a page in reset ignores the write, which is
remembered for when its reset ends; an address outside every page records 0x0100 on SYS. A BUDGET write that fails
two checks latches the lower code and sets EOVF: that a write which fails several checks is one access with
several codes is the model's reading (log entry 11). A write that one check refuses records that check's code
alone and changes nothing: PRS.PERIOD and WINDOW out of R164's limits 0x0103 (within them they are stored, PERIOD
for the next tooth), a slot of an armed event 0x0101; TIM.DPLL 0x0101, HOLD 0x0104; BUDGET 0x0100 or 0x0104,
RESERVE 0x0103, BRAKE 0x0102; DQOS PCFG whose guarantees exceed 48 0x0100, LAT 0 0x0101, MARK out of order 0x0102;
MBX.REQ outside IDLE, an APORT.PCFG that R324 excludes, UPD.CMD without its key, STRN CBS, PBS or a two-rate PCFG
with PIR below CIR 0x0100; SPOUT's CYCLE or LEN out of range 0x0100, a list that is active or while a swap is
pending 0x0101. The write takes effect when no BAR2 write waits before it on the link (R177). -/
def Obligations.RegisterWriteFollowsTheAccessCodes : Prop :=
  (∀ (s : State) (a : BitVec 24) (d : W32) (p : Page) (o : Nat), s.live → target a.toNat = .page p o →
    p ∈ [Page.store, .hif, .tcf, .isp] → 0x40 ≤ o → s.answers p →
    yields (.registerWrite a d) s fun t => (∀ f ∈ fieldsAt p o, (f.acc = .rw → t.get f = bitsOf d f.lo f.w) ∧
      (f.acc = .w1c → t.get f = (s.get f &&& (2 ^ f.w - 1 - bitsOf d f.lo f.w)) % 2 ^ f.w)) ∧
      s.only t ((fieldsAt p o).filter fun f => f.acc = .rw ∨ f.acc = .w1c)) ∧
  (∀ (s : State) (a : BitVec 24) (d : W32) (p : Page) (o : Nat), s.live → target a.toNat = .page p o →
    reached p s = false → writeWaits s = false →
    yields (.registerWrite a d) s fun t => records .sys 0x0104 s t ∧ s.only t (errFields .sys)) ∧
  (∀ (s : State) (a : BitVec 24) (d : W32) (p : Page) (o : Nat), s.live → target a.toNat = .page p o →
    reached p s = true → s.held p = true → writeWaits s = false →
    exec (.registerWrite a d) s = .next { s with sys := { s.sys with lateWr := s.sys.lateWr ++ [p.base] } }) ∧
  (∀ (s : State) (a : BitVec 24) (d : W32), s.live → target a.toNat = .nothing → writeWaits s = false →
    yields (.registerWrite a d) s fun t => records .sys 0x0100 s t ∧ s.only t (errFields .sys)) ∧
  (∀ (s : State) (d : W32), s.live → s.answers .caddy → s.get (HDR.EFIRST_VALID 0x4000) = 0 →
    s.get CADDY.BRAKE_LIMIT < (CADDY.BUDGET_AMT).ofData d → 640 < (CADDY.BUDGET_AMT).ofData d →
    yields (.registerWrite 0x4040 d) s fun t => t.get (HDR.EFIRST_SRC 0x4000) = 0x0100 ∧
      t.get (HDR.EFIRST_VALID 0x4000) = 1 ∧ t.get (HDR.EOVF 0x4000) = 1 ∧ t.get (HDR.ISR_ERR 0x4000) = 1 ∧
      s.only t (errFields .caddy)) ∧
  (∀ (s : State) (d : W32) (v : Nat), s.live → s.answers .prs →
    (v = bitsOf d 0 28 → ¬(0x180000 ≤ v ∧ v ≤ 0xF000000 ∧ 16 ≤ s.get PRS.WINDOW_WIN ∧
      s.get PRS.WINDOW_WIN * 64 ≤ v) → refuses (.registerWrite 0x3044 d) .prs 0x0103 s) ∧ (v = bitsOf d 0 28 →
      0x180000 ≤ v → v ≤ 0xF000000 → 16 ≤ s.get PRS.WINDOW_WIN → s.get PRS.WINDOW_WIN * 64 ≤ v →
      yields (.registerWrite 0x3044 d) s fun t => t.get PRS.PERIOD_P16 = v ∧ s.regsBut t [PRS.PERIOD_P16] ∧
      t = { s with regs := t.regs, prs := { s.prs with perNew := true } }) ∧ (v = bitsOf d 0 24 →
      ¬(0x180000 ≤ s.get PRS.PERIOD_P16 ∧ s.get PRS.PERIOD_P16 ≤ 0xF000000 ∧ 16 ≤ v ∧
      v * 64 ≤ s.get PRS.PERIOD_P16) → refuses (.registerWrite 0x3048 d) .prs 0x0103 s) ∧ (v = bitsOf d 0 24 →
      0x180000 ≤ s.get PRS.PERIOD_P16 → s.get PRS.PERIOD_P16 ≤ 0xF000000 → 16 ≤ v → v * 64 ≤ s.get PRS.PERIOD_P16 →
      yields (.registerWrite 0x3048 d) s fun t => t.get PRS.WINDOW_WIN = v ∧ s.regsBut t [PRS.WINDOW_WIN] ∧
      t = { s with regs := t.regs, prs := { s.prs with win := t.prs.win } })) ∧
  (∀ (s : State) (d : W32) (k : Fin 64) (o : Fin 3), s.live → s.answers .prs → s.get (PRS.EVCS_STATE k) = 1 →
    refuses (.registerWrite (BitVec.ofNat 24 (0x3400 + 16 * k + 4 * o)) d) .prs 0x0101 s) ∧
  (∀ (s : State) (d : W32), s.live → s.answers .tim →
    (4 < bitsOf d 0 4 ∨ 4 < bitsOf d 4 4 → refuses (.registerWrite 0x204C d) .tim 0x0101 s) ∧ (bitsOf d 0 8 = 0 ∨
      60 < bitsOf d 0 8 → refuses (.registerWrite 0x2050 d) .tim 0x0104 s)) ∧
  (∀ (s : State) (d : W32), s.live → s.answers .caddy →
    (bitsOf d 0 10 < 20 ∨ 640 < bitsOf d 0 10 → bitsOf d 0 10 ≤ s.get CADDY.BRAKE_LIMIT →
      refuses (.registerWrite 0x4040 d) .caddy 0x0100 s) ∧ (s.get CADDY.BRAKE_LIMIT < bitsOf d 0 10 →
      bitsOf d 0 10 ≤ 640 → 20 ≤ bitsOf d 0 10 → refuses (.registerWrite 0x4040 d) .caddy 0x0104 s) ∧
      (s.get CADDY.BUDGET_AMT ≤ bitsOf d 0 10 → refuses (.registerWrite 0x4044 d) .caddy 0x0103 s) ∧
      (bitsOf d 0 10 < s.getA CADDY.BUDGET_AMT ∨ bitsOf d 0 10 < s.get CADDY.BUDGET_AMT →
      refuses (.registerWrite 0x4048 d) .caddy 0x0102 s)) ∧
  (∀ (s : State) (d : W32) (p : Fin 12), s.live → s.answers .dqos →
    (48 < (((List.range 12).filter (· != p.val)).map fun q =>
      s.get (DQOS.PCFG_GUAR q)).sum + (DQOS.PCFG_GUAR p).ofData d →
      refuses (.registerWrite (BitVec.ofNat 24 (0x34104 + 16 * p)) d) .dqos 0x0100 s) ∧
      ((DQOS.LAT_NS p).ofData d = 0 →
      refuses (.registerWrite (BitVec.ofNat 24 (0x34100 + 16 * p)) d) .dqos 0x0101 s) ∧
      (¬(1 ≤ DQOS.MARK_M1.ofData d ∧ DQOS.MARK_M1.ofData d < DQOS.MARK_M2.ofData d ∧
      DQOS.MARK_M2.ofData d < DQOS.MARK_M3.ofData d ∧ DQOS.MARK_M3.ofData d ≤ 99) →
      refuses (.registerWrite 0x34040 d) .dqos 0x0102 s)) ∧
  (∀ (s : State) (d : W32) (i : Fin 16) (k : Fin 4) (slots width : Nat), s.live → writeWaits s = false →
    slots = (APORT.PCFG_SLOTS k).ofData d → (width = if (APORT.PCFG_WIDTH k).ofData d = 1 then 32 else 16) →
    (s.answers .mbx → s.get MBX.STS_STATE ≠ 0 →
      refuses (.registerWrite (BitVec.ofNat 24 (0xA040 + 4 * i)) d) .mbx 0x0100 s) ∧ (s.answers .aport →
      49152000 < slots * width * portHz s ((APORT.PCFG_FSSEL k).ofData d) ∨
      (48000 < portHz s ((APORT.PCFG_FSSEL k).ofData d) ∧ 8 < slots) ∨ ((APORT.PCFG_FMT k).ofData d < 2 ∧
      slots ≠ 2) → refuses (.registerWrite (BitVec.ofNat 24 (0x53040 + 4 * k)) d) .aport 0x0100 s) ∧
      (s.answers .upd → bitsOf d 16 16 ≠ 0x7E55 → refuses (.registerWrite 0x8040 d) .upd 0x0100 s)) ∧
  (∀ (s : State) (d : W32) (p : Fin 64), s.live → s.answers .strn →
    (d.toNat < 1522 → refuses (.registerWrite (BitVec.ofNat 24 (0x4280C + 32 * p)) d) .strn 0x0100 s ∧
      refuses (.registerWrite (BitVec.ofNat 24 (0x42814 + 32 * p)) d) .strn 0x0100 s) ∧ (bitsOf d 30 2 = 2 →
      s.get (STRN.PIR_KBPS p) < s.get (STRN.CIR_KBPS p) →
      refuses (.registerWrite (BitVec.ofNat 24 (0x42804 + 32 * p)) d) .strn 0x0100 s)) ∧
  (∀ (s : State) (d : W32) (l : Fin 2) (i : Fin 256), s.live → s.answers .spout →
    (s.get SPOUT.STS_ACT ≠ l → s.get SPOUT.SWAP_GO = 0 → (bitsOf d 0 30 < 10000 ∨ 1000000000 < bitsOf d 0 30 →
      refuses (.registerWrite (BitVec.ofNat 24 (0x41040 + 16 * l)) d) .spout 0x0100 s) ∧ (bitsOf d 0 9 < 1 ∨
      256 < bitsOf d 0 9 → refuses (.registerWrite (BitVec.ofNat 24 (0x4104C + 16 * l)) d) .spout 0x0100 s)) ∧
      (s.get SPOUT.STS_ACT = l ∨ s.get SPOUT.SWAP_GO = 1 → (10000 ≤ bitsOf d 0 30 → bitsOf d 0 30 ≤ 1000000000 →
      refuses (.registerWrite (BitVec.ofNat 24 (0x41040 + 16 * l)) d) .spout 0x0101 s) ∧
      refuses (.registerWrite (BitVec.ofNat 24 (0x41044 + 16 * l)) d) .spout 0x0101 s ∧
      refuses (.registerWrite (BitVec.ofNat 24 (0x41048 + 16 * l)) d) .spout 0x0101 s ∧ (1 ≤ bitsOf d 0 9 →
      bitsOf d 0 9 ≤ 256 → refuses (.registerWrite (BitVec.ofNat 24 (0x4104C + 16 * l)) d) .spout 0x0101 s) ∧
      refuses (.registerWrite (BitVec.ofNat 24 (0x41800 + 0x400 * l + 4 * i)) d) .spout 0x0101 s))

/-- Where its page answers and no BAR2 write waits before it on the link, a REGISTER_WRITE has exactly the effect of
the row that the table gives its register, with the same data: EFIRST and SHCMT of a page; WDOG_CTL, WDOG_KICK,
GRPCMT and RSTCMD (whose KIND picks the row); CLK.DIV; EOI, SETPENDk, CLRPENDk; PRS.CFG and an EVCSk that arms or
cancels; REFCFGr, OUTEN, AUD and a REALIGN of one domain; PHCTL, TON, OL and MODE of REG; RCFG, SQTAIL, CQTAIL and
KEYREQ of a ring; RQTAIL of VISR; TXTAIL and CTL.EN of MPT; SWAP, SHRATE and SHBURST of SPOUT; COMP.SWAP;
EARC.CAPCTL.UPD; DATA, DATA_END, CFG and CTL.EN of a BFIFO; an MBCTL that rings or acknowledges; UPD.CMD with its
key (a write that no reset or supply loss cuts); TRAIN, TMG0, TMG1 and PWR of a DMC; CTL with LRST of any page
that has it, CTL of the KA pages, CTL.EN of PRS, CSI ports, ISP, COMP, HRX and HTX. -/
def Obligations.RegisterWriteIsTheRegistersOwnCommand : Prop :=
  (∀ (s : State) (a : BitVec 24) (d : W32) (p : Page), target a.toNat = .page p 0x10 → writeWaits s = false →
    exec (.registerWrite a d) s = exec (.efirstClear p d) s) ∧
  (∀ (s : State) (a : BitVec 24) (d : W32) (p : Page), target a.toNat = .page p 0x20 → writeWaits s = false →
    exec (.registerWrite a d) s = exec (.shadowCommit p d) s) ∧
  (∀ (s : State) (d : W32), s.answers .sys →
    exec (.registerWrite 0x54 d) s = exec (.wdogKick d) s ∧
      exec (.registerWrite 0x64 d) s = exec (.groupRelease d) s) ∧
  (∀ (s : State) (d : W32), s.answers .intc →
    exec (.registerWrite 0x6100 d) s = exec (.eoi d) s) ∧
  (∀ (s : State) (d : W32) (k : Fin 8), s.answers .intc →
    exec (.registerWrite (BitVec.ofNat 24 (0x6060 + 4 * k)) d) s = exec (.setpend k d) s ∧
      exec (.registerWrite (BitVec.ofNat 24 (0x6080 + 4 * k)) d) s = exec (.clrpend k d) s) ∧
  (∀ (s : State) (d : W32), writeWaits s = false →
    exec (.registerWrite 0x3040 d) s = exec (.prsCfgWrite d) s ∧
      exec (.registerWrite 0x54048 d) s = exec (.swapWrite d) s) ∧
  (∀ (s : State) (d : W32), s.live → s.answers .sys → s.answers .clk →
    exec (.registerWrite 0x50 d) s = exec (.wdogCtlWrite d) s ∧
      exec (.registerWrite 0x1040 d) s = exec (.clkDivWrite d) s ∧ (SYS.RSTCMD_KIND.ofData d = 1 →
      exec (.registerWrite 0x4C d) s = exec (.rstcmdService (d.extractLsb' 16 16) false) s) ∧
      (SYS.RSTCMD_KIND.ofData d = 2 →
      exec (.registerWrite 0x4C d) s = exec (.rstcmdChip (d.extractLsb' 16 16) false) s)) ∧
  (∀ (s : State) (d : W32) (r : Fin 6), writeWaits s = false →
    exec (.registerWrite (BitVec.ofNat 24 (0x2060 + 4 * r)) d) s = exec (.refcfgWrite r d) s ∧
      exec (.registerWrite 0x2058 d) s = exec (.outenWrite d) s ∧
      exec (.registerWrite 0x2054 d) s = exec (.audWrite d) s ∧ (bitsOf d 0 2 = 1 →
      exec (.registerWrite 0x205C d) s = exec .realignAud s) ∧ (bitsOf d 0 2 = 2 →
      exec (.registerWrite 0x205C d) s = exec .realignVid s)) ∧
  (∀ (s : State) (d : W32), writeWaits s = false →
    exec (.registerWrite 0x505C d) s = exec (.phctlWrite d) s ∧
      exec (.registerWrite 0x504C d) s = exec (.tonWrite 0 d) s ∧
      exec (.registerWrite 0x5068 d) s = exec (.olWrite 0 d) s ∧
      exec (.registerWrite 0x5064 d) s = exec (.modeOpenSet d) s ∧
      exec (.registerWrite 0x5064 d) s = exec (.modeOpenClear d) s) ∧
  (∀ (s : State) (d : W32) (r : Fin 8), writeWaits s = false →
    exec (.registerWrite (BitVec.ofNat 24 (0x18110 + 64 * r)) d) s = exec (.ringEnable r d) s ∧
      exec (.registerWrite (BitVec.ofNat 24 (0x18110 + 64 * r)) d) s = exec (.ringDisable r d) s ∧
      exec (.registerWrite (BitVec.ofNat 24 (0x18114 + 64 * r)) d) s = exec (.sqtailWrite r d) s ∧
      exec (.registerWrite (BitVec.ofNat 24 (0x18120 + 64 * r)) d) s = exec (.cqtailWrite r d) s ∧
      exec (.registerWrite (BitVec.ofNat 24 (0x1812C + 64 * r)) d) s = exec (.keyreqWrite r d) s) ∧
  (∀ (s : State) (d : W32) (c : Fin 8), writeWaits s = false →
    exec (.registerWrite 0x2804C d) s = exec (.rqtailWrite d) s ∧
      exec (.registerWrite 0x40060 d) s = exec (.txtailWrite d) s ∧
      exec (.registerWrite (BitVec.ofNat 24 (0x41080 + 8 * c)) d) s = exec (.shaperWrite c false d) s ∧
      exec (.registerWrite (BitVec.ofNat 24 (0x41084 + 8 * c)) d) s = exec (.shaperWrite c true d) s ∧
      (natBit d.toNat 0 = true → exec (.registerWrite 0x41060 d) s = exec .swapGo s ∧
      exec (.registerWrite 0x52044 d) s = exec .capctlUpd s)) ∧
  (∀ (s : State) (d : W32) (n : Fin 16), writeWaits s = false →
    exec (.registerWrite (BitVec.ofNat 24 (0x60040 + 0x1000 * n)) d) s = exec (.bfifoData n d) s ∧
      exec (.registerWrite (BitVec.ofNat 24 (0x60044 + 0x1000 * n)) d) s = exec (.bfifoDataEnd n d) s ∧
      exec (.registerWrite (BitVec.ofNat 24 (0x60050 + 0x1000 * n)) d) s = exec (.bfifoCfgWrite n d) s ∧
      (bitsOf d 0 2 = 1 →
      exec (.registerWrite (BitVec.ofNat 24 (0x60008 + 0x1000 * n)) d) s = exec (.bfifoEnable n) s)) ∧
  (∀ (s : State) (d : W32) (k : Fin 64), writeWaits s = false →
    (bitsOf d 0 2 = 1 → exec (.registerWrite 0xA0C0 d) s = exec .mbxRing s ∧
      exec (.registerWrite (BitVec.ofNat 24 (0x340C + 16 * k)) d) s = exec (.eventArm k) s ∧
      exec (.registerWrite 0x3008 d) s = exec .prsEnable s) ∧ (bitsOf d 0 2 = 2 →
      exec (.registerWrite 0xA0C0 d) s = exec .mbxAck s ∧
      exec (.registerWrite (BitVec.ofNat 24 (0x340C + 16 * k)) d) s = exec (.eventCancel k) s) ∧ (bitsOf d 0 2 = 0 →
      exec (.registerWrite 0x3008 d) s = exec .prsDisable s)) ∧
  (∀ (s : State) (d : W32), s.live → writeWaits s = false → s.nvm.left = none → s.nvm.torn = false →
    bitsOf d 16 16 = 0x7E55 →
    (bitsOf d 0 4 = 1 → exec (.registerWrite 0x8040 d) s = exec (.updStart {}) s) ∧ (bitsOf d 0 4 = 2 →
      exec (.registerWrite 0x8040 d) s = exec .updVerify s) ∧ (bitsOf d 0 4 = 3 →
      exec (.registerWrite 0x8040 d) s = exec (.updArm {}) s) ∧ (bitsOf d 0 4 = 4 →
      exec (.registerWrite 0x8040 d) s = exec (.updConfirm {}) s) ∧ (bitsOf d 0 4 = 5 →
      exec (.registerWrite 0x8040 d) s = exec (.updRevert {}) s) ∧ (bitsOf d 0 4 = 6 →
      exec (.registerWrite 0x8040 d) s = exec (.updAbort {}) s)) ∧
  (∀ (s : State) (d : W32) (n : Fin 4), writeWaits s = false →
    exec (.registerWrite (BitVec.ofNat 24 (0x30044 + 0x1000 * n)) d) s = exec (.trainGo n d) s ∧
      exec (.registerWrite (BitVec.ofNat 24 (0x30060 + 0x1000 * n)) d) s = exec (.tmgWrite n false d) s ∧
      exec (.registerWrite (BitVec.ofNat 24 (0x30064 + 0x1000 * n)) d) s = exec (.tmgWrite n true d) s ∧
      (natBit d.toNat 0 = true →
      exec (.registerWrite (BitVec.ofNat 24 (0x3006C + 0x1000 * n)) d) s = exec (.srRequest n) s) ∧
      (natBit d.toNat 0 = false →
      exec (.registerWrite (BitVec.ofNat 24 (0x3006C + 0x1000 * n)) d) s = exec (.srExitRequest n) s)) ∧
  (∀ (s : State) (a : BitVec 24) (d : W32) (p : Page), target a.toNat = .page p 0x8 → writeWaits s = false →
    (p.hasLrst = true → natBit d.toNat 1 = true → exec (.registerWrite a d) s = exec (.localReset p) s) ∧
      (p ∈ [Page.tim, .caddy, .reg, .earc, .aport] → exec (.registerWrite a d) s = exec (.kaCtlWrite p d) s) ∧
      (bitsOf d 0 2 = 1 → (∀ n : Fin 3, p = .csi n → exec (.registerWrite a d) s = exec (.csiEnable n) s) ∧
      (∀ c : Fin 17, (c, p) ∈ [((8 : Fin 17), Page.isp), (13, .comp), (14, .hrx), (15, .htx), (16, .mpt)] →
      exec (.registerWrite a d) s = exec (.consumerEnable c) s)) ∧ (bitsOf d 0 2 = 0 →
      ∀ c : Fin 17, (c, p) ∈ [((8 : Fin 17), Page.isp), (13, .comp), (14, .hrx), (15, .htx), (16, .mpt)] →
      exec (.registerWrite a d) s = exec (.consumerDisable c) s))

/-- On an answering page with shadow registers and PENDING 0, COMMIT written 1: with GRP 0 and an allowed point other
than IMMEDIATE, PENDING is set and that point sampled, and no active copy moves; with IMMEDIATE every shadowed
field's active copy becomes its shadow at once, no other active copy moves, PENDING is 0 and STAMP takes MTIME's
low 32 bits, and no other register, but on TIM, CADDY, REG and STRN what those pages' own rules change with a
commit: Caddy recomputes eff, a changed policer's buckets are filled and others keep theirs, and no field of
another page moves; a second COMMIT while PENDING is 1 changes GRP and POINT alone and leaves the sampled point;
with GRP not 0 it records 0x0003 and requests nothing; with a point that is not allowed it records 0x0002 and the
stored point is the one sampled. -/
def Obligations.ShadowCommitRequestsOrApplies : Prop :=
  (∀ (s : State) (p : Page) (d : W32), s.live → s.answers p → p.hasShadow = true →
    s.get (HDR.PENDING p.base) = 0 → natBit d.toNat 0 = true → bitsOf d 8 3 = 0 →
    p.allows (bitsOf d 4 4) = true → bitsOf d 4 4 ≠ 0 →
    yields (.shadowCommit p d) s fun t => t.get (HDR.PENDING p.base) = 1 ∧
      t.get (HDR.POINT p.base) = bitsOf d 4 4 ∧ t.get (HDR.GRP p.base) = 0 ∧ awaits t p (bitsOf d 4 4) = true ∧
      s.regsBut t [HDR.PENDING p.base, HDR.POINT p.base, HDR.GRP p.base] ∧ t = { s with regs := t.regs, sys := t.sys }) ∧
  (∀ (s : State) (p : Page) (d : W32), s.live → s.regsOk → s.answers p → p.hasShadow = true →
    p ∉ [Page.tim, .caddy, .reg, .strn] → s.get (HDR.PENDING p.base) = 0 → natBit d.toNat 0 = true →
    bitsOf d 8 3 = 0 → bitsOf d 4 4 = 0 →
    yields (.shadowCommit p d) s fun t => t.get (HDR.PENDING p.base) = 0 ∧
      t.get (HDR.STAMP p.base) = s.mtime % 2 ^ 32 ∧ (∀ f : Fld, keyShadow p f.key = true → t.getA f = s.get f) ∧
      (∀ f : Fld, keyShadow p f.key = false → t.getA f = s.getA f) ∧
      s.regsBut t [HDR.PENDING p.base, HDR.POINT p.base, HDR.GRP p.base, HDR.STAMP p.base]) ∧
  (∀ (s : State) (p : Page) (d : W32), s.live → s.regsOk → s.answers p → p ∈ [Page.tim, .caddy, .reg, .strn] →
    s.get (HDR.PENDING p.base) = 0 → natBit d.toNat 0 = true → bitsOf d 8 3 = 0 → bitsOf d 4 4 = 0 →
    yields (.shadowCommit p d) s fun t => t.get (HDR.PENDING p.base) = 0 ∧
      t.get (HDR.STAMP p.base) = s.mtime % 2 ^ 32 ∧ (∀ f : Fld, keyShadow p f.key = true → t.getA f = s.get f) ∧
      (∀ f : Fld, keyShadow p f.key = false → t.getA f = s.getA f) ∧ (∀ f : Fld, keyIn p.base f.key = false →
      t.get f = s.get f) ∧ (p = .caddy → t.get CADDY.AVAIL_EFF = effNow t % 2 ^ (CADDY.AVAIL_EFF).w) ∧ (p = .strn →
      ∀ k < 64, SMap.get {} t.strn.buckets k = if (policerFields k).any (fun f =>
      s.getA f != s.get f) then { tc := s.get (STRN.CBS_BYTES k) * tokenUnit, tp := s.get (STRN.PBS_BYTES k) * tokenUnit, t := s.mtime } else SMap.get {} s.strn.buckets k) ∧
      t.dram = s.dram ∧ t.nvm = s.nvm) ∧
  (∀ (s : State) (p : Page) (d : W32), s.live → s.answers p → p.hasShadow = true →
    s.get (HDR.PENDING p.base) = 1 → p.allows (bitsOf d 4 4) = true →
    yields (.shadowCommit p d) s fun t => t.get (HDR.PENDING p.base) = 1 ∧ t.get (HDR.GRP p.base) = bitsOf d 8 3 ∧
      t.get (HDR.POINT p.base) = bitsOf d 4 4 ∧ s.only t [HDR.GRP p.base, HDR.POINT p.base]) ∧
  (∀ (s : State) (p : Page) (d : W32), s.live → s.answers p → p.hasShadow = true →
    s.get (HDR.PENDING p.base) = 0 → natBit d.toNat 0 = true → bitsOf d 8 3 ≠ 0 →
    p.allows (bitsOf d 4 4) = true →
    yields (.shadowCommit p d) s fun t => records p 0x0003 s t ∧ t.get (HDR.GRP p.base) = bitsOf d 8 3 ∧
      t.get (HDR.POINT p.base) = bitsOf d 4 4 ∧ s.only t (errFields p ++ [HDR.GRP p.base, HDR.POINT p.base])) ∧
  (∀ (s : State) (p : Page) (d : W32), s.live → s.answers p → p.hasShadow = true →
    s.get (HDR.PENDING p.base) = 0 → natBit d.toNat 0 = true → bitsOf d 8 3 = 0 →
    p.allows (bitsOf d 4 4) = false → s.get (HDR.POINT p.base) ≠ 0 →
    yields (.shadowCommit p d) s fun t => records p 0x0002 s t ∧
      t.get (HDR.POINT p.base) = s.get (HDR.POINT p.base) ∧ t.get (HDR.PENDING p.base) = 1 ∧
      awaits t p (s.get (HDR.POINT p.base)) = true)

/-- A release of one group with the point TOOTH, while none is pending: every member page not in reset with PENDING 0
that allows TOOTH becomes pending on the tooth and the group shows its release pending; a member that does not
allow TOOTH records 0x0005 and its PENDING stays; no active copy and neither memory moves then; with the point
IMMEDIATE every such member's active copies become its shadows at once, TIM, CADDY, REG and STRN among them, its
STAMP takes MTIME's low 32 bits and its PENDING is 0, and no release is left pending; pages of other groups keep
their PENDING, and their active copies there; neither memory moves. A release while the group's release is pending
does nothing. -/
def Obligations.GroupReleaseReachesItsIdleMembers : Prop :=
  (∀ (s : State) (d : W32) (g : Nat) (p : Page), s.live → 1 ≤ g → g ≤ 7 → d.toNat = 2 ^ g →
    groupPending s g = false → groupPoint s g = 3 → writeWaits s = false →
    yields (.groupRelease d) s fun t => t.act = s.act ∧ t.dram = s.dram ∧ t.nvm = s.nvm ∧ (p.hasShadow = true →
      s.held p = false → s.get (HDR.GRP p.base) = g → p.allows 3 = true → s.get (HDR.PENDING p.base) = 0 →
      t.get (HDR.PENDING p.base) = 1 ∧ awaits t p 3 = true ∧ groupPending t g = true) ∧ (s.get (HDR.GRP p.base) ≠ g →
      t.get (HDR.PENDING p.base) = s.get (HDR.PENDING p.base)) ∧ (p.hasShadow = true → s.held p = false →
      s.get (HDR.GRP p.base) = g → p.allows 3 = false → t.get (HDR.PENDING p.base) = s.get (HDR.PENDING p.base) ∧
      t.get (HDR.ISR_ERR p.base) = 1 ∧ records p 0x0005 s t)) ∧
  (∀ (s : State) (d : W32) (g : Nat) (p : Page), s.live → s.regsOk → 1 ≤ g → g ≤ 7 → d.toNat = 2 ^ g →
    groupPending s g = false → groupPoint s g = 0 → writeWaits s = false →
    yields (.groupRelease d) s fun t => t.dram = s.dram ∧ t.nvm = s.nvm ∧ groupPending t g = false ∧
      (p.hasShadow = true → s.held p = false → s.get (HDR.GRP p.base) = g → s.get (HDR.PENDING p.base) = 0 →
      t.get (HDR.PENDING p.base) = 0 ∧ t.get (HDR.STAMP p.base) = s.mtime % 2 ^ 32 ∧
      ∀ f : Fld, keyShadow p f.key = true → t.getA f = s.get f) ∧ (s.get (HDR.GRP p.base) ≠ g →
      t.get (HDR.PENDING p.base) = s.get (HDR.PENDING p.base) ∧ ∀ f : Fld, keyShadow p f.key = true →
      t.getA f = s.getA f)) ∧
  (∀ (s : State) (d : W32) (g : Nat), s.live → 1 ≤ g → g ≤ 7 → d.toNat = 2 ^ g → groupPending s g = true →
    writeWaits s = false →
    exec (.groupRelease d) s = .next s)

/-- An edge source that its block has fired becomes pending and its edge is consumed; a level source newly seen
asserted while it is not in service becomes pending; while it is in service the assertion is seen but sets
nothing; an input that has not newly asserted changes nothing. -/
def Obligations.SourceAssertionSetsPend : Prop :=
  (∀ (s : State) (i : Fin 256), s.live → isEdge i = true → i.val ∈ s.intc.edges →
    yields (.intcSourceAssert i) s fun t => t.get (INTC.PEND i) = 1 ∧ s.regsBut t [INTC.PEND i] ∧
      t = { s with regs := t.regs, intc := { s.intc with edges := s.intc.edges.erase i } }) ∧
  (∀ (s : State) (i : Fin 256), s.live → isEdge i = false → levelLine s i = true → i.val ∉ s.intc.seen →
    s.bit (INTC.INSVC i) = false →
    yields (.intcSourceAssert i) s fun t => t.get (INTC.PEND i) = 1 ∧ i.val ∈ t.intc.seen ∧
      s.regsBut t [INTC.PEND i] ∧ t = { s with regs := t.regs, intc := { s.intc with seen := t.intc.seen } }) ∧
  (∀ (s : State) (i : Fin 256), s.live → isEdge i = false → levelLine s i = true → i.val ∉ s.intc.seen →
    s.bit (INTC.INSVC i) = true →
    yields (.intcSourceAssert i) s fun t => i.val ∈ t.intc.seen ∧
      t = { s with intc := { s.intc with seen := t.intc.seen } }) ∧
  (∀ (s : State) (i : Fin 256), s.live → sourceDue s i = false →
    exec (.intcSourceAssert i) s = .next s)

/-- SETPENDk sets PEND of each source whose bit is 1, except a level source that is in service, whose PEND keeps its
value, as its own assertion would; CLRPENDk clears PEND of each source whose bit is 1; no other register and
nothing else changes. -/
def Obligations.SetpendAndClrpendActOnTheNamedSources : Prop :=
  (∀ (s : State) (k : Fin 8) (d : W32), s.live → writeWaits s = false →
    yields (.setpend k d) s fun t => (∀ b < 32, natBit d.toNat b = true → (isEdge (32 * k.val + b) = true ∨
      s.bit (INTC.INSVC (32 * k.val + b)) = false) → t.get (INTC.PEND (32 * k.val + b)) = 1) ∧
      (∀ b < 32, natBit d.toNat b = true → isEdge (32 * k.val + b) = false →
      s.bit (INTC.INSVC (32 * k.val + b)) = true →
      t.get (INTC.PEND (32 * k.val + b)) = s.get (INTC.PEND (32 * k.val + b))) ∧
      s.only t (((List.range 32).filter fun b => natBit d.toNat b).map fun b => INTC.PEND (32 * k.val + b))) ∧
  (∀ (s : State) (k : Fin 8) (d : W32), s.live → writeWaits s = false →
    yields (.clrpend k d) s fun t => (∀ b < 32, natBit d.toNat b = true → t.get (INTC.PEND (32 * k.val + b)) = 0) ∧
      s.only t (((List.range 32).filter fun b => natBit d.toNat b).map fun b => INTC.PEND (32 * k.val + b)))

/-- Of the sources eligible on a target (PEND and ENABLE 1, INSVC 0, routed to it) the lowest numbered is delivered:
PEND cleared, INSVC set, and on a vector one message sent; nothing else changes. A masked vector, a vector of a
function that is masked or whose MSI-X is not enabled, and a target with no eligible source, deliver nothing. That
a function whose MSI-X is not enabled sends no message is PCI Express's, not the manual's (log entry 5). -/
def Obligations.DeliveryTakesTheLowestEligibleSource : Prop :=
  (∀ (s : State) (g : Fin 35) (i : Fin 256), s.live → eligibleOn s g i = true →
    (∀ j < i.val, eligibleOn s g j = false) →
    (g.val < 32 → s.get (INTC.MSIXCTL_MASK g) = 0 ∧ s.hif.cfg.funcMask = false ∧ s.hif.cfg.msixEn = true) →
    yields (.intcDeliver g) s fun t => t.get (INTC.PEND i) = 0 ∧ t.get (INTC.INSVC i) = 1 ∧
      s.regsBut t [INTC.PEND i, INTC.INSVC i] ∧
      t = { s with regs := t.regs, intc := { s.intc with msix := s.intc.msix ++ if g.val < 32 then [g.val] else [] } }) ∧
  (∀ (s : State) (g : Fin 35), s.live → g.val < 32 →
    (s.get (INTC.MSIXCTL_MASK g) = 1 ∨ s.hif.cfg.funcMask = true ∨ s.hif.cfg.msixEn = false) →
    exec (.intcDeliver g) s = .next s) ∧
  (∀ (s : State) (g : Fin 35), s.live → (∀ i < 256, eligibleOn s g i = false) →
    exec (.intcDeliver g) s = .next s)

/-- An EOI of a source in service clears INSVC; a level source still asserted becomes pending again, any other
source's PEND is as before; an EOI of a source that is not in service records 0x0100 on INTC and changes nothing
else. -/
def Obligations.EoiEndsServiceAndSamplesAgain : Prop :=
  (∀ (s : State) (d : W32), s.live → s.bit (INTC.INSVC (bitsOf d 0 8)) = true → isEdge (bitsOf d 0 8) = false →
    levelLine s (bitsOf d 0 8) = true → writeWaits s = false →
    yields (.eoi d) s fun t => t.get (INTC.INSVC (bitsOf d 0 8)) = 0 ∧ t.get (INTC.PEND (bitsOf d 0 8)) = 1 ∧
      s.regsBut t [INTC.INSVC (bitsOf d 0 8), INTC.PEND (bitsOf d 0 8)] ∧
      t = { s with regs := t.regs, intc := { s.intc with seen := t.intc.seen } }) ∧
  (∀ (s : State) (d : W32), s.live → s.bit (INTC.INSVC (bitsOf d 0 8)) = true →
    (isEdge (bitsOf d 0 8) = true ∨ levelLine s (bitsOf d 0 8) = false) → writeWaits s = false →
    yields (.eoi d) s fun t => t.get (INTC.INSVC (bitsOf d 0 8)) = 0 ∧ s.only t [INTC.INSVC (bitsOf d 0 8)]) ∧
  (∀ (s : State) (d : W32), s.live → s.bit (INTC.INSVC (bitsOf d 0 8)) = false → writeWaits s = false →
    yields (.eoi d) s fun t => records .intc 0x0100 s t ∧ s.only t (errFields .intc))

/-- RSTCMD with KIND 2 and its key, RESET_N low, VDD_AON low, XO loss and main-PLL lock loss each leave every register
but RSTCAUSE at its reset value, exactly one cause set, the root stopped and the core held, and the MRAM, the
fuses and the queue as they were; a CHIP reset begins its 1 ms hold and ends every unsupported condition; XO loss
and lock loss are recorded as such. A RSTCMD with a wrong key records 0x0102 and does nothing else. VDD_AON low
within a PORESET's own sequence starts no second one, and its cause stays (R69). That DRAM then reads 0 everywhere
is the model's reading of lost contents (log entry 6). -/
def Obligations.WideResetsRestoreEverything : Prop :=
  (∀ (s : State), s.sys.coreUp = true →
    ∀ b : Bool, yields (.rstcmdChip 0xC3A5 b) s fun t => restored SYS.RSTCAUSE_CHIP s t ∧ t.sys.chipHold = true ∧
      t.sys.xoOk = s.sys.xoOk ∧ t.sys.resetN = s.sys.resetN) ∧
  (∀ (s : State) (key : BitVec 16) (b : Bool), s.live → key ≠ 0xC3A5 → writeWaits s = false →
    yields (.rstcmdChip key b) s fun t => records .sys 0x0102 s t ∧ s.only t (errFields .sys)) ∧
  (∀ (s : State),
    yields .vddAonLow s fun t => restored SYS.RSTCAUSE_POR s t ∧ t.sys.por = true ∧ t.sys.xoOk = false ∧
      t.sys.porCause = if s.sys.seq = 4 then s.sys.porCause else 0) ∧
  (∀ (s : State), s.sys.xoOk = true →
    yields .xoLoss s fun t => restored SYS.RSTCAUSE_POR s t ∧ t.sys.xoOk = false ∧ t.sys.porCause = 1) ∧
  (∀ (s : State), s.sys.xoOk = true → s.sys.pll = true →
    yields .pllLockLoss s fun t => restored SYS.RSTCAUSE_POR s t ∧ t.sys.xoOk = false ∧ t.sys.porCause = 2) ∧
  (∀ (s : State), s.sys.resetN = true → s.sys.seq ≠ 4 →
    yields .resetNLow s fun t => restored SYS.RSTCAUSE_PIN s t ∧ t.sys.resetN = false ∧ t.sys.xoOk = s.sys.xoOk) ∧
  (∀ (s : State), s.sys.resetN = true → s.sys.seq = 4 →
    yields .resetNLow s fun t => restored SYS.RSTCAUSE_POR s t ∧ t.sys.resetN = false)

/-- RSTCMD with KIND 1 and its key, and a watchdog expiry with ACTION 0 after a kick, leave every core-domain register
at its reset value with one cause set, set KEPT on the five KA pages, return every grant, and keep REG, the
watchdog's configuration, the media clock, the MRAM and the fuses. An expiry with ACTION 1, or after a watchdog
SERVICE reset without a kick since, is a CHIP reset with the cause WDCHIP. A command that meets an expiry of the
watchdog in its cycle is recorded as the command, unless the expiry performs the wider CHIP reset (R69). A wrong
key records 0x0102; an expiry that is not due does nothing. -/
def Obligations.ServiceResetKeepsTheKaDomain : Prop :=
  (∀ (s : State), s.kaLive → s.sys.coreUp = true → writeWaits s = false →
    yields (.rstcmdService 0x5A3C false) s fun t => serviced SYS.RSTCAUSE_SVC s t) ∧
  (∀ (s : State), s.kaLive → s.sys.coreUp = true → wdogDue s = true → writeWaits s = false →
    (s.bit SYS.WDOG_CTL_ACTION = false → s.sys.wdSvc = false → yields (.rstcmdService 0x5A3C true) s fun t =>
      serviced SYS.RSTCAUSE_SVC s t) ∧ (s.bit SYS.WDOG_CTL_ACTION = true ∨ s.sys.wdSvc = true →
      yields (.rstcmdService 0x5A3C true) s fun t => restored SYS.RSTCAUSE_WDCHIP s t)) ∧
  (∀ (s : State) (key : BitVec 16) (b : Bool), s.live → key ≠ 0x5A3C → writeWaits s = false →
    yields (.rstcmdService key b) s fun t => records .sys 0x0102 s t ∧ s.only t (errFields .sys)) ∧
  (∀ (s : State), s.kaLive → wdogDue s = true → s.bit SYS.WDOG_CTL_ACTION = false → s.sys.wdSvc = false →
    yields .wdogExpiry s fun t => serviced SYS.RSTCAUSE_WDSVC s t ∧ t.sys.wdSvc = true) ∧
  (∀ (s : State), wdogDue s = true → (s.bit SYS.WDOG_CTL_ACTION = true ∨ s.sys.wdSvc = true) →
    yields .wdogExpiry s fun t => restored SYS.RSTCAUSE_WDCHIP s t ∧ t.sys.chipHold = true) ∧
  (∀ (s : State), s.kaLive → wdogDue s = false →
    exec .wdogExpiry s = .next s)

/-- The release of PORESET, the rise of RESET_N and the end of the CHIP hold lift their hold and change nothing else,
but that the rails which the manual has up by then are counted as up (VDD_AON at the release of PORESET, every
rail at RESET_N's rise, VDDA_1V8 at XO_OK; R387, log entry 8); XO_OK is taken while PORESET is not held, at a
swing above 250 mV; the main PLL's lock, with nothing holding boot, starts the root, REG's soft-start on phase 0
from the voltage on the rail, and MTIME from 0; the core is released once the root runs and REG reports power
good, with CODE 0x01, PCI Express training begun where PERST_N is high, and every level source found asserted
pending; the end of a SERVICE hold releases it the same way. -/
def Obligations.BootReleasesFollowTheirConditions : Prop :=
  (∀ (s : State),
    exec .poresetRelease s = .next { s with sys := { s.sys with por := false, off := s.sys.off.filter (· != .vddAon) } } ∧
      exec .resetNRise s = .next { s with sys := { s.sys with resetN := true, off := [] } } ∧
      exec .chipHoldEnd s = .next { s with sys := { s.sys with chipHold := false } }) ∧
  (∀ (s : State) (mv : Nat), s.sys.por = false → 250 < mv →
    exec (.xoOk mv) s = .next { s with sys := { s.sys with xoOk := true, swing := mv, off := s.sys.off.filter (· != .vdda1v8) } }) ∧
  (∀ (s : State) (mv : Nat), (s.sys.por = true ∨ mv ≤ 250) →
    exec (.xoOk mv) s = .next s) ∧
  (∀ (s : State) (v : Nat), s.sys.xoOk = true → s.sys.resetN = true → s.sys.por = false → s.sys.chipHold = false →
    s.sys.pll = false →
    yields (.pllLock v) s fun t => t.sys = { s.sys with pll := true } ∧ t.mtime = 0 ∧ t.get REG.STS_STATE = 1 ∧
      t.get REG.STS_PG = 0 ∧ t.get REG.STS_NPH = 1 ∧ t.get REG.STS_BUSY = 1 ∧ t.reg.ramp = v * uvUnit ∧
      t.dram = s.dram ∧ t.nvm = s.nvm ∧ (∀ f : Fld, keyIn 0x5000 f.key = false → t.get f = s.get f)) ∧
  (∀ (s : State), s.kaLive → s.bit REG.STS_PG = true → s.sys.svcHold = false → s.sys.coreUp = false →
    yields .coreRelease s fun t => t.sys = { s.sys with coreUp := true, seq := 0 } ∧
      t.get SYS.BOOT_STATUS_CODE = 1 ∧ t.get SYS.BOOT_STATUS_DETAIL = 0 ∧
      t.get HIF.STS_STATE = (if s.sys.perstN then 1 else 0) ∧ (∀ i < 58, isEdge i = false → levelLine s i = true →
      t.get (INTC.PEND i) = 1) ∧ (∀ i < 58, isEdge i = false → levelLine s i = false →
      t.get (INTC.PEND i) = s.get (INTC.PEND i)) ∧
      (∀ p ∈ [Page.tim, .caddy, .reg, .earc, .aport, .clk, .store, .upd, .mbx, .csch], ∀ f : Fld, keyIn p.base f.key = true →
      t.get f = s.get f) ∧ t.dram = s.dram ∧ t.nvm = s.nvm ∧ t.act = s.act) ∧
  (∀ (s : State), s.kaLive → s.bit REG.STS_PG = true → s.sys.svcHold = true → s.sys.coreUp = false →
    yields .serviceHoldEnd s fun t => t.sys = { s.sys with svcHold := false, coreUp := true, seq := 0 } ∧
      t.get SYS.BOOT_STATUS_CODE = 1 ∧ t.mtime = s.mtime ∧ t.reg = s.reg ∧ t.nvm = s.nvm)

/-- A kick with the key restarts the count of an enabled watchdog and is remembered as one since the last watchdog
SERVICE reset; any other key records 0x0102. A write of WDOG_CTL stores TIMEOUT, ACTION and EN and restarts the
count where EN is left at 1. A CLK.DIV write with a field below its minimum records 0x0100 and changes nothing; an
accepted one that satisfies the ratio rules and has its voltage begins a change with BUSY and SWITCH shown, and
during one waits, in place of a write that waits already, while BUSY, STATE and DIVSTS stand; DIVDONE shows the
dividers in use, sets ISR.DIVDONE and ends BUSY or begins the change that waited. A swing measured below 200 mV
sets XOLOW; every measured swing is the one that PLLSTS shows. -/
def Obligations.WatchdogAndDividersTakeTheirWrites : Prop :=
  (∀ (s : State) (d : W32), s.live → bitsOf d 0 16 = 0x6B1D → writeWaits s = false →
    exec (.wdogKick d) s = .next { s with sys := { s.sys with wdSvc := false, wdog := if s.bit SYS.WDOG_CTL_EN then s.mtime else s.sys.wdog } }) ∧
  (∀ (s : State) (d : W32), s.live → bitsOf d 0 16 ≠ 0x6B1D → writeWaits s = false →
    yields (.wdogKick d) s fun t => records .sys 0x0102 s t ∧ s.only t (errFields .sys)) ∧
  (∀ (s : State) (d : W32), s.live → writeWaits s = false →
    yields (.wdogCtlWrite d) s fun t => t.get SYS.WDOG_CTL_TIMEOUT = bitsOf d 16 16 ∧
      t.get SYS.WDOG_CTL_ACTION = bitsOf d 4 1 ∧ t.get SYS.WDOG_CTL_EN = bitsOf d 0 1 ∧
      s.regsBut t [SYS.WDOG_CTL_TIMEOUT, SYS.WDOG_CTL_ACTION, SYS.WDOG_CTL_EN] ∧
      t = { s with regs := t.regs, sys := { s.sys with wdog := if bitsOf d 0 1 = 1 then s.mtime else s.sys.wdog } }) ∧
  (∀ (s : State) (d : W32), s.live → divMin d.toNat = false → writeWaits s = false →
    yields (.clkDivWrite d) s fun t => records .clk 0x0100 s t ∧ s.only t (errFields .clk)) ∧
  (∀ (s : State) (d : W32), s.live → divMin d.toNat = true → divRatio d.toNat = true →
    divSupply s d.toNat = true → s.sys.divNow = none → writeWaits s = false →
    yields (.clkDivWrite d) s fun t => t.get CLK.DIV_CELL = bitsOf d 0 8 ∧ t.get CLK.DIV_ISP = bitsOf d 8 8 ∧
      t.get CLK.DIV_FAB = bitsOf d 16 8 ∧ t.get CLK.DIV_PER = bitsOf d 24 8 ∧ t.get CLK.STS_BUSY = 1 ∧
      t.get CLK.STS_STATE = 1 ∧ t = { s with regs := t.regs, sys := { s.sys with divNow := some d.toNat } } ∧
      s.regsBut t [CLK.DIV_CELL, CLK.DIV_ISP, CLK.DIV_FAB, CLK.DIV_PER, CLK.STS_BUSY, CLK.STS_STATE]) ∧
  (∀ (s : State) (d : W32) (v : Nat), s.live → divMin d.toNat = true → divRatio d.toNat = true →
    divSupply s d.toNat = true → s.sys.divNow = some v → writeWaits s = false →
    yields (.clkDivWrite d) s fun t => t.get CLK.DIV_CELL = bitsOf d 0 8 ∧ t.get CLK.DIV_ISP = bitsOf d 8 8 ∧
      t.get CLK.DIV_FAB = bitsOf d 16 8 ∧ t.get CLK.DIV_PER = bitsOf d 24 8 ∧
      t = { s with regs := t.regs, sys := { s.sys with divNext := some d.toNat } } ∧
      s.regsBut t [CLK.DIV_CELL, CLK.DIV_ISP, CLK.DIV_FAB, CLK.DIV_PER]) ∧
  (∀ (s : State) (v : Nat), s.live → s.sys.divNow = some v →
    yields .divdone s fun t => t.get CLK.DIVSTS_CELL = v % 256 ∧ t.get CLK.DIVSTS_ISP = v / 2 ^ 8 % 256 ∧
      t.get CLK.DIVSTS_FAB = v / 2 ^ 16 % 256 ∧ t.get CLK.DIVSTS_PER = v / 2 ^ 24 % 256 ∧ t.get CLK.ISR_DIVDONE = 1 ∧
      t.sys = { s.sys with divNow := s.sys.divNext, divNext := none } ∧ (s.sys.divNext = none →
      t.get CLK.STS_BUSY = 0 ∧ t.get CLK.STS_STATE = 0) ∧ (s.sys.divNext ≠ none →
      t.get CLK.STS_BUSY = s.get CLK.STS_BUSY ∧ t.get CLK.STS_STATE = s.get CLK.STS_STATE) ∧
      s.regsBut t [CLK.DIVSTS_CELL, CLK.DIVSTS_ISP, CLK.DIVSTS_FAB, CLK.DIVSTS_PER, CLK.ISR_DIVDONE, CLK.STS_BUSY, CLK.STS_STATE]) ∧
  (∀ (s : State) (mv : Nat), s.live →
    (mv < 200 → yields (.xolow mv) s fun t => t.get CLK.ISR_XOLOW = 1 ∧ s.regsBut t [CLK.ISR_XOLOW] ∧
      t = { s with regs := t.regs, sys := { s.sys with swing := mv } }) ∧ (200 ≤ mv →
      exec (.xolow mv) s = .next { s with sys := { s.sys with swing := mv } }))

/-- On an answering page with LRST_SUP, LRST puts the page in reset, also while another page is in one (the model's
choice, log entry 34), with every field and active copy of it at the reset value, DRAM, the MRAM and RSTCAUSE
untouched. When a local reset ends the page answers again, and each write that came meanwhile records 0x0004. A
CELL reset returns the cell's grant, clears its FENCED bit as it begins (the model's reading of R77 and R270, log
entry 16) and shows RELOAD; its strip counts as a fault: one in WAIT goes back, one in RUN is re-issued where it
fits before the deadline, else an encode strip is concealed with 0x0105 of CSCH; the end of its reload leaves the
cell IDLE with the loaded store, or FENCED where a word of it is not clean or the digest differs; only the reload
under way can end, and reloads run one at a time. A write of CTL on CADDY or REG clears KEPT and nothing else. -/
def Obligations.LocalAndCellResetsRestoreTheirPage : Prop :=
  (∀ (s : State) (p : Page), s.live → s.answers p → p.hasLrst = true → (∀ n : Fin 8, p ≠ .cell n) →
    yields (.localReset p) s fun t => t.held p = true ∧ (∀ f : Fld, keyIn p.base f.key = true → t.get f = f.rst ∧
      t.getA f = f.rst) ∧ t.dram = s.dram ∧ t.nvm = s.nvm ∧ (∀ f ∈ rstCauses, t.get f = s.get f) ∧ t.mtime = s.mtime) ∧
  (∀ (s : State) (p : Page), s.live → p ∉ (List.finRange 8).map Page.cell → s.held p = true →
    yields (.localResetDone p) s fun t => t.held p = false ∧ (p.base ∉ s.sys.lateWr → t.regs = s.regs) ∧
      (p.base ∈ s.sys.lateWr → s.get (HDR.EFIRST_VALID p.base) = 0 → t.get (HDR.EFIRST_SRC p.base) = 4 ∧
      t.get (HDR.EFIRST_VALID p.base) = 1 ∧ t.get (HDR.ISR_ERR p.base) = 1) ∧ s.regsBut t (errFields p)) ∧
  (∀ (s : State) (n : Fin 8), s.live → s.answers (.cell n) → (s.cell n).job = none →
    yields (.cellReset n) s fun t => t.held (.cell n) = true ∧ t.get (CELL.STS_STATE n) = 4 ∧
      holdsGrant t n = false ∧ waitsGrant t n = false ∧ natBit (t.get CSCH.CELLMASK_FENCED) n = false ∧
      t.dram = s.dram ∧ (∀ k < 8, k ≠ n.val →
      natBit (t.get CSCH.CELLMASK_FENCED) k = natBit (s.get CSCH.CELLMASK_FENCED) k)) ∧
  (∀ (s : State) (n : Fin 8) (u : List (Fin 8192 × CsWord)), s.live → s.held (.cell n) = true →
    s.sys.reload = some n.val →
    (storePasses s (loadedStore s u) = true → yields (.cellReloadDone n u) s fun t => t.held (.cell n) = false ∧
      t.get (CELL.STS_STATE n) = 0 ∧ t.cell n = { store := loadedStore s u, loaded := true }) ∧
      (storePasses s (loadedStore s u) = false → yields (.cellReloadDone n u) s fun t => t.held (.cell n) = false ∧
      t.get (CELL.STS_STATE n) = 3 ∧ natBit (t.get CSCH.CELLMASK_FENCED) n = true ∧
      t.get (HDR.ISR_ERR (Page.base (.cell n))) = 1)) ∧
  (∀ (s : State) (n : Fin 8) (u : List (Fin 8192 × CsWord)), s.live → s.sys.reload ≠ some n.val →
    exec (.cellReloadDone n u) s = .next s) ∧
  (∀ (s : State) (d : W32), s.live →
    (s.answers .caddy → yields (.kaCtlWrite .caddy d) s fun t => t.get CADDY.STS_KEPT = 0 ∧
      s.only t [CADDY.STS_KEPT]) ∧ (s.answers .reg → yields (.kaCtlWrite .reg d) s fun t => t.get REG.STS_KEPT = 0 ∧
      s.only t [REG.STS_KEPT]) ∧ (s.answers .tim → yields (.kaCtlWrite .tim d) s fun t => t.get TIM.STS_KEPT = 0 ∧
      t.get TIM.CTL_EN = bitsOf d 0 1) ∧ (s.answers .aport → yields (.kaCtlWrite .aport d) s fun t =>
      t.get APORT.STS_KEPT = 0) ∧ (s.answers .earc → yields (.kaCtlWrite .earc d) s fun t =>
      t.get EARC.STS_KEPT = 0 ∧ t.get EARC.CTL_EN = bitsOf d 0 1)) ∧
  (∀ (s : State) (n : Fin 8) (num j : Nat) (f : Frame) (x : Strip), s.live → s.answers (.cell n) →
    (s.get (CELL.STS_STATE n) = 1 ∨ s.get (CELL.STS_STATE n) = 2) → (s.cell n).job = some (num, j) →
    frameOf s num = some f → f.strips[j]? = some x → f.endT = none → x.conceal = false → x.st = 1 →
    yields (.cellReset n) s fun t => t.held (.cell n) = true ∧ t.get (CELL.STS_STATE n) = 4 ∧
      (t.cell n).job = none ∧ holdsGrant t n = false ∧ waitsGrant t n = false ∧
      t.get CSCH.FAULTCNT_COUNT = (s.get CSCH.FAULTCNT_COUNT + 1) % 2 ^ (CSCH.FAULTCNT_COUNT).w ∧
      (s.get (CELL.STS_STATE n) = 1 → (frameOf t num).map (fun g =>
      (g.strips[j]?, g.rflags)) = some (some { x with st := 0 }, f.rflags) ∧
      t.get CSCH.REISSUECNT_COUNT = s.get CSCH.REISSUECNT_COUNT ∧
      t.get CSCH.CONCEALCNT_COUNT = s.get CSCH.CONCEALCNT_COUNT) ∧ (s.get (CELL.STS_STATE n) = 2 →
      s.mtime + (x.estS * 5 + 3) / 4 ≤ f.deadline → (frameOf t num).map (fun g =>
      (g.strips[j]?, g.rflags)) = some (some { x with st := 0, reissue := true, parsed := false }, f.rflags ||| 4) ∧
      t.get CSCH.REISSUECNT_COUNT = (s.get CSCH.REISSUECNT_COUNT + 1) % 2 ^ (CSCH.REISSUECNT_COUNT).w ∧
      t.get CSCH.CONCEALCNT_COUNT = s.get CSCH.CONCEALCNT_COUNT) ∧ (s.get (CELL.STS_STATE n) = 2 →
      f.deadline < s.mtime + (x.estS * 5 + 3) / 4 → f.op = 1 → (frameOf t num).map (fun g =>
      (g.strips[j]?, g.rflags)) = some (some { x with st := 0, conceal := true, reissue := false }, f.rflags ||| 1) ∧
      t.get CSCH.CONCEALCNT_COUNT = (s.get CSCH.CONCEALCNT_COUNT + 1) % 2 ^ (CSCH.CONCEALCNT_COUNT).w ∧
      records .csch 0x0105 s t ∧ t.get CSCH.REISSUECNT_COUNT = s.get CSCH.REISSUECNT_COUNT))

/-- At CODE 0x02 without a valid copy of the boot record boot stops at 0xE1; with a copy that is not on trial the
active slot goes to verification with CODE 0x03. A trial goes there too: without a write where its CONFIRM record
is found, else with a copy that counts one more try; after three tries the other slot goes there, with a copy that
reverts to it. A slot that verifies starts Utilior at CODE 0x04, with its factory data found good or bad (a record
that fails its CRC or has an uncorrectable line is bad; a tick then shows 0xE4 and no journal scan runs); one that
does not sends the other to verification, and at the second failure boot stops at 0xE2 with both slots named. The
journal scan shows CODE 0x05, the head behind the record with the highest SEQ and the SEQ after it, the free
segments, the live set, what its schemas make of SETSTS, and UPD in TRIAL, REVERTED, RECEIVED or IDLE by the newer
copy and the tag, with SLOTS. Training shows CODE 0x07, or 0xE3 with the failed channels. The microcode's load
shows READY, with every cell that failed its check fenced and the watchdog's count restarted. -/
def Obligations.BootStepsShowTheirCodes : Prop :=
  (∀ (s : State) (e : StoreEnv), s.live → s.get SYS.BOOT_STATUS_CODE = 2 → newerCopy (s.meetStore e) = none →
    yields (.bootRecordSelect e) s fun t => t.get SYS.BOOT_STATUS_CODE = 0xE1 ∧ t.get SYS.BOOT_STATUS_DETAIL = 0 ∧
      t.nvm.recovery = true ∧ t.nvm.mram = s.nvm.mram ∧ t.dram = s.dram) ∧
  (∀ (s : State) (e : StoreEnv) (b : BootRec), s.live → s.get SYS.BOOT_STATUS_CODE = 2 →
    newerCopy (s.meetStore e) = some b → b.trial = false →
    yields (.bootRecordSelect e) s fun t => t.get SYS.BOOT_STATUS_CODE = 3 ∧
      t.get SYS.BOOT_STATUS_DETAIL = b.active ∧ t.sys.bootSlot = b.active ∧ t.sys.bootFallback = false ∧
      t.nvm.mram = s.nvm.mram ∧ t.dram = s.dram) ∧
  (∀ (s u : State) (e : StoreEnv) (b : BootRec) (c : Nat), s.live → s.get SYS.BOOT_STATUS_CODE = 2 →
    u = s.meetStore e → e.cut = none → newerCopy u = some b → b.trial = true →
    (c = if newerIndex u = some 0 then 1 else 0) →
    (confirmed u b = true → yields (.bootRecordSelect e) s fun t => t.get SYS.BOOT_STATUS_CODE = 3 ∧
      t.get SYS.BOOT_STATUS_DETAIL = b.active ∧ t.sys.bootSlot = b.active ∧ t.nvm.mram = s.nvm.mram) ∧
      (confirmed u b = false → b.tries < 3 → yields (.bootRecordSelect e) s fun t => t.get SYS.BOOT_STATUS_CODE = 3 ∧
      t.get SYS.BOOT_STATUS_DETAIL = b.active ∧ t.sys.bootSlot = b.active ∧
      t.mramRead (0x8000 * c) 64 = bootLine { b with seq := (b.seq + 1) % 2 ^ 32, tries := b.tries + 1 } ∧
      (∀ a : Nat, a < 0x8000 * c ∨ 0x8000 * c + 64 ≤ a → t.mramRead a 1 = s.mramRead a 1)) ∧ (confirmed u b = false →
      3 ≤ b.tries → yields (.bootRecordSelect e) s fun t => t.get SYS.BOOT_STATUS_CODE = 3 ∧
      t.get SYS.BOOT_STATUS_DETAIL = 1 - b.active ∧ t.sys.bootSlot = 1 - b.active ∧
      t.mramRead (0x8000 * c) 64 = bootLine { b with seq := (b.seq + 1) % 2 ^ 32, active := 1 - b.active, trial := false, rvt := true } ∧
      (∀ a : Nat, a < 0x8000 * c ∨ 0x8000 * c + 64 ≤ a → t.mramRead a 1 = s.mramRead a 1))) ∧
  (∀ (s : State) (e : StoreEnv) (ok : Bool), s.live → s.get SYS.BOOT_STATUS_CODE = 3 → e.cut = none →
    yields (.bootVerifyDone e ok) s fun t => (verifyImage (s.meetStore e) s.sys.bootSlot = 0 →
      t.get SYS.BOOT_STATUS_CODE = 4 ∧ t.sys.factoryBad = (!ok || lineBad (s.meetStore e) factoryAddr factoryLen) ∧
      t.nvm.running = s.sys.bootSlot) ∧ (verifyImage (s.meetStore e) s.sys.bootSlot ≠ 0 →
      s.sys.bootFallback = false → t.get SYS.BOOT_STATUS_CODE = 3 ∧ t.sys.bootSlot = 1 - s.sys.bootSlot ∧
      t.sys.bootFallback = true ∧ t.nvm.mram = s.nvm.mram) ∧ (verifyImage (s.meetStore e) s.sys.bootSlot ≠ 0 →
      s.sys.bootFallback = true → t.get SYS.BOOT_STATUS_CODE = 0xE2 ∧ t.get SYS.BOOT_STATUS_DETAIL = 3 ∧
      t.nvm.recovery = true ∧ t.nvm.mram = s.nvm.mram)) ∧
  (∀ (s : State) (e : StoreEnv), s.live → s.get SYS.BOOT_STATUS_CODE = 4 → s.sys.factoryBad = true →
    yields (.journalScan e) s fun t => t.get SYS.BOOT_STATUS_CODE = 4 ∧ t.nvm.mram = s.nvm.mram ∧ t.dram = s.dram) ∧
  (∀ (s : State) (e : StoreEnv), s.live → s.get SYS.BOOT_STATUS_CODE = 4 → s.sys.factoryBad = false →
    e.cut = none →
    yields (.journalScan e) s fun t => t.get SYS.BOOT_STATUS_CODE = 5 ∧ t.get SYS.BOOT_STATUS_DETAIL = 0 ∧
      t.dram = s.dram) ∧
  (∀ (s u : State) (e : StoreEnv) (b : BootRec), s.live → s.get SYS.BOOT_STATUS_CODE = 4 →
    s.sys.factoryBad = false → e.cut = none → u = s.meetStore e → newerCopy u = some b → confirmed u b = false →
    (b.trial = true ∨ settingsState u ≠ 2) →
    yields (.journalScan e) s fun t => t.get SYS.BOOT_STATUS_CODE = 5 ∧ t.nvm.mram = s.nvm.mram ∧
      t.nvm.svn = s.nvm.svn ∧
      t.get UPD.STS_STATE = (if b.trial then 6 else if b.rvt then 8 else if slotPending u (1 - b.active) then 2 else 0) ∧
      t.get UPD.SLOTS_ACTIVE = b.active % 2 ∧ t.get UPD.SLOTS_TRIAL = b.trial.toNat ∧
      t.get UPD.SLOTS_RVT = b.rvt.toNat ∧ t.get UPD.SLOTS_TRIES = b.tries % 2 ^ (UPD.SLOTS_TRIES).w ∧
      t.get UPD.SLOTS_PEND = (slotPending u (1 - b.active)).toNat ∧ t.get STORE.SETSTS_STATE = settingsState u ∧
      t.get STORE.SETSTS_SCHEMA = schemaOut u % 2 ^ (STORE.SETSTS_SCHEMA).w ∧
      t.get STORE.LIVE_BYTES = recBytes (liveSet u) % 2 ^ (STORE.LIVE_BYTES).w ∧
      t.get STORE.JSTS_FREE = freeSegs u % 2 ^ (STORE.JSTS_FREE).w ∧ (allRecs u = [] → t.nvm.nextSeq = 1) ∧
      (∀ r ∈ (newestRec (allRecs u)).toList, t.nvm.nextSeq = r.seq + 1 ∧ ((r.line + r.lines) % 1024 ≠ 0 →
      t.get STORE.JSTS_HEAD = (r.line + r.lines) % 49152))) ∧
  (∀ (s : State) (rate dens : Nat) (tmg0 tmg1 : W32) (chans : List TrainChan), s.live →
    s.get SYS.BOOT_STATUS_CODE = 6 →
    yields (.dramTrainingDone rate dens tmg0 tmg1 chans) s fun t => ((∀ n < 4, chanPasses chans n = true) →
      t.get SYS.BOOT_STATUS_CODE = 7 ∧ t.get SYS.BOOT_STATUS_DETAIL = 0 ∧ ∀ n < 8, t.get (CELL.STS_STATE n) = 4) ∧
      ((¬ ∀ n < 4, chanPasses chans n = true) → t.get SYS.BOOT_STATUS_CODE = 0xE3 ∧
      (∀ n < 4, natBit (t.get SYS.BOOT_STATUS_DETAIL) n = !chanPasses chans n)) ∧
      (∀ n < 4, chanPasses chans n = false → dmcState t n = 5) ∧ (∀ n < 4, t.get (DMC.CFG_RATE n) = rate % 16 ∧
      t.get (DMC.CFG_DENS n) = dens % 16) ∧ t.dram = s.dram ∧ t.nvm = s.nvm) ∧
  (∀ (s : State) (u : List (Fin 8 × Fin 8192 × CsWord)), s.live → s.get SYS.BOOT_STATUS_CODE = 7 →
    yields (.microcodeLoadDone u) s fun t => t.get SYS.BOOT_STATUS_CODE = 0x10 ∧ t.sys.wdog = s.mtime ∧
      (∀ n : Fin 8, t.cell n = { store := loadedStore s ((u.filter (·.1 == n)).map (·.2)), loaded := storePasses s (loadedStore s ((u.filter (·.1 == n)).map (·.2))) } ∧
      t.get (CELL.STS_STATE n) = (if (t.cell n).loaded then 0 else 3) ∧
      natBit (t.get CSCH.CELLMASK_FENCED) n = (!(t.cell n).loaded || natBit (s.get CSCH.CELLMASK_FENCED) n)) ∧
      t.dram = s.dram ∧ t.nvm = s.nvm)

/-- A link that trains shows L0, or L1 where ASPM takes it there, its width, speed and power state, takes the host's
configuration space, and sets LUP; one that is lost from L0 or L1 goes back to training, clears them and
configuration space, sets LDOWN and counts. PERST_N low takes the link down to detect and resets nothing else; its
rise begins training. A lost supply leaves its balls undriven. A rail lost while RESET_N is high makes every later
command unsupported until a CHIP reset or wider, VIN below 4.5 V only for the core domain; the collapse of
VDDA_1V8 is an XO loss once XO_OK is 1, and its leaving of the range alone is unsupported (log entry 8). -/
def Obligations.LinkAndRailsActOnTheirPins : Prop :=
  (∀ (s : State) (w v : Nat) (host : CfgSpace) (l1 : Bool), s.live → s.sys.perstN = true →
    s.get HIF.STS_STATE < 2 →
    yields (.linkUp w v host l1) s fun t => t.get HIF.STS_STATE = (if l1 = true ∧
      host.aspmL1 = true then 3 else 2) ∧ t.get HIF.LINK_DSTATE = (if host.d3 then 3 else 0) ∧
      t.get HIF.LINK_WIDTH = w % 2 ^ HIF.LINK_WIDTH.w ∧ t.get HIF.LINK_SPEED = v % 2 ^ HIF.LINK_SPEED.w ∧
      t.get HIF.ISR_LUP = 1 ∧
      s.regsBut t [HIF.STS_STATE, HIF.LINK_WIDTH, HIF.LINK_SPEED, HIF.LINK_DSTATE, HIF.ISR_LUP] ∧
      t = { s with regs := t.regs, hif := { s.hif with cfg := host } }) ∧
  (∀ (s : State), s.live → 2 ≤ s.get HIF.STS_STATE →
    yields .linkDown s fun t => t.get HIF.STS_STATE = 1 ∧ t.get HIF.LINK_WIDTH = 0 ∧ t.get HIF.LINK_SPEED = 0 ∧
      t.get HIF.ISR_LDOWN = 1 ∧ t.get HIF.LDCNT_COUNT = (s.get HIF.LDCNT_COUNT + 1) % 2 ^ HIF.LDCNT_COUNT.w ∧
      s.regsBut t [HIF.STS_STATE, HIF.LINK_WIDTH, HIF.LINK_SPEED, HIF.LINK_DSTATE, HIF.ISR_LDOWN, HIF.LDCNT_COUNT] ∧
      t = { s with regs := t.regs, hif := {} }) ∧
  (∀ (s : State), s.sys.coreUp = true → 2 ≤ s.get HIF.STS_STATE →
    yields .perstNLow s fun t => t.get HIF.STS_STATE = 0 ∧ t.get HIF.ISR_LDOWN = 1 ∧
      t = { s with regs := t.regs, hif := {}, sys := { s.sys with perstN := false } } ∧
      s.regsBut t [HIF.STS_STATE, HIF.LINK_WIDTH, HIF.LINK_SPEED, HIF.LINK_DSTATE, HIF.ISR_LDOWN, HIF.LDCNT_COUNT]) ∧
  (∀ (s : State), s.sys.coreUp = true → s.sys.perstN = false →
    yields .perstNRise s fun t => t.get HIF.STS_STATE = 1 ∧
      t = { s with regs := t.regs, sys := { s.sys with perstN := true } } ∧ s.regsBut t [HIF.STS_STATE]) ∧
  (∀ (s : State) (r : Rail) (b : Ball), r ∉ [Rail.vdda1v8, .vdda1v8Range, .vinLow, .vinHigh] →
    yields (.railLoss r) s fun t =>
      t = { s with sys := { s.sys with unsup := if s.sys.resetN = true ∧ s.sys.por = false then .all else s.sys.unsup, off := r :: s.sys.off.filter (· != r) } } ∧
      (r ∈ ballRails b → ball t b = .undriven)) ∧
  (∀ (s : State) (r : Rail), s.sys.resetN = true → s.sys.por = false → r ∈ [Rail.vdda1v8Range, .vinHigh] →
    exec (.railLoss r) s = .next { s with sys := { s.sys with unsup := .all } }) ∧
  (∀ (s : State), s.sys.resetN = true → s.sys.por = false →
    exec (.railLoss .vinLow) s = .next { s with sys := { s.sys with unsup := if s.sys.unsup = .none then .core else s.sys.unsup } }) ∧
  (∀ (s : State), s.sys.resetN = true → s.sys.por = false → s.sys.xoOk = true →
    yields (.railLoss .vdda1v8) s fun t => restored SYS.RSTCAUSE_POR s t ∧ t.sys.porCause = 1 ∧
      t.sys.off = .vdda1v8 :: s.sys.off.filter (· != .vdda1v8) ∧ ball t .crystal = .undriven) ∧
  (∀ (s : State), s.sys.resetN = true → s.sys.por = false → s.sys.xoOk = false →
    exec (.railLoss .vdda1v8) s = .next { s with sys := { s.sys with unsup := .all, off := .vdda1v8 :: s.sys.off.filter (· != .vdda1v8) } }) ∧
  (∀ (s : State) (r : Rail), (s.sys.resetN = false ∨ s.sys.por = true) →
    r ∈ [Rail.vdda1v8Range, .vinLow, .vinHigh] →
    exec (.railLoss r) s = .next s)

/-- While REG soft-starts or regulates, a die voltage below the target, TON_MIN or more after the last start, starts a
pulse on the next phase of the rotation if that is off for TOFF_MIN; else the trigger waits for that phase, and
needs no second one (that it passes on where the phase is shed is the model's choice, log entry 36). With ADAPT 0
the on-time is TON.VAL plus the trim, at least TON_MIN; with ADAPT 1 it is round(TON.VAL × v_tgt / vin) plus the
trim, held within TON_MIN and TON.VAL − TOFF_MIN. In open-loop mode a phase due by PERIOD starts with floor(PERIOD
× DUTY / 1024), held within TON_MIN and PERIOD − TOFF_MIN. A pulse whose on-time has expired ends and leaves its
phase off from then. With DT.ADAPT 0 nothing else changes; with ADAPT 1 a switch node below −0.25 V shortens the
dead time of that transition by one, one below 0.9 VIN at a pulse's start lengthens that of the LH transition, and
one above half of VIN at its end lengthens that of the HL transition, within DT.MIN to DT.MAX; a step beyond them
is not taken and sets DTCLAMP. -/
def Obligations.PulsesTakeTheComputedOnTime : Prop :=
  (∀ (s : State) (sub : Fin 49) (vdie : Nat) (sw : Int), s.kaLive →
    (s.get REG.STS_STATE = 1 ∨ s.get REG.STS_STATE = 2) →
    (s.reg.trig.isSome = true ∨ (vdie * 2 < vTgt2 s ∧ startLongAgo s (edgeAt sub s) = true)) →
    pulsing s (pulsePhase s) = false → offLongEnough s (pulsePhase s) (edgeAt sub s) = true →
    s.get REG.DT_ADAPT = 0 →
    (s.get REG.TON_ADAPT = 0 →
      exec (.onPulseStart sub vdie sw) s = .next { s with reg := { s.reg with pulses := s.reg.pulses ++ [{ ph := pulsePhase s, start := edgeAt sub s, ton := (max (s.get REG.TON_VAL + trim s (pulsePhase s)) (s.get REG.TLIM_TON_MIN)).toNat }], lastPh := pulsePhase s, lastStart := some (edgeAt sub s), edge := edgeAt sub s, trig := none, bias := none } }) ∧
      (s.get REG.TON_ADAPT = 1 → s.get REG.VIN_MV ≠ 0 →
      s.get REG.TLIM_TON_MIN + s.get REG.TLIM_TOFF_MIN ≤ s.get REG.TON_VAL →
      exec (.onPulseStart sub vdie sw) s = .next { s with reg := { s.reg with pulses := s.reg.pulses ++ [{ ph := pulsePhase s, start := edgeAt sub s, ton := (max (s.get REG.TLIM_TON_MIN : Int) (min (s.get REG.TON_VAL - s.get REG.TLIM_TOFF_MIN) (roundHalfUp (s.get REG.TON_VAL * vTgt2 s : Nat) (s.get REG.VIN_MV * 2000 : Nat) + trim s (pulsePhase s)))).toNat }], lastPh := pulsePhase s, lastStart := some (edgeAt sub s), edge := edgeAt sub s, trig := none, bias := none } })) ∧
  (∀ (s : State) (sub : Fin 49) (vdie : Nat) (sw : Int), s.kaLive →
    (s.get REG.STS_STATE = 1 ∨ s.get REG.STS_STATE = 2) →
    (s.reg.trig.isSome = true ∨ (vdie * 2 < vTgt2 s ∧ startLongAgo s (edgeAt sub s) = true)) →
    pulsing s (pulsePhase s) = false → offLongEnough s (pulsePhase s) (edgeAt sub s) = true → pulsePhase s < 4 →
    s.get REG.DT_ADAPT = 1 →
    (s.get REG.TON_ADAPT = 1 → s.get REG.VIN_MV ≠ 0 ∧ s.get REG.TLIM_TON_MIN + s.get REG.TLIM_TOFF_MIN ≤ s.get REG.TON_VAL) →
    yields (.onPulseStart sub vdie sw) s fun t =>
      t.reg = { s.reg with pulses := s.reg.pulses ++ [{ ph := pulsePhase s, start := edgeAt sub s, ton := if s.get REG.TON_ADAPT = 1 then (max (s.get REG.TLIM_TON_MIN : Int) (min (s.get REG.TON_VAL - s.get REG.TLIM_TOFF_MIN) (roundHalfUp (s.get REG.TON_VAL * vTgt2 s : Nat) (s.get REG.VIN_MV * 2000 : Nat) + trim s (pulsePhase s)))).toNat else (max (s.get REG.TON_VAL + trim s (pulsePhase s)) (s.get REG.TLIM_TON_MIN)).toNat }], lastPh := pulsePhase s, lastStart := some (edgeAt sub s), edge := edgeAt sub s, trig := none, bias := none } ∧
      (sw < -250 → s.get REG.DT_MIN + 1 ≤ s.get (REG.DTSTS_LH (pulsePhase s)) →
      s.get (REG.DTSTS_LH (pulsePhase s)) ≤ s.get REG.DT_MAX + 1 →
      t.get (REG.DTSTS_LH (pulsePhase s)) = (s.get (REG.DTSTS_LH (pulsePhase s)) - 1) % 2 ^ (REG.DTSTS_LH (pulsePhase s)).w) ∧
      (sw < -250 → s.get (REG.DTSTS_LH (pulsePhase s)) = s.get REG.DT_MIN → t.get REG.ISR_DTCLAMP = 1 ∧
      t.get (REG.DTSTS_LH (pulsePhase s)) = s.get (REG.DTSTS_LH (pulsePhase s))) ∧ (-250 ≤ sw →
      10 * sw < 9 * s.get REG.VIN_MV → s.get REG.DT_MIN ≤ s.get (REG.DTSTS_LH (pulsePhase s)) + 1 →
      s.get (REG.DTSTS_LH (pulsePhase s)) + 1 ≤ s.get REG.DT_MAX →
      t.get (REG.DTSTS_LH (pulsePhase s)) = (s.get (REG.DTSTS_LH (pulsePhase s)) + 1) % 2 ^ (REG.DTSTS_LH (pulsePhase s)).w) ∧
      (-250 ≤ sw → 10 * sw < 9 * s.get REG.VIN_MV → s.get (REG.DTSTS_LH (pulsePhase s)) = s.get REG.DT_MAX →
      t.get REG.ISR_DTCLAMP = 1 ∧ t.get (REG.DTSTS_LH (pulsePhase s)) = s.get (REG.DTSTS_LH (pulsePhase s))) ∧
      (-250 ≤ sw → 9 * s.get REG.VIN_MV ≤ 10 * sw → t.regs = s.regs) ∧
      s.regsBut t [REG.DTSTS_LH (pulsePhase s), REG.ISR_DTCLAMP] ∧ t = { s with regs := t.regs, reg := t.reg }) ∧
  (∀ (s : State) (sub : Fin 49) (vdie : Nat) (sw : Int), s.kaLive →
    (s.get REG.STS_STATE = 1 ∨ s.get REG.STS_STATE = 2) →
    (s.reg.trig = none → (vTgt2 s ≤ vdie * 2 ∨ startLongAgo s (edgeAt sub s) = false) →
      exec (.onPulseStart sub vdie sw) s = .next s) ∧ (vdie * 2 < vTgt2 s → startLongAgo s (edgeAt sub s) = true →
      (pulsing s (pulsePhase s) = true ∨ offLongEnough s (pulsePhase s) (edgeAt sub s) = false) →
      exec (.onPulseStart sub vdie sw) s = .next { s with reg := { s.reg with trig := some (pulsePhase s) } })) ∧
  (∀ (s : State) (k : Nat),
    (s.reg.trig = some k → k < s.get REG.STS_NPH → pulsePhase s = k) ∧ (s.reg.trig = none →
      s.reg.lastPh + 1 < s.get REG.STS_NPH → pulsePhase s = s.reg.lastPh + 1) ∧ (s.reg.trig = none →
      s.get REG.STS_NPH ≤ s.reg.lastPh + 1 → pulsePhase s = 0)) ∧
  (∀ (s : State) (sub : Fin 49) (sw : Int) (k : Nat), s.kaLive → s.get REG.STS_STATE = 3 →
    openPhase s (edgeAt sub s) = some k →
    s.get REG.TLIM_TON_MIN + s.get REG.TLIM_TOFF_MIN ≤ s.get REG.OL_PERIOD → s.get REG.DT_ADAPT = 0 →
    pulsing s k = false ∧ offLongEnough s k (edgeAt sub s) = true ∧ (∀ l, SMap.find s.reg.olNow k = none →
      SMap.find s.reg.olStarts 0 = some l → (k = 0 → l + s.get REG.OL_PERIOD ≤ edgeAt sub s) ∧ (k ≠ 0 →
      l + (openDiv (k * s.get REG.OL_PERIOD : Nat) (max 1 (s.get REG.STS_NPH))).toNat ≤ edgeAt sub s)) ∧
      yields (.openLoopPulse sub sw) s fun t =>
      t = { s with reg := { s.reg with pulses := s.reg.pulses ++ [{ ph := k, start := edgeAt sub s, ton := (max (s.get REG.TLIM_TON_MIN : Int) (min (s.get REG.OL_PERIOD - s.get REG.TLIM_TOFF_MIN) (s.get REG.OL_PERIOD * s.get REG.OL_DUTY / 1024 : Nat))).toNat }], lastPh := k, lastStart := some (edgeAt sub s), edge := edgeAt sub s, trig := none, bias := none, olStarts := SMap.insert (SMap.erase s.reg.olStarts k) k (edgeAt sub s), olNow := SMap.erase s.reg.olNow k } }) ∧
  (∀ (s : State) (sub : Fin 49) (sw : Int) (k : Nat), s.kaLive → s.get REG.STS_STATE = 3 →
    openPhase s (edgeAt sub s) = some k → k < 4 →
    s.get REG.TLIM_TON_MIN + s.get REG.TLIM_TOFF_MIN ≤ s.get REG.OL_PERIOD → s.get REG.DT_ADAPT = 1 →
    yields (.openLoopPulse sub sw) s fun t => pulsing t k = true ∧ (sw < -250 →
      s.get REG.DT_MIN + 1 ≤ s.get (REG.DTSTS_LH k) → s.get (REG.DTSTS_LH k) ≤ s.get REG.DT_MAX + 1 →
      t.get (REG.DTSTS_LH k) = (s.get (REG.DTSTS_LH k) - 1) % 2 ^ (REG.DTSTS_LH k).w) ∧ (sw < -250 →
      s.get (REG.DTSTS_LH k) = s.get REG.DT_MIN → t.get REG.ISR_DTCLAMP = 1 ∧
      t.get (REG.DTSTS_LH k) = s.get (REG.DTSTS_LH k)) ∧ (-250 ≤ sw → 10 * sw < 9 * s.get REG.VIN_MV →
      s.get REG.DT_MIN ≤ s.get (REG.DTSTS_LH k) + 1 → s.get (REG.DTSTS_LH k) + 1 ≤ s.get REG.DT_MAX →
      t.get (REG.DTSTS_LH k) = (s.get (REG.DTSTS_LH k) + 1) % 2 ^ (REG.DTSTS_LH k).w) ∧ (-250 ≤ sw →
      10 * sw < 9 * s.get REG.VIN_MV → s.get (REG.DTSTS_LH k) = s.get REG.DT_MAX → t.get REG.ISR_DTCLAMP = 1 ∧
      t.get (REG.DTSTS_LH k) = s.get (REG.DTSTS_LH k)) ∧ (-250 ≤ sw → 9 * s.get REG.VIN_MV ≤ 10 * sw →
      t.regs = s.regs) ∧ s.regsBut t [REG.DTSTS_LH k, REG.ISR_DTCLAMP] ∧ t = { s with regs := t.regs, reg := t.reg }) ∧
  (∀ (s : State) (sub : Fin 49) (sw : Int), s.kaLive → s.get REG.STS_STATE = 3 →
    openPhase s (edgeAt sub s) = none →
    exec (.openLoopPulse sub sw) s = .next s) ∧
  (∀ (s : State) (ph : Fin 4) (sub : Fin 49) (sw : Int) (p : Pulse), s.kaLive →
    s.reg.pulses.find? (·.ph == ph.val) = some p → edgeAt sub s < p.start + p.ton →
    exec (.pulseEnd ph sub sw) s = .next s) ∧
  (∀ (s : State) (ph : Fin 4) (sub : Fin 49) (sw : Int) (p : Pulse), s.kaLive →
    s.reg.pulses.find? (·.ph == ph.val) = some p → p.start + p.ton ≤ edgeAt sub s →
    yields (.pulseEnd ph sub sw) s fun t =>
      t.reg = { s.reg with pulses := s.reg.pulses.filter (·.ph != ph.val), edge := max s.reg.edge (p.start + p.ton), offs := SMap.insert (SMap.erase s.reg.offs ph.val) ph.val (p.start + p.ton) } ∧
      (s.get REG.DT_ADAPT = 0 → t.regs = s.regs) ∧ (s.get REG.DT_ADAPT = 1 → sw < -250 →
      s.get REG.DT_MIN + 1 ≤ s.get (REG.DTSTS_HL ph) → s.get (REG.DTSTS_HL ph) ≤ s.get REG.DT_MAX →
      t.get (REG.DTSTS_HL ph) = (s.get (REG.DTSTS_HL ph) - 1) % 2 ^ (REG.DTSTS_HL ph).w) ∧ (s.get REG.DT_ADAPT = 1 →
      sw < -250 → s.get (REG.DTSTS_HL ph) = s.get REG.DT_MIN → t.get REG.ISR_DTCLAMP = 1 ∧
      t.get (REG.DTSTS_HL ph) = s.get (REG.DTSTS_HL ph)) ∧ (s.get REG.DT_ADAPT = 1 → -250 ≤ sw →
      s.get REG.VIN_MV < 2 * sw → s.get REG.DT_MIN ≤ s.get (REG.DTSTS_HL ph) + 1 →
      s.get (REG.DTSTS_HL ph) + 1 ≤ s.get REG.DT_MAX →
      t.get (REG.DTSTS_HL ph) = (s.get (REG.DTSTS_HL ph) + 1) % 2 ^ (REG.DTSTS_HL ph).w) ∧ (s.get REG.DT_ADAPT = 1 →
      -250 ≤ sw → s.get REG.VIN_MV < 2 * sw → s.get (REG.DTSTS_HL ph) = s.get REG.DT_MAX →
      t.get REG.ISR_DTCLAMP = 1 ∧ t.get (REG.DTSTS_HL ph) = s.get (REG.DTSTS_HL ph)) ∧ (s.get REG.DT_ADAPT = 1 →
      -250 ≤ sw → 2 * sw ≤ s.get REG.VIN_MV → t.regs = s.regs) ∧ s.regsBut t [REG.DTSTS_HL ph, REG.ISR_DTCLAMP] ∧
      t = { s with regs := t.regs, reg := t.reg })

/-- A sample shows the die voltage, VIN, each phase current (the ISNS voltage less OFFSET over GAIN) and their sum,
judges the under-voltage monitor, counts toward Caddy's brake, and brings in four phases (up to MAXPH) at once
where the sum reaches ADD4. A notice is counted; a late one counts in FFCNT.LATE, sets FFLATE and adds nothing;
one in time enters the prediction and, with FF.EN 1, adds a boost of FF.GAIN × 0.25 mV per ampere. A boost ramps
once it is due and falls once its hold has ended. A dwell of 100 µs sheds four phases to two, and two to one. -/
def Obligations.SamplesAndNoticesMoveThePhases : Prop :=
  (∀ (s : State) (vout vin : Nat) (isns : List Nat), s.kaLive →
    yields (.regSample vout isns vin) s fun t => t.get REG.VOUT_MEAS = vout % 2 ^ REG.VOUT_MEAS.w ∧
      t.get REG.VIN_MV = vin % 2 ^ REG.VIN_MV.w ∧ (s.get REG.ISNS_GAIN ≠ 0 →
      ∀ n < 4, t.get (REG.IPH_CUR n) = ofSigned 16 (openDiv (((isns.getD n 0 : Nat) - s.get REG.ISNS_OFFSET * 1000 : Int) * 20) (s.get REG.ISNS_GAIN))) ∧
      (0 ≤ phaseCur t 0 + phaseCur t 1 + phaseCur t 2 + phaseCur t 3 →
      t.get REG.IMEAS_TOTAL = (phaseCur t 0 + phaseCur t 1 + phaseCur t 2 + phaseCur t 3).toNat % 2 ^ REG.IMEAS_TOTAL.w) ∧
      t.caddy.above = (if s.get CADDY.BRAKE_LIMIT < t.get REG.IMEAS_TOTAL then s.caddy.above + 1 else 0) ∧
      (regRuns s = true → s.get REG.STS_NPH ≤ 4 → s.getA REG.PHTH_ADD4 * 5 ≤ t.get REG.IMEAS_TOTAL →
      t.get REG.STS_NPH = max (s.get REG.STS_NPH) (min 4 (maxPhases s))) ∧
      (t.get REG.VOUT_MEAS < s.get REG.PROT_UVP → t.reg.uvSeen = s.reg.uvSeen ∧ (regRuns s = true →
      t.reg.uvSince = some (s.reg.uvSince.getD s.mtime))) ∧ (s.get REG.PROT_UVP ≤ t.get REG.VOUT_MEAS →
      t.reg.uvSeen = false ∧ t.reg.uvSince = none) ∧
      s.regsBut t [REG.VOUT_MEAS, REG.VIN_MV, REG.IMEAS_TOTAL, REG.IPH_CUR 0, REG.IPH_CUR 1, REG.IPH_CUR 2, REG.IPH_CUR 3, REG.STS_NPH] ∧
      t = { s with regs := t.regs, reg := t.reg, caddy := t.caddy, free := t.free }) ∧
  (∀ (s : State) (amt start : Nat) (l : List (Nat × Nat)), s.kaLive → s.caddy.notices = (amt, start) :: l →
    start < s.mtime →
    yields .ffNotice s fun t => t.caddy = { s.caddy with notices := l } ∧
      t.get REG.FFCNT_NOTICES = (s.get REG.FFCNT_NOTICES + 1) % 2 ^ REG.FFCNT_NOTICES.w ∧
      t.get REG.FFCNT_LATE = (s.get REG.FFCNT_LATE + 1) % 2 ^ REG.FFCNT_LATE.w ∧ t.get REG.ISR_FFLATE = 1 ∧
      s.regsBut t [REG.FFCNT_NOTICES, REG.FFCNT_LATE, REG.ISR_FFLATE] ∧
      t = { s with regs := t.regs, caddy := t.caddy }) ∧
  (∀ (s : State) (amt start : Nat) (l : List (Nat × Nat)), s.kaLive → s.caddy.notices = (amt, start) :: l →
    s.mtime ≤ start → regBlind s = false →
    yields .ffNotice s fun t => t.caddy = { s.caddy with notices := l } ∧
      t.get REG.FFCNT_NOTICES = (s.get REG.FFCNT_NOTICES + 1) % 2 ^ REG.FFCNT_NOTICES.w ∧
      (amt, start) ∈ t.reg.preds ∧ (s.get REG.FF_EN = 1 →
      t.reg.boosts = s.reg.boosts ++ [{ goal := s.get REG.FF_GAIN * amt * 25 * (uvUnit / 2), cur := 0, start := start, hold := start * 1000 + max 1 (s.get REG.FF_HOLD) * 98304, phase := 0 }]) ∧
      (s.get REG.FF_EN = 0 → t.reg.boosts = s.reg.boosts) ∧ s.regsBut t [REG.FFCNT_NOTICES, REG.STS_NPH]) ∧
  (∀ (s : State) (b : Boost) (l r : List Boost), s.kaLive → s.reg.boosts = l ++ b :: r →
    (∀ x ∈ l, rampDue s x = false) → rampDue s b = true →
    yields .ffRampStart s fun t => t.reg.boosts = l ++ { b with phase := 1 } :: r ∧ t = { s with reg := t.reg } ∧
      t.reg = { s.reg with boosts := t.reg.boosts, dwell := t.reg.dwell }) ∧
  (∀ (s : State) (b : Boost) (l r : List Boost), s.kaLive → s.reg.boosts = l ++ b :: r →
    (∀ x ∈ l, x.phase = 1 → s.mtime * 1000 < x.hold) → b.phase = 1 → b.hold ≤ s.mtime * 1000 →
    exec .ffHoldEnd s = .next { s with reg := { s.reg with boosts := l ++ { b with phase := 2 } :: r } }) ∧
  (∀ (s : State) (t0 : Nat), s.kaLive → s.get REG.STS_STATE = 2 → s.get REG.PHCTL_SHED_EN = 1 →
    boostHeld s = false → s.reg.dwell = some (t0, s.get REG.STS_NPH) → 100 * 98304 ≤ (s.mtime - t0) * 1000 →
    (s.get REG.STS_NPH = 4 → s.get REG.IMEAS_TOTAL < s.getA REG.PHTH_SHED4 * 5 →
      predicted s < s.getA REG.PHTH_ADD4 * 5 → yields .phaseShed s fun t => t.get REG.STS_NPH = 2 ∧
      s.regsBut t [REG.STS_NPH] ∧ t.reg.pulses = s.reg.pulses) ∧ (s.get REG.STS_NPH = 2 →
      s.get REG.IMEAS_TOTAL < s.getA REG.PHTH_SHED2 * 5 → predicted s < s.getA REG.PHTH_ADD2 * 5 →
      yields .phaseShed s fun t => t.get REG.STS_NPH = 1 ∧ s.regsBut t [REG.STS_NPH] ∧ t.reg.pulses = s.reg.pulses))

/-- A PHCTL write stores its fields and never leaves more active phases than MAXPH allows. A TON write with ADAPT 0
stores its fields and, outside open-loop mode, gives every pulse in flight TON.VAL plus its phase's trim, at least
TON_MIN, or ends it at once where it has run longer; with ADAPT 1 each gets the on-time that ADAPT computes from
the new VAL, alike; an OL write stores its fields, acts on the pulses alike in open-loop mode, where a phase whose
last pulse began longer ago than the new PERIOD is due at once, and outside it touches none; a write of the values
held touches no pulse. What AUX and AUXCTL hold reaches a constant output with the next tick (the model's choice,
log entry 36). MODE.OPEN is set by a write with the key, from REGULATE going to OPENLOOP; without the key the
write records 0x0102 and changes nothing else; a write of OPEN 0 needs no key and returns OPENLOOP to REGULATE
with the pulses in flight as they are. -/
def Obligations.RegWritesActAtOnce : Prop :=
  (∀ (s : State) (d : W32), s.live → s.answers .reg →
    yields (.phctlWrite d) s fun t => t.get REG.PHCTL_SHED_EN = (REG.PHCTL_SHED_EN).ofData d ∧
      t.get REG.PHCTL_MAXPH = (REG.PHCTL_MAXPH).ofData d ∧ t.get REG.STS_NPH ≤ maxPhases t ∧ (regRuns s = false →
      t.get REG.STS_NPH = min (s.get REG.STS_NPH) (maxPhases t)) ∧
      s.regsBut t [REG.PHCTL_SHED_EN, REG.PHCTL_MAXPH, REG.STS_NPH] ∧
      t.reg = { s.reg with dwell := t.reg.dwell, olFrom := t.reg.olFrom }) ∧
  (∀ (s : State) (sub : Fin 49) (d : W32), s.live → s.answers .reg → (REG.TON_ADAPT).ofData d = 0 →
    sameWord [REG.TON_ADAPT, REG.TON_VAL] d s = false →
    yields (.tonWrite sub d) s fun t => t.get REG.TON_ADAPT = 0 ∧ t.get REG.TON_VAL = (REG.TON_VAL).ofData d ∧
      (s.get REG.STS_STATE ≠ 3 →
      t.reg = { s.reg with edge := edgeAt sub s, pulses := s.reg.pulses.map fun q => { q with ton := newOnTime (max ((REG.TON_VAL).ofData d + trim s q.ph) (s.get REG.TLIM_TON_MIN)).toNat (edgeAt sub s + 1 - q.start) (s.get REG.TLIM_TON_MIN) } }) ∧
      (s.get REG.STS_STATE = 3 → t.reg = s.reg) ∧ s.regsBut t [REG.TON_ADAPT, REG.TON_VAL] ∧
      t = { s with regs := t.regs, reg := t.reg }) ∧
  (∀ (s : State) (sub : Fin 49) (d : W32), s.live → s.answers .reg → (REG.TON_ADAPT).ofData d = 1 →
    sameWord [REG.TON_ADAPT, REG.TON_VAL] d s = false → s.get REG.STS_STATE ≠ 3 → s.get REG.VIN_MV ≠ 0 →
    s.get REG.TLIM_TON_MIN + s.get REG.TLIM_TOFF_MIN ≤ (REG.TON_VAL).ofData d →
    yields (.tonWrite sub d) s fun t => t.get REG.TON_ADAPT = 1 ∧ t.get REG.TON_VAL = (REG.TON_VAL).ofData d ∧
      t.reg = { s.reg with edge := edgeAt sub s, pulses := s.reg.pulses.map fun q => { q with ton := newOnTime (max (s.get REG.TLIM_TON_MIN : Int) (min ((REG.TON_VAL).ofData d - s.get REG.TLIM_TOFF_MIN) (roundHalfUp ((REG.TON_VAL).ofData d * vTgt2 s : Nat) (s.get REG.VIN_MV * 2000 : Nat) + trim s q.ph))).toNat (edgeAt sub s + 1 - q.start) (s.get REG.TLIM_TON_MIN) } } ∧
      s.regsBut t [REG.TON_ADAPT, REG.TON_VAL] ∧ t = { s with regs := t.regs, reg := t.reg }) ∧
  (∀ (s : State) (sub : Fin 49) (d : W32), s.live → s.answers .reg →
    (s.get REG.STS_STATE ≠ 3 ∨ sameWord [REG.OL_DUTY, REG.OL_PERIOD] d s = true →
      yields (.olWrite sub d) s fun t => t.get REG.OL_DUTY = (REG.OL_DUTY).ofData d ∧
      t.get REG.OL_PERIOD = (REG.OL_PERIOD).ofData d ∧ s.only t [REG.OL_DUTY, REG.OL_PERIOD]) ∧
      (s.get REG.STS_STATE = 3 → sameWord [REG.OL_DUTY, REG.OL_PERIOD] d s = false →
      s.get REG.TLIM_TON_MIN + s.get REG.TLIM_TOFF_MIN ≤ (REG.OL_PERIOD).ofData d →
      yields (.olWrite sub d) s fun t => t.get REG.OL_DUTY = (REG.OL_DUTY).ofData d ∧
      t.get REG.OL_PERIOD = (REG.OL_PERIOD).ofData d ∧ s.regsBut t [REG.OL_DUTY, REG.OL_PERIOD] ∧
      t.reg = { s.reg with edge := edgeAt sub s, pulses := s.reg.pulses.map fun q => { q with ton := newOnTime (max (s.get REG.TLIM_TON_MIN : Int) (min ((REG.OL_PERIOD).ofData d - s.get REG.TLIM_TOFF_MIN) ((REG.OL_PERIOD).ofData d * (REG.OL_DUTY).ofData d / 1024 : Nat))).toNat (edgeAt sub s + 1 - q.start) (s.get REG.TLIM_TON_MIN) }, olNow := t.reg.olNow } ∧
      ∀ k, (k, edgeAt sub s + 1) ∈ t.reg.olNow ↔ (k < s.get REG.STS_NPH ∧ (SMap.find s.reg.olStarts k).any (fun l =>
      decide (l + (REG.OL_PERIOD).ofData d < edgeAt sub s + 1)) = true))) ∧
  (∀ (s : State) (sub : Fin 49) (d : W32), s.live → s.answers .reg →
    sameWord [REG.TON_ADAPT, REG.TON_VAL] d s = true →
    yields (.tonWrite sub d) s fun t => s.only t []) ∧
  (∀ (s : State) (n : Fin 2), s.pending = [] → s.sys.pll = true → s.nvm.work = none → s.hif.waits = [] →
    ((SMap.get {} s.auxs n.val).en = false ∨ (SMap.get {} s.auxs n.val).period = 0) →
    ∃ t, step s = .next t ∧ (SMap.get {} t.auxs n.val).period = s.get (REG.AUX_PERIOD n) ∧
      (SMap.get {} t.auxs n.val).high = s.get (REG.AUX_HIGH n) ∧
      (SMap.get {} t.auxs n.val).en = s.bit (if n = 0 then REG.AUXCTL_EN0 else REG.AUXCTL_EN1)) ∧
  (∀ (s : State) (d : W32), s.live → s.answers .reg → (REG.MODE_OPEN).ofData d = 1 →
    ((REG.MODE_KEY).ofData d = 0x7C01 → s.get REG.STS_STATE = 2 → yields (.modeOpenSet d) s fun t =>
      t.get REG.MODE_OPEN = 1 ∧ t.get REG.STS_STATE = 3 ∧ s.regsBut t [REG.MODE_OPEN, REG.STS_STATE] ∧
      t.reg.pulses = s.reg.pulses) ∧ ((REG.MODE_KEY).ofData d = 0x7C01 → s.get REG.STS_STATE ≠ 2 →
      yields (.modeOpenSet d) s fun t => t.get REG.MODE_OPEN = 1 ∧ s.only t [REG.MODE_OPEN]) ∧
      ((REG.MODE_KEY).ofData d ≠ 0x7C01 → yields (.modeOpenSet d) s fun t => records .reg 0x0102 s t ∧
      s.only t (errFields .reg))) ∧
  (∀ (s : State) (d : W32), s.live → s.answers .reg → (REG.MODE_OPEN).ofData d = 0 →
    (s.get REG.STS_STATE = 3 → yields (.modeOpenClear d) s fun t => t.get REG.MODE_OPEN = 0 ∧
      t.get REG.STS_STATE = 2 ∧ s.regsBut t [REG.MODE_OPEN, REG.STS_STATE, REG.STS_NPH] ∧
      t.reg.pulses = s.reg.pulses ∧ t.reg.lastPh = s.reg.lastPh) ∧ (s.get REG.STS_STATE ≠ 3 →
      yields (.modeOpenClear d) s fun t => t.get REG.MODE_OPEN = 0 ∧ s.only t [REG.MODE_OPEN]))

/-- Sensed values within PROT.OCP, PROT.OVP and 4.2 V trip nothing. A trip shows FAULT, VALID and the bits of its
cause added to those there, counts, sets ISR.TRIP, discards pulses, boosts and predictions, returns every grant
and holds the core domain at its reset values, with RSTCAUSE, the MRAM and the fuses as they were. Five µs under
UVP set UV once an excursion and nothing else. After RETRY.DLY in FAULT REG soft-starts on one phase, or locks out
where TRIPCNT has reached RETRY.MAX. One second in REGULATE or OPENLOOP clears TRIPCNT (that both count, and that
no excursion breaks the second, is the model's choice, log entry 36). Power good follows once the soft-start's
target has reached the active VSET and the die voltage has held near it, and shows REGULATE (or OPENLOOP). That
MODE.OPEN outlasts a trip, so that OPENLOOP follows power good, and that a lockout too comes after RETRY.DLY from
the trip, are the model's readings (log entry 26). BUSY clears when the ramp has reached the active VSET. -/
def Obligations.TripsHoldTheCoreAndRetry : Prop :=
  (∀ (s : State) (c : TripSense), s.kaLive →
    (s.get REG.STS_STATE = 1 ∨ s.get REG.STS_STATE = 2 ∨ s.get REG.STS_STATE = 3) →
    (overCurrent c s ≠ 0 ∨ s.get REG.PROT_OVP * 1250 < c.vdie ∨ c.vin < 4200) →
    yields (.regTrip c) s fun t => t.get REG.STS_STATE = 4 ∧ t.get REG.STS_PG = 0 ∧ t.get REG.FSTAT_VALID = 1 ∧
      t.get REG.ISR_TRIP = 1 ∧ t.get REG.FSTAT_TRIPCNT = (s.get REG.FSTAT_TRIPCNT + 1) % 2 ^ REG.FSTAT_TRIPCNT.w ∧
      (∀ n < 4, natBit (t.get REG.FSTAT_OCPH) n = (natBit (s.get REG.FSTAT_OCPH) n || decide ((s.get REG.PROT_OCP * s.get REG.ISNS_GAIN : Int) < 4 * ((c.isns.getD n 0 : Int) - s.get REG.ISNS_OFFSET * 1000)))) ∧
      t.get REG.FSTAT_OV = (if s.get REG.PROT_OVP * 1250 < c.vdie then 1 else s.get REG.FSTAT_OV) ∧
      t.get REG.FSTAT_VINLO = (if c.vin < 4200 then 1 else s.get REG.FSTAT_VINLO) ∧ t.reg.boosts = [] ∧
      t.reg.preds = [] ∧ t.reg.pulses = [] ∧ t.caddy.grants = [] ∧ t.caddy.waits = [] ∧ t.sys.coreUp = false ∧
      (∀ f : Fld, keyKa f.key = false → t.get f = f.rst) ∧ (∀ f ∈ rstCauses, t.get f = s.get f) ∧ t.mtime = s.mtime ∧
      t.nvm.mram = s.nvm.mram ∧ t.nvm.svn = s.nvm.svn) ∧
  (∀ (s : State) (c : TripSense), s.kaLive → overCurrent c s = 0 → c.vdie ≤ s.get REG.PROT_OVP * 1250 →
    4200 ≤ c.vin →
    exec (.regTrip c) s = .next s) ∧
  (∀ (s : State), s.kaLive → (s.get REG.STS_STATE = 2 ∨ s.get REG.STS_STATE = 3) →
    (s.reg.uvSeen = false → uvDue s = true → yields .underVoltage s fun t => t.get REG.ISR_UV = 1 ∧
      s.regsBut t [REG.ISR_UV] ∧ t = { s with regs := t.regs, reg := { s.reg with uvSeen := true } }) ∧
      (s.reg.uvSeen = true ∨ uvDue s = false → exec .underVoltage s = .next s)) ∧
  (∀ (s : State) (v : Nat), s.kaLive → s.get REG.STS_STATE = 4 →
    (max 1 (s.get REG.RETRY_DLY)) * 98304 ≤ s.mtime - s.reg.since →
    (s.get REG.RETRY_MAX ≤ s.get REG.FSTAT_TRIPCNT → yields (.tripRetry v) s fun t => t.get REG.STS_STATE = 5 ∧
      s.only t [REG.STS_STATE]) ∧ (s.get REG.FSTAT_TRIPCNT < s.get REG.RETRY_MAX → yields (.tripRetry v) s fun t =>
      t.get REG.STS_STATE = 1 ∧ t.get REG.STS_NPH = 1 ∧ t.get REG.STS_PG = 0 ∧ t.reg.ramp = v * uvUnit ∧
      t.reg.afterTrip = true ∧ t.sys = s.sys ∧ (∀ f : Fld, keyIn 0x5000 f.key = false → t.get f = s.get f))) ∧
  (∀ (s : State), s.kaLive → (s.get REG.STS_STATE = 2 ∨ s.get REG.STS_STATE = 3) →
    1000 * 98304 ≤ s.mtime - s.reg.since →
    yields .tripcntClear s fun t => t.get REG.FSTAT_TRIPCNT = 0 ∧ s.only t [REG.FSTAT_TRIPCNT]) ∧
  (∀ (s : State), s.kaLive → powerGoodDue s = true →
    s.get REG.STS_STATE = 1 ∧ s.reg.ramp = s.getA REG.VSET_CODE * 1250 * uvUnit ∧ yields .powerGood s fun t =>
      t.get REG.STS_STATE = (if s.get REG.MODE_OPEN = 1 then 3 else 2) ∧ t.get REG.STS_PG = 1 ∧
      t.get REG.STS_BUSY = 0 ∧ t.reg.ramp = s.reg.ramp ∧ t.reg.afterTrip = false ∧
      s.regsBut t [REG.STS_STATE, REG.STS_PG, REG.STS_BUSY, REG.STS_NPH] ∧ t.sys.unsup = (if s.sys.unsup = .core ∧
      4500 ≤ s.get REG.VIN_MV then .none else s.sys.unsup)) ∧
  (∀ (s : State), s.kaLive → (s.get REG.STS_STATE ≠ 1 ∨ s.reg.ramp ≠ s.getA REG.VSET_CODE * 1250 * uvUnit) →
    exec .powerGood s = .next s) ∧
  (∀ (s : State), s.kaLive → s.reg.ramp = s.getA REG.VSET_CODE * 1250 * uvUnit → s.get REG.STS_STATE ≠ 1 →
    yields .setPointRampEnd s fun t => t.get REG.STS_BUSY = 0 ∧ s.only t [REG.STS_BUSY])

/-- With EN 0 and neither a grant nor a request, enabling ISP, COMP, HRX or MPT (or HTX with a timing it can carry)
sets EN, shows WAITGRANT and adds one request with the amount and priority of its active claim, oversize where it
exceeds eff − RESERVE as last computed; with MPT's, the port frames that passed while it was off are no backlog:
less than one packet of each AAF stream is left. With EN 1 it changes nothing, but HTX in FAIL waits for HPD
again; a timing that HTX cannot carry records 0x0100. A DMC asks as it is initialised. Disabling clears EN and
STATE and leaves neither a grant nor a request of that consumer, the others' grants as they were. For cells both
events do nothing. -/
def Obligations.ConsumersAskAndStop : Prop :=
  (∀ (s : State) (c : Fin 17) (e st : Fld), s.live → s.answers (consumerPage c) →
    standingFields c = some (e, st) → s.get e = 0 → holdsGrant s c = false → waitsGrant s c = false →
    (c = 15 → timingOk s = true) →
    yields (.consumerEnable c) s fun t => t.get e = 1 ∧ t.get st = 1 ∧
      t.caddy = { s.caddy with waits := s.caddy.waits ++ [⟨c, s.getA (CADDY.CLAIM_AMT (c - 8)), s.getA (CADDY.CLAIM_PRIO (c - 8)), s.mtime, s.mtime, false, exceedsEff s (s.getA (CADDY.CLAIM_AMT (c - 8)))⟩] } ∧
      (exceedsEff s (s.getA (CADDY.CLAIM_AMT (c - 8))) = true → t.get CADDY.ISR_OVERSIZE = 1) ∧
      s.regsBut t [e, st, CADDY.ISR_OVERSIZE] ∧ t = { s with regs := t.regs, caddy := t.caddy, mpt := t.mpt } ∧
      (c ≠ 16 → t.mpt = s.mpt) ∧ t.mpt = { s.mpt with streams := t.mpt.streams } ∧ (c = 16 →
      ∀ n : Fin 16, (streamOf s n).kind = 2 → sliceNat (streamOf s n).entry 25 1 ≠ 0 →
      (s.port (sliceNat (streamOf s n).entry 24 1 % 4)).count - (streamOf t n).used < sliceNat (streamOf s n).entry 25 1)) ∧
  (∀ (s : State) (c : Fin 17) (e st : Fld), s.live → s.answers (consumerPage c) →
    standingFields c = some (e, st) → s.get e = 1 → c ≠ 15 →
    exec (.consumerEnable c) s = .next s) ∧
  (∀ (s : State), s.live → s.answers .htx →
    (timingOk s = false → yields (.consumerEnable 15) s fun t => records .htx 0x0100 s t ∧
      s.only t (errFields .htx)) ∧ (timingOk s = true → s.get HTX.CTL_EN = 1 → s.get HTX.STS_STATE = 5 →
      yields (.consumerEnable 15) s fun t => t.get HTX.STS_STATE = (if s.sys.tvHpd then 3 else 2) ∧
      s.only t [HTX.STS_STATE])) ∧
  (∀ (s : State) (n : Fin 4) (c : Fin 17), s.live → c.val = 9 + n.val → s.get (DMC.STS_STATE n) = 0 →
    s.get SYS.BOOT_STATUS_CODE = 6 → holdsGrant s c = false → waitsGrant s c = false →
    yields (.consumerEnable c) s fun t =>
      t.caddy = { s.caddy with waits := s.caddy.waits ++ [⟨c, s.getA (CADDY.CLAIM_AMT (c - 8)), s.getA (CADDY.CLAIM_PRIO (c - 8)), s.mtime, s.mtime, false, exceedsEff s (s.getA (CADDY.CLAIM_AMT (c - 8)))⟩] } ∧
      s.regsBut t [CADDY.ISR_OVERSIZE] ∧ t = { s with regs := t.regs, caddy := t.caddy }) ∧
  (∀ (s : State) (c : Fin 17) (e st : Fld), s.live → s.answers (consumerPage c) →
    standingFields c = some (e, st) → s.get e = 1 →
    yields (.consumerDisable c) s fun t => t.get e = 0 ∧ t.get st = 0 ∧ holdsGrant t c = false ∧
      waitsGrant t c = false ∧
      t.caddy = { s.caddy with grants := s.caddy.grants.filter (·.id != c.val), waits := s.caddy.waits.filter (·.id != c.val) } ∧
      t.act = s.act ∧ t.dram = s.dram ∧ t.nvm = s.nvm ∧ t.mtime = s.mtime) ∧
  (∀ (s : State) (c : Fin 17), s.live → c.val < 8 →
    exec (.consumerEnable c) s = .next s ∧ exec (.consumerDisable c) s = .next s)

/-- The request that Caddy grants next leaves the waiting list and joins the grants with the start max(requested, now
+ FFLEAD.TICKS); unless its amount is 0 a notice of amount and start goes to REG. Grants and RESERVE then do not
exceed eff, no request of the order that is ahead of it (of equal requests within one 20 ns cycle, whose phase is
the model's choice, log entry 37, the lower number) has waited ARB.HOL µs, and it is no cell's while the brake is
engaged or engages in this cycle. At the granted start, not earlier, ISP, COMP, HRX and MPT go to RUN, NOSIG or
their running state, and HTX waits for HPD: with the grant if the start has come, else with the tick; a DMC in
self-refresh leaves it as the grant arrives (R202), its bursts waiting for the start. With nothing grantable
nothing changes. A return strikes the grant, or the waiting request; from a consumer with neither it records
0x0101 only. -/
def Obligations.CaddyGrantsWithinTheBudget : Prop :=
  (∀ (s : State) (r : Req), s.kaLive → nextGrant s = some r →
    yields .caddyGrant s fun t => r ∈ s.caddy.waits ∧
      t.caddy = { s.caddy with waits := t.caddy.waits, grants := t.caddy.grants, notices := t.caddy.notices } ∧
      t.caddy.waits = s.caddy.waits.filter (·.id != r.id) ∧ t.caddy.grants.map (fun g =>
      (g.id, g.amt, g.start)) = s.caddy.grants.map (fun g =>
      (g.id, g.amt, g.start)) ++ [(r.id, r.amt, max r.start (s.mtime + s.get CADDY.FFLEAD_TICKS))] ∧
      t.caddy.notices = (if r.amt = 0 then s.caddy.notices else s.caddy.notices ++ [(r.amt, max r.start (s.mtime + s.get CADDY.FFLEAD_TICKS))]) ∧
      (r.amt ≠ 0 → ((t.caddy.grants.map (·.amt)).sum : Int) + s.getA CADDY.RESERVE_AMT ≤ effShown s) ∧ (r.amt ≠ 0 →
      ∀ q ∈ s.caddy.waits, inOrder s q = true → aheadOf q r = true →
      (s.mtime - q.time) * 1000 < s.get CADDY.ARB_HOL * 98304) ∧ (r.id < 8 → s.get CADDY.STS_STATE = 1 ∧
      s.caddy.above ≤ 10) ∧ (8 ≤ r.id → s.mtime < max r.start (s.mtime + s.get CADDY.FFLEAD_TICKS) →
      startsDue s = [] → (∀ n : Fin 4, r.id = 9 + n.val → s.get (DMC.STS_STATE n) ≠ 3) → t.regs = s.regs ∧
      t.hrx = s.hrx) ∧ (∀ n : Fin 4, r.id = 9 + n.val → s.get (DMC.STS_STATE n) = 3 → startsDue s = [] →
      t.get (DMC.STS_STATE n) = 1) ∧ t.dram = s.dram ∧ t.nvm = s.nvm ∧ t.mtime = s.mtime) ∧
  (∀ (s : State) (r : Req), s.kaLive → nextGrant s = some r → startsDue s = [] → s.get CADDY.FFLEAD_TICKS = 0 →
    r.start ≤ s.mtime →
    yields .caddyGrant s fun t => (r.id = 8 → t.get ISP.STS_STATE = 2) ∧ (r.id = 13 → t.get COMP.STS_STATE = 2) ∧
      (r.id = 14 → t.get HRX.STS_STATE = 2 ∧ t.hrx.lanes = true) ∧ (r.id = 15 →
      t.get HTX.STS_STATE = if s.sys.tvHpd then 3 else 2) ∧ (r.id = 16 → t.get MPT.STS_STATE = 2) ∧
      (∀ n : Fin 4, r.id = 9 + n.val → s.get (DMC.STS_STATE n) = 3 → t.get (DMC.STS_STATE n) = 1 ∧
      (holdsGrant s (9 + n.val) = false → dmcEarly t n = false))) ∧
  (∀ (s : State) (a n : Nat), s.pending = [] → s.sys.pll = true → s.mtime + 1 < 2 ^ 64 → s.nvm.work = none →
    s.hif.waits = [] → s.caddy.grants = [⟨13, a, n, false⟩] →
    ∃ t, step s = .next t ∧ (n ≤ s.mtime + 1 → t.get COMP.STS_STATE = 2) ∧ (s.mtime + 1 < n →
      t.get COMP.STS_STATE = s.get COMP.STS_STATE)) ∧
  (∀ (s : State), s.kaLive → (∀ r ∈ s.caddy.waits, grantable s r = false) →
    exec .caddyGrant s = .next s) ∧
  (∀ (s : State) (c : Fin 17), s.kaLive →
    (holdsGrant s c = true →
      exec (.caddyReturn c) s = .next { s with caddy := { s.caddy with grants := s.caddy.grants.filter (·.id != c.val) } }) ∧
      (holdsGrant s c = false → waitsGrant s c = true →
      exec (.caddyReturn c) s = .next { s with caddy := { s.caddy with waits := s.caddy.waits.filter (·.id != c.val) } }) ∧
      (holdsGrant s c = false → waitsGrant s c = false → yields (.caddyReturn c) s fun t =>
      records .caddy 0x0101 s t ∧ s.only t (errFields .caddy)))

/-- A request that has waited longer than ARB.AGE µs is aged and ISR.AGED is set, once. Eleven samples above LIMIT
take RUN to BRAKE1 with ISR.BRAKE and the count; ten more µs above LIMIT take BRAKE1 to BRAKE2; ten µs at or below
LIMIT − HYST step back one stage, with ISR.RELEASE on the return to RUN; no grant is revoked. A temperature update
stores TJ, recomputes eff as max(0, BUDGET − SLOPE × max(0, TJ − T0)), sets OVERCOMMIT where grants and RESERVE
exceed it, revokes no grant, counts for grants from the next arbitration cycle on (its 20 ns cycles lie against
MTIME by the model's choice, log entry 37), shows the unsupported condition of R2 at −44 °C or less (log entry 8),
and shows for every channel whether TJ is further than its window from its training. -/
def Obligations.AgeingBrakeAndTemperature : Prop :=
  (∀ (s : State) (c : Fin 17) (r : Req), s.kaLive → r ∈ s.caddy.waits → r.id = c.val → r.aged = false →
    s.get CADDY.ARB_AGE * 98304 < (s.mtime - r.time) * 1000 →
    yields (.requestAged c) s fun t => t.get CADDY.ISR_AGED = 1 ∧ s.regsBut t [CADDY.ISR_AGED] ∧
      t = { s with regs := t.regs, caddy := { s.caddy with waits := s.caddy.waits.map fun x => if x.id == c.val then { x with aged := true } else x } }) ∧
  (∀ (s : State), s.kaLive → s.get CADDY.STS_STATE = 1 → 11 ≤ s.caddy.above →
    yields .brakeEngage s fun t => t.get CADDY.STS_STATE = 2 ∧ t.get CADDY.ISR_BRAKE = 1 ∧
      t.get CADDY.BRKCNT_COUNT = (s.get CADDY.BRKCNT_COUNT + 1) % 2 ^ 16 ∧
      s.regsBut t [CADDY.STS_STATE, CADDY.ISR_BRAKE, CADDY.BRKCNT_COUNT] ∧
      t = { s with regs := t.regs, caddy := { s.caddy with above := 0, below := 0 } }) ∧
  (∀ (s : State), s.kaLive → s.get CADDY.STS_STATE = 2 →
    (100 ≤ s.caddy.above → yields .brake2 s fun t => t.get CADDY.STS_STATE = 3 ∧ s.regsBut t [CADDY.STS_STATE] ∧
      t = { s with regs := t.regs, caddy := { s.caddy with above := 0, below := 0 } }) ∧ (100 ≤ s.caddy.below →
      yields .brakeStepBack s fun t => t.get CADDY.STS_STATE = 1 ∧ t.get CADDY.ISR_RELEASE = 1 ∧
      s.regsBut t [CADDY.STS_STATE, CADDY.ISR_RELEASE] ∧
      t = { s with regs := t.regs, caddy := { s.caddy with above := 0, below := 0 } })) ∧
  (∀ (s : State), s.kaLive → s.get CADDY.STS_STATE = 3 → 100 ≤ s.caddy.below →
    yields .brakeStepBack s fun t => t.get CADDY.STS_STATE = 2 ∧ s.regsBut t [CADDY.STS_STATE] ∧
      t = { s with regs := t.regs, caddy := { s.caddy with below := 0 } }) ∧
  (∀ (s : State) (v : BitVec 8), s.kaLive →
    yields (.tempUpdate v) s fun t => t.get CADDY.TEMP_TJ = v.toNat ∧
      t.get CADDY.AVAIL_EFF = ((s.getA CADDY.BUDGET_AMT : Int) - s.get CADDY.DERATE_SLOPE * max 0 (v.toInt - s.get CADDY.DERATE_T0)).toNat % 2 ^ 16 ∧
      (t.get CADDY.AVAIL_EFF < granted s + s.getA CADDY.RESERVE_AMT → t.get CADDY.ISR_OVERCOMMIT = 1) ∧
      t.caddy = { s.caddy with effOld := some (arbCycle s.mtime, effShown s), waits := s.caddy.waits.map fun r => { r with oversize := decide ((t.get CADDY.AVAIL_EFF : Int) - s.getA CADDY.RESERVE_AMT < r.amt) && r.amt != 0 } } ∧
      effShown t = effShown s ∧ effShown { t with mtime := s.mtime + 2 } = t.get CADDY.AVAIL_EFF ∧
      t.sys = (if v.toInt ≤ -44 then { s.sys with unsup := Unsup.all } else s.sys) ∧
      (∀ n : Fin 4, s.get (DMC.STS_STATE n) = 1 ∨ s.get (DMC.STS_STATE n) = 3 ∨ s.get (DMC.STS_STATE n) = 4 →
      t.get (DMC.STS_TDELTA n) = (decide (max 1 (min 25 (s.get (DMC.TWIN_DELTA n) : Int)) < mag (v.toInt - toSigned 8 (s.get (DMC.TTRAIN_TJ n))))).toNat) ∧
      s.regsBut t ([CADDY.TEMP_TJ, CADDY.AVAIL_EFF, CADDY.ISR_OVERCOMMIT, CADDY.ISR_OVERSIZE] ++ (List.range 4).flatMap fun n =>
      [DMC.STS_TDELTA n, DMC.ISR_TEMP_DELTA n]) ∧
      t = { s with regs := t.regs, caddy := t.caddy, dmcs := t.dmcs, sys := t.sys })

/-- A monitor update takes REFCFG as written and, for each present signal, the mean of its last ten measurements (four
pulses of a 1PPS), clamped, into RSTAT; with cross-comparison off and REF_XO qualified each reference leaves its
state as Table TIM-2 says (a limit crossed sets ISR.SOFT or ISR.HARD). With cross-comparison on and two references
eligible, XOEST is valid where they agree and is the mean of their offsets with its sign turned; REF_XO moves by
it, and while it is in ALARM the others are judged with it added; where they do not agree XOEST is invalid and
REF_XO keeps its state. A 1PPS pulse does the same for REF_AUX, once it has had pulses for 2.0 s. A loss of
signal, or a change of the rate that HRX or EARC signals (which freezes no history by itself), makes the reference
ABSENT with OFF 0 and FAM none, DISQ if it was eligible, the others as they were; neither event has an effect on
REF_XO. With CTL.EN 1 each domain has afterwards selected what R141, R142 and R144 choose (none in HOLDOVER), and
a new selection of the video domain sets VSW and source 3. -/
def Obligations.ReferencesQualifyAndDomainsSwitch : Prop :=
  (∀ (s : State) (ms : List RefMeas) (n : Fin 5) (m : RefMeas) (o : Int) (l : List Int), s.kaLive →
    ms[n.val]? = some m → m.present = true → (n = 4 → s.get (TIM.REFCFG_NOM 4) ≠ 1) → sourceHas s n = true →
    s.getA (TIM.REFCFG_NOM n) = s.get (TIM.REFCFG_NOM n) → l = (m.off :: SMap.get [] s.tim.meas n).take 10 →
    o = max (-32767) (min 32767 (openDiv l.sum (1000 * l.length))) →
    yields (.monitorUpdate ms) s fun t => t.get (TIM.RSTAT_OFF n) = ofSigned 16 o ∧ SMap.get [] t.tim.meas n = l ∧
      (s.get TIM.XOCMP_EN = 0 → s.get (TIM.RSTAT_STATE 5) = 2 → (s.get (TIM.RSTAT_STATE n) = 0 ∨
      s.get (TIM.RSTAT_STATE n) = 5 →
      t.get (TIM.RSTAT_STATE n) = if mag o ≤ s.get (TIM.REFCFG_SOFT n) * 100 then 1 else 5) ∧
      (s.get (TIM.RSTAT_STATE n) = 1 →
      t.get (TIM.RSTAT_STATE n) = if s.get (TIM.REFCFG_SOFT n) * 100 < mag o then 5 else if max 1 (s.get (TIM.REFCFG_QUAL n)) ≤ refTimer s n + 1 then 2 else 1) ∧
      (s.get (TIM.RSTAT_STATE n) = 2 → (mag o ≤ s.get (TIM.REFCFG_SOFT n) * 100 → t.get (TIM.RSTAT_STATE n) = 2) ∧
      (s.get (TIM.REFCFG_SOFT n) * 100 < mag o → t.get (TIM.RSTAT_STATE n) = 3 ∧ t.get TIM.ISR_SOFT = 1)) ∧
      (s.get (TIM.RSTAT_STATE n) = 3 → (mag o ≤ s.get (TIM.REFCFG_SOFT n) * 100 → t.get (TIM.RSTAT_STATE n) = 2) ∧
      (s.get (TIM.REFCFG_SOFT n) * 100 < mag o → s.get (TIM.REFCFG_HARD n) * 100 < mag o →
      t.get (TIM.RSTAT_STATE n) = 4 ∧ t.get TIM.ISR_HARD = 1)) ∧ (s.get (TIM.RSTAT_STATE n) = 4 →
      t.get (TIM.RSTAT_STATE n) = if mag o ≤ s.get (TIM.REFCFG_HARD n) * 100 then 3 else if max 1 (s.get (TIM.REFCFG_QUAL n)) ≤ refTimer s n + 1 then 5 else 4)) ∧
      (s.get TIM.XOCMP_EN = 0 → t.get TIM.XOEST_VALID = 0 ∧ t.get (TIM.RSTAT_STATE 5) = s.get (TIM.RSTAT_STATE 5)) ∧
      (∀ k : Fin 6, t.getA (TIM.REFCFG_SOFT k) = s.get (TIM.REFCFG_SOFT k) ∧
      t.getA (TIM.REFCFG_HARD k) = s.get (TIM.REFCFG_HARD k)) ∧ (s.get TIM.CTL_EN = 1 →
      selectedRef t .audio = chooseRef t .audio ∧ selectedRef t .video = chooseRef t .video) ∧
      (∀ f : Fld, keyIn 0x2000 f.key = false → t.get f = s.get f) ∧ t.mtime = s.mtime ∧ t.dram = s.dram ∧
      t.nvm = s.nvm) ∧
  (∀ (s : State) (ms : List RefMeas) (a b : Fin 5) (ma mb : RefMeas), s.kaLive → a < b →
    ms[a.val]? = some ma ∧ ma.present = true ∧ sourceHas s a = true →
    ms[b.val]? = some mb ∧ mb.present = true ∧ sourceHas s b = true → (b = 4 → s.get (TIM.REFCFG_NOM 4) ≠ 1) →
    s.getA (TIM.REFCFG_NOM a) = s.get (TIM.REFCFG_NOM a) ∧ s.getA (TIM.REFCFG_NOM b) = s.get (TIM.REFCFG_NOM b) →
    (∀ k : Fin 5, (2 ≤ s.get (TIM.RSTAT_STATE k) ∧ s.get (TIM.RSTAT_STATE k) ≤ 4) ↔ (k = a ∨ k = b)) →
    s.get TIM.XOCMP_EN = 1 →
    yields (.monitorUpdate ms) s fun t => (mag (refOff t a - refOff t b) ≤ s.get TIM.XOCMP_AGREE * 100 →
      t.get TIM.XOEST_VALID = 1 ∧ t.get TIM.XOEST_PPM = ofSigned 16 (openDiv (-(refOff t a + refOff t b)) 2) ∧
      (s.get (TIM.RSTAT_STATE 5) = 2 → (mag (xoPpm t) ≤ s.get (TIM.REFCFG_SOFT 5) * 100 →
      t.get (TIM.RSTAT_STATE 5) = 2) ∧ (s.get (TIM.REFCFG_SOFT 5) * 100 < mag (xoPpm t) →
      t.get (TIM.RSTAT_STATE 5) = 3 ∧ t.get TIM.ISR_XODRIFT = 1 ∧ (s.get (TIM.RSTAT_STATE a) = 2 →
      t.get (TIM.RSTAT_STATE a) = if mag (refOff t a + xoPpm t) ≤ s.get (TIM.REFCFG_SOFT a) * 100 then 2 else 3)))) ∧
      (s.get TIM.XOCMP_AGREE * 100 < mag (refOff t a - refOff t b) → t.get TIM.XOEST_VALID = 0 ∧
      t.get TIM.XOEST_PPM = s.get TIM.XOEST_PPM ∧ t.get (TIM.RSTAT_STATE 5) = s.get (TIM.RSTAT_STATE 5))) ∧
  (∀ (s : State) (off o : Int) (l : List Int), s.kaLive → s.getA (TIM.REFCFG_NOM 4) = 1 →
    s.get (TIM.RSTAT_STATE 5) = 2 → (s.get (TIM.RSTAT_STATE 4) ≠ 0 ∨ pulsesLast (notePulse s) = true) →
    l = (off :: SMap.get [] s.tim.meas 4).take 4 →
    o = max (-32767) (min 32767 (openDiv l.sum (1000 * l.length))) →
    yields (.ppsPulse off) s fun t => t.get (TIM.RSTAT_OFF 4) = ofSigned 16 o ∧ ((s.get (TIM.RSTAT_STATE 4) = 0 ∨
      s.get (TIM.RSTAT_STATE 4) = 5 →
      t.get (TIM.RSTAT_STATE 4) = if mag o ≤ s.getA (TIM.REFCFG_SOFT 4) * 100 then 1 else 5) ∧
      (s.get (TIM.RSTAT_STATE 4) = 2 → s.getA (TIM.REFCFG_SOFT 4) * 100 < mag o → t.get (TIM.RSTAT_STATE 4) = 3 ∧
      t.get TIM.ISR_SOFT = 1)) ∧ (∀ k : Fin 6, k ≠ 4 → t.get (TIM.RSTAT_STATE k) = s.get (TIM.RSTAT_STATE k)) ∧
      (s.get TIM.CTL_EN = 1 → selectedRef t .audio = chooseRef t .audio ∧ selectedRef t .video = chooseRef t .video)) ∧
  (∀ (s : State) (off : Int), s.kaLive → s.get (TIM.RSTAT_STATE 4) = 0 → pulsesLast (notePulse s) = false →
    yields (.ppsPulse off) s fun t =>
      t = { s with tim := { s.tim with auxFrom := t.tim.auxFrom, auxLast := some s.mtime } }) ∧
  (∀ (s : State) (n : Fin 6), s.kaLive → n.val < 5 → s.get (TIM.RSTAT_STATE n) ≠ 0 →
    yields (.lossOfSignal n) s fun t => t.get (TIM.RSTAT_STATE n) = 0 ∧ t.get (TIM.RSTAT_OFF n) = 0 ∧
      t.get (TIM.RSTAT_FAM n) = 0xF ∧ (∀ k : Fin 6, k ≠ n → t.get (TIM.RSTAT_STATE k) = s.get (TIM.RSTAT_STATE k) ∧
      t.get (TIM.RSTAT_OFF k) = s.get (TIM.RSTAT_OFF k)) ∧ (2 ≤ s.get (TIM.RSTAT_STATE n) ∧
      s.get (TIM.RSTAT_STATE n) ≤ 4 → t.get TIM.ISR_DISQ = 1) ∧ (s.get TIM.CTL_EN = 1 →
      selectedRef t .audio = chooseRef t .audio ∧ selectedRef t .video = chooseRef t .video) ∧
      (∀ k, s.get TIM.CTL_EN = 1 → selectedRef t .video = some k → selectedRef s .video ≠ some k →
      s.sys.coreUp = true → t.get TIM.ISR_VSW = 1 ∧ 3 ∈ t.intc.edges) ∧ (s.get TIM.CTL_EN = 0 →
      t.get TIM.DSTS_ASTATE = s.get TIM.DSTS_ASTATE ∧ t.get TIM.DSTS_VSTATE = s.get TIM.DSTS_VSTATE)) ∧
  (∀ (s : State) (n : Fin 6), s.kaLive → n.val < 2 → s.get (TIM.RSTAT_STATE n) ≠ 0 →
    yields (.refRateChange n) s fun t => t.get (TIM.RSTAT_STATE n) = 0 ∧ t.get (TIM.RSTAT_OFF n) = 0 ∧
      t.get (TIM.RSTAT_FAM n) = 0xF ∧ (∀ k : Fin 6, k ≠ n → t.get (TIM.RSTAT_STATE k) = s.get (TIM.RSTAT_STATE k) ∧
      t.get (TIM.RSTAT_OFF k) = s.get (TIM.RSTAT_OFF k)) ∧ (2 ≤ s.get (TIM.RSTAT_STATE n) ∧
      s.get (TIM.RSTAT_STATE n) ≤ 4 → t.get TIM.ISR_DISQ = 1) ∧ (s.get TIM.CTL_EN = 1 →
      selectedRef t .audio = chooseRef t .audio ∧ selectedRef t .video = chooseRef t .video) ∧
      (t.get TIM.DSTS_ASTATE ≠ 3 → (t.loop .audio).frozen = (s.loop .audio).frozen) ∧ (t.get TIM.DSTS_VSTATE ≠ 3 →
      (t.loop .video).frozen = (s.loop .video).frozen) ∧ (s.get TIM.CTL_EN = 0 →
      t.get TIM.DSTS_ASTATE = s.get TIM.DSTS_ASTATE ∧ t.get TIM.DSTS_VSTATE = s.get TIM.DSTS_VSTATE)) ∧
  (∀ (s : State) (n : Fin 6), s.kaLive →
    (n = 5 ∨ s.get (TIM.RSTAT_STATE n) = 0 → exec (.lossOfSignal n) s = .next s) ∧ (2 ≤ n.val ∨
      s.get (TIM.RSTAT_STATE n) = 0 → exec (.refRateChange n) s = .next s))

/-- One loop update moves each domain's frequency toward its target and not past it, by at most SLEW × 1 ms; in
FREERUN and HOLDOVER it reaches a target that near (a tracking loop moves as its bandwidth lets it, log entry 12).
The target is 0 while CTL.EN is 0, and within HARD of a selected reference. A LOCKING domain near its reference
for 1 s becomes LOCKED. OUTEN, AUD (WDIV not 3), REFCFG (limits and NOM in order) store their fields, REFCFG for
the next update, AUD for the next WCLK_OUT edge (FSYNC_OUT restarts its count there); else 0x0103 or 0x0100 is
recorded. REALIGN marks a domain with a phase pending, does nothing while pending, and else records 0x0102; its
measuring edge ends it, moving PPSEP by PHERRV or delaying the next WCLK_OUT edge by PHERRA rounded to whole
synthesiser periods. PPS_OUT rises at PPSEP. A read of MTIMEL answers the low word and latches the high one. -/
def Obligations.LoopsSlewLockAndRealign : Prop :=
  (∀ (s : State) (d : TimDom), s.kaLive →
    yields .dpllUpdate s fun t => mag ((t.loop d).freq - (s.loop d).freq) ≤ slewStep s d ∧
      ((s.loop d).freq ≤ loopTarget s d → (s.loop d).freq ≤ (t.loop d).freq ∧ (t.loop d).freq ≤ loopTarget s d) ∧
      (loopTarget s d ≤ (s.loop d).freq → loopTarget s d ≤ (t.loop d).freq ∧ (t.loop d).freq ≤ (s.loop d).freq) ∧
      (s.get (stateFld d) = 0 ∨ s.get (stateFld d) = 3 → mag (loopTarget s d - (s.loop d).freq) ≤ slewStep s d →
      (t.loop d).freq = loopTarget s d) ∧ (s.get TIM.CTL_EN = 0 → loopTarget s d = 0) ∧ (∀ n, s.get TIM.CTL_EN = 1 →
      s.get (TIM.RSTAT_STATE 5) = 2 → selectedRef s d = some n →
      mag (loopTarget s d) ≤ s.getA (TIM.REFCFG_HARD n) * 100000) ∧ (s.get (stateFld d) = 2 →
      t.get (stateFld d) = if nearRef t d then 2 else 1) ∧ s.regsBut t [TIM.DSTS_ASTATE, TIM.DSTS_VSTATE] ∧
      t = { s with regs := t.regs, tim := t.tim }) ∧
  (∀ (s : State) (d : TimDom), s.kaLive → s.get (stateFld d) = 1 → 1000 ≤ (s.loop d).near →
    yields (.domainLocked d) s fun t => t.get (stateFld d) = 2 ∧ s.regsBut t [stateFld d] ∧ t.mtime = s.mtime ∧
      t.loop d = { s.loop d with thaw := (s.loop d).frozen }) ∧
  (∀ (s : State) (d : W32), s.live → s.answers .tim →
    yields (.outenWrite d) s (fun t => t.get TIM.OUTEN_PPS = (TIM.OUTEN_PPS).ofData d ∧
      t.get TIM.OUTEN_FSYNC = (TIM.OUTEN_FSYNC).ofData d ∧ t.get TIM.OUTEN_WCLK = (TIM.OUTEN_WCLK).ofData d ∧
      t.get TIM.OUTEN_MCLK = (TIM.OUTEN_MCLK).ofData d ∧
      s.only t [TIM.OUTEN_PPS, TIM.OUTEN_FSYNC, TIM.OUTEN_WCLK, TIM.OUTEN_MCLK]) ∧ ((TIM.AUD_WDIV).ofData d = 3 →
      yields (.audWrite d) s fun t => records .tim 0x0103 s t ∧ s.only t (errFields .tim)) ∧
      ((TIM.AUD_WDIV).ofData d ≠ 3 → yields (.audWrite d) s fun t => t.get TIM.AUD_MDIV = (TIM.AUD_MDIV).ofData d ∧
      t.get TIM.AUD_AFAM = (TIM.AUD_AFAM).ofData d ∧ t.get TIM.AUD_WDIV = (TIM.AUD_WDIV).ofData d ∧
      t.get TIM.AUD_FSDIV = (TIM.AUD_FSDIV).ofData d ∧
      s.only t [TIM.AUD_MDIV, TIM.AUD_AFAM, TIM.AUD_WDIV, TIM.AUD_FSDIV])) ∧
  (∀ (s : State) (n : Fin 6) (d : W32), s.live → s.answers .tim →
    ((TIM.REFCFG_SOFT n).ofData d ≠ 0 → (TIM.REFCFG_SOFT n).ofData d ≤ (TIM.REFCFG_HARD n).ofData d →
      nomOk n ((TIM.REFCFG_NOM n).ofData d) = true → yields (.refcfgWrite n d) s fun t =>
      t.get (TIM.REFCFG_SOFT n) = (TIM.REFCFG_SOFT n).ofData d ∧
      t.get (TIM.REFCFG_HARD n) = (TIM.REFCFG_HARD n).ofData d ∧
      t.get (TIM.REFCFG_QUAL n) = (TIM.REFCFG_QUAL n).ofData d ∧
      t.get (TIM.REFCFG_NOM n) = (TIM.REFCFG_NOM n).ofData d ∧
      s.only t [TIM.REFCFG_SOFT n, TIM.REFCFG_HARD n, TIM.REFCFG_QUAL n, TIM.REFCFG_NOM n]) ∧
      ((TIM.REFCFG_SOFT n).ofData d = 0 ∨ (TIM.REFCFG_HARD n).ofData d < (TIM.REFCFG_SOFT n).ofData d ∨
      nomOk n ((TIM.REFCFG_NOM n).ofData d) = false → yields (.refcfgWrite n d) s fun t => records .tim 0x0100 s t ∧
      s.only t (errFields .tim))) ∧
  (∀ (s : State), s.live → s.answers .tim →
    (s.get TIM.DSTS_REALA = 1 → exec .realignAud s = .next s) ∧ (s.get TIM.DSTS_REALV = 1 →
      exec .realignVid s = .next s) ∧ (s.get TIM.DSTS_REALA = 0 → hasPhase s .audio = true →
      yields .realignAud s fun t => t.get TIM.DSTS_REALA = 1 ∧ s.only t [TIM.DSTS_REALA]) ∧
      (s.get TIM.DSTS_REALV = 0 → hasPhase s .video = true → yields .realignVid s fun t => t.get TIM.DSTS_REALV = 1 ∧
      s.only t [TIM.DSTS_REALV]) ∧ (s.get TIM.DSTS_REALA = 0 → hasPhase s .audio = false →
      yields .realignAud s fun t => records .tim 0x0102 s t ∧ s.only t (errFields .tim)) ∧
      (s.get TIM.DSTS_REALV = 0 → hasPhase s .video = false → yields .realignVid s fun t => records .tim 0x0102 s t ∧
      s.only t (errFields .tim))) ∧
  (∀ (s : State),
    (640 * s.tim.outs.wlen ≤ s.tim.outs.w → audWaits s = true → (wclkTick s).tim.outs.f = 0 ∧
      audWaits (wclkTick s) = false ∧ (wclkTick s).getA TIM.AUD_AFAM = s.get TIM.AUD_AFAM ∧
      (wclkTick s).getA TIM.AUD_WDIV = s.get TIM.AUD_WDIV ∧ (s.get TIM.AUD_AFAM ≠ s.getA TIM.AUD_AFAM →
      s.get TIM.CTL_EN = 1 → selectedRef (wclkTick s) .audio = chooseRef (wclkTick s) .audio)) ∧
      (640 * s.tim.outs.wlen ≤ s.tim.outs.w → audWaits s = false → s.tim.outs.fsSet = false →
      (wclkTick s).tim.outs.f = if s.tim.outs.f + 1 < s.get TIM.AUD_FSDIV then s.tim.outs.f + 1 else 0) ∧
      (s.tim.outs.w < 640 * s.tim.outs.wlen → wclkTick s = s) ∧ (s.mtime % 98304000 = s.get TIM.PPSEP_EPOCH →
      s.get TIM.DSTS_REALV = 0 → (ppsTick s).tim.outs.pps = some s.mtime) ∧
      (s.mtime % 98304000 ≠ s.get TIM.PPSEP_EPOCH → ppsTick s = s) ∧ (6 ∈ (timTick s).tim.outs.run →
      6 ∈ s.tim.outs.run ∨ (s.get TIM.OUTEN_PPS = 1 ∧ (timTick s).tim.outs.pps = some s.mtime))) ∧
  (∀ (s : State) (d : TimDom), s.kaLive →
    (s.get (realFld d) = 0 ∨ atEdge s d = false → exec (.realignApply d) s = .next s) ∧ (s.get (realFld d) = 1 →
      atEdge s d = true → hasPhase s d = false → yields (.realignApply d) s fun t => t.get (realFld d) = 0 ∧
      records .tim 0x0102 s t ∧ s.regsBut t (realFld d :: errFields .tim) ∧
      t = { s with regs := t.regs, tim := t.tim })) ∧
  (∀ (s : State), s.kaLive → s.get TIM.DSTS_REALA = 1 → s.tim.outs.wEdge = true → hasPhase s .audio = true →
    yields (.realignApply .audio) s fun t => t.get TIM.DSTS_REALA = 0 ∧ s.regsBut t [TIM.DSTS_REALA] ∧
      t.tim.outs.fsSet = true ∧
      t.tim.outs.wlen = s.tim.outs.wlen + (roundHalfUp (s.get TIM.PHERRA_TICKS * synthPer640 s : Nat) 640).toNat ∧
      t = { s with regs := t.regs, tim := { s.tim with outs := t.tim.outs } }) ∧
  (∀ (s : State), s.kaLive → s.get TIM.DSTS_REALV = 1 → s.mtime % 98304000 = s.get TIM.PPSEP_EPOCH →
    s.tim.outs.pps ≠ some s.mtime → hasPhase s .video = true →
    yields (.realignApply .video) s fun t => t.get TIM.DSTS_REALV = 0 ∧
      t.get TIM.PPSEP_EPOCH = (s.get TIM.PPSEP_EPOCH + s.get TIM.PHERRV_TICKS) % 98304000 ∧
      s.regsBut t [TIM.DSTS_REALV, TIM.PPSEP_EPOCH] ∧ t.mtime = s.mtime) ∧
  (∀ (s : State), s.live → s.answers .tim →
    yields .mtimelRead s fun t => t.out.rdata = some (BitVec.ofNat 32 s.mtime) ∧
      t.get TIM.MTIMEH_HIGH = s.mtime / 2 ^ 32 % 2 ^ 32 ∧ s.regsBut t [TIM.MTIMEH_HIGH] ∧
      t = { s with regs := t.regs, out := t.out })

/-- A stamp within one tick of now of the selected source, and of the GENLOCK_IN edge that GPOL selects (another
changes nothing): in SEARCH it counts or starts the count again, and as the ACQ-th fitting pulse it locks and is a
tooth; in LOCKED or COAST inside the window it resolves the tooth (per and p as R161 gives), outside it is counted
as noise. A tooth due in FREE, LOCKED or COAST counts TCNT, sets ISR.TOOTH and applies every pending TOOTH commit
(the shadows become the active copies, PENDING clears, STAMP takes MTIME's low 32 bits: R44); its instant is p. No
pulse by p + WIN counts a miss, keeps per, moves p by per, goes from LOCKED to COAST, and enters SEARCH once
MISSRUN reaches MISS_MAX, where no armed event stays a tooth event and one whose instant has gone fires; the
events tied to the missed tooth, armed or fired, are COASTED. The number of a lock that no fresh tooth precedes,
and that the first pulse of a run counts toward ACQ, are the model's readings (log entry 25). -/
def Obligations.FlywheelMakesTeeth : Prop :=
  (∀ (s : State) (src : Fin 2) (f : Bool) (b : Nat), s.live → s.get PRS.CFG_TSRC = src.val →
    (src.val = 1 → f = s.bit PRS.CFG_GPOL) → mag ((b : Int) - s.mtime) ≤ 1 →
    (s.get PRS.STS_STATE = 2 ∨ s.get PRS.STS_STATE = 3) → s.prs.due = none →
    (s.prs.win * 16 < mag ((b * 16 : Nat) - (s.prs.p : Int)) → yields (.framePulse src f b) s fun t =>
      t.get PRS.CNT_NOISE = (s.get PRS.CNT_NOISE + 1) % 2 ^ 16 ∧ t.get PRS.ISR_NOISE = 1 ∧
      s.only t [PRS.CNT_NOISE, PRS.ISR_NOISE]) ∧ (mag ((b * 16 : Nat) - (s.prs.p : Int)) ≤ s.prs.win * 16 →
      s.prs.perNew = false → yields (.framePulse src f b) s fun t => t.get PRS.STS_STATE = 2 ∧
      t.get PRS.STS_MISSRUN = 0 ∧ t.prs.e = (b * 16 : Nat) - (s.prs.p : Int) ∧
      t.prs.per = (max ((s.get PRS.PERIOD_P16 : Int) - s.get PRS.PERIOD_P16 / 256) (min ((s.get PRS.PERIOD_P16 : Int) + s.get PRS.PERIOD_P16 / 256) (s.prs.per + t.prs.e.tdiv 128))).toNat ∧
      t.prs.p = ((s.prs.p : Int) + t.prs.per + t.prs.e.tdiv 8).toNat ∧
      t.prs.due = (if s.prs.fell then none else some s.prs.p) ∧ t.prs.fell = false ∧
      s.regsBut t [PRS.STS_STATE, PRS.STS_MISSRUN] ∧ t = { s with regs := t.regs, prs := t.prs }) ∧
      (mag ((b * 16 : Nat) - (s.prs.p : Int)) ≤ s.prs.win * 16 → s.prs.perNew = true →
      yields (.framePulse src f b) s fun t => t.prs.per = s.get PRS.PERIOD_P16 ∧
      t.prs.p = ((s.prs.p : Int) + s.get PRS.PERIOD_P16 + ((b * 16 : Nat) - (s.prs.p : Int)).tdiv 8).toNat ∧
      t.get PRS.STS_STATE = 2)) ∧
  (∀ (s : State) (src : Fin 2) (f : Bool) (b : Nat), s.live → s.get PRS.CFG_TSRC = src.val →
    (src.val = 1 → f = s.bit PRS.CFG_GPOL) → mag ((b : Int) - s.mtime) ≤ 1 → s.get PRS.STS_STATE = 1 →
    (s.prs.acq = 0 ∨
      s.get PRS.WINDOW_WIN * 16 < mag ((b * 16 : Nat) - ((s.prs.prev * 16 + s.get PRS.PERIOD_P16 : Nat) : Int)) →
      exec (.framePulse src f b) s = .next { s with prs := { s.prs with acq := 1, prev := b } }) ∧ (s.prs.acq ≠ 0 →
      mag ((b * 16 : Nat) - ((s.prs.prev * 16 + s.get PRS.PERIOD_P16 : Nat) : Int)) ≤ s.get PRS.WINDOW_WIN * 16 →
      s.prs.acq + 1 < max 2 (s.get PRS.CFG_ACQ) →
      exec (.framePulse src f b) s = .next { s with prs := { s.prs with acq := s.prs.acq + 1, prev := b } }) ∧
      (s.prs.acq ≠ 0 →
      mag ((b * 16 : Nat) - ((s.prs.prev * 16 + s.get PRS.PERIOD_P16 : Nat) : Int)) ≤ s.get PRS.WINDOW_WIN * 16 →
      max 2 (s.get PRS.CFG_ACQ) ≤ s.prs.acq + 1 → yields (.framePulse src f b) s fun t => t.get PRS.STS_STATE = 2 ∧
      t.get PRS.ISR_LOCK = 1 ∧ t.get PRS.ISR_TOOTH = 1 ∧ t.get PRS.STS_MISSRUN = 0 ∧
      t.prs.per = s.get PRS.PERIOD_P16 ∧ t.prs.p = b * 16 + s.get PRS.PERIOD_P16 ∧ t.prs.last = b * 16 ∧
      t.prs.hasTooth = true ∧ t.get PRS.TCNT_COUNT = (s.get PRS.TCNT_COUNT + (if s.prs.fresh = true ∨
      s.prs.hasTooth = false then 1 else (max 1 (roundHalfUp ((b * 16 : Nat) - s.prs.last) s.prs.per)).toNat)) % 2 ^ 32 ∧
      ∀ p : Page, s.regsOk → awaits s p 3 = true → applied p s t)) ∧
  (∀ (s : State) (src : Fin 2) (f : Bool) (b : Nat), s.live →
    (s.get PRS.CFG_TSRC ≠ src.val ∨ (src = 1 ∧ f ≠ s.bit PRS.CFG_GPOL) ∨ s.get PRS.STS_STATE = 0 ∨ s.get PRS.STS_STATE = 4) →
    exec (.framePulse src f b) s = .next s) ∧
  (∀ (s : State), s.live → s.prs.p ≤ s.mtime * 16 →
    (s.get PRS.STS_STATE = 4 → yields .tooth s fun t =>
      t.get PRS.TCNT_COUNT = (s.get PRS.TCNT_COUNT + 1) % 2 ^ 32 ∧ t.get PRS.ISR_TOOTH = 1 ∧ t.prs.last = s.prs.p ∧
      t.prs.p = s.prs.p + s.get PRS.PERIOD_P16 ∧ t.prs.hasTooth = true ∧ (∀ p : Page, s.regsOk →
      awaits s p 3 = true → applied p s t)) ∧ (s.get PRS.STS_STATE = 2 ∨ s.get PRS.STS_STATE = 3 → s.prs.due = none →
      s.prs.fell = false → yields .tooth s fun t => t.get PRS.TCNT_COUNT = (s.get PRS.TCNT_COUNT + 1) % 2 ^ 32 ∧
      t.get PRS.ISR_TOOTH = 1 ∧ t.prs.last = s.prs.p ∧ t.prs.fell = true ∧ t.prs.p = s.prs.p ∧
      (∀ p : Page, s.regsOk → awaits s p 3 = true → applied p s t))) ∧
  (∀ (s : State), s.live → (s.get PRS.STS_STATE = 2 ∨ s.get PRS.STS_STATE = 3) → s.prs.fell = true →
    s.prs.p + s.prs.win * 16 < s.mtime * 16 → s.prs.perNew = false →
    (s.get PRS.PERIOD_P16 : Int) - s.get PRS.PERIOD_P16 / 256 ≤ s.prs.per →
    s.prs.per ≤ s.get PRS.PERIOD_P16 + s.get PRS.PERIOD_P16 / 256 →
    yields .toothMissed s fun t => t.get PRS.STS_MISSRUN = min 15 (s.get PRS.STS_MISSRUN + 1) ∧
      t.get PRS.CNT_MISS = (s.get PRS.CNT_MISS + 1) % 2 ^ 16 ∧ t.prs.per = s.prs.per ∧
      t.prs.p = s.prs.p + s.prs.per ∧ t.prs.e = 0 ∧ (s.get PRS.STS_STATE = 2 → t.get PRS.ISR_MISS = 1) ∧
      (t.get PRS.STS_MISSRUN < max 1 (s.get PRS.CFG_MISS_MAX) → t.get PRS.STS_STATE = 3) ∧
      (max 1 (s.get PRS.CFG_MISS_MAX) ≤ t.get PRS.STS_MISSRUN → t.get PRS.STS_STATE = 1 ∧ t.get PRS.ISR_SEARCH = 1 ∧
      ∀ k : Fin 64, s.prs.hasTooth = true → s.get (PRS.EVCS_STATE k) = 1 → s.get (PRS.EVACT_MODE k) = 1 →
      t.get (PRS.EVCS_STATE k) = (if s.get PRS.CTL_EN = 1 ∧
      t.get64 (PRS.EVTL_V k) (PRS.EVTH_V k) ≤ s.mtime then 2 else 1) ∧ t.get (PRS.EVACT_MODE k) = 0 ∧
      t.get (PRS.EVCS_CONVERTED k) = 1 ∧ t.get (PRS.EVCS_COASTED k) = 1) ∧
      (∀ k : Fin 64, (s.get (PRS.EVCS_STATE k) = 1 ∧ s.get (PRS.EVACT_MODE k) = 1 ∧
      s.get (PRS.EVTL_V k) = s.get PRS.TCNT_COUNT) ∨ (s.get (PRS.EVCS_STATE k) = 2 ∧
      SMap.find s.prs.fired k = some (s.get PRS.TCNT_COUNT)) → t.get (PRS.EVCS_COASTED k) = 1) ∧
      t.get PRS.TCNT_COUNT = s.get PRS.TCNT_COUNT ∧ t.mtime = s.mtime ∧ t.act = s.act)

/-- CFG with TSRC 3 records 0x0100; else its fields are stored, and a new source while enabled enters SEARCH, or FREE,
where a tooth falls at once and per is PERIOD (the model's choice, log entry 39), after what was due before.
Enabling enters them too and judges every armed absolute event that has passed; disabling shows IDLE and keeps the
slots. Arming an armed slot does nothing; cancelling one that is due fires it; a reserved action or target records
0x0102 and leaves IDLE; a future absolute event, or a tooth event before the first tooth, waits; a past one fires
with LATE within LATEMAX under policy 0, else is dropped with MISSED. A slot due fires after the lower ones that
are due and after a tooth of the tick, which counts and applies its commits first (its action before those of
higher slots that fired in the tick): FIRED, stamped, its action sent or 0x0104 recorded, its source asserted,
after the action where there is one under way. A refused ARM leaving the slot IDLE, and what a cancel does to one
that is not ARMED, are the model's readings (log entry 25). A read of TCNT answers it and latches last, next, per
and e. -/
def Obligations.EventSlotsArmFireAndConvert : Prop :=
  (∀ (s : State) (d : W32), s.live → s.answers .prs →
    ((PRS.CFG_TSRC).ofData d = 3 → yields (.prsCfgWrite d) s fun t => records .prs 0x0100 s t ∧
      s.only t (errFields .prs)) ∧ ((PRS.CFG_TSRC).ofData d ≠ 3 → yields (.prsCfgWrite d) s fun t =>
      t.get PRS.CFG_TSRC = (PRS.CFG_TSRC).ofData d ∧ t.get PRS.CFG_ACQ = (PRS.CFG_ACQ).ofData d ∧
      t.get PRS.CFG_MISS_MAX = (PRS.CFG_MISS_MAX).ofData d ∧ t.get PRS.CFG_GPOL = (PRS.CFG_GPOL).ofData d ∧
      ((s.get PRS.CTL_EN = 0 ∧ s.get PRS.STS_STATE ≤ 1) ∨ (PRS.CFG_TSRC).ofData d = s.get PRS.CFG_TSRC →
      s.only t [PRS.CFG_TSRC, PRS.CFG_ACQ, PRS.CFG_MISS_MAX, PRS.CFG_GPOL]) ∧ (s.get PRS.CTL_EN = 1 →
      (PRS.CFG_TSRC).ofData d ≠ s.get PRS.CFG_TSRC → (PRS.CFG_TSRC).ofData d = 2 → t.get PRS.STS_STATE = 4 ∧
      t.prs.last = s.mtime * 16 ∧ t.prs.p = s.mtime * 16 + s.get PRS.PERIOD_P16 ∧ t.prs.per = s.get PRS.PERIOD_P16 ∧
      t.prs.hasTooth = true ∧ t.get PRS.ISR_TOOTH = 1 ∧ (toothEff s = s →
      t.get PRS.TCNT_COUNT = (s.get PRS.TCNT_COUNT + 1) % 2 ^ 32)) ∧ (s.get PRS.CTL_EN = 1 →
      (PRS.CFG_TSRC).ofData d ≠ s.get PRS.CFG_TSRC → (PRS.CFG_TSRC).ofData d ≠ 2 → t.get PRS.STS_STATE = 1 ∧
      t.prs.acq = 0 ∧ ∀ k : Fin 64, s.prs.hasTooth = true → s.get (PRS.EVCS_STATE k) = 1 →
      t.get (PRS.EVACT_MODE k) = 0 ∨ t.get (PRS.EVCS_STATE k) = 2))) ∧
  (∀ (s : State), s.live → s.answers .prs →
    (s.get PRS.CTL_EN = 1 → exec .prsEnable s = .next s) ∧ (s.get PRS.CTL_EN = 0 → yields .prsEnable s fun t =>
      t.get PRS.CTL_EN = 1 ∧ t.get PRS.STS_STATE = (if s.get PRS.CFG_TSRC = 2 then 4 else 1) ∧
      ∀ k : Fin 64, s.get (PRS.EVCS_STATE k) = 1 → s.get (PRS.EVACT_MODE k) = 0 → s.get (PRS.EVCS_CONVERTED k) = 0 →
      (s.mtime < s.get64 (PRS.EVTL_V k) (PRS.EVTH_V k) → t.get (PRS.EVCS_STATE k) = 1) ∧
      (s.get64 (PRS.EVTL_V k) (PRS.EVTH_V k) ≤ s.mtime → s.get (PRS.EVACT_LATE_POLICY k) = 0 →
      s.mtime - s.get64 (PRS.EVTL_V k) (PRS.EVTH_V k) ≤ s.get PRS.LATEMAX_TICKS → t.get (PRS.EVCS_STATE k) = 2 ∧
      t.get (PRS.EVCS_LATE k) = 1 ∧ t.get (PRS.EVSTAMP_T k) = s.mtime % 2 ^ 32) ∧
      (s.get64 (PRS.EVTL_V k) (PRS.EVTH_V k) ≤ s.mtime → s.get (PRS.EVACT_LATE_POLICY k) = 1 →
      t.get (PRS.EVCS_STATE k) = 3 ∧ t.get (PRS.EVCS_MISSED k) = 1)) ∧ yields .prsDisable s fun t =>
      t.get PRS.CTL_EN = 0 ∧ t.get PRS.STS_STATE = 0 ∧ s.regsBut t [PRS.CTL_EN, PRS.STS_STATE] ∧
      t = { s with regs := t.regs, prs := { s.prs with fell := false, due := none, acq := 0 } }) ∧
  (∀ (s : State) (k : Fin 64), s.live → s.answers .prs → s.get (PRS.EVCS_STATE k) = 1 →
    exec (.eventArm k) s = .next s ∧ (dueNow s k = true → exec (.eventCancel k) s = exec (.eventFire k) s) ∧
      (dueNow s k = false → yields (.eventCancel k) s fun t => t.get (PRS.EVCS_STATE k) = 0 ∧
      s.only t [PRS.EVCS_STATE k])) ∧
  (∀ (s : State) (k : Fin 64), s.live → s.answers .prs → s.get (PRS.EVCS_STATE k) ≠ 1 →
    exec (.eventCancel k) s = .next s ∧ (actOk s k = false → yields (.eventArm k) s fun t =>
      t.get (PRS.EVCS_STATE k) = 0 ∧ records .prs 0x0102 s t ∧ s.only t (PRS.EVCS_STATE k :: errFields .prs)) ∧
      (actOk s k = true → (s.get (PRS.EVACT_MODE k) = 1 ∧ s.prs.hasTooth = false) ∨ (s.get (PRS.EVACT_MODE k) = 0 ∧
      (s.get PRS.CTL_EN = 0 ∨ s.mtime < s.get64 (PRS.EVTL_V k) (PRS.EVTH_V k))) → yields (.eventArm k) s fun t =>
      t.get (PRS.EVCS_STATE k) = 1 ∧ t.get (PRS.EVCS_CONVERTED k) = 0 ∧ t.get (PRS.EVCS_COASTED k) = 0 ∧
      t.get (PRS.EVCS_MISSED k) = 0 ∧ t.get (PRS.EVCS_LATE k) = 0 ∧
      s.regsBut t [PRS.EVCS_STATE k, PRS.EVCS_CONVERTED k, PRS.EVCS_COASTED k, PRS.EVCS_MISSED k, PRS.EVCS_LATE k] ∧
      t = { s with regs := t.regs, prs := { s.prs with fired := SMap.erase s.prs.fired k } }) ∧ (actOk s k = true →
      s.get (PRS.EVACT_MODE k) = 0 → s.get PRS.CTL_EN = 1 → s.get64 (PRS.EVTL_V k) (PRS.EVTH_V k) ≤ s.mtime →
      yields (.eventArm k) s fun t => t.get (PRS.EVSTAMP_T k) = s.mtime % 2 ^ 32 ∧
      if s.get (PRS.EVACT_LATE_POLICY k) = 0 ∧
      s.mtime - s.get64 (PRS.EVTL_V k) (PRS.EVTH_V k) ≤ s.get PRS.LATEMAX_TICKS then t.get (PRS.EVCS_STATE k) = 2 ∧
      t.get (PRS.EVCS_LATE k) = 1 ∧ t.get PRS.ISR_EVLATE = 1 else t.get (PRS.EVCS_STATE k) = 3 ∧
      t.get (PRS.EVCS_MISSED k) = 1 ∧ t.get PRS.ISR_EVMISS = 1 ∧ (s.get PRS.STS_STATE ≤ 1 →
      (∀ j < k.val, dueNow s j = false) → t.prs.acts = s.prs.acts))) ∧
  (∀ (s : State) (k : Fin 64) (i : Int), s.live → s.get (PRS.EVCS_STATE k) = 1 → s.get PRS.CTL_EN = 1 →
    slotInstant s k = some i → i ≤ s.mtime * 16 → teethNow s = s →
    ((List.range k.val).all (fun j => !dueNow s j) = true) →
    (isTooth s k = false ∨ (SMap.find s.prs.missed (s.get (PRS.EVTL_V k))).isNone = true) →
    yields (.eventFire k) s fun t => t.get (PRS.EVCS_STATE k) = 2 ∧ t.get (PRS.EVSTAMP_T k) = s.mtime % 2 ^ 32 ∧
      (s.get (PRS.EVACT_IRQ k) = 1 → (slotAct s k).any (actReaches s) = false →
      t.intc = { s.intc with edges := s.intc.edges ++ [64 + k.val] }) ∧ (s.get (PRS.EVACT_IRQ k) = 0 ∨
      (slotAct s k).any (actReaches s) = true → t.intc = s.intc) ∧
      (∀ a ∈ (slotAct s k).toList, actReaches s a = true →
      t.prs.acts = addAct ⟨a, if s.get (PRS.EVACT_IRQ k) = 1 then some k.val else none, k.val, s.mtime⟩ s.prs.acts) ∧
      (∀ a ∈ (slotAct s k).toList, actReaches s a = false → records .prs 0x0104 s t ∧ t.prs.acts = s.prs.acts) ∧
      (slotAct s k = none → t.prs.acts = s.prs.acts) ∧
      t.prs = { s.prs with acts := t.prs.acts, fired := if isTooth s k then SMap.insert s.prs.fired k (s.get (PRS.EVTL_V k)) else s.prs.fired } ∧
      s.regsBut t ([PRS.EVCS_STATE k, PRS.EVSTAMP_T k] ++ errFields .prs) ∧
      t = { s with regs := t.regs, prs := t.prs, intc := t.intc }) ∧
  (∀ (s : State) (j k : Fin 64), s.live → j.val < k.val → s.get PRS.STS_STATE = 0 → s.get (PRS.EVACT_MODE j) = 0 →
    s.get (PRS.EVACT_MODE k) = 0 → dueNow s j = true → dueNow s k = true →
    yields (.eventFire k) s fun t => t.get (PRS.EVCS_STATE j) = 2 ∧ t.get (PRS.EVCS_STATE k) = 2 ∧
      (∀ a ∈ (slotAct s j).toList, ∀ b ∈ (slotAct s k).toList, actReaches s a = true → actReaches s b = true →
      [ActUnderWay.mk a (if s.get (PRS.EVACT_IRQ j) = 1 then some j.val else none) j.val s.mtime, ActUnderWay.mk b (if s.get (PRS.EVACT_IRQ k) = 1 then some k.val else none) k.val s.mtime].Sublist t.prs.acts)) ∧
  (∀ (s : State) (k : Fin 64), s.live → s.get PRS.STS_STATE = 4 → s.prs.hasTooth = true → s.prs.p ≤ s.mtime * 16 →
    dueNow s k = true → ((List.range k.val).all (fun j => !armed s j) = true) →
    (isTooth s k = true → s.get (PRS.EVTL_V k) = (s.get PRS.TCNT_COUNT + 1) % 2 ^ 32 ∧ (SMap.find s.prs.missed (s.get (PRS.EVTL_V k))).isNone = true) →
    yields (.eventFire k) s fun t => t.get PRS.TCNT_COUNT = (s.get PRS.TCNT_COUNT + 1) % 2 ^ 32 ∧
      t.get PRS.ISR_TOOTH = 1 ∧ t.prs.last = s.prs.p ∧ t.prs.p = s.prs.p + s.get PRS.PERIOD_P16 ∧
      t.get (PRS.EVCS_STATE k) = 2 ∧ t.get (PRS.EVSTAMP_T k) = s.mtime % 2 ^ 32 ∧ (∀ p : Page, s.regsOk →
      awaits s p 3 = true → applied p s t) ∧ (∀ a ∈ (slotAct s k).toList, actReaches t a = true →
      t.prs.acts = addAct ⟨a, if s.get (PRS.EVACT_IRQ k) = 1 then some k.val else none, k.val, s.mtime⟩ s.prs.acts)) ∧
  (∀ (a b : ActUnderWay) (l : List ActUnderWay),
    (b.tick = a.tick → a.slot < b.slot → (∀ x ∈ l, x.tick ≠ a.tick ∨ x.slot ≤ a.slot) →
      addAct a (l ++ [b]) = l ++ [a, b]) ∧ ((∀ x ∈ l, x.tick ≠ a.tick ∨ x.slot ≤ a.slot) → addAct a l = l ++ [a])) ∧
  (∀ (s : State), s.live → s.answers .prs → s.prs.last % 16 = 0 → s.prs.p % 16 = 0 → s.prs.due = none →
    2 ≤ s.get PRS.STS_STATE →
    yields .tcntRead s fun t => t.out.rdata = some (BitVec.ofNat 32 (s.get PRS.TCNT_COUNT)) ∧
      t.get PRS.TLASTL_T = s.prs.last / 16 % 2 ^ 32 ∧ t.get PRS.TLASTH_T = s.prs.last / 16 / 2 ^ 32 % 2 ^ 32 ∧
      t.get PRS.TNEXTL_T = s.prs.p / 16 % 2 ^ 32 ∧ t.get PRS.PEREST_P16 = s.prs.per % 2 ^ 28 ∧
      t.get PRS.PHERR_E16 = ofSigned 32 s.prs.e ∧
      s.regsBut t [PRS.TLASTL_T, PRS.TLASTH_T, PRS.TNEXTL_T, PRS.PEREST_P16, PRS.PHERR_E16] ∧
      t = { s with regs := t.regs, out := t.out })

/-- The oldest action under way leaves the list and acts: a swap of plane 1 to 3 is requested and shown (of plane 0 it
does nothing); a START starts the oldest fetched encode frame of its ring that waits for one, else sets NOSTART; a
key request asks all four layers; a mute or unmute sets the port's MUTE bit and its command; a GPIO action drives
its ball low (1), high (2) or toggles it (0 and 3), the other balls as they were. Then the interrupt of its slot
is asserted, if it has one. One whose turn has not come does nothing. -/
def Obligations.ActionsActOnTheirBlocks : Prop :=
  (∀ (s : State) (k : Fin 4) (q : Option Nat), s.live →
    (s.prs.acts.head?.map (fun x => (x.act, x.irq)) = some (.swap k.val, q)) →
    yields (.actionSwap k) s fun t => t.prs = { s.prs with acts := s.prs.acts.tail } ∧
      t.intc = { s.intc with edges := s.intc.edges ++ (q.map (64 + ·)).toList } ∧ (k.val = 0 →
      t = { s with prs := t.prs, intc := t.intc }) ∧ (k.val ≠ 0 → natBit (t.get COMP.SWAP_K) (k.val - 1) = true ∧
      t.comp.swaps = s.comp.swaps ++ [(k.val, s.mtime)]) ∧ s.regsBut t [COMP.SWAP_K] ∧
      t = { s with regs := t.regs, prs := t.prs, intc := t.intc, comp := { s.comp with swaps := t.comp.swaps } }) ∧
  (∀ (s : State) (r : Fin 8) (f : Frame) (l rest : List Frame) (q : Option Nat), s.live →
    (s.prs.acts.head?.map (fun x => (x.act, x.irq)) = some (.start r.val, q)) → s.csch.frames = l ++ f :: rest →
    f.ring = r.val → f.op = 1 → f.endT = none → f.want = false →
    (∀ e ∈ l, e.ring ≠ r.val ∨ e.op ≠ 1 ∨ e.endT ≠ none ∨ e.want = true) →
    yields (.actionStart r) s fun t => t.prs = { s.prs with acts := s.prs.acts.tail } ∧
      t.intc = { s.intc with edges := s.intc.edges ++ (q.map (64 + ·)).toList } ∧
      (∃ g ∈ t.csch.frames, g.num = f.num ∧ g.want = true ∧ (heldRecords s r < 16 → g.started = true)) ∧
      t.csch.frames.length = s.csch.frames.length ∧
      t = { s with prs := t.prs, intc := t.intc, csch := { s.csch with frames := t.csch.frames } }) ∧
  (∀ (s : State) (r : Fin 8) (q : Option Nat), s.live →
    (s.prs.acts.head?.map (fun x => (x.act, x.irq)) = some (.start r.val, q) →
      (∀ e ∈ s.csch.frames, e.ring ≠ r.val ∨ e.op ≠ 1 ∨ e.endT ≠ none ∨ e.want = true) →
      yields (.actionStart r) s fun t => t.get CSCH.ISR_NOSTART = 1 ∧ s.regsBut t [CSCH.ISR_NOSTART] ∧
      t.csch = s.csch ∧ t.intc = { s.intc with edges := s.intc.edges ++ (q.map (64 + ·)).toList }) ∧
      (s.prs.acts.head?.map (fun x => (x.act, x.irq)) = some (.key r.val, q) →
      yields (.actionKeyRequest r) s fun t => t.get (CSCH.KEYREQ_REQ r) = 15 ∧ s.regsBut t [CSCH.KEYREQ_REQ r] ∧
      t.intc = { s.intc with edges := s.intc.edges ++ (q.map (64 + ·)).toList } ∧
      t = { s with regs := t.regs, intc := t.intc, prs := { s.prs with acts := s.prs.acts.tail } })) ∧
  (∀ (s : State) (k : Fin 4) (q : Option Nat), s.live →
    (s.prs.acts.head?.map (fun x => (x.act, x.irq)) = some (.mute k.val, q) → yields (.actionMute k) s fun t =>
      natBit (t.get APORT.MUTE_K) k = true ∧ t.port k = { s.port k with cmd := some false } ∧
      t.prs.acts = s.prs.acts.tail ∧ t.intc = { s.intc with edges := s.intc.edges ++ (q.map (64 + ·)).toList } ∧
      s.regsBut t [APORT.MUTE_K] ∧ ∀ j : Fin 4, j ≠ k → t.port j = s.port j) ∧ (s.prs.acts.head?.map (fun x =>
      (x.act, x.irq)) = some (.unmute k.val, q) → yields (.actionUnmute k) s fun t =>
      natBit (t.get APORT.MUTE_K) k = false ∧ t.port k = { s.port k with cmd := some true } ∧
      t.prs.acts = s.prs.acts.tail ∧ t.intc = { s.intc with edges := s.intc.edges ++ (q.map (64 + ·)).toList } ∧
      s.regsBut t [APORT.MUTE_K] ∧ ∀ j : Fin 4, j ≠ k → t.port j = s.port j)) ∧
  (∀ (s : State) (n : Fin 16) (a : BitVec 8) (q : Option Nat), s.live →
    (s.prs.acts.head?.map (fun x => (x.act, x.irq)) = some (.gpio n.val a.toNat, q)) →
    yields (.actionGpio n a) s fun t => (a = 1 → natBit (t.get SYS.GPIO_OUT_VAL) n = false) ∧ (a = 2 →
      natBit (t.get SYS.GPIO_OUT_VAL) n = true) ∧ (a = 0 ∨ a = 3 →
      natBit (t.get SYS.GPIO_OUT_VAL) n = !natBit (s.get SYS.GPIO_OUT_VAL) n) ∧ (∀ m : Fin 16, m ≠ n →
      natBit (t.get SYS.GPIO_OUT_VAL) m = natBit (s.get SYS.GPIO_OUT_VAL) m) ∧ s.regsBut t [SYS.GPIO_OUT_VAL] ∧
      t.prs.acts = s.prs.acts.tail ∧ t.intc = { s.intc with edges := s.intc.edges ++ (q.map (64 + ·)).toList }) ∧
  (∀ (s : State) (k : Fin 4) (r : Fin 8) (n : Fin 16) (b : BitVec 8), s.live →
    (s.prs.acts.head?.map (·.1) ≠ some (.swap k.val) → exec (.actionSwap k) s = .next s) ∧
      (s.prs.acts.head?.map (·.1) ≠ some (.start r.val) → exec (.actionStart r) s = .next s) ∧
      (s.prs.acts.head?.map (·.1) ≠ some (.key r.val) → exec (.actionKeyRequest r) s = .next s) ∧
      (s.prs.acts.head?.map (·.1) ≠ some (.mute k.val) → exec (.actionMute k) s = .next s) ∧
      (s.prs.acts.head?.map (·.1) ≠ some (.unmute k.val) → exec (.actionUnmute k) s = .next s) ∧
      (s.prs.acts.head?.map (·.1) ≠ some (.gpio n.val b.toNat) → exec (.actionGpio n b) s = .next s))

/-- A word written to an enabled IN FIFO with room joins its tail with its end mark; to a full one it sets OVF and
records 0x0100; against the direction or with EN 0 it records 0x0102; nothing is stored then. A read of an enabled
OUT FIFO pops and answers the head; an empty one answers 0, sets UNF and records 0x0101. CTL.EN 1 is accepted
exactly where SIZE is not 0, BASE + SIZE fits and no enabled FIFO overlaps, else 0x0103; CFG stores and empties
with EN 0, else 0x0105. An agent that has a packet to take (UPD while it receives, a decode ring with a fetched
frame that waits for one) takes the head: header, payload, and a packet is whole exactly where its last word
carries the end mark, else FRAME and 0x0104; it puts its next word where there is room. The part of an update
chunk that UPD has in hand, the one case in which UPD's own state may move within a packet, is left to the
statements about updates. No other FIFO changes. -/
def Obligations.FifosKeepWordsInOrder : Prop :=
  (∀ (s : State) (n : Fin 16) (w : W32) (e : Bool), s.live → s.answers (.bfifo n) →
    (s.get (BFIFO.CTL_EN n) = 1 → s.get (BFIFO.CFG_DIR n) = 0 →
      (s.fifo n).items.length < s.get (BFIFO.CFG_SIZE n) * 16 →
      yields (if e then .bfifoDataEnd n w else .bfifoData n w) s fun t =>
      t.fifo n = { s.fifo n with items := (s.fifo n).items ++ [(w, e)] } ∧ t = { s with fifos := t.fifos } ∧
      ∀ m : Fin 16, m ≠ n → t.fifo m = s.fifo m) ∧ (s.get (BFIFO.CTL_EN n) = 1 → s.get (BFIFO.CFG_DIR n) = 0 →
      s.get (BFIFO.CFG_SIZE n) * 16 ≤ (s.fifo n).items.length →
      yields (if e then .bfifoDataEnd n w else .bfifoData n w) s fun t => records (.bfifo n) 0x0100 s t ∧
      t.get (BFIFO.ISR_OVF n) = 1 ∧ s.only t (BFIFO.ISR_OVF n :: errFields (.bfifo n))) ∧
      (s.get (BFIFO.CTL_EN n) ≠ 1 ∨ s.get (BFIFO.CFG_DIR n) ≠ 0 →
      yields (if e then .bfifoDataEnd n w else .bfifoData n w) s fun t => records (.bfifo n) 0x0102 s t ∧
      s.only t (errFields (.bfifo n)))) ∧
  (∀ (s : State) (n : Fin 16) (w : W32) (e : Bool) (rest : List (W32 × Bool)), s.live → s.answers (.bfifo n) →
    (s.get (BFIFO.CTL_EN n) = 1 → s.get (BFIFO.CFG_DIR n) = 1 → (s.fifo n).items = (w, e) :: rest →
      yields (.bfifoPop n) s fun t => t.out.rdata = some w ∧ t.fifo n = { s.fifo n with items := rest } ∧
      t = { s with fifos := t.fifos, out := t.out } ∧ ∀ m : Fin 16, m ≠ n → t.fifo m = s.fifo m) ∧
      (s.get (BFIFO.CTL_EN n) = 1 → s.get (BFIFO.CFG_DIR n) = 1 → (s.fifo n).items = [] →
      yields (.bfifoPop n) s fun t => t.out.rdata = some 0 ∧ records (.bfifo n) 0x0101 s t ∧
      t.get (BFIFO.ISR_UNF n) = 1 ∧ s.regsBut t (BFIFO.ISR_UNF n :: errFields (.bfifo n)) ∧
      t = { s with regs := t.regs, out := t.out }) ∧ (s.get (BFIFO.CTL_EN n) ≠ 1 ∨ s.get (BFIFO.CFG_DIR n) ≠ 1 →
      yields (.bfifoPop n) s fun t => t.out.rdata = some 0 ∧ records (.bfifo n) 0x0102 s t ∧
      s.regsBut t (errFields (.bfifo n)) ∧ t = { s with regs := t.regs, out := t.out })) ∧
  (∀ (s : State) (n : Fin 16) (d : W32), s.live → s.answers (.bfifo n) → s.get (BFIFO.CTL_EN n) = 0 →
    (s.get (BFIFO.CFG_SIZE n) ≠ 0 → s.get (BFIFO.CFG_BASE n) + s.get (BFIFO.CFG_SIZE n) ≤ 16384 →
      (∀ m : Fin 16, m ≠ n → s.get (BFIFO.CTL_EN m) = 1 →
      s.get (BFIFO.CFG_BASE n) + s.get (BFIFO.CFG_SIZE n) ≤ s.get (BFIFO.CFG_BASE m) ∨
      s.get (BFIFO.CFG_BASE m) + s.get (BFIFO.CFG_SIZE m) ≤ s.get (BFIFO.CFG_BASE n)) →
      yields (.bfifoEnable n) s fun t => t.get (BFIFO.CTL_EN n) = 1 ∧ t.get (BFIFO.STS_STATE n) = 1 ∧
      s.only t [BFIFO.CTL_EN n, BFIFO.STS_STATE n]) ∧ (s.get (BFIFO.CFG_SIZE n) = 0 ∨
      16384 < s.get (BFIFO.CFG_BASE n) + s.get (BFIFO.CFG_SIZE n) ∨ (∃ m : Fin 16, m ≠ n ∧
      s.get (BFIFO.CTL_EN m) = 1 ∧ s.get (BFIFO.CFG_BASE m) < s.get (BFIFO.CFG_BASE n) + s.get (BFIFO.CFG_SIZE n) ∧
      s.get (BFIFO.CFG_BASE n) < s.get (BFIFO.CFG_BASE m) + s.get (BFIFO.CFG_SIZE m)) →
      yields (.bfifoEnable n) s fun t => records (.bfifo n) 0x0103 s t ∧ s.only t (errFields (.bfifo n))) ∧
      yields (.bfifoCfgWrite n d) s fun t => t.get (BFIFO.CFG_BASE n) = (BFIFO.CFG_BASE n).ofData d ∧
      t.get (BFIFO.CFG_SIZE n) = (BFIFO.CFG_SIZE n).ofData d ∧ (n.val ≠ 15 →
      t.get (BFIFO.CFG_DIR n) = (BFIFO.CFG_DIR n).ofData d) ∧ (n.val = 15 →
      t.get (BFIFO.CFG_DIR n) = s.get (BFIFO.CFG_DIR n)) ∧ (t.fifo n).items = [] ∧
      s.regsBut t [BFIFO.CFG_BASE n, BFIFO.CFG_SIZE n, BFIFO.CFG_DIR n] ∧
      t = { s with regs := t.regs, fifos := t.fifos } ∧ ∀ m : Fin 16, m ≠ n → t.fifo m = s.fifo m) ∧
  (∀ (s : State) (n : Fin 16) (d : W32), s.live → s.answers (.bfifo n) → s.get (BFIFO.CTL_EN n) = 1 →
    exec (.bfifoEnable n) s = .next s ∧ yields (.bfifoCfgWrite n d) s fun t => records (.bfifo n) 0x0105 s t ∧
      s.only t (errFields (.bfifo n))) ∧
  (∀ (s : State) (n : Fin 16) (w : W32) (e : Bool) (rest : List (W32 × Bool)) (typ len : Nat) (ws : List W32),
    s.live → s.get (BFIFO.CTL_EN n) = 1 → s.get (BFIFO.CFG_DIR n) = 0 → hasTaker s n = true →
    (s.fifo n).items = (w, e) :: rest → (s.fifo n).skip = false →
    (match (s.fifo n).taking with | some (t, l, xs) => (t, l, xs ++ [w]) | none => (bitsOf w 24 8, bitsOf w 0 24, [])) = (typ, len, ws) →
    (ws.length = (len + 3) / 4 → e = true → yields (.bfifoAgentTake n) s fun t => t = { s with fifos := t.fifos } ∧
      t.fifo n = { s.fifo n with items := rest, taking := none, taken := (s.fifo n).taken ++ [{ typ := typ, bytes := payload ws len }] }) ∧
      (ws.length ≠ (len + 3) / 4 → e = false → n.val ≠ 15 ∨ (s.fifo n).taken ≠ [] ∨ typ ≠ 0x40 ∨ ws.length = 0 →
      yields (.bfifoAgentTake n) s fun t => t = { s with fifos := t.fifos } ∧
      t.fifo n = { s.fifo n with items := rest, taking := some (typ, len, ws) }) ∧ ((ws.length = (len + 3) / 4 ∧
      e = false) ∨ (ws.length ≠ (len + 3) / 4 ∧ e = true) → yields (.bfifoAgentTake n) s fun t =>
      records (.bfifo n) 0x0104 s t ∧ t.get (BFIFO.ISR_FRAME n) = 1 ∧
      s.regsBut t (BFIFO.ISR_FRAME n :: errFields (.bfifo n)) ∧
      t.fifo n = { s.fifo n with items := rest, taking := none, skip := !e })) ∧
  (∀ (s : State) (n : Fin 16) (w : W32) (e : Bool) (rest : List (W32 × Bool)), s.live →
    s.get (BFIFO.CTL_EN n) = 1 →
    (s.get (BFIFO.CFG_DIR n) = 0 → hasTaker s n = true → (s.fifo n).items = (w, e) :: rest →
      (s.fifo n).skip = true → yields (.bfifoAgentTake n) s fun t => t = { s with fifos := t.fifos } ∧
      t.fifo n = { s.fifo n with items := rest, skip := !e }) ∧ (s.get (BFIFO.CFG_DIR n) = 1 →
      (s.fifo n).items.length < s.get (BFIFO.CFG_SIZE n) * 16 → (s.fifo n).puts = (w, e) :: rest →
      yields (.bfifoAgentPut n) s fun t => t = { s with fifos := t.fifos } ∧
      t.fifo n = { s.fifo n with items := (s.fifo n).items ++ [(w, e)], puts := rest }) ∧
      (s.get (BFIFO.CFG_DIR n) = 1 → s.get (BFIFO.CFG_SIZE n) * 16 ≤ (s.fifo n).items.length →
      exec (.bfifoAgentPut n) s = .next s))

/-- RING in IDLE shows POSTED and asserts source 15, else records 0x0101 and changes nothing else; Utilior's taking
shows BUSY; an answer made is posted in RSP0 (status, the request's tag, number of words) and RSP1 onward with
DONE and ISR.RSP; an unknown command is answered 0x01; ACK in DONE shows IDLE, else records 0x0102. ECHO answers
its argument words, or 0x02 beyond 15 of them (the model's reading of a response that cannot hold more); VERSION
answers two words, the version of the running image and the active slot with the trial flag (log entry 33), or
0x02 with arguments. -/
def Obligations.MailboxCarriesOneRequest : Prop :=
  (∀ (s : State), s.live → s.answers .mbx →
    (s.get MBX.STS_STATE = 0 → yields .mbxRing s fun t => t.get MBX.STS_STATE = 1 ∧
      t.intc.edges = s.intc.edges ++ [15] ∧ s.regsBut t [MBX.STS_STATE] ∧
      t = { s with regs := t.regs, intc := t.intc }) ∧ (s.get MBX.STS_STATE ≠ 0 → yields .mbxRing s fun t =>
      records .mbx 0x0101 s t ∧ s.only t (errFields .mbx)) ∧ (s.get MBX.STS_STATE = 3 → yields .mbxAck s fun t =>
      t.get MBX.STS_STATE = 0 ∧ s.only t [MBX.STS_STATE]) ∧ (s.get MBX.STS_STATE ≠ 3 → yields .mbxAck s fun t =>
      records .mbx 0x0102 s t ∧ s.only t (errFields .mbx)) ∧ (s.get MBX.STS_STATE = 1 → yields .mbxBusy s fun t =>
      t.get MBX.STS_STATE = 2 ∧ s.regsBut t [MBX.STS_STATE] ∧
      t = { s with regs := t.regs, mbx := { answer := none } })) ∧
  (∀ (s : State) (st : Nat) (rs : List Nat), s.live → s.get MBX.STS_STATE = 2 → s.mbx.answer = some (st, rs) →
    st < 256 → rs.length ≤ 15 →
    yields .mbxDone s fun t =>
      t.get (MBX.RSP_W 0) = st * 2 ^ 24 + s.get (MBX.REQ_W 0) / 2 ^ 16 % 256 * 2 ^ 16 + rs.length ∧
      (∀ i : Fin 15, i.val < rs.length → t.get (MBX.RSP_W (i + 1)) = rs.getD i 0 % 2 ^ 32) ∧
      t.get MBX.STS_STATE = 3 ∧ t.get MBX.ISR_RSP = 1 ∧
      s.regsBut t ([MBX.STS_STATE, MBX.ISR_RSP] ++ (List.range 16).map MBX.RSP_W) ∧
      t = { s with regs := t.regs, mbx := { answer := none } }) ∧
  (∀ (s : State), s.live → s.get MBX.STS_STATE = 2 → s.mbx.answer = none →
    (s.get (MBX.REQ_W 0) / 2 ^ 24 % 256 ∉ [1, 2, 0x20, 0x21, 0x22, 0x23] → yields .mbxDone s fun t =>
      t.get MBX.STS_STATE = 3 ∧ t.get MBX.ISR_RSP = 1 ∧
      t.get (MBX.RSP_W 0) = 2 ^ 24 + s.get (MBX.REQ_W 0) / 2 ^ 16 % 256 * 2 ^ 16 ∧
      s.regsBut t [MBX.STS_STATE, MBX.ISR_RSP, MBX.RSP_W 0]) ∧ (s.get (MBX.REQ_W 0) / 2 ^ 24 % 256 = 1 →
      yields .version s fun t => (s.nvm.badLines = [] ∧ s.nvm.weakLines = [] → t.regs = s.regs) ∧
      s.regsBut t ([STORE.UNCORR_VALID, STORE.UNCORR_LINE, STORE.CORR_COUNT, STORE.ISR_CORR] ++ errFields .store) ∧
      (s.get (MBX.REQ_W 0) % 32 ≠ 0 → t.mbx.answer = some (2, [])) ∧ (s.get (MBX.REQ_W 0) % 32 = 0 →
      (t.mbx.answer.map fun a =>
      (a.1, a.2.length, a.2.drop 1)) = some (0, 2, [s.get UPD.SLOTS_ACTIVE + 2 * s.get UPD.SLOTS_TRIAL]) ∧
      (t.mbx.answer.map fun a => a.2.take 1) = some [imgVersion s s.nvm.running]) ∧
      t = { s with regs := t.regs, mbx := t.mbx }) ∧ (s.get (MBX.REQ_W 0) / 2 ^ 24 % 256 = 2 →
      yields .echo s fun t => t = { s with mbx := t.mbx } ∧
      t.mbx.answer = if 15 < s.get (MBX.REQ_W 0) % 32 then some (2, []) else some (0, (List.range (s.get (MBX.REQ_W 0) % 32)).map fun i =>
      s.get (MBX.REQ_W (i + 1)))))

/-- A BAR2 request inside the installed DRAM after boot, on channels that run and outside the frame ring, answers the
bytes there, or stores its enabled bytes and leaves every other byte (a decode context written loses its ring's
concealment source); where a channel trains, stalls or has not come to its granted start it waits, and a BAR0
access of the link behind a waiting write waits with it, a B2BASE write then counting for the requests behind it;
a tick carries out the oldest (R177; that the whole request waits or is refused, and that a tick takes one, is the
model's, log entry 3); one beyond DRAM or before boot records 0x0100, one to a channel in self-refresh 0x0101, a
read answering zeros. An SPI write frame acts as the register write and answers 0x01; cut, it records 0x0103; an
unknown command or a misaligned address records 0x0102 and answers 0x02 (and zeros), none reaching a register (the
status and its place for a cut or unknown frame as the model reads R180, log entry 21). A read frame answers 0x01
and the word: PID of any answering page, a response word of MBX, and MTIMEL with its latch. -/
def Obligations.Bar2AndSpiReachDramAndRegisters : Prop :=
  (∀ (s : State) (off : BitVec 30) (n a : Nat) (bs : List (Byte × Bool)), s.live →
    s.get SYS.BOOT_STATUS_CODE = 0x10 → a = s.get HIF.B2BASE_SEL * 2 ^ 30 + off.toNat → n = bs.length →
    a + n ≤ 2 ^ 31 * 2 ^ s.get (DMC.CFG_DENS 0) →
    (∀ i < n, s.get (DMC.STS_STATE (channelOf (a + i))) = 1 ∧ dmcEarly s (channelOf (a + i)) = false) →
    inFrameRing s a n = false → s.hif.waits = [] →
    exec (.bar2Access off (.read n)) s = .next { s with out := { s.out with bar2 := s.dramRead a n } } ∧
      yields (.bar2Access off (.write bs)) s fun t =>
      t.dramHeld a n = List.zipWith (fun e old => if e.2 then e.1 else old) bs (s.dramHeld a n) ∧ (∀ x, x < a ∨
      a + n ≤ x → t.dramByte x = s.dramByte x) ∧ t = { s with dram := t.dram, csch := t.csch } ∧
      (∀ r : Fin 8, a + n ≤ (s.ring r).ctx ∨ (s.ring r).ctx + 128 ≤ a → t.ring r = s.ring r) ∧
      (∀ r : Fin 8, a < (s.ring r).ctx + 128 → (s.ring r).ctx < a + n → (t.ring r).concealSrc = none)) ∧
  (∀ (s : State) (off : BitVec 30) (op : Bar2Op) (a c : Nat), s.live → a = bar2Addr s off.toNat →
    ((c = 0x0100 ∧ (s.get SYS.BOOT_STATUS_CODE ≠ 0x10 ∨ 2 ^ 31 * 2 ^ s.get (DMC.CFG_DENS 0) < a + bar2Size op)) ∨ (c = 0x0101 ∧ s.get SYS.BOOT_STATUS_CODE = 0x10 ∧ a + bar2Size op ≤ 2 ^ 31 * 2 ^ s.get (DMC.CFG_DENS 0) ∧ ∃ i < bar2Size op, s.get (DMC.STS_STATE (channelOf (a + i))) = 3)) →
    inFrameRing s a (bar2Size op) = false → (c = 0x0100 → inSelfRefresh s a (bar2Size op) = false) →
    yields (.bar2Access off op) s fun t => records .hif c s t ∧ s.regsBut t (errFields .hif) ∧
      t = { s with regs := t.regs, out := t.out } ∧
      (match op with | .read n => t.out.bar2 = List.replicate n 0 | .write _ => t.out = s.out)) ∧
  (∀ (s : State) (off : BitVec 30) (op : Bar2Op) (a : Nat), s.live → s.get SYS.BOOT_STATUS_CODE = 0x10 →
    a = bar2Addr s off.toNat → a + bar2Size op ≤ 2 ^ 31 * 2 ^ s.get (DMC.CFG_DENS 0) →
    inFrameRing s a (bar2Size op) = false → inSelfRefresh s a (bar2Size op) = false →
    (s.hif.waits ≠ [] ∨ ∃ i < bar2Size op, s.get (DMC.STS_STATE (channelOf (a + i))) ≠ 1 ∨ dmcEarly s (channelOf (a + i)) = true) →
    exec (.bar2Access off op) s = .next { s with hif := { s.hif with waits := s.hif.waits ++ [.bar2 a op] } }) ∧
  (∀ (s : State) (a n : Nat) (l : List LinkReq), s.hif.waits = .bar2 a (.read n) :: l →
    ((∀ i < n, s.get (DMC.STS_STATE (channelOf (a + i))) = 1 ∧ dmcEarly s (channelOf (a + i)) = false) →
      linkTick s = { s with hif := { s.hif with waits := l }, out := { s.out with bar2 := s.dramRead a n } }) ∧
      ((∃ i < n, s.get (DMC.STS_STATE (channelOf (a + i))) ≠ 1 ∨ dmcEarly s (channelOf (a + i)) = true) →
      linkTick s = s)) ∧
  (∀ (s : State) (addr : BitVec 24) (be : BitVec 4) (d : W32) (n : Fin 16), s.live → writeWaits s = true →
    chipWrite addr.toNat d = false →
    exec (.registerWrite addr d) s = .next { s with hif := { s.hif with waits := s.hif.waits ++ [.bar0 (.registerWrite addr d)] } } ∧
      exec (.partialWrite addr be d) s = .next { s with hif := { s.hif with waits := s.hif.waits ++ [.bar0 (.partialWrite addr be d)] } } ∧
      exec (.bfifoData n d) s = .next { s with hif := { s.hif with waits := s.hif.waits ++ [.bar0 (.bfifoData n d)] } } ∧
      exec (.bfifoPop n) s = .next { s with hif := { s.hif with waits := s.hif.waits ++ [.bar0 (.bfifoPop n)] } } ∧
      exec .mtimelRead s = .next { s with hif := { s.hif with waits := s.hif.waits ++ [.bar0 .mtimelRead] } }) ∧
  (∀ (s : State) (a n : Nat) (bs : List (Byte × Bool)) (l : List LinkReq),
    s.hif.waits = .bar2 a (.write bs) :: l → n = bs.length →
    ((∀ i < n, s.get (DMC.STS_STATE (channelOf (a + i))) = 1 ∧ dmcEarly s (channelOf (a + i)) = false) →
      linkTick s = contextWritten a n (bar2Store a bs { s with hif := { s.hif with waits := l } })) ∧
      ((∃ i < n, s.get (DMC.STS_STATE (channelOf (a + i))) ≠ 1) → linkTick s = s)) ∧
  (∀ (s t : State) (c : Instr) (l : List LinkReq), s.hif.waits = .bar0 c :: l →
    (exec c { s with hif := { s.hif with waits := l, turn := true } } = .next t) →
    linkTick s = { t with hif := { t.hif with turn := false } }) ∧
  (∀ (s : State) (l : List LinkReq) (addr : BitVec 24) (d : W32) (off : Nat),
    (target addr.toNat = .page .hif 0x44) → s.hif.waits = l ++ [.bar0 (.registerWrite addr d)] →
    bar2Addr s off = bitsOf d 0 3 * 2 ^ 30 + off) ∧
  (∀ (s : State) (addr : BitVec 24) (d : W32), s.live → writeWaits s = false →
    (addr.toNat % 4 = 0 → yields (.registerWrite addr d) s fun u =>
      exec (.spiWriteFrame 0x02 addr d false) s = .next { u with out := { u.out with spi := [1] } }) ∧
      (addr.toNat % 4 = 0 → yields (.spiWriteFrame 0x02 addr d true) s fun t => records .hif 0x0103 s t ∧
      t.out = { s.out with spi := [] } ∧ s.regsBut t (errFields .hif) ∧ t = { s with regs := t.regs, out := t.out })) ∧
  (∀ (s : State) (cmd : Byte) (addr : BitVec 24) (d : W32) (cut : Bool), s.live →
    ((cmd ≠ 0x0B ∧ cmd ≠ 0x02) ∨ addr.toNat % 4 ≠ 0) →
    yields (.spiWriteFrame cmd addr d cut) s (fun t => records .hif 0x0102 s t ∧
      t.out.spi = (if cut then [] else [2]) ∧ s.regsBut t (errFields .hif) ∧
      t = { s with regs := t.regs, out := t.out }) ∧ yields (.spiReadFrame cmd addr cut) s (fun t =>
      records .hif 0x0102 s t ∧ t.out.spi = (if cut then [] else [2, 0, 0, 0, 0]) ∧ s.regsBut t (errFields .hif) ∧
      t = { s with regs := t.regs, out := t.out })) ∧
  (∀ (s : State) (p : Page) (addr : BitVec 24), s.live → reached p s = true → s.held p = false →
    addr.toNat = p.base →
    exec (.spiReadFrame 0x0B addr false) s = .next { s with out := { s.out with spi := 1 :: beBytes 4 p.pid } }) ∧
  (∀ (s : State) (i : Fin 16) (addr : BitVec 24), s.live →
    (reached .mbx s = true → s.held .mbx = false → addr.toNat = 0xA080 + 4 * i.val →
      exec (.spiReadFrame 0x0B addr false) s = .next { s with out := { s.out with spi := 1 :: beBytes 4 (s.get (MBX.RSP_W i) % 2 ^ 32) } }) ∧
      (reached .tim s = true → s.held .tim = false → yields (.spiReadFrame 0x0B 0x20B0 false) s fun t =>
      t.out.spi = 1 :: beBytes 4 (s.mtime % 2 ^ 32) ∧ t.get TIM.MTIMEH_HIGH = s.mtime / 2 ^ 32 % 2 ^ 32 ∧
      s.regsBut t [TIM.MTIMEH_HIGH] ∧ t = { s with regs := t.regs, out := t.out }))

/-- TRAIN with GO 1 in RUN requests a retraining, due now or at the next tooth; while GO reads 1 in RUN it does
nothing; outside RUN, TRAIN among the states, it records 0x0100, AT being stored where GO is refused too (both the
model's reading of Table DMC-5 and R197, log entry 24). One due starts (TRAIN state) where no lower channel is due
at the same instant, and its end returns to RUN with GO 0, counted (a failed one too: the model's reading of
TRNCNT, log entry 24): TRNDONE with the widths and midpoints of the runs of 12 or more passing steps that both
lanes show, the WCK phases and the temperature, else TRNFAIL with 0x0103 and the previous phases. A poll, MR4INT
after the last one, shows its class, kept for the end of a stall; a refresh that is due rotates the banks, with
every postponed one, or is postponed while the bank has traffic, none of them by more than eight intervals; in a
stall too it may issue (the model's reading, log entry 24). PWR.SR 1 is entered from RUN with the grant returned,
and in self-refresh gives up a request or a grant that has not begun; PWR.SR 0 asks for it again. Timings with a
zero field record 0x0101, else wait for the end of a training, a self-refresh or a stall of up to 2 µs; MRRD
stalls the channel with BUSY until its data is there, and outside RUN records 0x0102. The stall's length is a free
value (log entry 24). -/
def Obligations.ChannelsTrainRefreshAndSleep : Prop :=
  (∀ (s : State) (n : Fin 4) (d : W32), s.live → s.answers (.dmc n) →
    ((DMC.TRAIN_GO n).ofData d = 0 ∨ (s.get (DMC.TRAIN_GO n) = 1 ∧ s.get (DMC.STS_STATE n) = 1) →
      yields (.trainGo n d) s fun t => t.get (DMC.TRAIN_AT n) = (DMC.TRAIN_AT n).ofData d ∧
      s.only t [DMC.TRAIN_AT n]) ∧ ((DMC.TRAIN_GO n).ofData d = 1 → s.get (DMC.STS_STATE n) ≠ 1 →
      yields (.trainGo n d) s fun t => records (.dmc n) 0x0100 s t ∧
      s.only t (DMC.TRAIN_AT n :: errFields (.dmc n))) ∧ ((DMC.TRAIN_GO n).ofData d = 1 →
      s.get (DMC.TRAIN_GO n) ≠ 1 → s.get (DMC.STS_STATE n) = 1 → yields (.trainGo n d) s fun t =>
      t.get (DMC.TRAIN_GO n) = 1 ∧
      t.dmc n = (if (DMC.TRAIN_AT n).ofData d = 1 then { s.dmc n with atTooth := true } else { s.dmc n with dueAt := some s.mtime }) ∧
      s.regsBut t [DMC.TRAIN_AT n, DMC.TRAIN_GO n] ∧ t = { s with regs := t.regs, dmcs := t.dmcs } ∧
      ∀ m : Fin 4, m ≠ n → t.dmc m = s.dmc m)) ∧
  (∀ (s : State) (n : Fin 4) (ls : List TrainLane), s.live →
    ((s.dmc n).dueAt ≠ none → s.get (DMC.STS_STATE n) = 1 → (∀ m : Fin 4, m < n →
      (s.dmc m).dueAt ≠ (s.dmc n).dueAt) → yields (.retrainStart n) s fun t => t.get (DMC.STS_STATE n) = 2 ∧
      t.get (DMC.STS_BUSY n) = 1 ∧ s.only t [DMC.STS_STATE n, DMC.STS_BUSY n]) ∧ (s.get (DMC.STS_STATE n) = 2 →
      yields (.retrainEnd n ls) s fun t => t.get (DMC.STS_STATE n) = 1 ∧ t.get (DMC.STS_BUSY n) = 0 ∧
      t.get (DMC.TRAIN_GO n) = 0 ∧ t.get (DMC.TRNCNT_COUNT n) = (s.get (DMC.TRNCNT_COUNT n) + 1) % 2 ^ 16 ∧
      (t.dmc n).dueAt = none ∧ (lanesPass ls = true → t.get (DMC.ISR_TRNDONE n) = 1 ∧
      t.get (DMC.TTRAIN_TJ n) = s.get CADDY.TEMP_TJ % 2 ^ 8 ∧ t.get (DMC.STS_TDELTA n) = 0 ∧
      (t.dmc n).wckPhase = ls.map (·.phase) ∧ ∀ b : Fin 2, ∀ l ∈ (ls[b.val]?).toList, 12 ≤ (bestRun l.write).2 ∧
      12 ≤ (bestRun l.read).2 ∧ t.get (DMC.EYE_WWIDTH n b) = (bestRun l.write).2 % 2 ^ 8 ∧
      t.get (DMC.EYE_RWIDTH n b) = (bestRun l.read).2 % 2 ^ 8 ∧
      t.get (DMC.EYE_WCTR n b) = (2 * (bestRun l.write).1 + (bestRun l.write).2 - 1) / 2 % 2 ^ 8 ∧
      t.get (DMC.EYE_RCTR n b) = (2 * (bestRun l.read).1 + (bestRun l.read).2 - 1) / 2 % 2 ^ 8) ∧
      (lanesPass ls = false → t.get (DMC.ISR_TRNFAIL n) = 1 ∧ records (.dmc n) 0x0103 s t ∧
      t.get (DMC.TTRAIN_TJ n) = s.get (DMC.TTRAIN_TJ n) ∧ (t.dmc n).wckPhase = (s.dmc n).wckPhase) ∧
      (∀ f ∈ [DMC.TMG0_TRCD n, DMC.TMG0_TRPPB n, DMC.TMG0_TRAS n, DMC.TMG0_TWR n, DMC.TMG1_TRFCPB n, DMC.TMG1_TREFI n], t.getA f = s.get f % 2 ^ f.w) ∧
      (∀ f : Fld, keyIn (0x30000 + 0x1000 * n.val) f.key = false → t.get f = s.get f) ∧
      t = { s with regs := t.regs, act := t.act, dmcs := t.dmcs })) ∧
  (∀ (s : State) (n : Fin 4) (c : Fin 6) (late : Bool) (i o : Nat), s.live → i = max 1 (refInterval s n) →
    (o = if (s.dmc n).postponed = 0 then (s.dmc n).refNext else (s.dmc n).owedAt) →
    (s.mtime < (s.dmc n).mr4At + max 1 (s.get (DMC.REFCTL_MR4INT n)) * 98304 → exec (.mr4Poll n c) s = .next s) ∧
      ((s.dmc n).mr4At + max 1 (s.get (DMC.REFCTL_MR4INT n)) * 98304 ≤ s.mtime → s.get (DMC.STS_STATE n) = 1 →
      yields (.mr4Poll n c) s fun t => t.get (DMC.REFSTS_CLASS n) = c ∧ (c.val = 5 → t.get (DMC.ISR_HOT n) = 1) ∧
      t.dmc n = { s.dmc n with mr4At := s.mtime } ∧
      s.regsBut t ([DMC.REFSTS_CLASS n] ++ if c.val = 5 then [DMC.ISR_HOT n] else []) ∧
      t = { s with regs := t.regs, dmcs := t.dmcs }) ∧
      ((s.dmc n).mr4At + max 1 (s.get (DMC.REFCTL_MR4INT n)) * 98304 ≤ s.mtime → s.get (DMC.STS_STATE n) = 2 ∨
      s.get (DMC.STS_STATE n) = 4 → yields (.mr4Poll n c) s fun t =>
      t.dmc n = { s.dmc n with mr4Due := some c.val, mr4At := s.mtime } ∧ t = { s with dmcs := t.dmcs }) ∧
      (s.mtime * 4000000 < (s.dmc n).refNext → exec (.perBankRefresh n late) s = .next s) ∧
      (s.get (DMC.STS_STATE n) = 1 ∨ s.get (DMC.STS_STATE n) = 4 → (s.dmc n).refNext ≤ s.mtime * 4000000 →
      yields (.perBankRefresh n late) s fun t => t = { s with dmcs := t.dmcs } ∧
      (t.dmc n).refNext = (s.dmc n).refNext + i ∧ t.dmc n = if late = true ∧ bankBusy s n = true ∧
      s.mtime * 4000000 ≤ o + 8 * i ∧
      (s.dmc n).refNext + i ≤ o + 8 * i then { s.dmc n with postponed := (s.dmc n).postponed + 1, owedAt := o, refNext := (t.dmc n).refNext } else { s.dmc n with bank := ((s.dmc n).bank + 1 + (s.dmc n).postponed) % 16, postponed := 0, refNext := (t.dmc n).refNext })) ∧
  (∀ (s : State) (n : Fin 4), s.live →
    (s.answers (.dmc n) → yields (.srRequest n) s fun t => t.get (DMC.PWR_SR n) = 1 ∧ s.regsBut t [DMC.PWR_SR n] ∧
      (s.get (DMC.STS_STATE n) = 3 → waitsGrant t (9 + n) = false ∧ holdsGrant t (9 + n) = false ∧ t.dmcs = s.dmcs) ∧
      (s.get (DMC.STS_STATE n) ≠ 3 → t.dmc n = { s.dmc n with srDue := true } ∧ t.caddy = s.caddy)) ∧
      ((s.dmc n).srDue = true → s.get (DMC.STS_STATE n) = 1 → yields (.srEntry n) s fun t =>
      t.get (DMC.STS_STATE n) = 3 ∧ t.get (DMC.STS_BUSY n) = 1 ∧ (t.dmc n).srDue = false ∧
      holdsGrant t (9 + n) = false ∧ waitsGrant t (9 + n) = false ∧ s.regsBut t [DMC.STS_STATE n, DMC.STS_BUSY n] ∧
      t = { s with regs := t.regs, dmcs := t.dmcs, caddy := t.caddy } ∧ t.dram = s.dram) ∧ (s.answers (.dmc n) →
      yields (.srExitRequest n) s fun t => t.get (DMC.PWR_SR n) = 0 ∧ (t.dmc n).srDue = false ∧
      s.regsBut t [DMC.PWR_SR n, CADDY.ISR_OVERSIZE] ∧ (s.get (DMC.STS_STATE n) ≠ 3 → t.caddy = s.caddy) ∧
      (s.get (DMC.STS_STATE n) = 3 → holdsGrant t (9 + n) = true ∨ waitsGrant t (9 + n) = true))) ∧
  (∀ (s : State) (n : Fin 4) (second : Bool) (d : W32) (v : BitVec 8) (fs : List Fld), s.live →
    s.answers (.dmc n) →
    (fs = if second then [DMC.TMG1_TRFCPB n, DMC.TMG1_TREFI n] else [DMC.TMG0_TRCD n, DMC.TMG0_TRPPB n, DMC.TMG0_TRAS n, DMC.TMG0_TWR n]) →
    ((∃ f ∈ fs, f.ofData d = 0) → yields (.tmgWrite n second d) s fun t => records (.dmc n) 0x0101 s t ∧
      s.only t (errFields (.dmc n))) ∧ ((∀ f ∈ fs, f.ofData d ≠ 0) → yields (.tmgWrite n second d) s fun t =>
      (∀ f ∈ fs, t.get f = f.ofData d) ∧ s.regsBut t (fs ++ [DMC.STS_STATE n, DMC.STS_BUSY n]) ∧
      (s.get (DMC.STS_STATE n) = 2 ∨ s.get (DMC.STS_STATE n) = 3 → t = { s with regs := t.regs } ∧
      t.get (DMC.STS_STATE n) = s.get (DMC.STS_STATE n)) ∧ (s.get (DMC.STS_STATE n) = 1 ∨
      s.get (DMC.STS_STATE n) = 4 → t.get (DMC.STS_STATE n) = 4 ∧ t.get (DMC.STS_BUSY n) = 1 ∧
      (∃ k ∈ (t.dmc n).stallTo.toList, s.mtime < k ∧ k ≤ s.mtime + 196) ∧
      t = { s with regs := t.regs, dmcs := t.dmcs, free := t.free })) ∧ (s.get (DMC.STS_STATE n) ≠ 1 →
      yields (.mrrd n d v) s fun t => records (.dmc n) 0x0102 s t ∧ s.only t (errFields (.dmc n))) ∧
      (s.get (DMC.STS_STATE n) = 1 → yields (.mrrd n d v) s fun t => t.get (DMC.MRRD_ADDR n) = bitsOf d 8 8 ∧
      t.get (DMC.MRRD_BUSY n) = 1 ∧ t.get (DMC.STS_STATE n) = 4 ∧ (∃ k ∈ (t.dmc n).stallTo.toList, s.mtime < k ∧
      k ≤ s.mtime + 19) ∧ (t.dmc n).mrData = some v.toNat ∧
      s.regsBut t [DMC.MRRD_ADDR n, DMC.MRRD_BUSY n, DMC.STS_STATE n, DMC.STS_BUSY n] ∧
      t = { s with regs := t.regs, dmcs := t.dmcs, free := t.free })) ∧
  (∀ (s : State) (n : Fin 4) (k : Nat), s.get (DMC.STS_STATE n) = 4 → (s.dmc n).stallTo = some k →
    (k ≤ s.mtime → (dmcTick s).get (DMC.STS_STATE n) = 1 ∧ (dmcTick s).get (DMC.STS_BUSY n) = 0 ∧
      ((dmcTick s).dmc n).stallTo = none ∧
      (∀ v ∈ (s.dmc n).mrData.toList, (dmcTick s).get (DMC.MRRD_DATA n) = v % 2 ^ 8 ∧
      (dmcTick s).get (DMC.MRRD_BUSY n) = 0) ∧
      (∀ f ∈ [DMC.TMG0_TRCD n, DMC.TMG0_TRPPB n, DMC.TMG0_TRAS n, DMC.TMG0_TWR n, DMC.TMG1_TRFCPB n, DMC.TMG1_TREFI n], (dmcTick s).getA f = s.get f % 2 ^ f.w)) ∧
      (s.mtime < k → (dmcTick s).get (DMC.STS_STATE n) = 4 ∧ (dmcTick s).dmc n = s.dmc n))

/-- A request that arrives joins its port's queue of at most 32 on its channel, or is held at its client until a
serving makes room. In a slot of a channel in RUN the port served has a waiting request: one inside its guarantee,
with the highest rank among those, or where there is none the highest urgency and then rank; its oldest request
goes, a wait beyond LAT counts MISS and sets LATE, and the window of 64 advances, taking the committed guarantees
at its end. A channel out of RUN, or with nothing waiting, issues nothing. A port at urgency 3 for 10 µs shows SAT
and sets ISR.SAT. -/
def Obligations.DqosServesGuaranteesThenUrgency : Prop :=
  (∀ (s : State) (ch : Fin 4) (p : Fin 12) (a : BitVec 33), s.live → s.get (DMC.STS_STATE ch) ≠ 1 →
    s.dqos.held = [] → channelOf a.toNat = ch →
    yields (.dqosSlot ch [(p, a)]) s fun t =>
      t = { s with dqos := if (s.dqos.reqs.filter fun r => r.ch == ch.val && r.port == p.val).length < 32 then { s.dqos with reqs := s.dqos.reqs ++ [{ ch := ch, port := p, addr := a.toNat, time := s.mtime }] } else { s.dqos with held := [{ ch := ch, port := p, addr := a.toNat, time := s.mtime }] } }) ∧
  (∀ (s : State) (ch : Fin 4), s.live → s.get (DMC.STS_STATE ch) = 1 →
    (∀ p : Fin 12, waitingPort s ch p = false) → s.dqos.held = [] →
    exec (.dqosSlot ch []) s = .next s) ∧
  (∀ (s : State) (ch : Fin 4) (p : Fin 12) (r : DqReq) (l rest : List DqReq), s.live →
    s.get (DMC.STS_STATE ch) = 1 → slotPort s ch = some p.val → dmcEarly s ch = false →
    s.dqos.reqs = l ++ r :: rest → r.ch = ch.val → r.port = p.val → (∀ q ∈ l, q.ch ≠ ch.val ∨ q.port ≠ p.val) →
    s.dqos.held = [] →
    yields (.dqosSlot ch []) s fun t => t.dqos.reqs = l ++ rest ∧ (∀ q : Fin 12, guaranteed s ch q = true →
      guaranteed s ch p = true ∧ s.getA (DQOS.PCFG_RANK q) ≤ s.getA (DQOS.PCFG_RANK p)) ∧
      ((∀ q : Fin 12, guaranteed s ch q = false) → ∀ q : Fin 12, waitingPort s ch q = true →
      portUrgency s ch q * 16 + s.getA (DQOS.PCFG_RANK q) ≤ portUrgency s ch p * 16 + s.getA (DQOS.PCFG_RANK p)) ∧
      (s.getA (DQOS.LAT_NS p) * 98304 < (s.mtime - r.time) * 1000000 → t.get DQOS.ISR_LATE = 1 ∧
      t.get (DQOS.MISS_COUNT p) = (s.get (DQOS.MISS_COUNT p) + 1) % 2 ^ 32) ∧
      ((s.mtime - r.time) * 1000000 ≤ s.getA (DQOS.LAT_NS p) * 98304 → s.regsBut t [DQOS.STS_SAT]) ∧
      SMap.get 0 t.dqos.slots ch = (if SMap.get 0 s.dqos.slots ch < 63 then SMap.get 0 s.dqos.slots ch + 1 else 0) ∧
      (63 ≤ SMap.get 0 s.dqos.slots ch → ∀ q : Fin 12, guarOf t ch q = s.getA (DQOS.PCFG_GUAR q)) ∧
      (SMap.get 0 s.dqos.slots ch < 63 → ∀ q : Fin 12, guarOf t ch q = guarOf s ch q) ∧
      s.regsBut t [DQOS.STS_SAT, DQOS.ISR_LATE, DQOS.MISS_COUNT p] ∧ t = { s with regs := t.regs, dqos := t.dqos }) ∧
  (∀ (s : State) (ch : Fin 4) (p : Fin 12) (r h : DqReq) (rest : List DqReq), s.live →
    s.get (DMC.STS_STATE ch) = 1 → slotPort s ch = some p.val → dmcEarly s ch = false →
    s.dqos.reqs = r :: rest → r.ch = ch.val → r.port = p.val → (portReqs s ch p).length = 32 →
    s.dqos.held = [h] → h.ch = ch.val → h.port = p.val →
    yields (.dqosSlot ch []) s fun t => t.dqos.reqs = rest ++ [{ h with time := s.mtime }] ∧ t.dqos.held = []) ∧
  (∀ (s : State) (ch : Fin 4) (p : Fin 12) (t0 : Nat), s.live → hotSince s ch p = some t0 →
    10 * 98304 ≤ (s.mtime - t0) * 1000 →
    yields (.saturation ch) s fun t => t.get DQOS.STS_SAT = 1 ∧ (s.get DQOS.STS_SAT = 0 → t.get DQOS.ISR_SAT = 1) ∧
      s.regsBut t [DQOS.STS_SAT, DQOS.ISR_SAT] ∧
      t = { s with regs := t.regs, dqos := { s.dqos with hot := t.dqos.hot } })

/-- SQTAIL and CQTAIL take a value below the queue's size, else 0x0102. RCFG written in OFF stores its fields; EN 1
runs the ring where SIZE is 4 to 12 and the binding fits KIND, else 0x0103; EN 0 flushes the frames not started
and stops the ring, OFF at once where none is held; other fields changed outside OFF record 0x0100. KEYREQ adds
its bits. A fetch, with fewer than 16 ended records held (Table CSCH-6 says that no new frame starts then; that
none is fetched either, and that a decode frame waits until a strip of it is dispatched, is the model's reading,
log entry 16), takes the descriptor at SQHEAD and advances it: a NOP ends at once, a rejected one ends with status
3 and 0x0101, an encode one starts, or waits for START and may exceed DEPTH, where DROPPOL 0 drops it and 1 the
oldest that waits. The oldest ended frame's record, with its layers' bytes, is written at CQHEAD unless the queue
is full, and ISR.CQ set where IRQ asks. What is said of frames speaks of the model's own list of them. -/
def Obligations.RingsQueueFetchAndRecord : Prop :=
  (∀ (s : State) (r : Fin 8) (d : W32), s.live → s.answers .csch →
    (d.toNat % 2 ^ (CSCH.SQTAIL_I r).w < 2 ^ s.get (CSCH.RCFG_SIZE r) → yields (.sqtailWrite r d) s fun t =>
      t.get (CSCH.SQTAIL_I r) = d.toNat % 2 ^ (CSCH.SQTAIL_I r).w ∧ s.only t [CSCH.SQTAIL_I r]) ∧
      (2 ^ s.get (CSCH.RCFG_SIZE r) ≤ d.toNat % 2 ^ (CSCH.SQTAIL_I r).w → yields (.sqtailWrite r d) s fun t =>
      records .csch 0x0102 s t ∧ s.only t (errFields .csch)) ∧
      (d.toNat % 2 ^ (CSCH.CQTAIL_I r).w < 2 ^ s.get (CSCH.RCFG_SIZE r) → yields (.cqtailWrite r d) s fun t =>
      t.get (CSCH.CQTAIL_I r) = d.toNat % 2 ^ (CSCH.CQTAIL_I r).w ∧ s.only t [CSCH.CQTAIL_I r]) ∧
      (2 ^ s.get (CSCH.RCFG_SIZE r) ≤ d.toNat % 2 ^ (CSCH.CQTAIL_I r).w → yields (.cqtailWrite r d) s fun t =>
      records .csch 0x0102 s t ∧ s.only t (errFields .csch)) ∧ yields (.keyreqWrite r d) s fun t =>
      t.get (CSCH.KEYREQ_REQ r) = (s.get (CSCH.KEYREQ_REQ r) ||| d.toNat % 2 ^ 4) % 2 ^ 4 ∧
      s.only t [CSCH.KEYREQ_REQ r]) ∧
  (∀ (s : State) (r : Fin 8) (d : W32) (size fifo kind : Nat), s.live → s.answers .csch →
    s.get (CSCH.RSTS_STATE r) = 0 → s.get (CSCH.RCFG_EN r) = 0 → d.getLsbD 0 = true →
    size = (CSCH.RCFG_SIZE r).ofData d → fifo = (CSCH.RCFG_BFIFO r).ofData d →
    kind = (CSCH.RCFG_KIND r).ofData d →
    (4 ≤ size → size ≤ 12 → (fifo = 15 ∨ s.get (BFIFO.CFG_DIR fifo) + kind = 1) →
      yields (.ringEnable r d) s fun t => t.get (CSCH.RCFG_EN r) = 1 ∧ t.get (CSCH.RSTS_STATE r) = 1 ∧
      t.get (CSCH.KEYREQ_REQ r) = 0 ∧ (∀ f ∈ rcfgFields r, t.get f = f.ofData d) ∧ (t.ring r).first = true ∧
      s.regsBut t (CSCH.RCFG_EN r :: CSCH.RSTS_STATE r :: CSCH.KEYREQ_REQ r :: rcfgFields r) ∧
      t.csch.frames = s.csch.frames ∧ t = { s with regs := t.regs, csch := t.csch, intc := t.intc } ∧
      t.intc = { s.intc with seen := t.intc.seen }) ∧ ((size < 4 ∨ 12 < size ∨ (fifo ≠ 15 ∧
      s.get (BFIFO.CFG_DIR fifo) + kind ≠ 1)) → yields (.ringEnable r d) s fun t => records .csch 0x0103 s t ∧
      t.get (CSCH.RCFG_EN r) = 0 ∧ t.get (CSCH.RSTS_STATE r) = 0 ∧ (∀ f ∈ rcfgFields r, t.get f = f.ofData d) ∧
      s.regsBut t (errFields .csch ++ rcfgFields r) ∧
      t = { s with regs := t.regs, intc := { s.intc with seen := t.intc.seen } })) ∧
  (∀ (s : State) (r : Fin 8) (d : W32), s.live → s.answers .csch → s.get (CSCH.RSTS_STATE r) = 1 →
    s.get (CSCH.RCFG_EN r) = 1 → d.getLsbD 0 = false →
    yields (.ringDisable r d) s fun t => t.get (CSCH.RCFG_EN r) = 0 ∧
      t.get (CSCH.RSTS_STATE r) = (if s.csch.frames.all (fun f => f.ring != r.val) then 0 else 2) ∧
      t.csch.frames = s.csch.frames.map (fun f => if f.ring = r.val ∧ f.endT = none ∧
      f.started = false then { f with status := 5, endT := some s.mtime } else f) ∧
      ((∀ f ∈ rcfgFields r, f.ofData d = s.get f) → s.regsBut t [CSCH.RCFG_EN r, CSCH.RSTS_STATE r]) ∧
      ((∃ f ∈ rcfgFields r, f.ofData d ≠ s.get f) → records .csch 0x0100 s t ∧
      s.regsBut t ([CSCH.RCFG_EN r, CSCH.RSTS_STATE r] ++ errFields .csch)) ∧
      t = { s with regs := t.regs, csch := t.csch, intc := { s.intc with seen := t.intc.seen } }) ∧
  (∀ (s : State) (r : Fin 8) (info : PicInfo), s.live →
    (s.get (CSCH.RSTS_STATE r) ≠ 1 ∨ s.get (CSCH.SQHEAD_I r) = s.get (CSCH.SQTAIL_I r) ∨ (s.get (CSCH.RCFG_KIND r) = 1 ∧ max 1 (s.get (CSCH.RCFG_DEPTH r)) ≤ ringWaiting s r) ∨ 16 ≤ heldRecords s r) →
    exec (.descriptorFetch r info) s = .next s) ∧
  (∀ (s : State) (r : Fin 8) (info : PicInfo) (bs : List Byte) (f : Frame), s.live →
    s.get (CSCH.RSTS_STATE r) = 1 → s.get (CSCH.SQHEAD_I r) ≠ s.get (CSCH.SQTAIL_I r) →
    fetchStalled s r = false → heldRecords s r < 16 →
    bs = s.dramRead (s.get (CSCH.SQBASEL_A r) + 2 ^ 32 * s.get (CSCH.SQBASEH_A r) + 128 * s.get (CSCH.SQHEAD_I r)) 128 →
    f = descFrame s r bs →
    yields (.descriptorFetch r info) s fun t =>
      t.get (CSCH.SQHEAD_I r) = (s.get (CSCH.SQHEAD_I r) + 1) % 2 ^ s.get (CSCH.RCFG_SIZE r) % 2 ^ (CSCH.SQHEAD_I r).w ∧
      t.csch.frames.length = s.csch.frames.length + 1 ∧ t.csch.nextNum = s.csch.nextNum + 1 ∧
      (descOk s r f bs = false → (t.csch.frames.getLast?) = some { f with status := 3, endT := some s.mtime } ∧
      records .csch 0x0101 s t ∧ s.csch.frames <+: t.csch.frames) ∧ (f.op = 0 → descOk s r f bs = true →
      (t.csch.frames.getLast?.map fun g => (g.endT, g.fid)) = some (some s.mtime, f.fid) ∧
      ((∀ g ∈ s.csch.frames, isWaiting g = false) → t.csch.frames.getLast?.map (·.status) = some 0) ∧
      t.get (HDR.ISR_ERR Page.csch.base) = s.get (HDR.ISR_ERR Page.csch.base)) ∧ t.dram = s.dram ∧ t.act = s.act ∧
      t.caddy = s.caddy ∧ t = { s with regs := t.regs, csch := t.csch }) ∧
  (∀ (s : State) (r : Fin 8) (info : PicInfo) (bs : List Byte) (f : Frame) (sf : Surface), s.live →
    s.get (CSCH.RSTS_STATE r) = 1 → s.get (CSCH.SQHEAD_I r) ≠ s.get (CSCH.SQTAIL_I r) →
    s.get (CSCH.RCFG_KIND r) = 0 →
    bs = s.dramRead (s.get (CSCH.SQBASEL_A r) + 2 ^ 32 * s.get (CSCH.SQBASEH_A r) + 128 * s.get (CSCH.SQHEAD_I r)) 128 →
    f = descFrame s r bs → f.op = 1 → descOk s r f bs = true → usableSurface s f.surf = some sf →
    heldRecords s r < 16 → (∀ g ∈ s.csch.frames, isWaiting g = true → g.want = false) →
    (f.flags % 2 = 0 → ((ringFrames s r).filter fun g =>
      g.op == 1 && isWaiting g).length ≤ max 1 (s.get (CSCH.RCFG_DEPTH r)) →
      yields (.descriptorFetch r info) s fun t =>
      t.csch.frames.getLast? = some { f with want := true, started := true, strips := encodeStrips (layerWeight s f) sf.w sf.h (64 * stripRows s bs), rowsIn := if f.linked then 0 else sf.h } ∧
      t.get (CSCH.PBSTS_BANK r) = f.bank % 2 ^ (CSCH.PBSTS_BANK r).w ∧
      s.regsBut t [CSCH.SQHEAD_I r, CSCH.PBSTS_BANK r]) ∧ (f.flags % 2 = 1 → s.get (CSCH.RCFG_DROPPOL r) = 0 →
      max 1 (s.get (CSCH.RCFG_DEPTH r)) ≤ ((ringFrames s r).filter fun g => g.op == 1 && isWaiting g).length →
      yields (.descriptorFetch r info) s fun t => (t.csch.frames.getLast?.map fun g =>
      (g.num, g.status, g.endT)) = some (f.num, 2, some s.mtime) ∧
      t.get (CSCH.RDROP_COUNT r) = (s.get (CSCH.RDROP_COUNT r) + 1) % 2 ^ (CSCH.RDROP_COUNT r).w ∧
      t.get CSCH.DROPCNT_COUNT = (s.get CSCH.DROPCNT_COUNT + 1) % 2 ^ (CSCH.DROPCNT_COUNT).w ∧
      t.get CSCH.ISR_DROP = 1)) ∧
  (∀ (s : State) (r : Fin 8) (info : PicInfo) (bs : List Byte) (f : Frame) (sf : Surface), s.live →
    s.get (CSCH.RSTS_STATE r) = 1 → s.get (CSCH.SQHEAD_I r) ≠ s.get (CSCH.SQTAIL_I r) →
    s.get (CSCH.RCFG_KIND r) = 0 →
    bs = s.dramRead (s.get (CSCH.SQBASEL_A r) + 2 ^ 32 * s.get (CSCH.SQBASEH_A r) + 128 * s.get (CSCH.SQHEAD_I r)) 128 →
    f = descFrame s r bs → f.op = 1 → descOk s r f bs = true → usableSurface s f.surf = some sf →
    heldRecords s r < 16 → (∀ g ∈ s.csch.frames, isWaiting g = true → g.want = false) →
    (∀ g ∈ ((ringFrames s r).filter fun (e : Frame) => e.op == 1 && isWaiting e).head?, f.flags % 2 = 1 →
      s.get (CSCH.RCFG_DROPPOL r) = 1 → (∀ e ∈ s.csch.frames, e.num < s.csch.nextNum) →
      max 1 (s.get (CSCH.RCFG_DEPTH r)) ≤ ((ringFrames s r).filter fun g => g.op == 1 && isWaiting g).length →
      yields (.descriptorFetch r info) s fun t => (∃ e ∈ t.csch.frames, e.num = g.num ∧ e.status = 2 ∧
      e.endT = some s.mtime) ∧ (t.csch.frames.getLast?.map fun g =>
      (g.num, g.status, g.endT)) = some (f.num, 0, none) ∧
      t.get (CSCH.RDROP_COUNT r) = (s.get (CSCH.RDROP_COUNT r) + 1) % 2 ^ (CSCH.RDROP_COUNT r).w ∧
      t.get CSCH.DROPCNT_COUNT = (s.get CSCH.DROPCNT_COUNT + 1) % 2 ^ (CSCH.DROPCNT_COUNT).w ∧
      t.get CSCH.ISR_DROP = 1) ∧ (f.flags % 2 = 1 → ((ringFrames s r).filter fun g =>
      g.op == 1 && isWaiting g).length < max 1 (s.get (CSCH.RCFG_DEPTH r)) →
      yields (.descriptorFetch r info) s fun t =>
      t.csch.frames.getLast? = some ({ f with strips := encodeStrips (layerWeight s f) sf.w sf.h (64 * stripRows s bs), rowsIn := if f.linked then 0 else sf.h } : Frame) ∧
      f.want = false ∧ f.started = false ∧ s.regsBut t [CSCH.SQHEAD_I r, CSCH.PBSTS_BANK r])) ∧
  (∀ (s : State) (r : Fin 8) (f : Frame), s.live → oldest s r = some f → f.endT ≠ none → copiesDone s f = true →
    ((s.get (CSCH.CQHEAD_I r) + 1) % 2 ^ s.get (CSCH.RCFG_SIZE r) = s.get (CSCH.CQTAIL_I r) →
      exec (.completionRecord r) s = .next s) ∧
      ((s.get (CSCH.CQHEAD_I r) + 1) % 2 ^ s.get (CSCH.RCFG_SIZE r) ≠ s.get (CSCH.CQTAIL_I r) →
      yields (.completionRecord r) s fun t =>
      t.dramHeld (s.get (CSCH.CQBASEL_A r) + 2 ^ 32 * s.get (CSCH.CQBASEH_A r) + 32 * s.get (CSCH.CQHEAD_I r)) 32 = leBytes 1 (recordStatus f) ++ leBytes 1 (recordFlags f) ++ leBytes 2 f.slot ++ leBytes 4 f.fid ++ leBytes 8 (f.endT.getD 0) ++ (leBytes 4 (f.bytes.getD 0 0) ++ leBytes 4 (f.bytes.getD 1 0) ++ leBytes 4 (f.bytes.getD 2 0) ++ leBytes 4 (f.bytes.getD 3 0)) ∧
      t.get (CSCH.CQHEAD_I r) = (s.get (CSCH.CQHEAD_I r) + 1) % 2 ^ s.get (CSCH.RCFG_SIZE r) % 2 ^ (CSCH.CQHEAD_I r).w ∧
      (natBit f.flags 1 = true → t.get (HDR.ISR Page.csch.base (8 + r)) = 1) ∧ (natBit f.flags 1 = false →
      t.get (HDR.ISR Page.csch.base (8 + r)) = s.get (HDR.ISR Page.csch.base (8 + r))) ∧
      (∀ g ∈ t.csch.frames, g.num ≠ f.num) ∧ (f.op ≠ 2 ∨ f.status ≠ 0 →
      ∀ a : Nat, a < s.get (CSCH.CQBASEL_A r) + 2 ^ 32 * s.get (CSCH.CQBASEH_A r) + 32 * s.get (CSCH.CQHEAD_I r) ∨
      s.get (CSCH.CQBASEL_A r) + 2 ^ 32 * s.get (CSCH.CQBASEH_A r) + 32 * s.get (CSCH.CQHEAD_I r) + 32 ≤ a →
      t.dramByte a = s.dramByte a) ∧
      s.regsBut t [CSCH.CQHEAD_I r, HDR.ISR Page.csch.base (8 + r), CSCH.RSTS_STATE r, CSCH.KEYREQ_REQ r] ∧
      t = { s with regs := t.regs, csch := t.csch, dram := t.dram }))

/-- A dispatch notes the rows written and the strips parsed since, takes the lowest-numbered idle, loaded, unfenced
cell of the pool and, among strips of one rank, one with the earliest deadline: the cell waits, shows its job and
holds or waits for a grant, and STRIP commits that CSCH and the cell wait for apply (R44); or the frame is dropped
where its first strip fails the drop test. A granted strip whose start has come runs, and the lag is added for an
encode frame. A strip whose sequencer is at END, whose neighbours across its boundary that go first have ended,
and whose result is one that the rules of the coded stream allow (its blocks, its heads and the limits of its
layers' buckets), ends, and no other does (the model's reading, log entries 16 and 43): it leaves the cell idle,
its grant returned and STRIPS up; the frame ends now with its last strip. A marked layer goes to the bound FIFO as
one packet with type 1 + i. A packet of type 0x08 goes to the context's buffer, cut at its size; another type is a
framing error, code 0x0104. -/
def Obligations.StripsAreDispatchedCodedAndCopied : Prop :=
  (∀ (s u : State) (rows : Nat) (parsed : List (Fin 8)) (n : Fin 8) (f : Frame) (j : Nat) (x : Strip), s.live →
    (u = parsed.foldl (fun t n => noteParsed n t) (noteRows rows s)) → s.get CSCH.CTL_EN = 1 →
    freeCell u = some n.val → nextStrip u = some (f, j, x) → frameOf u f.num = some f →
    u = { s with csch := u.csch } ∧ u.csch.frames.map (·.num) = s.csch.frames.map (·.num) ∧ (∀ m : Fin 8, m < n →
      poolCell s m = false ∨ s.get (CELL.STS_STATE m) ≠ 0 ∨ (s.cell m).loaded = false) ∧ poolCell s n = true ∧
      s.get (CELL.STS_STATE n) = 0 ∧ (∀ c ∈ u.csch.frames.flatMap (nextStrips u), stripRank c.2.2 = stripRank x →
      f.deadline ≤ c.1.deadline) ∧ (f.dispatched = false →
      dropTest (updFrame f.num (fun _ => withEstimates u f) u) (withEstimates u f) = true →
      yields (.stripDispatch rows parsed) s fun t => ((frameOf t f.num).map fun g =>
      (g.status, g.endT)) = some (2, some s.mtime) ∧ t.get CSCH.ISR_DROP = 1 ∧
      t.get CSCH.DROPCNT_COUNT = (s.get CSCH.DROPCNT_COUNT + 1) % 2 ^ (CSCH.DROPCNT_COUNT).w ∧
      s.regsBut t [CSCH.ISR_DROP, CSCH.DROPCNT_COUNT, CSCH.RDROP_COUNT f.ring] ∧
      t = { s with regs := t.regs, csch := t.csch }) ∧ (f.dispatched = true ∨
      dropTest (updFrame f.num (fun _ => withEstimates u f) u) (withEstimates u f) = false →
      yields (.stripDispatch rows parsed) s fun t => t.get (CELL.STS_STATE n) = 1 ∧
      t.get (CELL.JOB_RING n) = f.ring % 2 ^ (CELL.JOB_RING n).w ∧
      t.get (CELL.JOB_STRIP n) = j % 2 ^ (CELL.JOB_STRIP n).w ∧ t.get (CELL.JOBID_ID n) = f.fid % 2 ^ 32 ∧
      (t.cell n).job = some (f.num, j) ∧ (holdsGrant t n = true ∨ waitsGrant t n = true) ∧
      s.mtime + s.get CADDY.FFLEAD_TICKS ≤ (t.cell n).reqStart ∧ t.dram = s.dram ∧ (s.regsOk →
      awaits s .csch 2 = true → applied .csch s t) ∧ (s.regsOk → awaits s (.cell n) 2 = true → applied (.cell n) s t))) ∧
  (∀ (s : State) (n : Fin 8) (num j st : Nat) (f : Frame), s.live → s.get (CELL.STS_STATE n) = 1 →
    (s.cell n).job = some (num, j) → frameOf s num = some f → grantedStart s n = some st →
    eccResult (storeWord s n (firstWord f)) = 0 →
    st ≤ s.mtime ∧ yields (.stripStart n) s fun t => t.get (CELL.STS_STATE n) = 2 ∧
      (t.cell n).pc = 8 * (2 * f.std + if f.op = 2 then 1 else 0) ∧
      ((frameOf t num).map (·.lag)) = some (f.lag + if f.op = 1 then st - (s.cell n).reqStart else 0) ∧
      s.regsBut t [CELL.STS_STATE n] ∧ t = { s with regs := t.regs, csch := t.csch, cells := t.cells }) ∧
  (∀ (s u : State) (n : Fin 8) (run : List Cycle) (num j : Nat) (f : Frame) (x : Strip) (res : StripResult),
    s.live → s.get (CELL.STS_STATE n) = 2 → u = runCycles n run s → u.get (CELL.STS_STATE n) = 2 →
    (u.cell n).ended = true → (u.cell n).job = some (num, j) → frameOf u num = some f → f.strips[j]? = some x →
    f.endT = none → f.dispatched = true →
    (boundaryReady f j x = false ∨ (f.op ≠ 2 ∧ resultHolds u f j x res = false) →
      exec (.stripEnd n run res) s = .next u) ∧ (boundaryReady f j x = true → (f.op = 2 ∨
      resultHolds u f j x res = true) → yields (.stripEnd n run res) s fun t => t.get (CELL.STS_STATE n) = 0 ∧
      t.get (CELL.STRIPS_COUNT n) = (u.get (CELL.STRIPS_COUNT n) + 1) % 2 ^ (CELL.STRIPS_COUNT n).w ∧
      (t.cell n).job = none ∧ holdsGrant t n = false ∧ waitsGrant t n = false ∧ ((frameOf t num).bind fun g =>
      (g.strips[j]?).map (·.st)) = some 2 ∧ ((∃ i : Fin f.strips.length, i.val ≠ j ∧ (f.strips[i]).st ≠ 2 ∧
      (f.strips[i]).lost = false) → (frameOf t num).map (·.endT) = some none) ∧
      ((∀ i : Fin f.strips.length, i.val ≠ j → (f.strips[i]).st = 2) →
      (frameOf t num).map (·.endT) = some (some s.mtime)) ∧ t.act = u.act ∧ t.mtime = s.mtime ∧ t.nvm = s.nvm)) ∧
  (∀ (s u : State) (n : Fin 8) (run : List Cycle) (res : StripResult), s.live → s.get (CELL.STS_STATE n) = 2 →
    u = runCycles n run s → (u.cell n).ended = false →
    exec (.stripEnd n run res) s = .next u) ∧
  (∀ (s : State) (r : Fin 8) (f : Frame) (l : LayerRec) (i : Nat) (rest : List Nat), s.live →
    copyFrame s r = some f → f.copies = i :: rest → f.layers[i]? = some l →
    ((s.fifo (s.get (CSCH.RCFG_BFIFO r))).puts ≠ [] → exec (.layerBfifoCopy r) s = .next s) ∧
      ((s.fifo (s.get (CSCH.RCFG_BFIFO r))).puts = [] → yields (.layerBfifoCopy r) s fun t =>
      (t.fifo (s.get (CSCH.RCFG_BFIFO r))).puts = packetItems (i + 1) (s.dramRead l.obuf (f.bytes.getD i 0)) ∧
      (t.fifo (s.get (CSCH.RCFG_BFIFO r))).putFor = some f.num ∧
      (t.fifo (s.get (CSCH.RCFG_BFIFO r))).items = (s.fifo (s.get (CSCH.RCFG_BFIFO r))).items ∧
      (∀ g ∈ t.csch.frames, g.num = f.num → g.copies = rest) ∧ t = { s with fifos := t.fifos, csch := t.csch })) ∧
  (∀ (s : State) (r : Fin 8) (n : Fin 16) (info : PicInfo) (f : Frame) (p : Packet) (rest : List Packet) (room addr : Nat),
    s.live → s.get (CSCH.RCFG_BFIFO r) = n.val → unstaged s r = some f → (s.fifo n).taken = p :: rest →
    room = s.dramNat (f.ctx + 24) 4 → addr = s.dramNat (f.ctx + 16) 8 →
    (p.typ ≠ 0x08 → yields (.bitstreamStage r info) s fun t => t.get (BFIFO.ISR_FRAME n) = 1 ∧
      records (.bfifo n) 0x0104 s t ∧ (t.fifo n).taken = rest ∧ t.csch = s.csch ∧
      s.regsBut t (BFIFO.ISR_FRAME n :: errFields (.bfifo n)) ∧ t = { s with regs := t.regs, fifos := t.fifos }) ∧
      (p.typ = 0x08 → yields (.bitstreamStage r info) s fun t => (t.fifo n).taken = rest ∧
      t.dramHeld addr (min room p.bytes.length) = p.bytes.take room ∧ (∀ a : Nat, a < addr ∨
      addr + min room p.bytes.length ≤ a → t.dramByte a = s.dramByte a) ∧ (∀ g ∈ t.csch.frames, g.num = f.num →
      g.staged = true ∧ g.cutShort = (p.cut || decide (room < p.bytes.length)) ∧ g.info = some info) ∧
      t.regs = s.regs ∧ t = { s with fifos := t.fifos, csch := t.csch, dram := t.dram }))

/-- A datapath fault of a live cell (0x0100), or the strip watchdog of a running one (0x0102), fences it: STATE
FENCED, ISR.FENCE, FENCED of CELLMASK, its cause recorded, source 17 + 2n asserted once, its grant returned, its
job gone and FAULTCNT up where it had one (R264 counts every fault, Table CSCH-23 those of a strip: the model
takes the table, log entry 16). A strip in WAIT returns unchanged. A strip in RUN is re-issued, counted and
flagged where 1.25 times its estimate fits before the deadline; an encode strip that does not fit becomes a
concealment strip, counted, with code 0x0105 of CSCH, and a decode strip is concealed and ends, once the strips at
its boundary that go first have ended. A cycle of a running cell fetches the next word by NEXT: a clean or
corrected word runs, an uncorrectable one fences with 0x0101 and shows its address; a COND from 0x12 on, a CALL
with four addresses held and a RET with none fence with 0x0100. A cell fenced, loading or held does nothing at a
fault, nor one that is not running at the watchdog. -/
def Obligations.CellFaultsFenceAndLoseStrips : Prop :=
  (∀ (s : State) (n : Fin 8) (wd : Bool) (i : Instr) (code : Nat), s.live →
    (i = if wd then .stripWatchdog n else .cellFault n [] true) → (code = if wd then 0x0102 else 0x0100) →
    ((if wd then s.get (CELL.STS_STATE n) = 2 else s.get (CELL.STS_STATE n) ≤ 2 ∧ s.held (.cell n) = false) →
      yields i s fun t => t.get (CELL.STS_STATE n) = 3 ∧ t.get (CELL.ISR_FENCE n) = 1 ∧
      natBit (t.get CSCH.CELLMASK_FENCED) n = true ∧ records (.cell n) code s t ∧ (∀ m : Fin 8, m ≠ n →
      natBit (t.get CSCH.CELLMASK_FENCED) m = natBit (s.get CSCH.CELLMASK_FENCED) m) ∧
      t.intc.edges = s.intc.edges ++ [17 + 2 * n.val] ∧ holdsGrant t n = false ∧ waitsGrant t n = false ∧
      (t.cell n).job = none ∧ ((s.cell n).job ≠ none →
      t.get CSCH.FAULTCNT_COUNT = (s.get CSCH.FAULTCNT_COUNT + 1) % 2 ^ (CSCH.FAULTCNT_COUNT).w) ∧
      ((s.cell n).job = none → t.get CSCH.FAULTCNT_COUNT = s.get CSCH.FAULTCNT_COUNT) ∧ (∀ m : Fin 8, m ≠ n →
      t.cell m = s.cell m ∧ t.get (CELL.STS_STATE m) = s.get (CELL.STS_STATE m)) ∧ t.act = s.act ∧ t.nvm = s.nvm) ∧
      ((if wd then s.get (CELL.STS_STATE n) ≠ 2 else 2 < s.get (CELL.STS_STATE n) ∨ s.held (.cell n) = true) →
      exec i s = .next s)) ∧
  (∀ (s : State) (n : Fin 8) (num j : Nat) (f : Frame) (x : Strip), s.live → s.held (.cell n) = false →
    (s.cell n).job = some (num, j) → frameOf s num = some f → f.strips[j]? = some x → f.endT = none →
    x.conceal = false → x.st = 1 →
    (s.get (CELL.STS_STATE n) = 1 → yields (.cellFault n [] true) s fun t => (frameOf t num).map (fun g =>
      (g.strips[j]?, g.rflags)) = some (some { x with st := 0 }, f.rflags) ∧
      t.get CSCH.REISSUECNT_COUNT = s.get CSCH.REISSUECNT_COUNT ∧
      t.get CSCH.CONCEALCNT_COUNT = s.get CSCH.CONCEALCNT_COUNT) ∧ (s.get (CELL.STS_STATE n) = 2 →
      s.mtime + (x.estS * 5 + 3) / 4 ≤ f.deadline → yields (.cellFault n [] true) s fun t =>
      (frameOf t num).map (fun g =>
      (g.strips[j]?, g.rflags)) = some (some { x with st := 0, reissue := true, parsed := false }, f.rflags ||| 4) ∧
      t.get CSCH.REISSUECNT_COUNT = (s.get CSCH.REISSUECNT_COUNT + 1) % 2 ^ (CSCH.REISSUECNT_COUNT).w ∧
      t.get CSCH.CONCEALCNT_COUNT = s.get CSCH.CONCEALCNT_COUNT) ∧ (s.get (CELL.STS_STATE n) = 2 →
      f.deadline < s.mtime + (x.estS * 5 + 3) / 4 → f.op = 1 → yields (.cellFault n [] true) s fun t =>
      (frameOf t num).map (fun g =>
      (g.strips[j]?, g.rflags)) = some (some { x with st := 0, conceal := true, reissue := false }, f.rflags ||| 1) ∧
      t.get CSCH.CONCEALCNT_COUNT = (s.get CSCH.CONCEALCNT_COUNT + 1) % 2 ^ (CSCH.CONCEALCNT_COUNT).w ∧
      records .csch 0x0105 s t ∧ t.get CSCH.REISSUECNT_COUNT = s.get CSCH.REISSUECNT_COUNT)) ∧
  (∀ (s : State) (n : Fin 8) (num j : Nat) (f : Frame) (x : Strip), s.live → s.held (.cell n) = false →
    s.get (CELL.STS_STATE n) = 2 → (s.cell n).job = some (num, j) → frameOf s num = some f →
    f.strips[j]? = some x → f.endT = none → f.op = 2 → x.conceal = false →
    f.deadline < s.mtime + (x.estS * 5 + 3) / 4 →
    yields (.cellFault n [] true) s fun t => (boundaryReady f j x = true → ((frameOf t num).bind fun g =>
      (g.strips[j]?).map (·.st)) = some 2) ∧ (f.info.any (fun p => (f.strips.take j).any fun y =>
      !y.lost && y.st != 2 && adjacent p y x) = true → ((frameOf t num).bind fun g => (g.strips[j]?).map fun y =>
      (y, g.endT)) = some ({ x with lost := true }, none)) ∧ ((frameOf t num).map fun g =>
      (decide (g.errKind = 0), g.rflags % 2)) = some (false, 1) ∧ (f.info = none → t.dram = s.dram) ∧
      t.get CSCH.REISSUECNT_COUNT = s.get CSCH.REISSUECNT_COUNT ∧
      t.get CSCH.CONCEALCNT_COUNT = s.get CSCH.CONCEALCNT_COUNT) ∧
  (∀ (s : State) (n : Fin 8) (y : Cycle) (m : Micro) (v : CsWord) (a : Nat), s.live → s.held (.cell n) = false →
    s.get (CELL.STS_STATE n) = 2 → (s.cell n).ended = false → m = microOf (s.cell n).word → m.next ≠ 6 →
    m.next ≠ 7 → m.cond < 0x12 → (nextAddr m (s.cell n) y.conds).map (·.1) = some a → a < 8192 →
    v = storeWord s n a ^^^ y.upset →
    (eccResult v = 0 → yields (.cellFault n [y] false) s fun t => (t.cell n).pc = a ∧
      (t.cell n).word = v.toNat % 2 ^ 120 ∧ (t.cell n).drive = m.cmds ∧ t.regs = s.regs ∧ t.csch = s.csch ∧
      (t.cell n).job = (s.cell n).job) ∧ (eccResult v = 1 → yields (.cellFault n [y] false) s fun t =>
      (t.cell n).pc = a ∧ (t.cell n).word = (eccFix v).toNat % 2 ^ 120 ∧ t.get (CELL.ISR_CSCORR n) = 1 ∧
      t.get (CELL.CSERR_CADDR n) = a ∧ t.get (CELL.STS_STATE n) = 2) ∧ (eccResult v ≠ 0 → eccResult v ≠ 1 →
      yields (.cellFault n [y] false) s fun t => t.get (CELL.STS_STATE n) = 3 ∧ records (.cell n) 0x0101 s t ∧
      t.get (CELL.CSERR_UVALID n) = 1 ∧ (s.get (CELL.CSERR_UVALID n) = 0 → t.get (CELL.CSERR_UADDR n) = a))) ∧
  (∀ (s : State) (n : Fin 8) (y : Cycle) (m : Micro), s.live → s.held (.cell n) = false →
    s.get (CELL.STS_STATE n) = 2 → (s.cell n).ended = false → m = microOf (s.cell n).word →
    (0x12 ≤ m.cond ∨ (m.next = 3 ∧ (s.cell n).stack.length = 4) ∨ (m.next = 4 ∧ (s.cell n).stack = []) →
      yields (.cellFault n [y] false) s fun t => t.get (CELL.STS_STATE n) = 3 ∧ records (.cell n) 0x0100 s t) ∧
      (m.cond < 0x12 → m.next = 7 → yields (.cellFault n [y] false) s fun t => (t.cell n).ended = true ∧
      t.regs = s.regs ∧ (t.cell n).pc = (s.cell n).pc) ∧ (m.cond < 0x12 → m.next = 6 →
      condTrue m.cond y.conds = false → yields (.cellFault n [y] false) s fun t => (t.cell n).ended = false ∧
      t.regs = s.regs ∧ (t.cell n).pc = (s.cell n).pc))

/-- With SCRUB_EN 1, the store loaded and the cell live, the scrubber decodes the word it stands at and goes to the
next, with PASSES up after word 8191. A clean word changes nothing more; a correctable one counts CSCORR, shows
its address and asks for a write-back; an uncorrectable one shows its address unless one is shown, and fences the
cell (or leaves it fenced) with 0x0101. A write-back writes the corrected contents asked for first and reads them
back, setting STUCK where bits do not take them, and fencing as above where that leaves an uncorrectable word; no
other word changes. A window read at an aligned offset answers bits 31:0, latches the word, and shows its address
and decode; other offsets answer from the latch. A LOADING cell reads 0. -/
def Obligations.ControlStoreIsScrubbedCorrectedAndRead : Prop :=
  (∀ (s : State) (n : Fin 8) (w : Nat), s.live → s.get (CELL.CSSTS_NEXTADDR n) = w → w < 8192 →
    (s.get (CELL.CSCFG_SCRUB_EN n) ≠ 1 ∨ 2 < s.get (CELL.STS_STATE n) ∨ s.held (.cell n) = true ∨
      (s.cell n).loaded = false → exec (.scrub n 0) s = .next s) ∧ (s.get (CELL.CSCFG_SCRUB_EN n) = 1 →
      s.get (CELL.STS_STATE n) ≤ 2 → s.held (.cell n) = false → (s.cell n).loaded = true →
      yields (.scrub n 0) s fun t => t.get (CELL.CSSTS_NEXTADDR n) = (w + 1) % 8192 ∧ (w = 8191 →
      t.get (CELL.CSSTS_PASSES n) = (s.get (CELL.CSSTS_PASSES n) + 1) % 2 ^ (CELL.CSSTS_PASSES n).w) ∧ (w ≠ 8191 →
      t.get (CELL.CSSTS_PASSES n) = s.get (CELL.CSSTS_PASSES n)) ∧ (eccResult (storeWord s n w) = 0 →
      s.only t [CELL.CSSTS_NEXTADDR n, CELL.CSSTS_PASSES n]) ∧ (eccResult (storeWord s n w) = 1 →
      t.get (CELL.CSERR_CVALID n) = 1 ∧ t.get (CELL.CSERR_CADDR n) = w ∧ t.get (CELL.ISR_CSCORR n) = 1 ∧
      t.get (CELL.CSCORR_COUNT n) = (s.get (CELL.CSCORR_COUNT n) + 1) % 2 ^ (CELL.CSCORR_COUNT n).w ∧
      (t.cell n).wb = (if (s.cell n).wb.any (·.1 == w) then (s.cell n).wb else (s.cell n).wb ++ [(w, eccFix (storeWord s n w))]) ∧
      storeWord t n w = storeWord s n w ∧
      s.regsBut t [CELL.CSSTS_NEXTADDR n, CELL.CSSTS_PASSES n, CELL.CSERR_CVALID n, CELL.CSERR_CADDR n, CELL.ISR_CSCORR n, CELL.CSCORR_COUNT n] ∧
      t = { s with regs := t.regs, cells := t.cells }) ∧ (eccResult (storeWord s n w) = 2 →
      t.get (CELL.CSERR_UVALID n) = 1 ∧ t.get (CELL.STS_STATE n) = 3 ∧ t.get (CELL.ISR_FENCE n) = 1 ∧
      (s.get (CELL.CSERR_UVALID n) ≠ 1 → t.get (CELL.CSERR_UADDR n) = w) ∧ (s.get (CELL.CSERR_UVALID n) = 1 →
      t.get (CELL.CSERR_UADDR n) = s.get (CELL.CSERR_UADDR n)) ∧ records (.cell n) 0x0101 s t ∧
      holdsGrant t n = false ∧ (t.cell n).job = none))) ∧
  (∀ (s : State) (n : Fin 8) (w : Nat) (m : CsWord), s.live → s.get (CELL.CSSTS_NEXTADDR n) = w →
    s.get (CELL.CSCFG_SCRUB_EN n) = 1 → s.get (CELL.STS_STATE n) ≤ 2 → s.held (.cell n) = false →
    (s.cell n).loaded = true → w < 8192 → m ≠ 0 →
    yields (.scrub n m) s fun t => storeWord t n w = storeWord s n w ^^^ m ∧ ∀ v : Fin 8192, v.val ≠ w →
      storeWord t n v = storeWord s n v) ∧
  (∀ (s : State) (n : Fin 8) (w : Nat) (v stuck : CsWord) (rest : List (Nat × CsWord)), s.live → w < 8192 →
    (s.cell n).wb = (w, v) :: rest →
    yields (.csWriteback n stuck) s fun t => (t.cell n).wb = rest ∧ storeWord t n w = v ^^^ stuck ∧
      (∀ u : Fin 8192, u.val ≠ w → storeWord t n u = storeWord s n u) ∧ (eccResult (v ^^^ stuck) ≠ 0 →
      t.get (CELL.CSERR_STUCK n) = 1) ∧ (eccResult (v ^^^ stuck) = 0 → t.regs = s.regs) ∧
      (eccResult (v ^^^ stuck) ≠ 2 → s.regsBut t [CELL.CSERR_STUCK n] ∧
      t = { s with regs := t.regs, cells := t.cells }) ∧ (eccResult (v ^^^ stuck) = 2 →
      t.get (CELL.CSERR_UVALID n) = 1 ∧ t.get (CELL.STS_STATE n) = 3 ∧ records (.cell n) 0x0101 s t ∧
      (s.get (CELL.CSERR_UVALID n) ≠ 1 → t.get (CELL.CSERR_UADDR n) = w) ∧ (s.get (CELL.STS_STATE n) ≠ 3 →
      t.get (CELL.ISR_FENCE n) = 1 ∧ holdsGrant t n = false ∧ (t.cell n).job = none))) ∧
  (∀ (s : State) (n : Fin 8) (w : Fin 8192) (k : Fin 4) (off : BitVec 17), s.live →
    s.get SYS.BOOT_STATUS_CODE = 0x10 → off.toNat = 16 * w.val + 4 * k.val → writeWaits s = false →
    (s.get (CELL.STS_STATE n) = 4 → yields (.windowRead n off 0) s fun t => t.out.rdata = some 0 ∧
      t = { s with out := t.out }) ∧ (s.get (CELL.STS_STATE n) ≠ 4 → k.val ≠ 0 →
      yields (.windowRead n off 0) s fun t => t.out.rdata = some ((s.cell n).latch.extractLsb' (32 * k.val) 32) ∧
      t = { s with out := t.out }) ∧ (s.get (CELL.STS_STATE n) ≠ 4 → k.val = 0 →
      yields (.windowRead n off 0) s fun t => t.out.rdata = some ((storeWord s n w).extractLsb' 0 32) ∧
      (t.cell n).latch = storeWord s n w ∧ t.get (CELL.CSWIN_VALID n) = 1 ∧ t.get (CELL.CSWIN_ADDR n) = w ∧
      t.get (CELL.CSWIN_RESULT n) = eccResult (storeWord s n w) ∧ (eccResult (storeWord s n w) = 0 →
      s.regsBut t [CELL.CSWIN_VALID n, CELL.CSWIN_ADDR n, CELL.CSWIN_RESULT n, CELL.CSWIN_SYND n] ∧
      t = { s with regs := t.regs, cells := t.cells, out := t.out }) ∧ (eccResult (storeWord s n w) = 1 →
      t.get (CELL.ISR_CSCORR n) = 1 ∧ t.get (CELL.CSERR_CADDR n) = w) ∧ (eccResult (storeWord s n w) = 2 →
      t.get (CELL.CSERR_UVALID n) = 1 ∧ records (.cell n) 0x0101 s t ∧ t.get (CELL.STS_STATE n) = 3)))

/-- EN 1 runs a port whose size, lanes, destination and raw stride are allowed, else 0x0101. A packet of another
virtual channel or, with its header whole, of a data type the port does not take changes nothing; a corrected
header counts ECCFIX; a lost one records 0x0102 and costs a due line; a CRC error of a taken packet records
0x0103, also where no line is due. A frame start is stamped within 2 ticks and goes in-line to a running ISP, to a
free raw buffer, or nowhere: counted where the ISP waits for its grant or no buffer is free; a short frame still
open is abandoned first. A good line of WIDTH samples is kept as 14-bit samples and, raw, stored at its place; one
lost, in error (0x0103) or of another length repeats line y - 2, or line 0 for line 1, and counts; line 0 lost or
repairs used up abandon the frame: ABNCNT, ISR.ABANDON, 0x0104. A frame end makes a whole raw frame ready, and
abandons a short one. No frame start or end for LOSS.MS ms: LOST, ISR.LOSS, the frame in progress abandoned; with
LOSSBLK DISP publishes a black frame into its next surface (its levels are the model's, log entry 44). FSTAMPL
answers the stamp's low half and latches the high one. (Code 3 of DEST is taken as 0 and a loss is timed from the
first frame start: the model's readings, log entry 17.) -/
def Obligations.CameraPortsReceiveFrames : Prop :=
  (∀ (s : State) (n : Fin 3) (w h : Nat), s.live → s.answers (.csi n) → s.get (CSI.CTL_EN n) = 0 →
    w = s.get (CSI.SIZE_WIDTH n) → h = s.get (CSI.SIZE_HEIGHT n) →
    ((w % 2 = 0 ∧ h % 2 = 0 ∧ 64 ≤ w ∧ w ≤ 8192 ∧ 64 ≤ h ∧ h ≤ 6144 ∧ s.get (CSI.CFG_LANES n) ≠ 3 ∧
      (s.get (CSI.CFG_DEST n) = 1 → ∀ m : Fin 3, m ≠ n → s.get (CSI.CTL_EN m) ≠ 1 ∨ s.get (CSI.CFG_DEST m) ≠ 1) ∧
      (s.get (CSI.CFG_DEST n) = 2 → rawPitch s n * h ≤ s.get (CSI.RAWSTRIDE_N n))) → yields (.csiEnable n) s fun t =>
      t.get (CSI.CTL_EN n) = 1 ∧ t.get (CSI.STS_STATE n) = 1 ∧ s.regsBut t [CSI.CTL_EN n, CSI.STS_STATE n] ∧
      t = { s with regs := t.regs, csis := t.csis }) ∧ ((w % 2 ≠ 0 ∨ h % 2 ≠ 0 ∨ w < 64 ∨ 8192 < w ∨ h < 64 ∨
      6144 < h ∨ s.get (CSI.CFG_LANES n) = 3 ∨ (s.get (CSI.CFG_DEST n) = 1 ∧ ∃ m : Fin 3, m ≠ n ∧
      s.get (CSI.CTL_EN m) = 1 ∧ s.get (CSI.CFG_DEST m) = 1) ∨ (s.get (CSI.CFG_DEST n) = 2 ∧
      s.get (CSI.RAWSTRIDE_N n) < rawPitch s n * h)) → yields (.csiEnable n) s fun t => records (.csi n) 0x0101 s t ∧
      s.only t (errFields (.csi n)))) ∧
  (∀ (s : State) (n : Fin 3) (h : CsiHead) (fx : Nat), s.live → s.get (CSI.STS_STATE n) ≠ 0 →
    receiving s n = false →
    (s.get (CSI.STS_STATE n) = 2 → (s.csi n).abandoned = false → (s.csi n).rows.length < s.get (CSI.SIZE_HEIGHT n)) →
    h.lost = false → h.vc.toNat = s.get (CSI.CFG_VC n) →
    (fx = (if h.fixed then (s.get (CSI.FIXCNT_ECCFIX n) + 1) % 2 ^ 16 else s.get (CSI.FIXCNT_ECCFIX n))) →
    yields (.csiFrameStart n h) s fun t => t.get (CSI.STS_STATE n) = 2 ∧ s.mtime ≤ (t.csi n).stamp + 2 ∧
      (t.csi n).stamp ≤ s.mtime + 2 ∧ (t.csi n).rows = [] ∧ (t.csi n).fixes = 0 ∧ (t.csi n).abandoned = false ∧
      (t.csi n).full = (s.csi n).full ∧ t.get (CSI.FIXCNT_ECCFIX n) = fx ∧ (s.get (CSI.CFG_DEST n) = 1 →
      s.get ISP.STS_STATE = 2 → (t.csi n).dest = 1 ∧ (t.csi n).start = true ∧
      s.regsBut t [CSI.STS_STATE n, CSI.FIXCNT_ECCFIX n]) ∧ (s.get (CSI.CFG_DEST n) = 1 → s.get ISP.STS_STATE = 1 →
      (t.csi n).dest = 0 ∧ t.get (CSI.CNT_DISCNT n) = (s.get (CSI.CNT_DISCNT n) + 1) % 2 ^ 16 ∧
      s.regsBut t [CSI.STS_STATE n, CSI.CNT_DISCNT n, CSI.FIXCNT_ECCFIX n]) ∧ (s.get (CSI.CFG_DEST n) = 0 →
      (t.csi n).dest = 0 ∧ s.regsBut t [CSI.STS_STATE n, CSI.FIXCNT_ECCFIX n]) ∧ (s.get (CSI.CFG_DEST n) = 2 →
      ∀ b : Fin 4, freeRaw s n = some b.val → (t.csi n).dest = 2 ∧ (t.csi n).buf = b ∧
      (∀ e ∈ (s.csi n).full, e.1 ≠ b.val) ∧ s.regsBut t [CSI.STS_STATE n, CSI.FIXCNT_ECCFIX n]) ∧
      (s.get (CSI.CFG_DEST n) = 2 → freeRaw s n = none → (t.csi n).dest = 0 ∧ t.get (CSI.ISR_RAWDROP n) = 1 ∧
      t.get (CSI.CNT_DISCNT n) = (s.get (CSI.CNT_DISCNT n) + 1) % 2 ^ 16 ∧
      s.regsBut t [CSI.STS_STATE n, CSI.CNT_DISCNT n, CSI.ISR_RAWDROP n, CSI.FIXCNT_ECCFIX n]) ∧
      t = { s with regs := t.regs, csis := t.csis, free := t.free } ∧ ∀ m : Fin 3, m ≠ n → t.csi m = s.csi m) ∧
  (∀ (s : State) (n : Fin 3) (h : CsiHead) (dt : BitVec 6) (k : CsiLine) (px : List Nat), s.live →
    (s.get (CSI.STS_STATE n) = 0 ∨ (h.lost = false ∧ h.vc.toNat ≠ s.get (CSI.CFG_VC n)) →
      exec (.csiFrameStart n h) s = .next s ∧ exec (.csiFrameEnd n h) s = .next s ∧
      exec (.csiLongPacket n h dt k px) s = .next s) ∧ (s.get (CSI.STS_STATE n) ≠ 0 → h.lost = true →
      ∀ c ∈ [Instr.csiFrameStart n h, .csiFrameEnd n h], yields c s fun t => records (.csi n) 0x0102 s t ∧
      s.only t (errFields (.csi n))) ∧ (h.lost = false → dt.toNat ≠ s.get (CSI.CFG_DT n) ∨ dt.toNat < 0x2A ∨
      0x2D < dt.toNat → exec (.csiLongPacket n h dt k px) s = .next s) ∧ (s.get (CSI.STS_STATE n) ≠ 0 →
      h.lost = true → lineDue s n = false → yields (.csiLongPacket n h dt k px) s fun t =>
      records (.csi n) 0x0102 s t ∧ s.only t (errFields (.csi n))) ∧ (h.lost = false →
      h.vc.toNat = s.get (CSI.CFG_VC n) → receiving s n = true → (s.csi n).rows.length < s.get (CSI.SIZE_HEIGHT n) →
      yields (.csiFrameStart n h) s fun t => t.get (CSI.ISR_ABANDON n) = 1 ∧ records (.csi n) 0x0104 s t ∧
      t.get (CSI.CNT_ABNCNT n) = (s.get (CSI.CNT_ABNCNT n) + 1) % 2 ^ 16 ∧ (t.csi n).abandoned = false ∧
      (t.csi n).rows = []) ∧ (h.lost = false → h.vc.toNat = s.get (CSI.CFG_VC n) → receiving s n = true →
      s.get (CSI.SIZE_HEIGHT n) ≤ (s.csi n).rows.length → yields (.csiFrameStart n h) s fun t =>
      t.get (CSI.CNT_ABNCNT n) = s.get (CSI.CNT_ABNCNT n) ∧ (t.csi n).rows = [] ∧ ((s.csi n).dest = 2 →
      t.get (CSI.ISR_FRAME n) = 1))) ∧
  (∀ (s : State) (n : Fin 3) (h g : CsiHead) (dt : BitVec 6) (q : CsiLine) (px row : List Nat) (y a fx : Nat),
    s.live → receiving s n = true → (s.csi n).rows.length = y → y < s.get (CSI.SIZE_HEIGHT n) →
    (s.csi n).dest = 2 → h.lost = false → h.vc.toNat = s.get (CSI.CFG_VC n) → dt.toNat = s.get (CSI.CFG_DT n) →
    0x2A ≤ dt.toNat → dt.toNat ≤ 0x2D →
    a = s.get (CSI.RAWADDRL_A n) + 2 ^ 32 * s.get (CSI.RAWADDRH_A n) + (s.csi n).buf * s.get (CSI.RAWSTRIDE_N n) + y * rawPitch s n →
    (fx = (if h.fixed then (s.get (CSI.FIXCNT_ECCFIX n) + 1) % 2 ^ 16 else s.get (CSI.FIXCNT_ECCFIX n))) →
    (row = ((s.csi n).rows.getD (if y = 1 then 0 else y - 2) []).map (· / 2 ^ (14 - rawBits s n))) →
    (px.length = s.get (CSI.SIZE_WIDTH n) → yields (.csiLongPacket n h dt .good px) s fun t =>
      t.dramHeld a (rawRow s n px).length = rawRow s n px ∧ (∀ b : Nat, b < a ∨ a + (rawRow s n px).length ≤ b →
      t.dramByte b = s.dramByte b) ∧ (t.csi n).fixes = (s.csi n).fixes ∧
      (t.csi n).rows = (s.csi n).rows ++ [px.map fun v => v * 2 ^ (14 - (8 + 2 * (dt.toNat - 0x2A)))] ∧
      t.get (CSI.FIXCNT_ECCFIX n) = fx ∧ s.regsBut t [CSI.FIXCNT_ECCFIX n] ∧
      t = { s with regs := t.regs, csis := t.csis, dram := t.dram }) ∧ (h.fixed = false →
      exec (.csiLongPacket n h dt .overflow px) s = .next s) ∧ (∀ k ∈ [CsiLine.good, .crcError], (k = .good →
      px.length ≠ s.get (CSI.SIZE_WIDTH n)) → y ≠ 0 → (s.csi n).fixes < s.get (CSI.LOSS_MAXFIX n) →
      yields (.csiLongPacket n h dt k px) s fun t =>
      t.get (CSI.FIXCNT_LINEFIX n) = (s.get (CSI.FIXCNT_LINEFIX n) + 1) % 2 ^ 16 ∧ t.get (CSI.ISR_LINEFIX n) = 1 ∧
      (t.csi n).fixes = (s.csi n).fixes + 1 ∧ t.get (CSI.FIXCNT_ECCFIX n) = fx ∧
      t.dramHeld a (rawRow s n row).length = rawRow s n row ∧
      (t.csi n).rows = (s.csi n).rows ++ [row.map (· * 2 ^ (14 - rawBits s n))] ∧ (∀ b : Nat, b < a ∨
      a + (rawRow s n row).length ≤ b → t.dramByte b = s.dramByte b) ∧ (k = .crcError →
      records (.csi n) 0x0103 s t) ∧ (k = .good →
      t.get (HDR.ISR_ERR (Page.csi n).base) = s.get (HDR.ISR_ERR (Page.csi n).base)) ∧
      s.regsBut t ([CSI.FIXCNT_LINEFIX n, CSI.ISR_LINEFIX n, CSI.FIXCNT_ECCFIX n] ++ errFields (.csi n)) ∧
      t = { s with regs := t.regs, csis := t.csis, dram := t.dram }) ∧ (g.lost = true → y ≠ 0 →
      (s.csi n).fixes < s.get (CSI.LOSS_MAXFIX n) → yields (.csiLongPacket n g dt q px) s fun t =>
      records (.csi n) 0x0102 s t ∧ t.get (CSI.FIXCNT_LINEFIX n) = (s.get (CSI.FIXCNT_LINEFIX n) + 1) % 2 ^ 16 ∧
      (t.csi n).rows.length = y + 1 ∧ (t.csi n).fixes = (s.csi n).fixes + 1)) ∧
  (∀ (s : State) (n : Fin 3) (h : CsiHead) (dt : BitVec 6) (k : CsiLine) (px : List Nat), s.live →
    h = ⟨BitVec.ofNat 2 (s.get (CSI.CFG_VC n)), false, false⟩ → dt = BitVec.ofNat 6 (s.get (CSI.CFG_DT n)) →
    takesType s n dt = true →
    ((s.csi n).abandoned = true ∨ s.get (CSI.STS_STATE n) ≠ 2 ∨ s.get (CSI.SIZE_HEIGHT n) ≤ (s.csi n).rows.length →
      k ≠ .crcError → exec (.csiLongPacket n h dt k px) s = .next s) ∧ ((s.csi n).abandoned = true ∨
      s.get (CSI.STS_STATE n) ≠ 2 ∨ s.get (CSI.SIZE_HEIGHT n) ≤ (s.csi n).rows.length → s.get (CSI.STS_STATE n) ≠ 0 →
      yields (.csiLongPacket n h dt .crcError px) s fun t => records (.csi n) 0x0103 s t ∧
      s.only t (errFields (.csi n))) ∧ (receiving s n = true → (s.csi n).rows.length < s.get (CSI.SIZE_HEIGHT n) →
      (k = .good ∧ px.length ≠ s.get (CSI.SIZE_WIDTH n) ∧ ((s.csi n).rows = [] ∨
      s.get (CSI.LOSS_MAXFIX n) ≤ (s.csi n).fixes)) ∨ (k = .overflow ∧ (s.csi n).dest = 1) →
      yields (.csiLongPacket n h dt k px) s fun t => (t.csi n).abandoned = true ∧ (t.csi n).start = false ∧
      t.get (CSI.ISR_ABANDON n) = 1 ∧ records (.csi n) 0x0104 s t ∧
      t.get (CSI.CNT_ABNCNT n) = (s.get (CSI.CNT_ABNCNT n) + 1) % 2 ^ 16 ∧ t.dram = s.dram ∧ ((s.csi n).dest = 1 →
      ∀ o : Fin 3, ∀ x ∈ (t.ispOut o).jobs, x.port = n.val → x.inline = true → x.stamp ≠ (s.csi n).stamp) ∧
      (∀ o : Fin 3, ∀ x ∈ (s.ispOut o).jobs, x.port ≠ n.val ∨ x.inline = false ∨ x.stamp ≠ (s.csi n).stamp →
      x ∈ (t.ispOut o).jobs))) ∧
  (∀ (s : State) (n : Fin 3) (h : CsiHead) (y : Nat), s.live →
    h = ⟨BitVec.ofNat 2 (s.get (CSI.CFG_VC n)), false, false⟩ → y = (s.csi n).rows.length →
    (s.csi n).line0 ≤ (s.csi n).lineN →
    (s.get (CSI.STS_STATE n) ≠ 2 → exec (.csiFrameEnd n h) s = .next s) ∧ (s.get (CSI.STS_STATE n) = 2 →
      receiving s n = false → (s.csi n).abandoned = true ∨ y < s.get (CSI.SIZE_HEIGHT n) →
      yields (.csiFrameEnd n h) s fun t => t.get (CSI.STS_STATE n) = 1 ∧ s.regsBut t [CSI.STS_STATE n] ∧
      t = { s with regs := t.regs, csis := t.csis }) ∧ (receiving s n = true → y < s.get (CSI.SIZE_HEIGHT n) →
      yields (.csiFrameEnd n h) s fun t => t.get (CSI.STS_STATE n) = 1 ∧ t.get (CSI.ISR_ABANDON n) = 1 ∧
      records (.csi n) 0x0104 s t ∧ t.get (CSI.CNT_ABNCNT n) = (s.get (CSI.CNT_ABNCNT n) + 1) % 2 ^ 16 ∧
      (t.csi n).full = (s.csi n).full) ∧ (s.get (CSI.STS_STATE n) = 2 → (s.csi n).abandoned = false →
      s.get (CSI.SIZE_HEIGHT n) ≤ y → yields (.csiFrameEnd n h) s fun t => t.get (CSI.STS_STATE n) = 1 ∧
      t.get (CSI.CNT_ABNCNT n) = s.get (CSI.CNT_ABNCNT n) ∧
      (t.get (CSI.LINEPER_T n) = ((s.csi n).lineN - (s.csi n).line0) / max 1 (y - 1) % 2 ^ (CSI.LINEPER_T n).w ∨
      (((s.csi n).lineN - (s.csi n).line0) % max 1 (y - 1) ≠ 0 ∧
      t.get (CSI.LINEPER_T n) = (((s.csi n).lineN - (s.csi n).line0) / max 1 (y - 1) + 1) % 2 ^ (CSI.LINEPER_T n).w)) ∧
      ((s.csi n).dest ≠ 2 → s.regsBut t [CSI.STS_STATE n, CSI.LINEPER_T n] ∧
      t = { s with regs := t.regs, csis := t.csis }) ∧ ((s.csi n).dest = 2 → t.get (CSI.ISR_FRAME n) = 1 ∧
      t.get (CSI.RAWSTS_WR n) = ((s.csi n).buf + 1) % min 4 (max 1 (s.get (CSI.RAWCFG_NBUF n))) ∧
      ((∃ o : Fin 3, outPort s o = n.val) → (t.csi n).full = (s.csi n).full ++ [((s.csi n).buf, (s.csi n).stamp)]) ∧
      ((∀ o : Fin 3, outPort s o ≠ n.val) → (t.csi n).full = (s.csi n).full) ∧
      s.regsBut t [CSI.STS_STATE n, CSI.ISR_FRAME n, CSI.RAWSTS_WR n, CSI.RAWSTS_FULL n, CSI.LINEPER_T n] ∧
      t = { s with regs := t.regs, csis := t.csis }))) ∧
  (∀ (s : State) (n : Fin 3) (m : Nat), s.live → (s.csi n).mark = some m → receiving s n = false →
    s.getA ISP.DCFG_LOSSBLK ≠ 1 →
    ((s.get (CSI.STS_STATE n) ≠ 1 ∧ s.get (CSI.STS_STATE n) ≠ 2) ∨
      s.mtime - m < max 1 (s.get (CSI.LOSS_MS n)) * 98304 → exec (.csiLoss n) s = .next s) ∧
      (s.get (CSI.STS_STATE n) = 1 ∨ s.get (CSI.STS_STATE n) = 2 →
      max 1 (s.get (CSI.LOSS_MS n)) * 98304 ≤ s.mtime - m → yields (.csiLoss n) s fun t =>
      t.get (CSI.STS_STATE n) = 3 ∧ t.get (CSI.ISR_LOSS n) = 1 ∧ (t.csi n).start = false ∧
      s.regsBut t [CSI.STS_STATE n, CSI.ISR_LOSS n] ∧ t = { s with regs := t.regs, csis := t.csis })) ∧
  (∀ (s : State) (n : Fin 3) (m : Nat), s.live → (s.csi n).mark = some m →
    max 1 (s.get (CSI.LOSS_MS n)) * 98304 ≤ s.mtime - m → receiving s n = true → s.getA ISP.DCFG_LOSSBLK ≠ 1 →
    yields (.csiLoss n) s fun t => t.get (CSI.STS_STATE n) = 3 ∧ t.get (CSI.ISR_LOSS n) = 1 ∧
      t.get (CSI.ISR_ABANDON n) = 1 ∧ records (.csi n) 0x0104 s t ∧
      t.get (CSI.CNT_ABNCNT n) = (s.get (CSI.CNT_ABNCNT n) + 1) % 2 ^ 16 ∧ (t.csi n).start = false ∧
      (t.csi n).abandoned = true ∧ t.dram = s.dram ∧ ((s.csi n).dest = 1 →
      ∀ o : Fin 3, ∀ x ∈ (t.ispOut o).jobs, x.port = n.val → x.inline = true → x.stamp ≠ (s.csi n).stamp) ∧
      (∀ o : Fin 3, ∀ x ∈ (s.ispOut o).jobs, x.port ≠ n.val ∨ x.inline = false ∨ x.stamp ≠ (s.csi n).stamp →
      x ∈ (t.ispOut o).jobs)) ∧
  (∀ (s : State) (n : Fin 3) (m y : Nat) (sf : Surface), s.live →
    (s.get (CSI.STS_STATE n) = 1 ∨ s.get (CSI.STS_STATE n) = 2) → (s.csi n).mark = some m →
    max 1 (s.get (CSI.LOSS_MS n)) * 98304 ≤ s.mtime - m → receiving s n = false → s.getA ISP.DCFG_LOSSBLK = 1 →
    outPort s 0 = n.val → s.get ISP.STS_STATE = 2 → surfaceAt s (outBase s 0 + freePos s 0) = some sf →
    sf.fmt = 0 → sf.w ≤ sf.pitch → sf.yaddr + sf.pitch * sf.h ≤ sf.caddr →
    (y = if s.getA ISP.DCFG_CSC = 3 then 0 else 16) →
    yields (.csiLoss n) s fun t => t.get (CSI.STS_STATE n) = 3 ∧ t.get (CSI.ISR_LOSS n) = 1 ∧
      t.get ISP.DSTS_LAST = (outBase s 0 + freePos s 0) % 2 ^ (ISP.DSTS_LAST).w ∧ t.get ISP.ISR_DEOF = 1 ∧
      t.get ISP.DSTS_FRAMES = (s.get ISP.DSTS_FRAMES + 1) % 2 ^ (ISP.DSTS_FRAMES).w ∧
      t.intc.edges = s.intc.edges ++ [41] ∧
      (∀ r ∈ List.range sf.h, ∀ c ∈ List.range sf.w, (t.dramByte (sf.yaddr + sf.pitch * r + c)).toNat = y) ∧
      (∀ r ∈ List.range (sf.h / 2), ∀ c ∈ List.range sf.w, (t.dramByte (sf.caddr + sf.pitch * r + c)).toNat = 128) ∧
      (∀ a : Nat, a < sf.yaddr ∨ sf.caddr + sf.pitch * (sf.h / 2) ≤ a → t.dramByte a = s.dramByte a)) ∧
  (∀ (s : State) (n : Fin 3), s.live → s.answers (.csi n) →
    yields (.fstamplRead n) s fun t => t.out.rdata = some (BitVec.ofNat 32 (s.csi n).stamp) ∧
      t.get (CSI.FSTAMPH_T n) = (s.csi n).stamp / 2 ^ 32 % 2 ^ (CSI.FSTAMPH_T n).w ∧ s.regsBut t [CSI.FSTAMPH_T n] ∧
      t = { s with regs := t.regs, out := t.out })

/-- In a running ISP, the boundary of a started in-line frame, or of the earliest raw frame where no pass runs,
applies a pending FRAME commit (the shadows become the active copies, PENDING clears, STAMP takes MTIME's low
word); where none is pending it reads the source's parameter block (one that is not valid sets ISR.PSET and 0x0100
and the last one stands), and an in-line frame's outputs that name the source take it up behind what they still
write, with its stamp, block and configuration, where that is valid, else 0x0101; a linked CODE binds its ring's
oldest fetched frame not yet bound, whose TIME becomes the stamp, or counts CNOMATCH. A pass ends once no output
still writes from it: its buffer is freed and DONE counts. A publication, of the oldest frame, shows the ring
position or surface and counts, with its interrupt and source 41; an in-line frame whose lines still come is not
published. An abandoned frame leaves its output, counts, sets its interrupt and records 0x0102; a linked one not
yet dispatched is dropped, and of one that is every strip not yet eligible becomes a concealment strip, with
DAMAGE and no code of CSCH. -/
def Obligations.OutputsTakePublishAndAbandonFrames : Prop :=
  (∀ (s : State) (p : Fin 3), s.live →
    (s.get ISP.STS_STATE ≠ 2 → exec (.ispFrameBoundary p) s = .next s) ∧ ((s.csi p).start = false →
      s.isp.pass ≠ none → exec (.ispFrameBoundary p) s = .next s) ∧ ((s.csi p).start = false → nextPass s = none →
      exec (.ispFrameBoundary p) s = .next s)) ∧
  (∀ (s : State) (p : Fin 3) (o : Fin 3) (b : List Byte), s.live → s.get ISP.STS_STATE = 2 →
    (s.csi p).start = true → awaits s .isp 1 = false → outPort s o = p.val →
    (o = 1 → s.getA ISP.CCFG_LINK ≠ 1) →
    b = s.dramRead (s.getA (ISP.PSETL_A p) + 2 ^ 32 * s.getA (ISP.PSETH_A p)) 256 →
    yields (.ispFrameBoundary p) s fun t => (t.csi p).start = false ∧ (psetOk b = true →
      SMap.get [] t.isp.pset p = b ∧ (outputOk s o p = true → b ≠ [] →
      (t.ispOut o).jobs = (s.ispOut o).jobs ++ [⟨p, true, 0, (s.csi p).stamp, none, freePos s o, outBase s o + freePos s o, b, outGeom s o⟩]) ∧
      (outputOk s o p = false → t.ispOut o = s.ispOut o ∧ t.get (HDR.ISR_ERR Page.isp.base) = 1 ∧
      (s.bit (HDR.EFIRST_VALID Page.isp.base) = false → t.get (HDR.EFIRST_SRC Page.isp.base) = 0x0101))) ∧
      (psetOk b = false → SMap.get [] t.isp.pset p = SMap.get [] s.isp.pset p ∧ t.get ISP.ISR_PSET = 1 ∧
      t.get (HDR.ISR_ERR Page.isp.base) = 1 ∧ (s.bit (HDR.EFIRST_VALID Page.isp.base) = false →
      t.get (HDR.EFIRST_SRC Page.isp.base) = 0x0100)) ∧ (t.ispOut o).pos = (s.ispOut o).pos ∧ t.dram = s.dram ∧
      t.act = s.act) ∧
  (∀ (s : State) (p : Fin 3), s.live → s.regsOk → s.get ISP.STS_STATE = 2 →
    ((s.csi p).start = true ∨ (s.isp.pass = none ∧ (nextPass s).map (·.1) = some p.val)) →
    awaits s .isp 1 = true →
    yields (.ispFrameBoundary p) s fun t => applied .isp s t) ∧
  (∀ (s : State) (p : Fin 3) (b : List Byte) (f : Frame) (l rest : List Frame), s.live → s.get ISP.STS_STATE = 2 →
    (s.csi p).start = true → awaits s .isp 1 = false → outPort s 1 = p.val → s.getA ISP.CCFG_LINK = 1 →
    b = s.dramRead (s.getA (ISP.PSETL_A p) + 2 ^ 32 * s.getA (ISP.PSETH_A p)) 256 → psetOk b = true → b ≠ [] →
    outputOk s 1 p = true → s.csch.frames = l ++ f :: rest → (∀ e ∈ l ++ rest, e.num ≠ f.num) →
    (∀ e ∈ l, e.ring ≠ s.getA ISP.CCFG_RING ∨ e.op ≠ 1 ∨ e.linked = false ∨ e.bound = true ∨ e.endT ≠ none) →
    (f.ring = s.getA ISP.CCFG_RING → f.op = 1 → f.linked = true → f.bound = false → f.endT = none →
      yields (.ispFrameBoundary p) s fun t =>
      (t.ispOut 1).jobs = (s.ispOut 1).jobs ++ [⟨p, true, 0, (s.csi p).stamp, some f.num, freePos s 1, f.surf, b, outGeom s 1⟩] ∧
      t.csch.frames = l ++ { f with bound := true, time := (s.csi p).stamp } :: rest ∧
      t.get ISP.ABN2_CNOMATCH = s.get ISP.ABN2_CNOMATCH ∧ t.dram = s.dram) ∧
      ((∀ e ∈ f :: rest, e.ring ≠ s.getA ISP.CCFG_RING ∨ e.op ≠ 1 ∨ e.linked = false ∨ e.bound = true ∨
      e.endT ≠ none) → yields (.ispFrameBoundary p) s fun t => t.ispOut 1 = s.ispOut 1 ∧ t.csch = s.csch ∧
      t.get ISP.ABN2_CNOMATCH = (s.get ISP.ABN2_CNOMATCH + 1) % 2 ^ (ISP.ABN2_CNOMATCH).w)) ∧
  (∀ (s : State) (p : Fin 3) (b stamp : Nat), s.live → s.get ISP.STS_STATE = 2 → (s.csi p).start = false →
    s.isp.pass = none → nextPass s = some (p.val, b, stamp) →
    (∀ n : Fin 3, ∀ e ∈ (s.csi n).full, stamp ≤ e.2) ∧ yields (.ispFrameBoundary p) s fun t =>
      t.isp.pass = some (p.val, b) ∧ t.get ISP.PASSSTS_CUR = p ∧ (t.csi p).full = (s.csi p).full) ∧
  (∀ (s : State) (p : Fin 3) (b : Nat), s.live → s.isp.pass = some (p.val, b) →
    ((∃ o : Fin 3, ∃ x ∈ (s.ispOut o).jobs, x.port = p.val ∧ x.inline = false) → exec .passEnd s = .next s) ∧
      ((∀ o : Fin 3, ∀ x ∈ (s.ispOut o).jobs, x.port ≠ p.val ∨ x.inline = true) → yields .passEnd s fun t =>
      t.isp.pass = none ∧ (t.csi p).full = (s.csi p).full.filter (fun e => e.1 != b) ∧ t.get ISP.PASSSTS_CUR = 3 ∧
      t.get ISP.PASSSTS_DONE = (s.get ISP.PASSSTS_DONE + 1) % 2 ^ (ISP.PASSSTS_DONE).w ∧
      s.regsBut t [ISP.PASSSTS_CUR, ISP.PASSSTS_DONE, CSI.RAWSTS_FULL p] ∧
      t = { s with regs := t.regs, isp := t.isp, csis := t.csis })) ∧
  (∀ (s : State) (o : IspOut) (row : Nat) (x : OutJob) (rest : List OutJob), s.live →
    (s.ispOut (outNum o)).jobs = x :: rest →
    (x.inline = true → s.get (CSI.STS_STATE x.port) = 2 → (s.csi x.port).stamp = x.stamp →
      (s.csi x.port).rows.length < min (s.get (CSI.SIZE_HEIGHT x.port)) (x.geom.getD 1 0 + x.geom.getD 3 0 + 7) →
      exec (.outputPublish o row) s = .next s) ∧ (x.inline = false ∨
      min (s.get (CSI.SIZE_HEIGHT x.port)) (x.geom.getD 1 0 + x.geom.getD 3 0 + 7) ≤ (s.csi x.port).rows.length →
      x.frame = none → x ∉ rest → yields (.outputPublish o row) s fun t => (t.ispOut (outNum o)).jobs = rest ∧
      t.intc.edges = s.intc.edges ++ [41] ∧
      (t.ispOut (outNum o)).pos = (if x.pos < outLastPos s (outNum o) then x.pos + 1 else 0) ∧ (o = .disp →
      t.get ISP.DSTS_LAST = x.surf % 2 ^ (ISP.DSTS_LAST).w ∧ t.get ISP.ISR_DEOF = 1 ∧
      t.get ISP.DSTS_FRAMES = (s.get ISP.DSTS_FRAMES + 1) % 2 ^ (ISP.DSTS_FRAMES).w ∧
      s.regsBut t [ISP.DSTS_LAST, ISP.DSTS_FRAMES, ISP.ISR_DEOF]) ∧ (o = .code →
      t.get ISP.CSTS_LAST = x.surf % 2 ^ (ISP.CSTS_LAST).w ∧ t.get ISP.ISR_CEOF = 1 ∧
      t.get ISP.CSTS_FRAMES = (s.get ISP.CSTS_FRAMES + 1) % 2 ^ (ISP.CSTS_FRAMES).w ∧
      s.regsBut t [ISP.CSTS_LAST, ISP.CSTS_FRAMES, ISP.ISR_CEOF]) ∧ (o = .vis → x.pos < 4 →
      t.get ISP.VSTS_LAST = x.pos ∧ t.get (ISP.VTSL_T x.pos) = x.stamp % 2 ^ 32 ∧
      t.get (ISP.VTSH_T x.pos) = x.stamp / 2 ^ 32 % 2 ^ 32) ∧ (o = .vis → t.get ISP.ISR_VEOF = 1 ∧
      t.get ISP.VSTS_FRAMES = (s.get ISP.VSTS_FRAMES + 1) % 2 ^ (ISP.VSTS_FRAMES).w) ∧ t.csch = s.csch ∧
      t.act = s.act)) ∧
  (∀ (s : State) (o : IspOut) (row : Nat), s.live → (s.ispOut (outNum o)).jobs = [] →
    exec (.outputPublish o row) s = .next s ∧ exec (.outputAbandon o) s = .next s) ∧
  (∀ (s : State) (o : IspOut) (x : OutJob), s.live → (s.ispOut (outNum o)).jobs.find? (·.inline) = some x →
    x.frame = none →
    yields (.outputAbandon o) s fun t => (t.ispOut (outNum o)).jobs = (s.ispOut (outNum o)).jobs.filter (· != x) ∧
      (t.ispOut (outNum o)).pos = (s.ispOut (outNum o)).pos ∧ records .isp 0x0102 s t ∧ (o = .disp →
      t.get ISP.ABN1_DISP = (s.get ISP.ABN1_DISP + 1) % 2 ^ (ISP.ABN1_DISP).w ∧ t.get ISP.ISR_DABN = 1 ∧
      s.regsBut t ([ISP.ABN1_DISP, ISP.ISR_DABN] ++ errFields .isp)) ∧ (o = .code →
      t.get ISP.ABN1_CODE = (s.get ISP.ABN1_CODE + 1) % 2 ^ (ISP.ABN1_CODE).w ∧ t.get ISP.ISR_CABN = 1 ∧
      s.regsBut t ([ISP.ABN1_CODE, ISP.ISR_CABN] ++ errFields .isp)) ∧ (o = .vis →
      t.get ISP.ABN2_VIS = (s.get ISP.ABN2_VIS + 1) % 2 ^ (ISP.ABN2_VIS).w ∧ t.get ISP.ISR_VABN = 1 ∧
      s.regsBut t ([ISP.ABN2_VIS, ISP.ISR_VABN] ++ errFields .isp)) ∧ t = { s with regs := t.regs, isp := t.isp }) ∧
  (∀ (s : State) (x : OutJob) (f : Frame) (l rest : List Frame), s.live →
    (s.ispOut 1).jobs.find? (·.inline) = some x → x.frame = some f.num → s.csch.frames = l ++ f :: rest →
    (∀ e ∈ l ++ rest, e.num ≠ f.num) → f.endT = none →
    (f.dispatched = false → yields (.outputAbandon .code) s fun t =>
      (t.ispOut 1).jobs = (s.ispOut 1).jobs.filter (· != x) ∧
      t.get ISP.ABN1_CODE = (s.get ISP.ABN1_CODE + 1) % 2 ^ (ISP.ABN1_CODE).w ∧ t.get ISP.ISR_CABN = 1 ∧
      records .isp 0x0102 s t ∧ (∃ g ∈ t.csch.frames, g.num = f.num ∧ g.status = 2 ∧ g.endT = some s.mtime) ∧
      t.get CSCH.ISR_DROP = 1 ∧
      t.get CSCH.DROPCNT_COUNT = (s.get CSCH.DROPCNT_COUNT + 1) % 2 ^ (CSCH.DROPCNT_COUNT).w) ∧
      (f.dispatched = true → yields (.outputAbandon .code) s fun t =>
      (t.ispOut 1).jobs = (s.ispOut 1).jobs.filter (· != x) ∧
      t.get ISP.ABN1_CODE = (s.get ISP.ABN1_CODE + 1) % 2 ^ (ISP.ABN1_CODE).w ∧ t.get ISP.ISR_CABN = 1 ∧
      records .isp 0x0102 s t ∧ t.get (HDR.ISR_ERR Page.csch.base) = s.get (HDR.ISR_ERR Page.csch.base) ∧
      ∃ g ∈ t.csch.frames, g.num = f.num ∧ g.endT = none ∧ g.strips.length = f.strips.length ∧
      ∀ j ∈ List.range f.strips.length, ∀ y ∈ f.strips[j]?, g.strips[j]? = some (if y.st = 0 ∧ y.conceal = false ∧
      eligible s f j y = false then { y with conceal := true, reissue := false } else y) ∧ (y.st = 0 →
      y.conceal = false → eligible s f j y = false → g.rflags % 2 = 1)))

/-- RQTAIL takes a value below the queue's size, else 0x0102. With EN 1 and entries waiting, VISR reads the one at
RQHEAD, advances RQHEAD modulo the size, and applies it: FLAGS[0] removes the held box of that ID, and has no
effect where none is held; otherwise a box of the same ID is replaced, a new one joins where fewer than 64 are
held, and with 64 held it is refused, counted, with ISR.FULL and code 0x0100. A box whose reserved bytes or
FLAGS[7:1] are not 0 is discarded with 0x0101 (FLAGS: the model's reading, log entry 17). With EN 0 or nothing
waiting nothing happens. The 1 ms check removes exactly the boxes older than EXPIRE ms, and counts them. -/
def Obligations.RegionBoxesEnterAndExpire : Prop :=
  (∀ (s : State) (d : W32), s.live → s.answers .visr →
    (d.toNat % 2 ^ (VISR.RQTAIL_I).w < 2 ^ s.get VISR.RQCFG_SIZE → yields (.rqtailWrite d) s fun t =>
      t.get VISR.RQTAIL_I = d.toNat % 2 ^ (VISR.RQTAIL_I).w ∧ s.only t [VISR.RQTAIL_I]) ∧
      (2 ^ s.get VISR.RQCFG_SIZE ≤ d.toNat % 2 ^ (VISR.RQTAIL_I).w → yields (.rqtailWrite d) s fun t =>
      records .visr 0x0102 s t ∧ s.only t (errFields .visr))) ∧
  (∀ (s : State) (b : List Byte), s.live →
    b = s.dramRead (s.get VISR.RQBASEL_A + 2 ^ 32 * s.get VISR.RQBASEH_A + 32 * s.get VISR.RQHEAD_I) 32 →
    (s.get VISR.CTL_EN ≠ 1 ∨ s.get VISR.RQHEAD_I = s.get VISR.RQTAIL_I → exec .boxIntake s = .next s) ∧
      (s.get VISR.CTL_EN = 1 → s.get VISR.RQHEAD_I ≠ s.get VISR.RQTAIL_I → yields .boxIntake s fun t =>
      t.get VISR.RQHEAD_I = (s.get VISR.RQHEAD_I + 1) % 2 ^ s.get VISR.RQCFG_SIZE % 2 ^ (VISR.RQHEAD_I).w ∧
      (2 ≤ sliceNat b 23 1 ∨ (∃ x ∈ (b.drop 24).take 8, x ≠ 0) → records .visr 0x0101 s t ∧ t.visr = s.visr ∧
      s.regsBut t (VISR.RQHEAD_I :: errFields .visr)) ∧ ((∀ x ∈ (b.drop 24).take 8, x = 0) → sliceNat b 23 1 = 1 →
      t.visr.boxes = s.visr.boxes.filter (fun y => y.id != sliceNat b 21 1) ∧ (if s.visr.boxes.any (fun y =>
      y.id == sliceNat b 21 1) then t.get VISR.ISR_BOX = 1 else t.get VISR.ISR_BOX = s.get VISR.ISR_BOX) ∧
      s.regsBut t [VISR.RQHEAD_I, VISR.ISR_BOX]) ∧ ((∀ x ∈ (b.drop 24).take 8, x = 0) → sliceNat b 23 1 = 0 →
      (∃ y ∈ s.visr.boxes, y.id = sliceNat b 21 1) → t.visr.boxes = s.visr.boxes.map (fun y =>
      if y.id = sliceNat b 21 1 then boxOf b else y) ∧ t.get VISR.ISR_BOX = 1 ∧
      s.regsBut t [VISR.RQHEAD_I, VISR.ISR_BOX]) ∧ ((∀ x ∈ (b.drop 24).take 8, x = 0) → sliceNat b 23 1 = 0 →
      (∀ y ∈ s.visr.boxes, y.id ≠ sliceNat b 21 1) → s.visr.boxes.length < 64 →
      t.visr.boxes = s.visr.boxes ++ [boxOf b] ∧ t.get VISR.ISR_BOX = 1 ∧
      s.regsBut t [VISR.RQHEAD_I, VISR.ISR_BOX]) ∧ ((∀ x ∈ (b.drop 24).take 8, x = 0) → sliceNat b 23 1 = 0 →
      (∀ y ∈ s.visr.boxes, y.id ≠ sliceNat b 21 1) → 64 ≤ s.visr.boxes.length → t.visr = s.visr ∧
      t.get VISR.CNT_REFUSED = (s.get VISR.CNT_REFUSED + 1) % 2 ^ (VISR.CNT_REFUSED).w ∧ t.get VISR.ISR_FULL = 1 ∧
      records .visr 0x0100 s t ∧ s.regsBut t ([VISR.RQHEAD_I, VISR.CNT_REFUSED, VISR.ISR_FULL] ++ errFields .visr)) ∧
      t = { s with regs := t.regs, visr := t.visr })) ∧
  (∀ (s : State), s.live →
    yields .boxExpire s fun t => t.visr.boxes = s.visr.boxes.filter (fun b =>
      decide (s.mtime ≤ b.tc + s.get VISR.RQCFG_EXPIRE * 98304)) ∧
      t.get VISR.CNT_EXPIRED = (s.get VISR.CNT_EXPIRED + (s.visr.boxes.filter fun b =>
      decide (b.tc + s.get VISR.RQCFG_EXPIRE * 98304 < s.mtime)).length) % 2 ^ (VISR.CNT_EXPIRED).w ∧
      s.regsBut t [VISR.CNT_EXPIRED] ∧ t = { s with regs := t.regs, visr := t.visr })

/-- From NOSIG a lock at a rate that FRLMAX allows shows TMDS or FRL and sets ISR.LOCK; a return after a loss with HTX
running in FOLLOW sets AVMUTE and waits for a frame start. A loss goes to NOSIG, sets ISR.LOSS, clears
authentication, and takes the source and plane 0 away. A frame received is measured; a change sets ISR.TIMCHG;
with FB 1 and room its pixels, chroma repeated to 4:4:4 and each component in 10 bits (8 bits above two zeros: the
model's reading, log entry 18), are stored row by row in the next of three buffers, which LAST then names, else
0x0101 and nothing stored. A frame beyond Table HRX-1 changes nothing (log entry 18). HPD.PULSE holds HPD down
until 200 ms have passed. HTX authenticates, or finds no HDCP, and with HDCPCTL.EN 0 does neither (the model's
reading of R311, log entry 18); a type-1 stream that the downstream device may not have blanks plane 0 at once;
HRX authenticates only after that, with version 1.4 on TMDS alone. Lost authentication is shown and sets ISR.HDCP. -/
def Obligations.HdmiInputLocksReceivesAndAuthenticates : Prop :=
  (∀ (s : State) (r : Fin 6), s.live →
    (s.get HRX.STS_STATE ≠ 2 ∨ s.get HRX.CFG_FRLMAX < r.val → exec (.hrxLock r) s = .next s) ∧
      (s.get HRX.STS_STATE = 2 → r.val ≤ s.get HRX.CFG_FRLMAX → yields (.hrxLock r) s fun t =>
      t.get HRX.STS_STATE = (if r = 0 then 3 else 4) ∧ t.get HRX.ISR_LOCK = 1 ∧ (s.hrx.lostOnce = false ∨
      s.get HTX.STS_STATE ≠ 4 ∨ s.get HTX.CFG_MODE ≠ 0 → s.only t [HRX.STS_STATE, HRX.ISR_LOCK]) ∧
      (s.hrx.lostOnce = true → s.get HTX.STS_STATE = 4 → s.get HTX.CFG_MODE = 0 → t.htx.avmute = true ∧
      t.htx.adopt = true ∧ t.htx.muteLeft = s.get HTX.CFG_MUTEF + 1 ∧ (s.htx.avmute = false →
      t.get HTX.ISR_AVMUTE = 1) ∧ s.regsBut t [HRX.STS_STATE, HRX.ISR_LOCK, HTX.ISR_AVMUTE, HTX.CNT_AVMUTE] ∧
      t = { s with regs := t.regs, htx := t.htx }))) ∧
  (∀ (s : State), s.live →
    (s.get HRX.STS_STATE < 3 → exec .hrxLoss s = .next s) ∧ (3 ≤ s.get HRX.STS_STATE → yields .hrxLoss s fun t =>
      t.get HRX.STS_STATE = 2 ∧ t.get HRX.ISR_LOSS = 1 ∧ t.get HRX.HDCPSTS_AUTH = 0 ∧ t.get APORT.SRCSTS_HRX = 0 ∧
      (s.get APORT.SRCSTS_HRX ≠ 0 → t.get APORT.ISR_SRCLOSS = 1 ∧ t.aport.holdHrx = some s.mtime) ∧
      t.hrx.lostOnce = true ∧ t.hrx.frame = none ∧ t.comp.plane0 = (if s.comp.plane0 = .off then .off else .bg) ∧
      s.regsBut t [HRX.STS_STATE, HRX.ISR_LOSS, HRX.HDCPSTS_AUTH, HRX.HDCPSTS_VER, APORT.SRCSTS_HRX, APORT.ISR_SRCLOSS])) ∧
  (∀ (s : State) (f : HdmiFrame) (pitch base cx cy : Nat), s.live → pitch = (4 * f.hact + 63) / 64 * 64 →
    base = s.get HRX.FBADDRL_A + 2 ^ 32 * s.get HRX.FBADDRH_A + s.hrx.nextBuf * s.get HRX.FBSTRIDE_N →
    (cx = (if 2 ≤ f.samp then 2 else 1)) → (cy = (if f.samp = 3 then 2 else 1)) →
    (s.get HRX.STS_STATE < 3 ∨ frameSupported f s = false → exec (.hrxFrame f) s = .next s) ∧
      (3 ≤ s.get HRX.STS_STATE → frameSupported f s = true → yields (.hrxFrame f) s fun t =>
      (∀ m ∈ hrxMeasures f, t.get m.1 = m.2 % 2 ^ m.1.w) ∧ t.hrx.frame = some f ∧
      ((∃ m ∈ hrxMeasures f, s.get m.1 ≠ m.2 % 2 ^ m.1.w) → t.get HRX.ISR_TIMCHG = 1) ∧
      ((∀ m ∈ hrxMeasures f, s.get m.1 = m.2 % 2 ^ m.1.w) → t.get HRX.ISR_TIMCHG = s.get HRX.ISR_TIMCHG) ∧
      (s.get HRX.CFG_FB = 0 → t.dram = s.dram ∧ t.get HRX.FBSTS_LAST = s.get HRX.FBSTS_LAST) ∧
      (s.get HRX.CFG_FB ≠ 0 → s.get HRX.FBSTRIDE_N < pitch * f.vact → records .hrx 0x0101 s t ∧ t.dram = s.dram ∧
      t.hrx = { s.hrx with frame := some f }) ∧ (s.get HRX.CFG_FB ≠ 0 → pitch * f.vact ≤ s.get HRX.FBSTRIDE_N →
      t.get HRX.FBSTS_LAST = s.hrx.nextBuf % 2 ^ (HRX.FBSTS_LAST).w ∧ t.hrx.nextBuf = (s.hrx.nextBuf + 1) % 3 ∧
      t.hrx.newest = some s.hrx.nextBuf ∧
      (∀ y ∈ List.range f.vact, ∀ x ∈ List.range f.hact, t.dramHeld (base + y * pitch + 4 * x) 4 = leBytes 4 (tenBits f.bpc ((f.planes.getD 0 []).getD (y * f.hact + x) 0) * 2 ^ 20 + tenBits f.bpc ((f.planes.getD 1 []).getD (y / cy * ((f.hact + cx - 1) / cx) + x / cx) 0) * 2 ^ 10 + tenBits f.bpc ((f.planes.getD 2 []).getD (y / cy * ((f.hact + cx - 1) / cx) + x / cx) 0))) ∧
      (∀ a : Nat, (∀ y ∈ List.range f.vact, a < base + y * pitch ∨ base + y * pitch + 4 * f.hact ≤ a) →
      t.dramByte a = s.dramByte a)))) ∧
  (∀ (s : State), s.live →
    (s.answers .hrx → yields .hpdPulse s fun t => t.get HRX.HPD_PULSE = 1 ∧ t.hrx.pulse = some s.mtime ∧
      hrxHpd t = false ∧ s.regsBut t [HRX.HPD_PULSE] ∧ t = { s with regs := t.regs, hrx := t.hrx }) ∧
      (∀ m : Nat, s.hrx.pulse = some m → s.mtime - m < 200 * 98304 → exec .hpdRestore s = .next s) ∧
      (∀ m : Nat, s.hrx.pulse = some m → 200 * 98304 ≤ s.mtime - m → yields .hpdRestore s fun t =>
      t.get HRX.HPD_PULSE = 0 ∧ t.hrx = { s.hrx with pulse := none } ∧ s.regsBut t [HRX.HPD_PULSE] ∧
      t = { s with regs := t.regs, hrx := t.hrx })) ∧
  (∀ (s : State) (ver devcnt : Nat) (type1 : Bool), s.live →
    (s.get HTX.STS_STATE = 4 → s.get HTX.HDCPCTL_EN = 1 → 1 ≤ ver → ver ≤ 2 →
      yields (.hdcpAuth .downstream ver devcnt type1) s fun t => t.get HTX.HDCPSTS_AUTH = 1 ∧
      t.get HTX.HDCPSTS_VER = ver ∧ t.get HTX.HDCPSTS_TYPE1OK = (if type1 then 1 else 0) ∧ t.get HTX.ISR_HDCP = 1 ∧
      t.htx.encrypt = (decide (3 ≤ s.get HRX.STS_STATE) && s.bit HRX.FMT_ENC) ∧ (s.comp.plane0 = .hrx →
      s.get COMP.STS_STATE = 2 → s.get HRX.FMT_TYPE1 = 1 → type1 = false → t.comp.plane0 = .bg ∧
      (s.comp.hdcpCounted = false → t.get COMP.ISR_HDCPBLK = 1 ∧
      t.get COMP.CNT_HDCPBLK = (s.get COMP.CNT_HDCPBLK + 1) % 2 ^ (COMP.CNT_HDCPBLK).w)) ∧ (s.get HRX.FMT_TYPE1 ≠ 1 ∨
      type1 = true → t.comp = s.comp ∧ t.get COMP.ISR_HDCPBLK = s.get COMP.ISR_HDCPBLK ∧
      t.get COMP.CNT_HDCPBLK = s.get COMP.CNT_HDCPBLK) ∧
      s.regsBut t [HTX.HDCPSTS_AUTH, HTX.HDCPSTS_VER, HTX.HDCPSTS_TYPE1OK, HTX.HDCPSTS_DEVCNT, HTX.ISR_HDCP, COMP.ISR_HDCPBLK, COMP.CNT_HDCPBLK] ∧
      t = { s with regs := t.regs, htx := t.htx, comp := t.comp }) ∧ (s.get HTX.STS_STATE = 4 →
      s.get HTX.HDCPCTL_EN = 1 → yields (.hdcpAuth .downstream 0 devcnt type1) s fun t =>
      t = { s with htx := { s.htx with noHdcp := true } }) ∧ (s.get HTX.STS_STATE ≠ 4 ∨ s.get HTX.HDCPCTL_EN ≠ 1 →
      exec (.hdcpAuth .downstream ver devcnt type1) s = .next s) ∧ (3 ≤ s.get HRX.STS_STATE →
      s.get HTX.HDCPSTS_AUTH = 1 ∨ s.htx.noHdcp = true → ver = 2 ∨ (ver = 1 ∧ s.get HRX.STS_STATE = 3) →
      yields (.hdcpAuth .upstream ver devcnt type1) s fun t => t.get HRX.HDCPSTS_AUTH = 1 ∧
      t.get HRX.HDCPSTS_VER = ver ∧ t.get HRX.ISR_HDCP = 1 ∧
      s.only t [HRX.HDCPSTS_AUTH, HRX.HDCPSTS_VER, HRX.ISR_HDCP]) ∧ (s.get HRX.STS_STATE < 3 ∨
      (s.get HTX.HDCPSTS_AUTH ≠ 1 ∧ s.htx.noHdcp = false) ∨ (ver = 1 ∧ s.get HRX.STS_STATE = 4) →
      exec (.hdcpAuth .upstream ver devcnt type1) s = .next s)) ∧
  (∀ (s : State), s.live →
    (s.get HRX.HDCPSTS_AUTH = 1 → yields (.hdcpAuthLost .upstream) s fun t => t.get HRX.HDCPSTS_AUTH = 0 ∧
      t.get HRX.ISR_HDCP = 1 ∧ s.only t [HRX.HDCPSTS_AUTH, HRX.HDCPSTS_VER, HRX.ISR_HDCP]) ∧
      (s.get HRX.HDCPSTS_AUTH ≠ 1 → exec (.hdcpAuthLost .upstream) s = .next s) ∧ (s.get HTX.HDCPSTS_AUTH ≠ 1 →
      exec (.hdcpAuthLost .downstream) s = .next s) ∧ (s.get HTX.HDCPSTS_AUTH = 1 →
      yields (.hdcpAuthLost .downstream) s fun t => t.get HTX.HDCPSTS_AUTH = 0 ∧ t.get HTX.ISR_HDCP = 1 ∧
      t.htx.encrypt = false ∧ (s.comp.plane0 = .hrx → s.get COMP.STS_STATE = 2 → s.get HTX.STS_STATE = 4 →
      t.comp.plane0 = .bg ∧ (s.comp.hdcpCounted = false → t.get COMP.ISR_HDCPBLK = 1 ∧
      t.get COMP.CNT_HDCPBLK = (s.get COMP.CNT_HDCPBLK + 1) % 2 ^ (COMP.CNT_HDCPBLK).w)) ∧
      s.regsBut t [HTX.HDCPSTS_AUTH, HTX.HDCPSTS_VER, HTX.HDCPSTS_DEVCNT, HTX.HDCPSTS_TYPE1OK, HTX.ISR_HDCP, COMP.ISR_HDCPBLK, COMP.CNT_HDCPBLK]))

/-- HPD low takes a running HTX to NOHPD and EARC to IDLE; high takes NOHPD to TRAIN and IDLE to DISC. The link runs
with ISR.RUN: as TMDS where the television or FRLMAX allows no FRL, else at the highest allowed rate that trains;
none is FAIL with ISR.LTFAIL and 0x0101. An output frame edge falls, in TOOTH mode while PRS makes teeth, near a
tooth alone; there every swap accepted before its tick copies PBUF to PCUR with ISR.SWAPPED, a pending FRAME
commit applies if COMP is enabled (its shadows become the active copies, STAMP takes MTIME's low word, PENDING
clears: R44), and plane 0 is HRX in FOLLOW, the newest buffer in TOOTH, where every edge counts the buffers, plane
0 shown or not, BG without a signal or authentication (counted), a plane 1 to 3 whose rectangle or source breaks
R317's limits is not shown and records 0x0100; without COMP the frame is black with AVMUTE. AVMUTE clears once its
frames are gone. An underflow blacks the frame, sets AVMUTE, counts, records 0x0101. A DDC read fills EDIDRD or
shows NAK and 0x0102. -/
def Obligations.HdmiOutputTrainsComposesAndMutes : Prop :=
  (∀ (s : State) (high : Bool),
    (s.sys.tvHpd = high → exec (.tvHpdChange high) s = .next s) ∧ (s.sys.tvHpd ≠ high → s.sys.coreUp = true →
      s.held .htx = false → yields (.tvHpdChange high) s fun t => t.sys = { s.sys with tvHpd := high } ∧
      t.get HTX.ISR_HPD = 1 ∧ (high = true →
      t.get HTX.STS_STATE = (if s.get HTX.STS_STATE = 2 then 3 else s.get HTX.STS_STATE)) ∧ (high = false →
      t.get HTX.STS_STATE = (if 3 ≤ s.get HTX.STS_STATE then 2 else s.get HTX.STS_STATE)) ∧ (high = false →
      3 ≤ s.get HTX.STS_STATE → t.get HTX.HDCPSTS_AUTH = 0 ∧ t.get HTX.LINK_RATE = 0 ∧ t.htx.encrypt = false) ∧
      (high = true → t.get EARC.STS_STATE = (if s.get EARC.STS_STATE = 1 then 2 else s.get EARC.STS_STATE)) ∧
      (high = false → t.get EARC.STS_STATE = (if s.get EARC.STS_STATE = 0 then 0 else 1)) ∧ (high = false →
      s.get EARC.STS_STATE = 4 → t.get EARC.FMT_V = 0 ∧ t.get APORT.SRCSTS_EARC = 0)) ∧ (s.sys.tvHpd ≠ high →
      s.sys.coreUp = false → yields (.tvHpdChange high) s fun t => t.sys = { s.sys with tvHpd := high } ∧
      t.get HTX.STS_STATE = s.get HTX.STS_STATE ∧ t.get HTX.ISR_HPD = s.get HTX.ISR_HPD)) ∧
  (∀ (s : State) (tv : Fin 6) (trained : List (Fin 6)) (m : Nat) (q : Fin 6), s.live →
    m = min tv.val (s.get HTX.LINK_FRLMAX) →
    (s.get HTX.STS_STATE ≠ 3 → exec (.htxLinkUp tv trained) s = .next s) ∧ (s.get HTX.STS_STATE = 3 → (m = 0 ∧
      q = 0) ∨ (q ≠ 0 ∧ q.val ≤ m ∧ q ∈ trained ∧ ∀ r ∈ trained, r.val ≤ m → r ≤ q) →
      yields (.htxLinkUp tv trained) s fun t => t.get HTX.STS_STATE = 4 ∧ t.get HTX.LINK_RATE = q ∧
      t.get HTX.ISR_RUN = 1 ∧ (s.get COMP.STS_STATE ≠ 2 → t.htx.avmute = true) ∧ (s.get COMP.STS_STATE = 2 →
      t.htx.avmute = s.htx.avmute) ∧ (q ≠ 0 → t.get HTX.LINK_SCR = 0) ∧ t.htx.tvMax = some tv.val ∧
      (s.comp.plane0 = .hrx → s.get COMP.STS_STATE = 2 → s.get HTX.HDCPSTS_AUTH = 0 → t.comp.plane0 = .bg) ∧
      (s.get COMP.STS_STATE ≠ 2 → t.comp = s.comp) ∧
      s.regsBut t [HTX.STS_STATE, HTX.LINK_RATE, HTX.LINK_SCR, HTX.PCLK_KHZ, HTX.ISR_RUN, HTX.ISR_AVMUTE, HTX.CNT_AVMUTE, COMP.ISR_HDCPBLK, COMP.CNT_HDCPBLK] ∧
      t = { s with regs := t.regs, htx := t.htx, comp := t.comp }) ∧ (s.get HTX.STS_STATE = 3 → m ≠ 0 →
      (∀ r ∈ trained, r = 0 ∨ m < r.val) → yields (.htxLinkUp tv trained) s fun t => t.get HTX.STS_STATE = 5 ∧
      t.get HTX.ISR_LTFAIL = 1 ∧ records .htx 0x0101 s t)) ∧
  (∀ (s : State), s.live →
    (s.get HTX.STS_STATE ≠ 4 ∨ (s.get HTX.CFG_MODE ≠ 0 ∧ 2 ≤ s.get PRS.STS_STATE ∧ nearTooth s = false) →
      exec .outputFrameEdge s = .next s) ∧ (s.get HTX.STS_STATE = 4 → s.get HTX.CFG_MODE = 0 ∨
      s.get PRS.STS_STATE < 2 ∨ nearTooth s = true → yields .outputFrameEdge s fun t => t.get HTX.STS_STATE = 4 ∧
      (∀ k ∈ [1, 2, 3], (∃ e ∈ s.comp.swaps, e.1 = k ∧ e.2 < s.mtime) →
      t.get (COMP.PCUR_V k) = s.get (COMP.PBUF_V k) % 2 ^ (COMP.PCUR_V k).w ∧ t.get COMP.ISR_SWAPPED = 1) ∧
      (∀ k ∈ [1, 2, 3], (∀ e ∈ s.comp.swaps, e.1 = k → s.mtime ≤ e.2) →
      t.get (COMP.PCUR_V k) = s.get (COMP.PCUR_V k)) ∧ (∀ e ∈ t.comp.swaps, e.1 = 1 ∨ e.1 = 2 ∨ e.1 = 3 →
      s.mtime ≤ e.2) ∧ (s.regsOk → awaits s .comp 1 = true → s.get COMP.CTL_EN = 1 → applied .comp s t) ∧
      (s.get COMP.CTL_EN = 0 → t.get (HDR.PENDING Page.comp.base) = s.get (HDR.PENDING Page.comp.base) ∧
      t.act = s.act) ∧ (s.get COMP.STS_STATE ≠ 2 → t.comp.black = true ∧ t.comp.plane0 = .off ∧
      t.htx.avmute = true) ∧ (s.get COMP.STS_STATE = 2 → t.comp.black = false) ∧ t.dram = s.dram)) ∧
  (∀ (s : State), s.live → s.get HTX.STS_STATE = 4 → s.get COMP.STS_STATE = 2 → awaits s .comp 1 = false →
    edgeDue s = true →
    yields .outputFrameEdge s fun t => (s.getA (COMP.PCFG_EN 0) = 0 → t.comp.plane0 = .off) ∧
      (s.getA (COMP.PCFG_EN 0) ≠ 0 → s.get HRX.STS_STATE < 3 → t.comp.plane0 = .bg ∧ t.get COMP.ISR_NOSRC = 1) ∧
      (s.getA (COMP.PCFG_EN 0) ≠ 0 → 3 ≤ s.get HRX.STS_STATE → s.get HTX.CFG_MODE = 0 → hdcpBlocks s = false →
      t.comp.plane0 = .hrx) ∧ (s.getA (COMP.PCFG_EN 0) ≠ 0 → 3 ≤ s.get HRX.STS_STATE → s.get HTX.CFG_MODE = 0 →
      hdcpBlocks s = true → t.comp.plane0 = .bg ∧ t.get COMP.ISR_HDCPBLK = 1 ∧
      t.get COMP.CNT_HDCPBLK = (s.get COMP.CNT_HDCPBLK + 1) % 2 ^ (COMP.CNT_HDCPBLK).w) ∧ (s.get HTX.CFG_MODE ≠ 0 →
      s.hrx.done = 0 → t.get COMP.CNT0_FBREP = (s.get COMP.CNT0_FBREP + 1) % 2 ^ (COMP.CNT0_FBREP).w ∧
      t.get COMP.CNT0_FBDROP = s.get COMP.CNT0_FBDROP) ∧ (s.get HTX.CFG_MODE ≠ 0 → s.hrx.done ≠ 0 →
      t.get COMP.CNT0_FBREP = s.get COMP.CNT0_FBREP ∧
      t.get COMP.CNT0_FBDROP = (s.get COMP.CNT0_FBDROP + (s.hrx.done - 1) + s.hrx.unshown.toNat) % 2 ^ (COMP.CNT0_FBDROP).w) ∧
      (s.get HTX.CFG_MODE = 0 → t.get COMP.CNT0_FBREP = s.get COMP.CNT0_FBREP ∧
      t.get COMP.CNT0_FBDROP = s.get COMP.CNT0_FBDROP) ∧ (∀ b : Fin 3, s.getA (COMP.PCFG_EN 0) ≠ 0 →
      3 ≤ s.get HRX.STS_STATE → s.get HTX.CFG_MODE ≠ 0 → s.hrx.done ≠ 0 → s.hrx.newest = some b.val →
      hdcpBlocks s = false → t.comp.plane0 = .buffer b) ∧ t.hrx.done = 0) ∧
  (∀ (s : State) (k : Nat) (w h : Nat), s.live → s.get HTX.STS_STATE = 4 → s.get HTX.CFG_MODE = 0 →
    s.htx.timing.1 ≠ 0 → s.get COMP.STS_STATE = 2 → awaits s .comp 1 = false → s.comp.swaps = [] →
    (k = 1 ∨ k = 2 ∨ k = 3) → s.getA (COMP.PCFG_EN k) = 1 →
    (∀ j ∈ [1, 2, 3], j ≠ k → s.getA (COMP.PCFG_EN j) = 0) → w = s.getA (COMP.PSIZE_W k) →
    h = s.getA (COMP.PSIZE_H k) →
    (s.htx.timing.2.1 < s.getA (COMP.PPOS_X k) + w ∨ s.htx.timing.2.2.2 < s.getA (COMP.PPOS_Y k) + h ∨ (k = 3 ∧
      (s.get (COMP.PCUR_V 3) % 64 ≠ 0 ∨ s.getA (COMP.PPITCH_N 3) % 64 ≠ 0)) ∨ (k ≠ 3 ∧
      ∀ f ∈ planeSurface s k, 4 * w < f.w ∨ 4 * f.w < w ∨ 4 * h < f.h ∨ 4 * f.h < h) →
      yields .outputFrameEdge s fun t => records .comp 0x0100 s t ∧ t.comp.shown = []) ∧
      (s.getA (COMP.PPOS_X k) + w ≤ s.htx.timing.2.1 → s.getA (COMP.PPOS_Y k) + h ≤ s.htx.timing.2.2.2 → (k = 3 →
      s.get (COMP.PCUR_V 3) % 64 = 0 ∧ s.getA (COMP.PPITCH_N 3) % 64 = 0) → (k ≠ 3 →
      ∃ f ∈ planeSurface s k, f.w ≤ 4 * w ∧ w ≤ 4 * f.w ∧ f.h ≤ 4 * h ∧ h ≤ 4 * f.h) →
      yields .outputFrameEdge s fun t => t.comp.shown = [k] ∧
      t.get (HDR.ISR_ERR Page.comp.base) = s.get (HDR.ISR_ERR Page.comp.base))) ∧
  (∀ (s : State), s.live → s.htx.avmute = true → s.get HTX.STS_STATE = 4 → s.get COMP.STS_STATE = 2 →
    s.comp.black = false → s.htx.adopt = false →
    ((s.htx.muteLeft ≠ 0 ∨ (s.comp.underflowed = true ∧ s.comp.clean < max 1 (s.get COMP.UNMUTEF_N))) →
      exec .avmuteClear s = .next s) ∧ (s.htx.muteLeft = 0 → (s.comp.underflowed = true →
      max 1 (s.get COMP.UNMUTEF_N) ≤ s.comp.clean) →
      exec .avmuteClear s = .next { s with htx := { s.htx with avmute := false }, comp := { s.comp with underflowed := false, clean := 0 } })) ∧
  (∀ (s : State), s.live →
    ((s.get COMP.STS_STATE = 2 ∧ s.get HTX.STS_STATE = 4 ∧ s.comp.black = false ∧ (s.comp.shown ≠ [] ∨
      ∃ k : Fin 3, s.comp.plane0 = .buffer k)) → yields .compUnderflow s fun t =>
      t.comp = { s.comp with black := true, underflowed := true, clean := 0 } ∧ t.htx.avmute = true ∧
      t.get COMP.ISR_UNDER = 1 ∧ t.get COMP.CNT_UNDER = (s.get COMP.CNT_UNDER + 1) % 2 ^ (COMP.CNT_UNDER).w ∧
      records .comp 0x0101 s t ∧
      s.regsBut t ([COMP.ISR_UNDER, COMP.CNT_UNDER, HTX.ISR_AVMUTE, HTX.CNT_AVMUTE] ++ errFields .comp) ∧
      t = { s with regs := t.regs, comp := t.comp, htx := t.htx }) ∧ (s.get COMP.STS_STATE ≠ 2 ∨
      s.get HTX.STS_STATE ≠ 4 ∨ s.comp.black = true ∨ (s.comp.shown = [] ∧ (s.comp.plane0 = .off ∨
      s.comp.plane0 = .bg ∨ s.comp.plane0 = .hrx)) → exec .compUnderflow s = .next s)) ∧
  (∀ (s : State) (d : W32), s.live →
    (s.answers .comp → yields (.swapWrite d) s fun t => t.comp.swaps = s.comp.swaps ++ ([1, 2, 3].filter fun k =>
      d.getLsbD k).map (fun k => (k, s.mtime)) ∧
      (∀ k ∈ [1, 2, 3], natBit (t.get COMP.SWAP_K) (k - 1) = (natBit (s.get COMP.SWAP_K) (k - 1) || d.getLsbD k)) ∧
      s.regsBut t [COMP.SWAP_K] ∧ t = { s with regs := t.regs, comp := t.comp }) ∧ (s.get HTX.DDC_BUSY = 1 →
      yields (.ddcReadEnd none) s fun t => t.get HTX.DDC_BUSY = 0 ∧ t.get HTX.DDC_NAK = 1 ∧ records .htx 0x0102 s t ∧
      s.only t ([HTX.DDC_BUSY, HTX.DDC_NAK] ++ errFields .htx)) ∧ (s.get HTX.DDC_BUSY ≠ 1 →
      exec (.ddcReadEnd none) s = .next s)) ∧
  (∀ (s : State) (bs : List Byte), s.live → s.get HTX.DDC_BUSY = 1 →
    yields (.ddcReadEnd (some bs)) s fun t => t.get HTX.DDC_BUSY = 0 ∧
      (∀ i : Fin 32, t.get (HTX.EDIDRD_W i) = sliceNat bs (4 * i) 4) ∧
      s.regsBut t (HTX.DDC_BUSY :: (List.range 32).map HTX.EDIDRD_W) ∧ t = { s with regs := t.regs })

/-- A heartbeat that runs takes DISC to LINK with ISR.LINK; locked biphase frames take LINK to STREAM. A heartbeat
lost in LINK or STREAM returns to DISC, sets ISR.LOST, counts and records 0x0100; from STREAM the format shows
none and APORT loses source 2. In STREAM a block shows its six words and its format, sets ISR.FMTCHG where the
format or a bit of bytes 0 to 4 changed, and gives APORT its status. CAPCTL.UPD signals a change while linked. In
other states nothing happens. -/
def Obligations.EarcLinksStreamsAndReports : Prop :=
  (∀ (s : State), s.kaLive →
    (s.get EARC.STS_STATE = 2 → yields .earcLink s fun t => t.get EARC.STS_STATE = 3 ∧ t.get EARC.ISR_LINK = 1 ∧
      s.only t [EARC.STS_STATE, EARC.ISR_LINK]) ∧ (s.get EARC.STS_STATE ≠ 2 → exec .earcLink s = .next s) ∧
      (s.get EARC.STS_STATE = 3 → yields .earcStream s fun t => t.get EARC.STS_STATE = 4 ∧
      s.only t [EARC.STS_STATE]) ∧ (s.get EARC.STS_STATE ≠ 3 → exec .earcStream s = .next s) ∧
      (3 ≤ s.get EARC.STS_STATE → yields .heartbeatLost s fun t => t.get EARC.STS_STATE = 2 ∧
      t.get EARC.ISR_LOST = 1 ∧ t.get EARC.CNT_LOST = (s.get EARC.CNT_LOST + 1) % 2 ^ (EARC.CNT_LOST).w ∧
      records .earc 0x0100 s t ∧ (s.get EARC.STS_STATE = 4 → t.get EARC.FMT_V = 0 ∧ t.get APORT.SRCSTS_EARC = 0 ∧
      (s.get APORT.SRCSTS_EARC ≠ 0 → t.get APORT.ISR_SRCLOSS = 1)) ∧ (s.get EARC.STS_STATE = 3 →
      s.only t ([EARC.STS_STATE, EARC.ISR_LOST, EARC.CNT_LOST] ++ errFields .earc)) ∧
      s.regsBut t ([EARC.STS_STATE, EARC.ISR_LOST, EARC.CNT_LOST, EARC.FMT_V, APORT.SRCSTS_EARC, APORT.ISR_SRCLOSS] ++ errFields .earc)) ∧
      (s.get EARC.STS_STATE < 3 → exec .heartbeatLost s = .next s)) ∧
  (∀ (s : State), s.live → s.answers .earc →
    (3 ≤ s.get EARC.STS_STATE →
      exec .capctlUpd s = .next { s with aport := { s.aport with capUpd := s.aport.capUpd + 1 } }) ∧
      (s.get EARC.STS_STATE < 3 → exec .capctlUpd s = .next s)) ∧
  (∀ (s : State) (cs : List W32) (fmt : Byte), s.kaLive →
    (s.get EARC.STS_STATE ≠ 4 → exec (.earcChannelStatus cs fmt) s = .next s) ∧ (s.get EARC.STS_STATE = 4 →
      yields (.earcChannelStatus cs fmt) s fun t => t.get EARC.FMT_V = fmt.toNat ∧
      t.get APORT.SRCSTS_EARC = fmt.toNat ∧ (∀ i : Fin 6, t.get (EARC.CSTAT_W i) = (cs.getD i 0).toNat) ∧
      ((s.get EARC.FMT_V ≠ fmt.toNat ∨ s.get (EARC.CSTAT_W 0) ≠ (cs.getD 0 0).toNat ∨
      s.get (EARC.CSTAT_W 1) % 256 ≠ (cs.getD 1 0).toNat % 256) → t.get EARC.ISR_FMTCHG = 1) ∧
      (s.get EARC.FMT_V = fmt.toNat → s.get (EARC.CSTAT_W 0) = (cs.getD 0 0).toNat →
      s.get (EARC.CSTAT_W 1) % 256 = (cs.getD 1 0).toNat % 256 → t.get EARC.ISR_FMTCHG = s.get EARC.ISR_FMTCHG) ∧
      (s.get APORT.SRCSTS_EARC ≠ fmt.toNat → t.aport.holdEarc = some s.mtime ∧
      t.get (if fmt.getLsbD 7 then APORT.ISR_SRCCHG else APORT.ISR_SRCLOSS) = 1) ∧
      s.regsBut t ([EARC.FMT_V, APORT.SRCSTS_EARC, EARC.ISR_FMTCHG, APORT.ISR_SRCCHG, APORT.ISR_SRCLOSS] ++ (List.range 6).map EARC.CSTAT_W) ∧
      t = { s with regs := t.regs, aport := t.aport }))

/-- MUTE and UNMUTE of a port set or clear its bit and wait for its next FS edge, the last command standing; where the
bit has that value already they do nothing. At an FS edge of a port that runs, a waiting command starts a ramp
over PCFG.RAMP port frames from the present gain, or acts at once for IEC 61937 slots or RAMP 0; a running ramp
moves one frame and ends at 0 or 1; MUTED shows the gain 0; the slots' words are the DSP's, the source's of so
many port frames ago as R326 allows under the gain, or 0, and IEC 61937 that cannot be carried sets ISR.NOLOCK. A
changed status byte of a live source is shown with ISR.SRCCHG or ISR.SRCLOSS and silences its slots; once it is
valid and has stood HOLD ms they resume, each unmuted OUT port ramping up from 0. -/
def Obligations.AudioPortsMuteRampAndResume : Prop :=
  (∀ (s : State) (k : Fin 4), s.live → s.answers .aport →
    (natBit (s.get APORT.MUTE_K) k = true → exec (.mute k) s = .next s) ∧ (natBit (s.get APORT.MUTE_K) k = false →
      exec (.unmute k) s = .next s) ∧ (natBit (s.get APORT.MUTE_K) k = false → yields (.mute k) s fun t =>
      natBit (t.get APORT.MUTE_K) k = true ∧ (∀ j : Fin 4, j ≠ k →
      natBit (t.get APORT.MUTE_K) j = natBit (s.get APORT.MUTE_K) j) ∧
      t.port k = { s.port k with cmd := some false } ∧ (∀ j : Fin 4, j ≠ k → t.port j = s.port j) ∧
      s.regsBut t [APORT.MUTE_K] ∧ t = { s with regs := t.regs, aport := t.aport }) ∧
      (natBit (s.get APORT.MUTE_K) k = true → yields (.unmute k) s fun t => natBit (t.get APORT.MUTE_K) k = false ∧
      (∀ j : Fin 4, j ≠ k → natBit (t.get APORT.MUTE_K) j = natBit (s.get APORT.MUTE_K) j) ∧
      t.port k = { s.port k with cmd := some true } ∧ (∀ j : Fin 4, j ≠ k → t.port j = s.port j) ∧
      s.regsBut t [APORT.MUTE_K] ∧ t = { s with regs := t.regs, aport := t.aport })) ∧
  (∀ (s : State) (k : Fin 4) (xs : List W32), s.kaLive →
    (s.get APORT.CTL_EN ≠ 1 ∨ natBit (s.get APORT.PEN_K) k = false → exec (.portFsEdge k xs) s = .next s) ∧
      (s.get APORT.CTL_EN = 1 → natBit (s.get APORT.PEN_K) k = true → yields (.portFsEdge k xs) s fun t =>
      (t.port k).carries = portCarries s k ∧ (t.port k).hist = (xs :: (s.port k).hist).take 200 ∧
      (portCarries s k = (s.port k).carries → (s.port k).hist ≠ [] → (t.port k).lag = (s.port k).lag) ∧
      (portCarries s k ≠ (s.port k).carries ∨ (s.port k).hist = [] → (portCarries s k = 4 → (t.port k).lag = 0) ∧
      (portCarries s k = 3 → 1 ≤ (t.port k).lag ∧ (t.port k).lag ≤ 3) ∧ (portCarries s k = 2 →
      portHz s (s.get (APORT.PCFG_FSSEL k)) ≤ ((t.port k).lag + 1) * 1000 ∧
      ((t.port k).lag - 1) * 1000 ≤ portHz s (s.get (APORT.PCFG_FSSEL k)))) ∧
      (t.port k).count = (s.port k).count + 1 ∧ (t.port k).edges.head? = some (s.mtime, (t.port k).slots) ∧
      (t.port k).slots.length = s.get (APORT.PCFG_SLOTS k) ∧ (portCarries s k = 4 → s.get (APORT.PCFG_WIDTH k) = 1 →
      ∀ j ∈ List.range (s.get (APORT.PCFG_SLOTS k)), (t.port k).slots.getD j 1 = ((t.port k).hist.getD (t.port k).lag []).getD j 0) ∧
      (portCarries s k = 4 → s.get (APORT.PCFG_WIDTH k) = 0 →
      ∀ j ∈ List.range (s.get (APORT.PCFG_SLOTS k)), (t.port k).slots.getD j 1 = ((t.port k).hist.getD (t.port k).lag []).getD j 0 &&& 0xFFFF0000) ∧
      (portCarries s k < 2 ∨ portCarries s k = 5 ∨ (portCarries s k < 4 ∧ (t.port k).gain.1 = 0) →
      ∀ j ∈ List.range (s.get (APORT.PCFG_SLOTS k)), (t.port k).slots.getD j 1 = 0) ∧ (portCarries s k = 2 ∨
      portCarries s k = 3 → (t.port k).gain.1 = (t.port k).gain.2 → s.get (APORT.PCFG_WIDTH k) = 1 →
      (t.port k).gain.1 ≠ 0 →
      ∀ j ∈ List.range (s.get (APORT.PCFG_SLOTS k)), (t.port k).slots.getD j 1 = (if j ≤ srcStatus s (s.get (APORT.PCFG_SRC k)) / 8 % 8 then ((t.port k).hist.getD (t.port k).lag []).getD j 0 else 0)) ∧
      (t.port k).cmd = none ∧ (portCarries s k = 5 → (s.port k).carries ≠ 5 → t.get APORT.ISR_NOLOCK = 1) ∧
      (portCarries s k ≠ 5 → t.get APORT.ISR_NOLOCK = s.get APORT.ISR_NOLOCK) ∧
      (∀ up : Bool, (s.port k).cmd = some up → (portCarries s k = 3 ∨ s.get (APORT.PCFG_RAMP k) = 0) →
      (t.port k).gain = (if up then 1 else 0, 1)) ∧ (∀ up : Bool, (s.port k).cmd = some up → (s.port k).ramp = none →
      portCarries s k ≠ 3 → s.get (APORT.PCFG_RAMP k) ≠ 0 →
      (t.port k).ramp = some (up, 0, s.get (APORT.PCFG_RAMP k)) ∧ (t.port k).base = (s.port k).gain) ∧
      natBit (t.get APORT.PSTS_MUTED) k = ((t.port k).gain.1 == 0) ∧ (∀ j : Fin 4, j ≠ k → t.port j = s.port j) ∧
      s.regsBut t [APORT.ISR_NOLOCK, APORT.PSTS_MUTED] ∧
      t = { s with regs := t.regs, aport := t.aport, free := t.free })) ∧
  (∀ (s : State) (k : Fin 4) (xs : List W32) (up : Bool) (i n : Nat), s.kaLive → s.get APORT.CTL_EN = 1 →
    natBit (s.get APORT.PEN_K) k = true → (s.port k).cmd = none → (s.port k).ramp = some (up, i, n) →
    yields (.portFsEdge k xs) s fun t => (i + 1 < n → (t.port k).ramp = some (up, i + 1, n) ∧
      (t.port k).base = (s.port k).base) ∧ (n ≤ i + 1 → (t.port k).ramp = none ∧
      (t.port k).base = (if up then 1 else 0, 1))) ∧
  (∀ (s : State) (earc : Bool) (st : Byte) (f : Fld), s.kaLive →
    (f = if earc then APORT.SRCSTS_EARC else APORT.SRCSTS_HRX) →
    (if earc then s.get EARC.STS_STATE = 4 else 3 ≤ s.get HRX.STS_STATE) →
    (s.get f = st.toNat → exec (.sourceChange earc st) s = .next s) ∧ (s.get f ≠ st.toNat →
      yields (.sourceChange earc st) s fun t => t.get f = st.toNat ∧ srcHeld t (if earc then 2 else 1) = true ∧
      (st.getLsbD 7 = true → t.get APORT.ISR_SRCCHG = 1) ∧ (st.getLsbD 7 = false → t.get APORT.ISR_SRCLOSS = 1) ∧
      (earc = false → t.get HRX.ISR_AUD = 1) ∧ (∀ k : Fin 4, t.port k = if s.get (APORT.PCFG_DIR k) = 0 ∧
      s.get (APORT.PCFG_SRC k) = (if earc then 2 else 1) then { s.port k with slots := (s.port k).slots.map fun _ => 0, hist := [], carries := 1 } else s.port k) ∧
      s.regsBut t [f, APORT.ISR_SRCCHG, APORT.ISR_SRCLOSS, HRX.ISR_AUD] ∧
      t = { s with regs := t.regs, aport := t.aport })) ∧
  (∀ (s : State) (earc : Bool) (m src : Nat), s.kaLive → (src = if earc then 2 else 1) →
    ((if earc then s.aport.holdEarc else s.aport.holdHrx) = some m) →
    (natBit (srcStatus s src) 7 = false ∨ s.mtime - m < s.get APORT.HOLD_MS * 98304 →
      exec (.sourceResume earc) s = .next s) ∧ (natBit (srcStatus s src) 7 = true →
      s.get APORT.HOLD_MS * 98304 ≤ s.mtime - m → yields (.sourceResume earc) s fun t => srcHeld t src = false ∧
      (∀ k : Fin 4, s.get (APORT.PCFG_DIR k) = 0 → s.get (APORT.PCFG_SRC k) = src →
      natBit (s.get APORT.MUTE_K) k = false →
      t.port k = { s.port k with base := (0, 1), ramp := none, cmd := some true } ∧
      natBit (t.get APORT.PSTS_MUTED) k = true) ∧ (∀ k : Fin 4, s.get (APORT.PCFG_DIR k) ≠ 0 ∨
      s.get (APORT.PCFG_SRC k) ≠ src ∨ natBit (s.get APORT.MUTE_K) k = true → t.port k = s.port k) ∧
      s.regsBut t [APORT.PSTS_MUTED] ∧ t = { s with regs := t.regs, aport := t.aport }))

/-- A link whose speed fits MODE comes up from LINKDOWN; a lost link keeps every queued frame and sets ISR.LINKDOWN. A
bad frame counts RXERR, a PAUSE frame nothing; a gPTP frame goes to Utilior while fewer than 200 came in the last
second of MTIME (log entry 19); else Strainer drops it while disabled, or the lowest matching policer judges it
(mode 1 by Tc, counted in PASS or DROP), or NOMATCH and DEFAULT apply. A passed frame is written with its head to
the slot at RXHEAD, or counts RXFULL. TXTAIL stays below the size, else 0x0102 (the model's reading of Table
MPT-5, log entry 19); a host descriptor's frame joins its class queue, waits with ISR.QFULL while that is full
(log entry 19), or is skipped with 0x0101. On a free lane Utilior's frame goes first, the second step of its Sync
or Pdelay_Resp joining behind (log entry 47), else the head of the highest class that is ready, padded with FCS. -/
def Obligations.MediaPortLinksReceivesAndSends : Prop :=
  (∀ (s : State) (v : Fin 4), s.live →
    (s.get MPT.STS_STATE = 2 → (if s.get MPT.MODE_SGMII = 1 then v.val ≠ 3 else v.val = 3) →
      yields (.mptLinkUp v) s fun t => t.get MPT.STS_STATE = 3 ∧ t.get MPT.LINKSTS_UP = 1 ∧
      t.get MPT.LINKSTS_SPEED = v ∧ t.get MPT.ISR_LINKUP = 1 ∧
      s.only t [MPT.STS_STATE, MPT.LINKSTS_UP, MPT.LINKSTS_SPEED, MPT.ISR_LINKUP]) ∧ (s.get MPT.STS_STATE ≠ 2 →
      exec (.mptLinkUp v) s = .next s) ∧ (s.get MPT.STS_STATE = 3 → yields .mptLinkDown s fun t =>
      t.get MPT.STS_STATE = 2 ∧ t.get MPT.LINKSTS_UP = 0 ∧ t.get MPT.ISR_LINKDOWN = 1 ∧ t.mpt.queues = s.mpt.queues ∧
      s.regsBut t [MPT.STS_STATE, MPT.LINKSTS_UP, MPT.ISR_LINKDOWN] ∧
      t = { s with regs := t.regs, mpt := t.mpt, spout := t.spout, ptp := t.ptp } ∧
      t.ptp = { s.ptp with held := none, sync := none, syncEnd := none, pdelay := none, lost := 0, asked := none, resp := none, before := none }) ∧
      (s.get MPT.STS_STATE ≠ 3 → exec .mptLinkDown s = .next s)) ∧
  (∀ (s : State) (b : List Byte) (e : Bool), s.live →
    (s.get MPT.STS_STATE ≠ 3 → exec (.rxFrame b e) s = .next s) ∧ (s.get MPT.STS_STATE = 3 → (e = true ∨
      b.length < 64 ∨ 1522 < b.length ∨ crcEnds b = false) → yields (.rxFrame b e) s fun t =>
      t.get MPT.RXERR_COUNT = (s.get MPT.RXERR_COUNT + 1) % 2 ^ 32 ∧ s.only t [MPT.RXERR_COUNT]) ∧
      (s.get MPT.STS_STATE = 3 → frameGood b e = true → isPause b = true → exec (.rxFrame b e) s = .next s) ∧
      (s.get MPT.STS_STATE = 3 → frameGood b e = true → isPause b = false → isGptp b = true →
      yields (.rxFrame b e) s fun t => t.get MPT.RXCNT_COUNT = (s.get MPT.RXCNT_COUNT + 1) % 2 ^ 32 ∧
      (s.get PTP.CTL_EN ≠ 1 → s.regsBut t [MPT.RXCNT_COUNT] ∧ t = { s with regs := t.regs, mpt := t.mpt }) ∧
      ((s.mpt.gptpTimes.filter fun m => decide (s.mtime < m + 98304000)).length < 200 →
      t.mpt.toUtilior = s.mpt.toUtilior ++ [b]) ∧ (200 ≤ (s.mpt.gptpTimes.filter fun m =>
      decide (s.mtime < m + 98304000)).length → t.mpt = s.mpt)) ∧ (s.get MPT.STS_STATE = 3 → frameGood b e = true →
      isPause b = false → isGptp b = false → s.get STRN.CTL_EN ≠ 1 → yields (.rxFrame b e) s fun t =>
      t.get MPT.RXCNT_COUNT = (s.get MPT.RXCNT_COUNT + 1) % 2 ^ 32 ∧ s.only t [MPT.RXCNT_COUNT])) ∧
  (∀ (s : State) (b : List Byte) (r a : Nat), s.live → s.get MPT.STS_STATE = 3 → frameGood b false = true →
    isPause b = false → isGptp b = false → s.get STRN.CTL_EN = 1 → (∀ p : Fin 64, polMatches s b p = false) →
    r = s.getA STRN.DEFAULT_RING → r < 4 →
    a = s.get (MPT.RXBASEL_A r) + 2 ^ 32 * s.get (MPT.RXBASEH_A r) + 2048 * s.get (MPT.RXHEAD_I r) →
    yields (.rxFrame b false) s fun t => t.get STRN.ISR_NOMATCH = 1 ∧
      t.get STRN.NOMATCHCNT_COUNT = (s.get STRN.NOMATCHCNT_COUNT + 1) % 2 ^ 32 ∧ (s.getA STRN.DEFAULT_ACT ≠ 1 →
      s.only t [MPT.RXCNT_COUNT, STRN.NOMATCHCNT_COUNT, STRN.ISR_NOMATCH]) ∧ (s.getA STRN.DEFAULT_ACT = 1 →
      rxRoom s r = false → t.get MPT.ISR_RXFULL = 1 ∧
      t.get MPT.RXFULL_COUNT = (s.get MPT.RXFULL_COUNT + 1) % 2 ^ 32 ∧ t.dram = s.dram ∧
      t.get (MPT.RXHEAD_I r) = s.get (MPT.RXHEAD_I r)) ∧ (s.getA STRN.DEFAULT_ACT = 1 → rxRoom s r = true →
      t.dramHeld a 4 = leBytes 2 (b.length - 4) ++ [0xFF, 0] ∧
      t.dramHeld (a + 16) (b.length - 4) = b.take (b.length - 4) ∧ (∀ x : Nat, x < a ∨ (a + 4 ≤ x ∧ x < a + 8) ∨
      a + 16 + (b.length - 4) ≤ x → t.dramByte x = s.dramByte x) ∧
      t.get (MPT.RXHEAD_I r) = (s.get (MPT.RXHEAD_I r) + 1) % 2 ^ s.get (MPT.RXCFG_SIZE r) % 2 ^ (MPT.RXHEAD_I r).w)) ∧
  (∀ (s : State) (b : List Byte) (p : Fin 64), s.live → s.get MPT.STS_STATE = 3 → frameGood b false = true →
    isPause b = false → isGptp b = false → s.get STRN.CTL_EN = 1 → polMatches s b p = true →
    (∀ q : Fin 64, q < p → polMatches s b q = false) → s.getA (STRN.PCFG_MODE p) = 1 →
    s.getA (STRN.PCFG_CAWARE p) = 0 →
    (b.length * 786432 ≤ (filled s p).tc → yields (.rxFrame b false) s fun t =>
      t.get (STRN.PASS_COUNT p) = (s.get (STRN.PASS_COUNT p) + 1) % 2 ^ 32 ∧
      (SMap.get {} t.strn.buckets p : Bucket) = { filled s p with tc := (filled s p).tc - b.length * 786432 } ∧
      t.get STRN.ISR_NOMATCH = s.get STRN.ISR_NOMATCH ∧ t.get (STRN.DROP_COUNT p) = s.get (STRN.DROP_COUNT p)) ∧
      ((filled s p).tc < b.length * 786432 → yields (.rxFrame b false) s fun t =>
      t.get (STRN.DROP_COUNT p) = (s.get (STRN.DROP_COUNT p) + 1) % 2 ^ 32 ∧ t.get STRN.ISR_DROP = 1 ∧
      t.dram = s.dram ∧ s.regsBut t [MPT.RXCNT_COUNT, STRN.DROP_COUNT p, STRN.ISR_DROP])) ∧
  (∀ (s : State) (b : List Byte) (p : Fin 64) (pre r a : Nat), s.live → s.get MPT.STS_STATE = 3 →
    frameGood b false = true → isPause b = false → isGptp b = false → s.get STRN.CTL_EN = 1 →
    polMatches s b p = true → (∀ q : Fin 64, q < p → polMatches s b q = false) →
    (pre = if s.getA (STRN.PCFG_CAWARE p) = 0 then 0 else if s.getA (STRN.PCFG_CSRC p) = 0 then (if frameDei b = true then 1 else 0) else if frameDscp b ∈ [some 12, some 20, some 28, some 36] then 1 else if frameDscp b ∈ [some 14, some 22, some 30, some 38] then 2 else 0) →
    r = s.getA (STRN.MATCH_RING p) → r < 4 →
    a = s.get (MPT.RXBASEL_A r) + 2 ^ 32 * s.get (MPT.RXBASEH_A r) + 2048 * s.get (MPT.RXHEAD_I r) →
    (s.getA (STRN.PCFG_MODE p) = 0 → yields (.rxFrame b false) s fun t =>
      t.get (STRN.PASS_COUNT p) = (s.get (STRN.PASS_COUNT p) + 1) % 2 ^ 32 ∧
      t.get (STRN.DROP_COUNT p) = s.get (STRN.DROP_COUNT p) ∧ t.get STRN.ISR_DROP = s.get STRN.ISR_DROP ∧
      (SMap.get {} t.strn.buckets p : Bucket) = filled s p ∧ (rxRoom s r = true →
      t.dramHeld a 4 = leBytes 2 (b.length - 4) ++ [BitVec.ofNat 8 p, 0])) ∧ (s.getA (STRN.PCFG_MODE p) = 1 →
      pre ≠ 0 → yields (.rxFrame b false) s fun t =>
      t.get (STRN.DROP_COUNT p) = (s.get (STRN.DROP_COUNT p) + 1) % 2 ^ 32 ∧ t.get STRN.ISR_DROP = 1 ∧
      t.dram = s.dram ∧ s.regsBut t [MPT.RXCNT_COUNT, STRN.DROP_COUNT p, STRN.ISR_DROP] ∧
      (SMap.get {} t.strn.buckets p : Bucket) = filled s p) ∧ (s.getA (STRN.PCFG_MODE p) = 2 → pre = 2 ∨
      (filled s p).tp < b.length * 786432 → yields (.rxFrame b false) s fun t =>
      t.get (STRN.DROP_COUNT p) = (s.get (STRN.DROP_COUNT p) + 1) % 2 ^ 32 ∧ t.get STRN.ISR_DROP = 1 ∧
      t.dram = s.dram ∧ s.regsBut t [MPT.RXCNT_COUNT, STRN.DROP_COUNT p, STRN.ISR_DROP] ∧
      (SMap.get {} t.strn.buckets p : Bucket) = filled s p) ∧ (s.getA (STRN.PCFG_MODE p) = 2 → pre = 0 →
      b.length * 786432 ≤ (filled s p).tp → b.length * 786432 ≤ (filled s p).tc →
      yields (.rxFrame b false) s fun t => t.get (STRN.PASS_COUNT p) = (s.get (STRN.PASS_COUNT p) + 1) % 2 ^ 32 ∧
      t.get (STRN.DROP_COUNT p) = s.get (STRN.DROP_COUNT p) ∧ t.get STRN.ISR_DROP = s.get STRN.ISR_DROP ∧
      (SMap.get {} t.strn.buckets p : Bucket) = { filled s p with tc := (filled s p).tc - b.length * 786432, tp := (filled s p).tp - b.length * 786432 } ∧
      (rxRoom s r = true → t.dramHeld a 4 = leBytes 2 (b.length - 4) ++ [BitVec.ofNat 8 p, 0]))) ∧
  (∀ (s : State) (b : List Byte) (p : Fin 64) (pre r a : Nat), s.live → s.get MPT.STS_STATE = 3 →
    frameGood b false = true → isPause b = false → isGptp b = false → s.get STRN.CTL_EN = 1 →
    polMatches s b p = true → (∀ q : Fin 64, q < p → polMatches s b q = false) →
    (pre = if s.getA (STRN.PCFG_CAWARE p) = 0 then 0 else if s.getA (STRN.PCFG_CSRC p) = 0 then (if frameDei b = true then 1 else 0) else if frameDscp b ∈ [some 12, some 20, some 28, some 36] then 1 else if frameDscp b ∈ [some 14, some 22, some 30, some 38] then 2 else 0) →
    r = s.getA (STRN.MATCH_RING p) → r < 4 →
    a = s.get (MPT.RXBASEL_A r) + 2 ^ 32 * s.get (MPT.RXBASEH_A r) + 2048 * s.get (MPT.RXHEAD_I r) →
    s.getA (STRN.PCFG_MODE p) = 2 → b.length * 786432 ≤ (filled s p).tp →
    (pre = 1 ∨ (pre = 0 ∧ (filled s p).tc < b.length * 786432)) →
    (s.getA (STRN.PCFG_YACT p) < 2 → yields (.rxFrame b false) s fun t =>
      t.get (STRN.PASS_COUNT p) = (s.get (STRN.PASS_COUNT p) + 1) % 2 ^ 32 ∧
      t.get (STRN.DROP_COUNT p) = s.get (STRN.DROP_COUNT p) ∧ t.get STRN.ISR_DROP = s.get STRN.ISR_DROP ∧
      (SMap.get {} t.strn.buckets p : Bucket) = { filled s p with tp := (filled s p).tp - b.length * 786432 } ∧
      (rxRoom s r = true →
      t.dramHeld a 4 = leBytes 2 (b.length - 4) ++ [BitVec.ofNat 8 p, if s.getA (STRN.PCFG_YACT p) = 1 then 1 else 0])) ∧
      (s.getA (STRN.PCFG_YACT p) = 2 → yields (.rxFrame b false) s fun t =>
      t.get (STRN.DROP_COUNT p) = (s.get (STRN.DROP_COUNT p) + 1) % 2 ^ 32 ∧ t.get STRN.ISR_DROP = 1 ∧
      t.dram = s.dram ∧ s.regsBut t [MPT.RXCNT_COUNT, STRN.DROP_COUNT p, STRN.ISR_DROP] ∧
      (SMap.get {} t.strn.buckets p : Bucket) = { filled s p with tp := (filled s p).tp - b.length * 786432 })) ∧
  (∀ (s : State) (b : List Byte) (r a d : Nat), s.live → s.get MPT.STS_STATE = 3 → frameGood b false = true →
    isPause b = false → isGptp b = false → s.get STRN.CTL_EN = 1 → (∀ p : Fin 64, polMatches s b p = false) →
    r = s.getA STRN.DEFAULT_RING → r < 4 → s.getA STRN.DEFAULT_ACT = 1 → rxRoom s r = true →
    a = s.get (MPT.RXBASEL_A r) + 2 ^ 32 * s.get (MPT.RXBASEH_A r) + 2048 * s.get (MPT.RXHEAD_I r) →
    d = (b.length + 1) * byteTime s / 5 → d + 8 ≤ gptp s → gptp s - d + 8 < 2 ^ 64 →
    yields (.rxFrame b false) s fun t => gptp s ≤ leNat (t.dramHeld (a + 8) 8) + d + 8 ∧
      leNat (t.dramHeld (a + 8) 8) + d ≤ gptp s + 8) ∧
  (∀ (s : State) (d : W32), s.live → s.answers .mpt →
    (d.toNat % 2 ^ (MPT.TXTAIL_I).w < 2 ^ s.get MPT.TXCFG_SIZE → yields (.txtailWrite d) s fun t =>
      t.get MPT.TXTAIL_I = d.toNat % 2 ^ (MPT.TXTAIL_I).w ∧ s.only t [MPT.TXTAIL_I]) ∧
      (2 ^ s.get MPT.TXCFG_SIZE ≤ d.toNat % 2 ^ (MPT.TXTAIL_I).w → yields (.txtailWrite d) s fun t =>
      records .mpt 0x0102 s t ∧ s.only t (errFields .mpt))) ∧
  (∀ (s : State) (b : List Byte) (h c : Nat), s.live → h = s.get MPT.TXHEAD_I →
    b = s.dramRead (s.get MPT.TXBASEL_A + 2 ^ 32 * s.get MPT.TXBASEH_A + 16 * h) 16 → c = sliceNat b 10 1 →
    (s.get MPT.CTL_EN ≠ 1 ∨ s.get MPT.TXCFG_EN ≠ 1 ∨ h = s.get MPT.TXTAIL_I → exec .txDescriptor s = .next s) ∧
      (s.get MPT.CTL_EN = 1 → s.get MPT.TXCFG_EN = 1 → h ≠ s.get MPT.TXTAIL_I → txDescOk b = false →
      yields .txDescriptor s fun t => records .mpt 0x0101 s t ∧
      t.get MPT.TXHEAD_I = (h + 1) % 2 ^ s.get MPT.TXCFG_SIZE % 2 ^ (MPT.TXHEAD_I).w ∧ t.mpt = s.mpt ∧
      s.regsBut t (MPT.TXHEAD_I :: errFields .mpt)) ∧ (s.get MPT.CTL_EN = 1 → s.get MPT.TXCFG_EN = 1 →
      h ≠ s.get MPT.TXTAIL_I → txDescOk b = true → 64 ≤ (classQueue s c).length → yields .txDescriptor s fun t =>
      t.get SPOUT.ISR_QFULL = 1 ∧ s.only t [SPOUT.ISR_QFULL]) ∧ (s.get MPT.CTL_EN = 1 → s.get MPT.TXCFG_EN = 1 →
      h ≠ s.get MPT.TXTAIL_I → txDescOk b = true → (classQueue s c).length < 64 → yields .txDescriptor s fun t =>
      t.get MPT.TXHEAD_I = (h + 1) % 2 ^ s.get MPT.TXCFG_SIZE % 2 ^ (MPT.TXHEAD_I).w ∧
      classQueue t c = classQueue s c ++ [⟨s.dramRead (sliceNat b 0 8) (sliceNat b 8 2), if sliceNat b 11 1 = 1 then some h else none⟩] ∧
      (∀ k : Fin 8, k.val ≠ c → classQueue t k = classQueue s k) ∧
      t.get (SPOUT.QSTS_FRAMES c) = (classQueue s c).length + 1 ∧
      s.regsBut t [MPT.TXHEAD_I, SPOUT.QSTS_FRAMES c, MPT.STS_BUSY] ∧ t = { s with regs := t.regs, mpt := t.mpt })) ∧
  (∀ (s : State), s.live →
    (s.get MPT.STS_STATE ≠ 3 ∨ s.mtime * 78125 < s.mpt.laneEnd → exec .frameTransmit s = .next s) ∧
      (s.mpt.gptp = [] → (∀ c : Fin 8, classReady s c = false) → exec .frameTransmit s = .next s)) ∧
  (∀ (s : State) (b : List Byte) (rest : List (List Byte)), s.live → s.get MPT.STS_STATE = 3 →
    s.mpt.laneEnd ≤ s.mtime * 78125 → s.mpt.gptp = b :: rest →
    yields .frameTransmit s fun t => t.mpt.sent = finishFrame b ∧ t.mpt.queues = s.mpt.queues ∧
      rest <+: t.mpt.gptp ∧ (beAt b 14 1 % 16 ∉ [0, 3] → t.mpt.gptp = rest) ∧ (beAt b 14 1 % 16 ∈ [0, 3] →
      (t.mpt.gptp.drop rest.length).map (fun x => beAt x 14 1 % 16) = [if beAt b 14 1 % 16 = 0 then 8 else 10]) ∧
      (beAt b 14 1 % 16 ≠ 2 → t.ptp = s.ptp) ∧ (beAt b 14 1 % 16 = 2 → t.ptp.asked.map (·.1) = some (beAt b 44 2)) ∧
      t.get MPT.TXCNT_COUNT = (s.get MPT.TXCNT_COUNT + 1) % 2 ^ 32 ∧ s.regsBut t [MPT.TXCNT_COUNT] ∧
      t = { s with regs := t.regs, mpt := t.mpt, spout := t.spout, ptp := t.ptp, free := t.free }) ∧
  (∀ (s : State) (c : Fin 8) (f : TxFrame) (rest : List TxFrame), s.live → s.get MPT.STS_STATE = 3 →
    s.mpt.laneEnd ≤ s.mtime * 78125 → s.mpt.gptp = [] → classReady s c = true →
    (∀ k : Fin 8, c < k → classReady s k = false) → classQueue s c = f :: rest →
    yields .frameTransmit s fun t => t.mpt.sent = finishFrame f.bytes ∧ classQueue t c = rest ∧
      (∀ k : Fin 8, k ≠ c → classQueue t k = classQueue s k) ∧
      t.get MPT.TXCNT_COUNT = (s.get MPT.TXCNT_COUNT + 1) % 2 ^ 32 ∧
      t.mpt.laneEnd = s.mtime * 78125 + ((finishFrame f.bytes).length + 20) * byteTime s * 1536 ∧ (f.ts = none →
      t.intc = s.intc) ∧ (∀ i : Fin 65536, f.ts = some i.val → t.get PTP.TXTSSTS_VALID = 1 ∧
      t.get PTP.TXTSSTS_INDEX = i ∧ t.get PTP.ISR_TXTS = 1 ∧ t.intc.edges = s.intc.edges ++ [52] ∧
      (s.get PTP.TXTSSTS_VALID = 1 → t.get MPT.ISR_TSOVR = 1)) ∧ t.dram = s.dram)

/-- STREN[n] from 0 to 1 reads the stream's entry and runs on that copy with its sequence at SEQINIT, or is refused
with 0x0100; written 0 it stops, and the layers it would still take, of frames ended or being coded, go unread. A
running KIND 1 stream takes the oldest due layer of an ended frame and queues its packets in order as its class
queue has room: the sequence rises by one each, the layer is done with the last one, and a full queue sets
ISR.QFULL with the rest kept. A running KIND 2 stream whose port has SPP new frames queues one AAF frame and its
sequence rises modulo 256; with the queue full the packet is dropped and counted. -/
def Obligations.StreamsPacketizeLayersAndAudio : Prop :=
  (∀ (s : State) (n : Fin 16) (e : List Byte), s.live → s.answers .mpt →
    e = s.dramRead (s.get MPT.STBASEL_A + 2 ^ 32 * s.get MPT.STBASEH_A + 128 * n) 128 →
    (natBit (s.get MPT.STREN_N) n = true → exec (.streamEnable n) s = .next s) ∧
      (natBit (s.get MPT.STREN_N) n = false → entryOk s e = true → yields (.streamEnable n) s fun t =>
      natBit (t.get MPT.STREN_N) n = true ∧ (∀ m : Fin 16, m ≠ n →
      natBit (t.get MPT.STREN_N) m = natBit (s.get MPT.STREN_N) m) ∧ t.get (MPT.SEQ_N n) = sliceNat e 6 2 ∧
      (streamOf t n).entry = e ∧ (streamOf t n).work = none ∧ (∀ m : Fin 16, m ≠ n → streamOf t m = streamOf s m) ∧
      s.regsBut t [MPT.STREN_N, MPT.SEQ_N n] ∧ t = { s with regs := t.regs, mpt := t.mpt, free := t.free }) ∧
      (natBit (s.get MPT.STREN_N) n = false → entryOk s e = false → yields (.streamEnable n) s fun t =>
      records .mpt 0x0100 s t ∧ s.only t (errFields .mpt)) ∧ yields (.streamDisable n) s fun t =>
      natBit (t.get MPT.STREN_N) n = false ∧ (∀ m : Fin 16, m ≠ n →
      natBit (t.get MPT.STREN_N) m = natBit (s.get MPT.STREN_N) m ∧ streamOf t m = streamOf s m) ∧
      streamOf t n = {} ∧ t.csch.frames = s.csch.frames.map (leaveStream n) ∧
      (∀ f ∈ s.csch.frames, (leaveStream n f).mptDue = f.mptDue.filter (fun i =>
      (f.layers[i]?.map (·.mpt)).getD 0 != n.val) ∧ (f.dispatched = true →
      ∀ l ∈ (leaveStream n f).layers, l.mpt = n.val → natBit l.lflags 1 = false)) ∧ s.regsBut t [MPT.STREN_N] ∧
      t = { s with regs := t.regs, mpt := t.mpt, csch := t.csch }) ∧
  (∀ (s : State) (n : Fin 16), s.live →
    ((natBit (s.get MPT.STREN_N) n = false ∨ (streamOf s n).kind ≠ 1 ∨ s.get MPT.CTL_EN ≠ 1) →
      exec (.layerPacketize n) s = .next s) ∧ ((streamOf s n).work = none → layerDue s n = none →
      exec (.layerPacketize n) s = .next s)) ∧
  (∀ (s : State) (n : Fin 16) (f : Frame) (i : Nat) (ps : List (List Byte)), s.live →
    natBit (s.get MPT.STREN_N) n = true → (streamOf s n).kind = 1 → s.get MPT.CTL_EN = 1 →
    (streamOf s n).work = none → layerDue s n = some (f, i) →
    ps = layerPackets (streamOf s n) f i (s.get (MPT.SEQ_N n)) (s.dramRead ((f.layers[i]?.map (·.obuf)).getD 0) (f.bytes.getD i 0)) →
    (classQueue s (streamOf s n).class).length ≤ 64 →
    ((classQueue s (streamOf s n).class).length + ps.length ≤ 64 → yields (.layerPacketize n) s fun t =>
      classQueue t (streamOf s n).class = classQueue s (streamOf s n).class ++ ps.map (fun p => ⟨p, none⟩) ∧
      (ps ≠ [] → t.get (MPT.SEQ_N n) = (s.get (MPT.SEQ_N n) + ps.length) % 2 ^ 16) ∧ (streamOf t n).work = none ∧
      (∀ g ∈ s.csch.frames, g.num = f.num → { g with mptDue := g.mptDue.erase i } ∈ t.csch.frames) ∧
      t.dram = s.dram) ∧ (64 < (classQueue s (streamOf s n).class).length + ps.length →
      yields (.layerPacketize n) s fun t =>
      classQueue t (streamOf s n).class = classQueue s (streamOf s n).class ++ (ps.take (64 - (classQueue s (streamOf s n).class).length)).map (fun p =>
      ⟨p, none⟩) ∧ (streamOf t n).work = some (f.num, i, ps.drop (64 - (classQueue s (streamOf s n).class).length)) ∧
      t.get SPOUT.ISR_QFULL = 1 ∧ t.csch = s.csch)) ∧
  (∀ (s : State) (n : Fin 16) (k spp : Nat), s.live → k = sliceNat (streamOf s n).entry 24 1 % 4 →
    spp = sliceNat (streamOf s n).entry 25 1 →
    ((natBit (s.get MPT.STREN_N) n = false ∨ (streamOf s n).kind ≠ 2 ∨ s.get MPT.CTL_EN ≠ 1 ∨
      s.get (APORT.PCFG_DIR k) ≠ 1 ∨ portOn s k = false ∨ (s.port k).count < (streamOf s n).used + spp) →
      exec (.aafPacket n) s = .next s) ∧ (natBit (s.get MPT.STREN_N) n = true → (streamOf s n).kind = 2 →
      s.get MPT.CTL_EN = 1 → s.get (APORT.PCFG_DIR k) = 1 → portOn s k = true →
      (streamOf s n).used + spp ≤ (s.port k).count → yields (.aafPacket n) s fun t =>
      (streamOf t n).used = (streamOf s n).used + spp ∧ t.get (MPT.SEQ_N n) = (s.get (MPT.SEQ_N n) + 1) % 256 ∧
      ((classQueue s (streamOf s n).class).length < 64 →
      classQueue t (streamOf s n).class = classQueue s (streamOf s n).class ++ [⟨aafFrame s n, none⟩] ∧
      t.get MPT.AAFDROP_COUNT = s.get MPT.AAFDROP_COUNT) ∧ (64 ≤ (classQueue s (streamOf s n).class).length →
      t.mpt.queues = s.mpt.queues ∧ t.get SPOUT.ISR_QFULL = 1 ∧ t.get MPT.ISR_AAFDROP = 1 ∧
      t.get MPT.AAFDROP_COUNT = (s.get MPT.AAFDROP_COUNT + 1) % 2 ^ (MPT.AAFDROP_COUNT).w) ∧
      t = { s with regs := t.regs, mpt := t.mpt }))

/-- A sample, 1 ms or more after the last one, holds gPTP time and MTIME. In SLAVE an offset beyond SERVO.STEP µs
steps the time, counts STEPCNT, sets ISR.STEP and drops the old samples. A message interval of an enabled port
judges its state: LISTENING while the link is down or its delay unknown or beyond 800 ns, SLAVE of a better
master, else MASTER, unless PRIO1 is 255 (a change sets ISR.STATECHG); shows its master; and queues the messages
whose interval has passed. An Announce is held, and a Pdelay_Req answered. (How masters compare, formats and
timeouts are those of IEEE 802.1AS as the model takes them, log entry 47.) TIMEL answers gPTP [31:0] and latches
the rest with MTIME. EN 1 starts the active list at its first boundary at least 2 µs away; a boundary starts it,
or its next cycle, applying a due swap (ACT flips, ISR.SWAPPED); GO makes the other list pending for a boundary at
least 1 µs away, or at once with EN 0. A shaper write stores and resets the class's tokens where it changes a
field; a burst below 1522 records 0x0102. -/
def Obligations.GptpTimeGatesAndShapers : Prop :=
  (∀ (s : State), s.live →
    (s.ptp.samples ≠ [] → s.mtime < s.ptp.m0 + 98304 → exec .ptpSample s = .next s) ∧ ((s.ptp.samples = [] ∨
      s.ptp.m0 + 98304 ≤ s.mtime) → yields .ptpSample s fun t => t.ptp.g0 = s.ptp.time / 153600000000 ∧
      t.ptp.m0 = s.mtime ∧ t.ptp.samples.head? = some (s.ptp.time / 153600000000, s.mtime) ∧
      t.ptp.time = s.ptp.time ∧ s.regsBut t [PTP.RATIO_RHO] ∧ t = { s with regs := t.regs, ptp := t.ptp }) ∧
      (s.answers .ptp → yields .timelRead s fun t =>
      t.out.rdata = some (BitVec.ofNat 32 (s.ptp.time / 153600000000)) ∧
      t.get PTP.TIMEH_T = s.ptp.time / 153600000000 / 2 ^ 32 % 2 ^ 32 ∧ t.get PTP.XMTIMEL_T = s.mtime % 2 ^ 32 ∧
      t.get PTP.XMTIMEH_T = s.mtime / 2 ^ 32 % 2 ^ 32 ∧ s.regsBut t [PTP.TIMEH_T, PTP.XMTIMEL_T, PTP.XMTIMEH_T] ∧
      t = { s with regs := t.regs, out := t.out })) ∧
  (∀ (s : State) (offset : Int), s.live →
    (s.get PTP.STS_STATE ≠ 3 ∨ mag offset ≤ s.get PTP.SERVO_STEP * 1000 → exec (.ptpStep offset) s = .next s) ∧
      (s.get PTP.STS_STATE = 3 → (s.get PTP.SERVO_STEP * 1000 : Int) < mag offset →
      yields (.ptpStep offset) s fun t => t.get PTP.ISR_STEP = 1 ∧
      t.get PTP.STEPCNT_COUNT = (s.get PTP.STEPCNT_COUNT + 1) % 2 ^ (PTP.STEPCNT_COUNT).w ∧ t.ptp.samples = [] ∧
      t.ptp.time = ((s.ptp.time : Int) - offset * 153600000000).toNat ∧
      s.regsBut t [PTP.ISR_STEP, PTP.STEPCNT_COUNT, PTP.OFFSET_NS, SPOUT.GATES_ENTRY, SPOUT.GATES_STATE, SPOUT.OVRCNT_COUNT, SPOUT.ISR_OVERRUN] ∧
      t = { s with regs := t.regs, ptp := t.ptp, spout := t.spout })) ∧
  (∀ (s : State) (q : Nat), s.live →
    ((s.get MPT.STS_STATE ≠ 3 ∧ q = 1) ∨ ((s.ptp.pdelay = none ∨ ∃ d ∈ s.ptp.pdelay.toList, 800 < d) ∧ q = 1) ∨ (s.get MPT.STS_STATE = 3 ∧ (∃ d ∈ s.ptp.pdelay.toList, d ≤ 800) ∧ ((s.ptp.held = none ∧ q = (if s.get PTP.PCFG_PRIO1 = 255 then 1 else 2)) ∨ (q = 3 ∧ s.ptp.syncEnd = none ∧ ∃ a ∈ s.ptp.held.toList, s.mtime < a.heard + 3 * 98304000 ∧ (s.get PTP.PCFG_PRIO1 = 255 ∨ a.vec < ownVec s))))) →
    (s.get PTP.CTL_EN ≠ 1 → exec .gptpMessageInterval s = .next s) ∧ (s.get PTP.CTL_EN = 1 →
      yields .gptpMessageInterval s fun t => t.get PTP.STS_STATE = q ∧ (s.get PTP.STS_STATE ≠ q →
      t.get PTP.ISR_STATECHG = 1) ∧ (s.get PTP.STS_STATE ≠ q → q ≠ 3 → t.ptp.rate = 0) ∧ (q ≠ 3 →
      t.get PTP.GMQ_VALID = 0) ∧ (q = 3 → t.get PTP.GMQ_VALID = 1) ∧ (q = 3 →
      ∀ a ∈ s.ptp.held.toList, t.get PTP.GMIDL_V + 2 ^ 32 * t.get PTP.GMIDH_V = a.vec / 2 ^ 16 % 2 ^ 64 ∧
      t.get PTP.GMQ_CLASS = a.vec / 2 ^ 112 % 256) ∧ (s.get MPT.STS_STATE ≠ 3 → t.mpt = s.mpt) ∧
      (s.get MPT.STS_STATE = 3 → s.mpt.gptp <+: t.mpt.gptp ∧ (t.mpt.gptp.drop s.mpt.gptp.length).map (fun x =>
      beAt x 14 1 % 16) = (if messageDue s 2 0 then [2] else []) ++ (if q = 2 ∧
      messageDue s 11 0 then [11] else []) ++ (if q = 2 ∧
      messageDue s 0 (toSigned 8 (s.get PTP.PCFG_SYNCLOG)) then [0] else [])) ∧ t.dram = s.dram)) ∧
  (∀ (s : State) (b m : List Byte), s.live → s.get MPT.STS_STATE = 3 → frameGood b false = true →
    isGptp b = true → s.get PTP.CTL_EN = 1 → s.mpt.gptpTimes = [] → m = (b.take (b.length - 4)).drop 14 →
    beAt m 0 1 / 16 = 1 → beAt m 1 1 % 16 = 2 → beAt m 4 1 = 0 →
    (beAt m 0 1 % 16 = 11 → beAt m 20 8 ≠ ownClock → s.ptp.held = none → 64 ≤ m.length → beAt m 61 2 < 255 →
      beAt m 64 2 ≠ 8 → yields (.rxFrame b false) s fun t =>
      t.ptp.held = some { vec := beAt m 47 16, source := beAt m 20 10, heard := s.mtime }) ∧ (beAt m 0 1 % 16 = 2 →
      beAt m 20 8 ≠ ownClock → yields (.rxFrame b false) s fun t => t.ptp = s.ptp ∧ (t.mpt.gptp.map fun x =>
      (beAt x 14 1 % 16, beAt x 44 2, beAt x 58 10)) = (s.mpt.gptp.map fun x =>
      (beAt x 14 1 % 16, beAt x 44 2, beAt x 58 10)) ++ [(3, beAt m 30 2, beAt m 20 10)]) ∧ (beAt m 20 8 = ownClock →
      yields (.rxFrame b false) s fun t => t.ptp = s.ptp ∧ t.mpt.gptp = s.mpt.gptp)) ∧
  (∀ (s : State) (c : Int), s.live → s.answers .spout →
    c = (max 1 (s.get (SPOUT.CYCLE_NS (s.get SPOUT.STS_ACT))) : Nat) →
    (s.get SPOUT.CTL_EN = 1 → exec .spoutEnable s = .next s) ∧ (s.get SPOUT.CTL_EN ≠ 1 →
      yields .spoutEnable s fun t => t.get SPOUT.CTL_EN = 1 ∧ t.get SPOUT.STS_STATE = 1 ∧
      (gptp s : Int) + 2000 ≤ t.spout.startAt ∧ t.spout.startAt - c < gptp s + 2000 ∧
      (t.spout.startAt - baseOf s (s.get SPOUT.STS_ACT)) % c = 0 ∧ t.get SPOUT.GATES_STATE = 0xFF ∧
      s.regsBut t [SPOUT.CTL_EN, SPOUT.STS_STATE, SPOUT.GATES_ENTRY, SPOUT.GATES_STATE, SPOUT.OVRCNT_COUNT, SPOUT.ISR_OVERRUN] ∧
      t = { s with regs := t.regs, spout := t.spout }) ∧ (s.get SPOUT.SWAP_GO = 1 → exec .swapGo s = .next s) ∧
      (s.get SPOUT.SWAP_GO ≠ 1 → s.get SPOUT.STS_STATE = 0 → yields .swapGo s fun t =>
      t.get SPOUT.STS_ACT = (1 - s.get SPOUT.STS_ACT) % 2 ^ (SPOUT.STS_ACT).w ∧ t.get SPOUT.ISR_SWAPPED = 1 ∧
      t.get SPOUT.SWAP_GO = 0 ∧ s.only t [SPOUT.STS_ACT, SPOUT.SWAP_GO, SPOUT.STS_BUSY, SPOUT.ISR_SWAPPED]) ∧
      (s.get SPOUT.SWAP_GO ≠ 1 → s.get SPOUT.STS_STATE = 1 → yields .swapGo s fun t => t.get SPOUT.SWAP_GO = 1 ∧
      t.get SPOUT.STS_ACT = s.get SPOUT.STS_ACT ∧ (gptp s : Int) + 1000 ≤ t.spout.swapAt ∧
      s.spout.startAt ≤ t.spout.swapAt ∧ (t.spout.swapAt - c < gptp s + 1000 ∨ t.spout.swapAt = s.spout.startAt) ∧
      (t.spout.swapAt - s.spout.startAt) % c = 0 ∧ s.regsBut t [SPOUT.SWAP_GO, SPOUT.STS_BUSY] ∧
      t = { s with regs := t.regs, spout := t.spout }) ∧ (s.get SPOUT.SWAP_GO ≠ 1 → s.get SPOUT.STS_STATE = 2 →
      yields .swapGo s fun t => t.get SPOUT.SWAP_GO = 1 ∧ t.get SPOUT.STS_ACT = s.get SPOUT.STS_ACT ∧
      (gptp s : Int) + 1000 ≤ t.spout.swapAt ∧ t.spout.swapAt - c < gptp s + 1000 ∧
      (t.spout.swapAt - s.spout.anchor) % c = 0 ∧ s.regsBut t [SPOUT.SWAP_GO, SPOUT.STS_BUSY] ∧
      t = { s with regs := t.regs, spout := t.spout })) ∧
  (∀ (s : State), s.live →
    (s.get SPOUT.STS_STATE = 0 → exec .gclBoundary s = .next s ∧ exec .gclEntry s = .next s) ∧
      (s.get SPOUT.STS_STATE = 1 → (gptp s : Int) < s.spout.startAt → exec .gclBoundary s = .next s) ∧
      (s.get SPOUT.STS_STATE = 1 → s.spout.startAt ≤ (gptp s : Int) → yields .gclBoundary s fun t =>
      t.get SPOUT.STS_STATE = 2 ∧ t.spout.anchor = s.spout.startAt ∧ t.spout.cycle = s.spout.startAt ∧
      (s.get SPOUT.SWAP_GO = 1 → s.spout.swapAt ≤ s.spout.startAt →
      t.get SPOUT.STS_ACT = (1 - s.get SPOUT.STS_ACT) % 2 ^ (SPOUT.STS_ACT).w ∧ t.get SPOUT.SWAP_GO = 0 ∧
      t.get SPOUT.ISR_SWAPPED = 1) ∧ (s.get SPOUT.SWAP_GO ≠ 1 ∨ s.spout.startAt < s.spout.swapAt →
      t.get SPOUT.STS_ACT = s.get SPOUT.STS_ACT ∧ t.get SPOUT.SWAP_GO = s.get SPOUT.SWAP_GO)) ∧
      (s.get SPOUT.STS_STATE = 2 →
      s.spout.cycle + (max 1 (s.get (SPOUT.CYCLE_NS (s.get SPOUT.STS_ACT))) : Nat) ≤ (gptp s : Int) →
      yields .gclBoundary s fun t => (s.get SPOUT.SWAP_GO = 1 → s.spout.swapAt ≤ (gptp s : Int) →
      t.get SPOUT.STS_ACT = (1 - s.get SPOUT.STS_ACT) % 2 ^ (SPOUT.STS_ACT).w ∧ t.get SPOUT.SWAP_GO = 0 ∧
      t.get SPOUT.ISR_SWAPPED = 1 ∧ t.spout.anchor = s.spout.swapAt) ∧ (s.get SPOUT.SWAP_GO ≠ 1 ∨
      (gptp s : Int) < s.spout.swapAt → t.get SPOUT.STS_ACT = s.get SPOUT.STS_ACT ∧
      t.get SPOUT.SWAP_GO = s.get SPOUT.SWAP_GO ∧ t.spout.anchor = s.spout.anchor)) ∧ (s.get SPOUT.STS_STATE = 2 →
      yields .gclEntry s fun t => t.get SPOUT.GATES_STATE = (gatesAt s (gptp s)).2 % 2 ^ 8 ∧
      t.get SPOUT.GATES_ENTRY = (gatesAt s (gptp s)).1 % 2 ^ 8 ∧
      s.regsBut t [SPOUT.GATES_ENTRY, SPOUT.GATES_STATE, SPOUT.OVRCNT_COUNT, SPOUT.ISR_OVERRUN] ∧
      t = { s with regs := t.regs, spout := t.spout })) ∧
  (∀ (s : State) (c : Fin 8) (burst : Bool) (d : W32) (fs : List Fld), s.live → s.answers .spout →
    (fs = if burst then [SPOUT.SHBURST_TOKEN_INIT c, SPOUT.SHBURST_BYTES c] else [SPOUT.SHRATE_KBPS c]) →
    (burst = true → (SPOUT.SHBURST_BYTES c).ofData d < 1522 → yields (.shaperWrite c burst d) s fun t =>
      records .spout 0x0102 s t ∧ s.only t (errFields .spout)) ∧ (burst = false ∨
      1522 ≤ (SPOUT.SHBURST_BYTES c).ofData d → yields (.shaperWrite c burst d) s fun t =>
      (∀ f ∈ fs, t.get f = f.ofData d) ∧ s.regsBut t fs ∧ ((∀ f ∈ fs, s.get f = f.ofData d) → t.spout = s.spout) ∧
      ((∃ f ∈ fs, s.get f ≠ f.ofData d) →
      tokensNow t c = (if t.get (SPOUT.SHBURST_TOKEN_INIT c) = 1 then t.get (SPOUT.SHBURST_BYTES c) * 786432 else 0)) ∧
      t = { s with regs := t.regs, spout := t.spout }))

/-- Utilior answers the posted settings command once, after a boot-record or journal write that runs: 0x02 where its
words do not fit. SET_READ answers schema, length and value of the staged or the live record, or 0x04. In a trial
SET_WRITE and SET_DELETE stage the change (up to 64 KiB, else 0x03 and 0x0101), answer STAGED 1 and leave the MRAM
as it is; SET_RESET is refused there. Outside a trial, unless SETTINGS is UNREADABLE or the live set or journal is
full (0x03 and 0x0101), the record stands in the MRAM when it is answered: its bytes at the line that has room
once segments are kept free, under the next SEQ, with the head past it, after the reads of the running image's
first line and the journal (R362); nothing else of the MRAM changes but a new segment's header and what the
compaction before it moves. (The model's readings, log entry 20: a staged change counts 64 bytes for each line of
its record; a staged set above 1 MiB is refused too; SET_RESET is accepted in every state of SETTINGS outside a
trial and refused in one.) -/
def Obligations.SettingsAreReadStagedAndAppended : Prop :=
  (∀ (s : State) (e : StoreEnv) (i : Instr) (cmd : Nat), s.live →
    (i, cmd) ∈ [(Instr.setRead e, 0x20), (.setWrite e, 0x21), (.setDelete e, 0x22), (.setReset e, 0x23)] →
    (s.nvm.work = none → s.get MBX.STS_STATE ≠ 2 ∨ reqCommand s ≠ cmd ∨ s.mbx.answer ≠ none →
      exec i s = .next (s.meetLines e)) ∧ (s.nvm.work = none → s.get MBX.STS_STATE = 2 → reqCommand s = cmd →
      s.mbx.answer = none → (if cmd = 0x23 then reqArgs s ≠ 0 else if cmd = 0x21 then 56 < reqArg1 s / 65536 % 256 ∨
      reqArgs s ≠ 1 + (reqArg1 s / 65536 % 256 + 3) / 4 else reqArgs s ≠ 1) →
      exec i s = .next { (s.meetLines e) with mbx := { answer := some (0x02, []) } }) ∧
      ((s.nvm.work.map (·.2)) = some none → exec i s = exec i (finishWork s))) ∧
  (∀ (s u : State) (e : StoreEnv) (key : Nat), s.live → s.get MBX.STS_STATE = 2 → s.mbx.answer = none →
    reqCommand s = 0x20 → reqArgs s = 1 → key = reqArg1 s % 65536 → s.nvm.work = none → u = s.meetLines e →
    (∀ v ∈ (SMap.find s.nvm.staged key).join.toList, yields (.setRead e) s fun t =>
      t.mbx.answer = some (0, (schemaOut s * 65536 + v.length) :: wordsOf 14 v) ∧
      t = { u with regs := t.regs, mbx := t.mbx }) ∧ (SMap.find s.nvm.staged key = none →
      s.get STORE.SETSTS_STATE ≠ 3 →
      ∀ r ∈ ((liveSet u).find? (fun q : JRec => q.key == key)).toList, r.schema = schemaOut s →
      yields (.setRead e) s fun t =>
      t.mbx.answer = some (0, (schemaOut s * 65536 + r.value.length) :: wordsOf 14 r.value) ∧
      t = { u with regs := t.regs, mbx := t.mbx }) ∧ (settingValue u key = none → yields (.setRead e) s fun t =>
      t.mbx.answer = some (4, []) ∧ t = { u with regs := t.regs, mbx := t.mbx })) ∧
  (∀ (s u : State) (e : StoreEnv) (key n : Nat) (v : List Byte), s.live → s.get MBX.STS_STATE = 2 →
    s.mbx.answer = none → s.get UPD.STS_STATE = 6 → s.nvm.work = none → u = s.meetLines e →
    key = reqArg1 s % 65536 → n = reqArg1 s / 65536 % 256 →
    (v = (((List.range 14).map fun i => leBytes 4 (s.get (MBX.REQ_W (i + 2)))).flatten).take n) →
    (reqCommand s = 0x21 → n ≤ 56 → reqArgs s = 1 + (n + 3) / 4 →
      stagedBytes (SMap.insert s.nvm.staged key (some v)) ≤ 65536 →
      liveAfter (SMap.insert s.nvm.staged key (some v)) u ≤ 1048576 → yields (.setWrite e) s fun t =>
      t.mbx.answer = some (0, [1]) ∧ SMap.find t.nvm.staged key = some (some v) ∧ t.get STORE.ISR_SETCHG = 1 ∧
      t.nvm = { u.nvm with staged := t.nvm.staged } ∧
      s.regsBut t (STORE.ISR_SETCHG :: STORE.UNCORR_VALID :: STORE.UNCORR_LINE :: STORE.CORR_COUNT :: STORE.ISR_CORR :: errFields .store) ∧
      (s.get STORE.SETSTS_STATE = 3 ∨ (u.nvm.badLines = [] ∧ u.nvm.weakLines = []) →
      s.regsBut t [STORE.ISR_SETCHG]) ∧ t = { s with regs := t.regs, nvm := t.nvm, mbx := t.mbx }) ∧
      (reqCommand s = 0x21 → n ≤ 56 → reqArgs s = 1 + (n + 3) / 4 →
      65536 < stagedBytes (SMap.insert s.nvm.staged key (some v)) ∨
      1048576 < liveAfter (SMap.insert s.nvm.staged key (some v)) u → yields (.setWrite e) s fun t =>
      t.mbx.answer = some (3, []) ∧ t.get (HDR.EFIRST_VALID Page.store.base) = 1 ∧ (u.nvm.badLines = [] →
      records .store 0x0101 s t ∧ s.regsBut t (STORE.CORR_COUNT :: STORE.ISR_CORR :: errFields .store)) ∧
      t = { u with regs := t.regs, mbx := t.mbx }) ∧ (reqCommand s = 0x22 → reqArgs s = 1 →
      yields (.setDelete e) s fun t => t.mbx.answer = some (0, [1]) ∧ SMap.find t.nvm.staged key = some none ∧
      t.get STORE.ISR_SETCHG = 1 ∧ t.nvm = { u.nvm with staged := t.nvm.staged } ∧ s.regsBut t [STORE.ISR_SETCHG] ∧
      t = { s with regs := t.regs, nvm := t.nvm, mbx := t.mbx }) ∧ (reqCommand s = 0x23 → reqArgs s = 0 →
      yields (.setReset e) s fun t => t.mbx.answer = some (3, []) ∧ records .store 0x0101 s t ∧
      s.regsBut t (errFields .store) ∧ t = { u with regs := t.regs, mbx := t.mbx })) ∧
  (∀ (s : State) (e : StoreEnv), s.live → s.get MBX.STS_STATE = 2 → s.mbx.answer = none →
    s.get UPD.STS_STATE ≠ 6 → s.get STORE.SETSTS_STATE = 3 → s.nvm.work = none →
    (reqCommand s = 0x21 → reqArg1 s / 65536 % 256 ≤ 56 → reqArgs s = 1 + (reqArg1 s / 65536 % 256 + 3) / 4 →
      yields (.setWrite e) s fun t => t.mbx.answer = some (3, []) ∧ records .store 0x0101 s t ∧
      s.regsBut t (errFields .store) ∧ t = { s.meetLines e with regs := t.regs, mbx := t.mbx }) ∧
      (reqCommand s = 0x22 → reqArgs s = 1 → yields (.setDelete e) s fun t => t.mbx.answer = some (3, []) ∧
      records .store 0x0101 s t ∧ s.regsBut t (errFields .store) ∧
      t = { s.meetLines e with regs := t.regs, mbx := t.mbx })) ∧
  (∀ (s s' : State) (e : StoreEnv) (i : Instr) (key n lines l : Nat) (v : List Byte) (u : State) (rl : List Byte),
    s.live → s.get MBX.STS_STATE = 2 → s.mbx.answer = none → s.get UPD.STS_STATE ≠ 6 → s.nvm.work = none →
    e.cut = none → s' = noteSettings (s.meetLines e) → key = reqArg1 s % 65536 → n = reqArg1 s / 65536 % 256 →
    (v = (((List.range 14).map fun i => leBytes 4 (s.get (MBX.REQ_W (i + 2)))).flatten).take n) →
    ((i = .setWrite e ∧ reqCommand s = 0x21 ∧ n ≤ 56 ∧ reqArgs s = 1 + (n + 3) / 4 ∧ s.get STORE.SETSTS_STATE ≠ 3 ∧ liveFull key v s' = false ∧ lines = (if n ≤ 44 then 1 else 2)) ∨ (i = .setDelete e ∧ reqCommand s = 0x22 ∧ reqArgs s = 1 ∧ s.get STORE.SETSTS_STATE ≠ 3 ∧ lines = 1) ∨ (i = .setReset e ∧ reqCommand s = 0x23 ∧ reqArgs s = 0 ∧ lines = 1)) →
    (makeRoom lines (if i = .setReset e then s' else keepFree lines s') = some (l, u)) →
    (rl = recLine (if i = .setWrite e then 1 else if i = .setDelete e then 2 else 3) lines u.nvm.nextSeq (schemaOut u) (if i = .setReset e then 0 else key) (if i = .setWrite e then n else 0) (if i = .setWrite e then v else if i = .setDelete e then [] else confirmBytes u 0 true)) →
    schemaOut u = schemaOut s →
    yields i s fun t => t.mbx.answer = some (0, if i = .setReset e then [] else [0]) ∧ t.get STORE.ISR_SETCHG = 1 ∧
      t.mramRead (0xC10000 + 64 * l) (64 * lines) = rl ∧ t.nvm.nextSeq = u.nvm.nextSeq + 1 ∧
      t.nvm.staged = (if i = .setReset e then [] else s.nvm.staged.filter (·.1 != key)) ∧
      t.get STORE.JSTS_HEAD = (l + lines) % 49152 ∧ (∀ a : Nat, a < 0xC10000 + 64 * l ∨
      0xC10000 + 64 * l + 64 * lines ≤ a → t.mramRead a 1 = u.mramRead a 1) ∧ (i = .setReset e →
      t.get STORE.SETSTS_STATE = 0) ∧ (i ≠ .setReset e → t.get STORE.SETSTS_STATE = s.get STORE.SETSTS_STATE) ∧
      t.dram = s.dram)

/-- A command in a state that Table UPD-3 does not list for it, or while BUSY, shows RESULT 0x08 and records 0x0101.
START zeroes the first line and the tag of the slot it will write and shows RECEIVING with RCVD 0 and the SEQ of
the newer copy as DLID. VERIFY shows VERIFYING. ARM, CONFIRM and REVERT show BUSY, and the tick that comes next
does their work and shows their state (log entry 46). ARM's, where the head has a line, writes a boot-record copy
that arms the slot: TRIAL, no tries, its own SEQ as ACT_ID and the head as CLINE, over the copy that is not the
newer; in a recovery it writes both copies, copy 1 first. CONFIRM's, in a trial, writes the CONFIRM record at
CLINE, with RETIRE 1 where the settings were MIGRATED or UNREADABLE, then the migrated and the staged settings
under the next SEQs, and a copy with TRIAL 0, and raises the fuses to the image's SVN. REVERT's writes a copy with
the other slot and RVT. ABORT zeroes the tag. No other byte of the MRAM changes. A loss of the supply or a reset
inside a line's write leaves every other byte as it was, that line torn or as it was, and the chip in that reset
(log entry 45). (The slot that START takes from the newer copy, and the fields TRIES, ACT_ID and CLINE that the
copies of REVERT and CONFIRM keep: the model's readings, log entry 20.) -/
def Obligations.UpdateCommandsMoveTheStates : Prop :=
  (∀ (s : State) (e : StoreEnv) (i : Instr) (op : Nat), s.live → s.answers .upd →
    (i, op) ∈ [(Instr.updStart e, 1), (.updVerify, 2), (.updArm e, 3), (.updConfirm e, 4), (.updRevert e, 5), (.updAbort e, 6)] →
    (s.get UPD.STS_BUSY = 1 ∨ s.get UPD.STS_STATE ∉ ([[], [0, 2, 4, 7, 8], [2], [4], [6], [5, 6], [1, 2, 4]] : List (List Nat)).getD op []) →
    yields i s fun t => t.get UPD.RESULT_CODE = 0x08 ∧ records .upd 0x0101 s t ∧
      s.regsBut t (UPD.RESULT_CODE :: errFields .upd) ∧
      t = { (if i = .updVerify then s else s.meetLines e) with regs := t.regs }) ∧
  (∀ (s u : State) (e : StoreEnv) (slot : Nat) (tears : Bool), s.live → s.answers .upd → s.get UPD.STS_BUSY ≠ 1 →
    u = s.meetLines e → slot = startTarget u →
    (e.cut = none → s.get UPD.STS_STATE ∈ [0, 2, 4, 7, 8] → yields (.updStart e) s fun t =>
      t.get UPD.STS_STATE = 1 ∧ t.get UPD.ISR_DONE = 1 ∧ t.get UPD.RCVD_N = 0 ∧ t.nvm.target = slot ∧
      t.nvm.dlid = newerSeq u ∧ t.nvm.head = [] ∧ t.mramRead (slotBase slot) 64 = List.replicate 64 0 ∧
      t.mramRead (slotBase slot + 0x600000 - 64) 64 = List.replicate 64 0 ∧ (∀ a : Nat, a < slotBase slot ∨
      slotBase slot + 64 ≤ a → a < slotBase slot + 0x600000 - 64 ∨ slotBase slot + 0x600000 ≤ a →
      t.mramRead a 1 = s.mramRead a 1)) ∧ (e.cut = some ⟨0, tears, .supply⟩ ∨ e.cut = some ⟨0, tears, .chip⟩ →
      s.get UPD.STS_STATE ∈ [0, 2, 4, 7, 8] → yields (.updStart e) s fun t =>
      onlyCause (if e.cut = some ⟨0, tears, .supply⟩ then SYS.RSTCAUSE_POR else SYS.RSTCAUSE_CHIP) t ∧
      t.sys.pll = false ∧ t.sys.coreUp = false ∧ (∀ a : Nat, tears = false ∨ a < slotBase slot + 0x600000 - 64 ∨
      slotBase slot + 0x600000 ≤ a → t.mramRead a 1 = s.mramRead a 1)) ∧ (s.nvm.recovery = false →
      ∀ b ∈ (newerCopy u).toList, slot = 1 - b.active) ∧ (s.get UPD.STS_STATE = 2 → yields .updVerify s fun t =>
      t.get UPD.STS_STATE = 3 ∧ t.get UPD.STS_BUSY = 1 ∧ s.only t [UPD.STS_STATE, UPD.STS_BUSY]) ∧ (e.cut = none →
      s.get UPD.STS_STATE ∈ [1, 2, 4] → yields (.updAbort e) s fun t => t.get UPD.STS_STATE = 0 ∧
      t.mramRead (slotBase s.nvm.target + 0x600000 - 64) 64 = List.replicate 64 0 ∧
      ∀ a : Nat, a < slotBase s.nvm.target + 0x600000 - 64 ∨ slotBase s.nvm.target + 0x600000 ≤ a →
      t.mramRead a 1 = s.mramRead a 1)) ∧
  (∀ (s : State) (e : StoreEnv) (i : Instr) (op : Nat), s.live → s.answers .upd → s.get UPD.STS_BUSY ≠ 1 →
    (i, op, s.get UPD.STS_STATE) ∈ [(Instr.updArm e, 3, 4), (.updConfirm e, 4, 6), (.updRevert e, 5, 5), (.updRevert e, 5, 6)] →
    yields i s fun t => t.get UPD.STS_BUSY = 1 ∧ t.get STORE.STS_STATE = 1 ∧
      t.nvm = { (s.meetLines e).nvm with work := some (op, e.cut) } ∧ s.regsBut t [UPD.STS_BUSY, STORE.STS_STATE] ∧
      t = { s with regs := t.regs, nvm := t.nvm }) ∧
  (∀ (s : State) (l c n : Nat) (cut : Option StoreCut) (tears : Bool), s.live → s.pending = [] →
    s.sys.pll = true → s.hif.waits = [] → s.nvm.work = some (3, cut) → s.nvm.left = none → s.nvm.torn = false →
    s.nvm.recovery = false → makeRoom 1 s = some (l, s) → l < 49152 →
    (c = if newerIndex s = some 0 then 1 else 0) → n = (newerSeq s + 1) % 2 ^ 32 →
    ∃ t, step s = .next t ∧ (∀ a : Nat, a < 0x8000 * c ∨ 0x8000 * c + 64 ≤ a ∨ cut = some ⟨0, false, .supply⟩ →
      cut = none ∨ cut = some ⟨0, tears, .supply⟩ → t.mramRead a 1 = s.mramRead a 1) ∧ (cut = none →
      t.get UPD.STS_STATE = 5 ∧ t.get UPD.ISR_DONE = 1 ∧ t.get UPD.STS_BUSY = 0 ∧ t.nvm.work = none ∧
      t.mramRead (0x8000 * c) 64 = bootLine { seq := n, active := s.nvm.target, trial := true, rvt := false, tries := 0, actId := n, cline := l }) ∧
      (cut = some ⟨0, tears, .supply⟩ → onlyCause SYS.RSTCAUSE_POR t ∧ t.sys.pll = false ∧ t.sys.coreUp = false)) ∧
  (∀ (s : State) (b : BootRec) (c n op : Nat), s.live → s.pending = [] → s.sys.pll = true → s.hif.waits = [] →
    s.nvm.work = some (op, none) → s.nvm.left = none → s.nvm.torn = false → newerCopy s = some b →
    (c = if newerIndex s = some 0 then 1 else 0) → n = (newerSeq s + 1) % 2 ^ 32 →
    (op = 5 → ∃ t, step s = .next t ∧ t.get UPD.STS_STATE = 8 ∧ t.get UPD.ISR_DONE = 1 ∧ t.get UPD.STS_BUSY = 0 ∧
      t.mramRead (0x8000 * c) 64 = bootLine { b with seq := n, active := 1 - b.active, trial := false, rvt := true } ∧
      ∀ a : Nat, a < 0x8000 * c ∨ 0x8000 * c + 64 ≤ a → t.mramRead a 1 = s.mramRead a 1) ∧ (op = 4 → b.trial = true →
      s.nvm.staged = [] → s.get STORE.SETSTS_STATE ≠ 2 → s.get STORE.SETSTS_STATE ≠ 3 → ∃ t, step s = .next t ∧
      t.get UPD.STS_STATE = 7 ∧ t.get UPD.ISR_DONE = 1 ∧ t.get UPD.STS_BUSY = 0 ∧
      t.mramRead (0xC10000 + 64 * b.cline) 64 = recLine 3 1 s.nvm.nextSeq (schemaOut s) 0 0 (confirmBytes s b.actId false) ∧
      t.mramRead (0x8000 * c) 64 = bootLine { b with seq := n, trial := false, rvt := false } ∧
      (∀ a : Nat, a < 0x8000 * c ∨ 0x8000 * c + 64 ≤ a → a < 0xC10000 + 64 * b.cline ∨
      0xC10000 + 64 * b.cline + 64 ≤ a → t.mramRead a 1 = s.mramRead a 1) ∧
      t.nvm.svn = max s.nvm.svn (min 63 (imgSvn s s.nvm.running)) ∧ t.nvm.nextSeq = s.nvm.nextSeq + 1)) ∧
  (∀ (s : State) (m : Nat), s.live → s.pending = [] → s.sys.pll = true → s.hif.waits = [] →
    s.nvm.work = some (3, none) → s.nvm.left = none → s.nvm.torn = false → s.nvm.recovery = true →
    (m = ((newerCopy s).map fun (b : BootRec) => (b.seq + 1) % 2 ^ 32).getD 1) →
    ∃ t, step s = .next t ∧ t.get UPD.STS_STATE = 5 ∧ t.get UPD.ISR_DONE = 1 ∧ t.get UPD.STS_BUSY = 0 ∧
      t.nvm.work = none ∧
      t.mramRead 0x8000 64 = bootLine { seq := m, active := s.nvm.target, trial := false, rvt := false, tries := 0, actId := 0, cline := 0 } ∧
      t.mramRead 0 64 = bootLine { seq := (m + 1) % 2 ^ 32, active := s.nvm.target, trial := false, rvt := false, tries := 0, actId := 0, cline := 0 } ∧
      ∀ a : Nat, 64 ≤ a → a < 0x8000 ∨ 0x8000 + 64 ≤ a → t.mramRead a 1 = s.mramRead a 1) ∧
  (∀ (s : State) (b : BootRec) (c k n1 n2 q : Nat) (v mig : List Byte) (r : JRec), s.live → s.pending = [] →
    s.sys.pll = true → s.hif.waits = [] → s.nvm.work = some (4, none) → s.nvm.left = none → s.nvm.torn = false →
    newerCopy s = some b → b.trial = true → (c = if newerIndex s = some 0 then 1 else 0) →
    headLine s = b.cline → (segSeq s (b.cline / 1024)).isSome = true → 0 < b.cline % 1024 →
    b.cline % 1024 < 1019 → b.cline < 49152 → s.nvm.staged = [(k, some v)] → liveSet s = [r] →
    q = s.nvm.nextSeq → mig = liveValue s r → n1 = recLines mig.length → n2 = recLines v.length →
    (s.get STORE.SETSTS_STATE = 2 → ∃ t, step s = .next t ∧ t.get UPD.STS_STATE = 7 ∧ t.nvm.staged = [] ∧
      t.nvm.nextSeq = q + 3 ∧ t.get STORE.JSTS_HEAD = b.cline + 1 + n1 + n2 ∧
      t.mramRead (0xC10000 + 64 * b.cline) 64 = recLine 3 1 q (schemaOut s) 0 0 (confirmBytes s b.actId true) ∧
      t.mramRead (0xC10000 + 64 * (b.cline + 1)) (64 * n1) = recLine 1 n1 (q + 1) (schemaOut s) r.key mig.length mig ∧
      t.mramRead (0xC10000 + 64 * (b.cline + 1 + n1)) (64 * n2) = recLine 1 n2 (q + 2) (schemaOut s) k v.length v ∧
      t.mramRead (0x8000 * c) 64 = bootLine { b with seq := (newerSeq s + 1) % 2 ^ 32, trial := false, rvt := false } ∧
      t.nvm.svn = max s.nvm.svn (min 63 (imgSvn s s.nvm.running))) ∧ (s.get STORE.SETSTS_STATE ≠ 2 →
      ∃ t, step s = .next t ∧ t.get UPD.STS_STATE = 7 ∧ t.nvm.staged = [] ∧ t.nvm.nextSeq = q + 2 ∧
      t.get STORE.JSTS_HEAD = b.cline + 1 + n2 ∧
      t.mramRead (0xC10000 + 64 * b.cline) 64 = recLine 3 1 q (schemaOut s) 0 0 (confirmBytes s b.actId (decide (s.get STORE.SETSTS_STATE = 3))) ∧
      t.mramRead (0xC10000 + 64 * (b.cline + 1)) (64 * n2) = recLine 1 n2 (q + 1) (schemaOut s) k v.length v ∧
      t.mramRead (0x8000 * c) 64 = bootLine { b with seq := (newerSeq s + 1) % 2 ^ 32, trial := false, rvt := false } ∧
      t.nvm.svn = max s.nvm.svn (min 63 (imgSvn s s.nvm.running))))

/-- In RECEIVING a packet of another type is a framing error of BFIFO15; one whose offset is not RCVD, or whose data
passes TOTAL, is discarded with RESULT 0x09 and 0x0102; a header with wrong MAGIC shows TOTAL and returns to IDLE
with RESULT 0x01, as soon as its bytes 0 to 11 have come, while the rest of its packet still arrives. Data at RCVD
is written behind the held first line and RCVD advances; the last of it writes the first line and the tag with
DLID and shows RECEIVED with ISR.RXDONE. A verification ends in VERIFIED, or in RECEIVED with its RESULT,
ISR.VFAIL and 0x0103. Compaction, where fewer than four segments are free and no trial runs, takes the oldest
segment that is neither the head's nor an unconfirmed trial's (log entry 20): its live record is copied to the
head under the next SEQ and its header made invalid; without live records in it no other byte changes. -/
def Obligations.ChunksVerificationAndCompactionWriteTheStore : Prop :=
  (∀ (s : State) (e : StoreEnv), s.live →
    (s.get UPD.STS_STATE ≠ 1 ∨ (s.fifo 15).taken = [] → exec (.updChunk e) s = .next (s.meetLines e)) ∧
      (s.get UPD.STS_STATE ≠ 3 → exec (.verifyEnd e) s = .next (s.meetLines e))) ∧
  (∀ (s : State) (e : StoreEnv) (p : Packet) (rest : List Packet), s.live → s.get UPD.STS_STATE = 1 →
    (s.fifo 15).taken = p :: rest → (s.fifo 15).taking = none →
    (p.typ ≠ 0x40 → yields (.updChunk e) s fun t => t.get (BFIFO.ISR_FRAME 15) = 1 ∧
      records (.bfifo 15) 0x0104 s t ∧ (t.fifo 15).taken = rest ∧
      s.regsBut t (BFIFO.ISR_FRAME 15 :: errFields (.bfifo 15)) ∧
      t = { s.meetLines e with regs := t.regs, fifos := t.fifos }) ∧ (p.typ = 0x40 →
      sliceNat p.bytes 0 4 ≠ s.get UPD.RCVD_N → yields (.updChunk e) s fun t => t.get UPD.RESULT_CODE = 0x09 ∧
      records .upd 0x0102 s t ∧ (t.fifo 15).taken = rest ∧ s.regsBut t (UPD.RESULT_CODE :: errFields .upd) ∧
      t = { s.meetLines e with regs := t.regs, fifos := t.fifos }) ∧ (p.typ = 0x40 →
      sliceNat p.bytes 0 4 = s.get UPD.RCVD_N → 16 ≤ p.bytes.length → p.bytes.length ≤ 65540 → s.nvm.head = [] →
      sliceNat p.bytes 4 4 ≠ 0x58465645 → yields (.updChunk e) s fun t => t.get UPD.STS_STATE = 0 ∧
      t.get UPD.RESULT_CODE = 0x01 ∧ t.get UPD.TOTAL_N = sliceNat p.bytes 12 4 ∧
      s.regsBut t [UPD.STS_STATE, UPD.RESULT_CODE, UPD.TOTAL_N] ∧
      t = { s.meetLines e with regs := t.regs, fifos := t.fifos })) ∧
  (∀ (s : State) (len : Nat) (w : W32) (ws : List W32) (items : List (W32 × Bool)) (bs : List Byte), s.live →
    s.get UPD.STS_STATE = 1 → fifoOn s 15 0 = true → (s.fifo 15).items = (w, false) :: items →
    (s.fifo 15).skip = false → (s.fifo 15).taken = [] → (s.fifo 15).taking = some (0x40, len, ws) → 5 ≤ len →
    len ≤ 65540 → ws.length + 1 < (len + 3) / 4 → s.nvm.head = [] → bs = payload (ws ++ [w]) len →
    sliceNat bs 0 4 = s.get UPD.RCVD_N → 4 ≤ bs.length →
    (bs.length < 16 → yields (.bfifoAgentTake 15) s fun t => t = { s with fifos := t.fifos }) ∧ (16 ≤ bs.length →
      yields (.bfifoAgentTake 15) s fun t => t.get UPD.TOTAL_N = sliceNat bs 12 4 ∧ (sliceNat bs 4 4 ≠ 0x58465645 ∨
      sliceNat bs 8 2 ≠ 1 → t.get UPD.STS_STATE = 0 ∧ t.get UPD.RESULT_CODE = 0x01) ∧ (sliceNat bs 4 4 = 0x58465645 →
      sliceNat bs 8 2 = 1 → sliceNat bs 12 4 % 64 ≠ 0 → t.get UPD.STS_STATE = 0 ∧ t.get UPD.RESULT_CODE = 0x02) ∧
      (sliceNat bs 4 4 = 0x58465645 → sliceNat bs 8 2 = 1 → sliceNat bs 12 4 = 512 → s.regsBut t [UPD.TOTAL_N]) ∧
      s.regsBut t [UPD.STS_STATE, UPD.RESULT_CODE, UPD.TOTAL_N] ∧ t = { s with regs := t.regs, fifos := t.fifos })) ∧
  (∀ (s : State) (e : StoreEnv) (d : List Byte) (cut : Bool) (rest : List Packet) (r total base : Nat), s.live →
    e.cut = none → s.get UPD.STS_STATE = 1 → (s.fifo 15).taken = ⟨0x40, leBytes 4 r ++ d, cut⟩ :: rest →
    (s.fifo 15).taking = none → s.get UPD.RCVD_N = r → 64 ≤ r → s.nvm.head.length = 64 →
    sliceNat s.nvm.head 0 4 = 0x58465645 → sliceNat s.nvm.head 4 2 = 1 → total = sliceNat s.nvm.head 8 4 →
    total % 64 = 0 → 512 ≤ total → total ≤ 0x600000 - 64 → 1 ≤ d.length → d.length ≤ 65536 →
    base = slotBase s.nvm.target →
    (total < r + d.length → yields (.updChunk e) s fun t => t.get UPD.RESULT_CODE = 0x09 ∧
      records .upd 0x0102 s t ∧ t.get UPD.RCVD_N = r ∧ t.nvm = (s.meetLines e).nvm) ∧ (r + d.length ≤ total →
      yields (.updChunk e) s fun t => t.get UPD.RCVD_N = r + d.length ∧ t.get UPD.TOTAL_N = total ∧
      t.mramRead (base + r) d.length = d ∧ (r + d.length < total → t.get UPD.STS_STATE = 1 ∧
      ∀ a : Nat, a < base + r ∨ base + r + d.length ≤ a → t.mramRead a 1 = s.mramRead a 1) ∧ (r + d.length = total →
      t.get UPD.STS_STATE = 2 ∧ t.get UPD.ISR_RXDONE = 1 ∧ t.mramRead base 64 = s.nvm.head ∧
      t.mramRead (base + 0x600000 - 64) 64 = crcLine (leBytes 4 0x47544C53 ++ leBytes 4 s.nvm.dlid) ∧
      ∀ a : Nat, a < base ∨ base + 64 ≤ a → a < base + r ∨ base + total ≤ a → a < base + 0x600000 - 64 ∨
      base + 0x600000 ≤ a → t.mramRead a 1 = s.mramRead a 1))) ∧
  (∀ (s u : State) (e : StoreEnv), s.live → s.get UPD.STS_STATE = 3 → u = s.meetLines e →
    yields (.verifyEnd e) s fun t => t.get UPD.RESULT_CODE = verifyImage u s.nvm.target ∧ t.get UPD.STS_BUSY = 0 ∧
      t.get UPD.ISR_DONE = 1 ∧ (verifyImage u s.nvm.target = 0 → t.get UPD.STS_STATE = 4 ∧
      t.get UPD.ISR_VFAIL = s.get UPD.ISR_VFAIL) ∧ (verifyImage u s.nvm.target ≠ 0 → t.get UPD.STS_STATE = 2 ∧
      t.get UPD.ISR_VFAIL = 1 ∧ records .upd 0x0103 s t) ∧ (s.mramNat (slotBase s.nvm.target) 4 ≠ 0x58465645 →
      u.nvm.badLines = [] → verifyImage u s.nvm.target = 1) ∧ t = { u with regs := t.regs }) ∧
  (∀ (s : State) (e : StoreEnv) (g : Nat), s.live →
    ((s.get SYS.BOOT_STATUS_CODE < 5 ∨ 0x10 < s.get SYS.BOOT_STATUS_CODE ∨ victim (s.meetLines e) = none ∨
      4 ≤ freeSegs (s.meetLines e) ∨ s.get UPD.STS_STATE = 6 ∨ s.get STORE.SETSTS_STATE = 3 ∨ s.nvm.work ≠ none) →
      exec (.journalCompaction e) s = .next (s.meetLines e)) ∧ (5 ≤ s.get SYS.BOOT_STATUS_CODE →
      s.get SYS.BOOT_STATUS_CODE ≤ 0x10 → e.cut = none → s.nvm.work = none → freeSegs (s.meetLines e) < 4 →
      s.get UPD.STS_STATE ≠ 6 → s.get STORE.SETSTS_STATE ≠ 3 → victim (s.meetLines e) = some g →
      ((∀ r ∈ liveSet (s.meetLines e), r.line / 1024 ≠ g) → yields (.journalCompaction e) s fun t =>
      t.mramRead (0xC10000 + 64 * (1024 * g)) 64 = List.replicate 64 0 ∧ (∀ a : Nat, a < 0xC10000 + 64 * (1024 * g) ∨
      0xC10000 + 64 * (1024 * g) + 64 ≤ a → t.mramRead a 1 = s.mramRead a 1) ∧ t.dram = s.dram) ∧
      (∀ r ∈ liveSet (s.meetLines e), (liveSet (s.meetLines e)).filter (fun q => q.line / 1024 == g) = [r] →
      ∀ x ∈ (makeRoom (linesOf 1 r.value) (s.meetLines e)).toList, yields (.journalCompaction e) s fun t =>
      t.mramRead (0xC10000 + 64 * x.1) (64 * linesOf 1 r.value) = recLine 1 (linesOf 1 r.value) s.nvm.nextSeq r.schema r.key r.value.length r.value ∧
      t.mramRead (0xC10000 + 64 * (1024 * g)) 64 = List.replicate 64 0 ∧ t.nvm.nextSeq = s.nvm.nextSeq + 1 ∧
      t.get STORE.JSTS_HEAD = (x.1 + linesOf 1 r.value) % 49152 ∧ (∀ a : Nat, a < 0xC10000 + 64 * (1024 * g) ∨
      0xC10000 + 64 * (1024 * g) + 64 ≤ a → a < 0xC10000 + 64 * x.1 ∨
      0xC10000 + 64 * x.1 + 64 * linesOf 1 r.value ≤ a → t.mramRead a 1 = x.2.mramRead a 1) ∧ t.dram = s.dram)))
end

