-- ==== Sys2Proof/Laws/SMap.lean ====
section
/-! SUPPORT. Laws of the sparse maps: a value set is the value read, every other key keeps its value, and every operation
keeps the canonical form. -/

namespace Sys2Proof.Machine

theorem SMap.find_erase_same {α : Type} (m : List (Nat × α)) (k : Nat) : SMap.find (SMap.erase m k) k = none := by
  induction m with
  | nil => rfl
  | cons e t ih =>
    obtain ⟨a, v⟩ := e
    by_cases h : a = k
    · simpa [SMap.erase, h] using ih
    · simpa [SMap.erase, h, SMap.find] using ih

theorem SMap.find_erase_ne {α : Type} (m : List (Nat × α)) {j k : Nat} (h : j ≠ k) :
    SMap.find (SMap.erase m k) j = SMap.find m j := by
  induction m with
  | nil => rfl
  | cons e t ih =>
    obtain ⟨a, v⟩ := e
    by_cases ha : a = k
    · have hj : ¬ a = j := fun hj => h (hj ▸ ha)
      have hj' : ¬ k = j := fun e => h e.symm
      simpa [SMap.erase, ha, SMap.find, hj'] using ih
    · by_cases hj : a = j
      · simp [SMap.erase, SMap.find, hj, h]
      · simpa [SMap.erase, ha, SMap.find, hj] using ih

theorem SMap.find_insert_same {α : Type} (m : List (Nat × α)) (k : Nat) (v : α) :
    SMap.find (SMap.insert m k v) k = some v := by
  induction m with
  | nil => simp [SMap.insert, SMap.find]
  | cons e t ih =>
    obtain ⟨a, w⟩ := e
    simp only [SMap.insert]
    split
    · simp [SMap.find]
    · split
      · simp [SMap.find]
      · have : ¬ a = k := fun e => by subst e; contradiction
        simpa [SMap.find, this] using ih

theorem SMap.find_insert_ne {α : Type} (m : List (Nat × α)) {j k : Nat} (v : α) (h : j ≠ k) :
    SMap.find (SMap.insert m k v) j = SMap.find m j := by
  have h' : ¬ k = j := fun e => h e.symm
  induction m with
  | nil => simp [SMap.insert, SMap.find, h']
  | cons e t ih =>
    obtain ⟨a, w⟩ := e
    simp only [SMap.insert]
    split
    · simp [SMap.find, h']
    · split
      · rename_i hk; subst hk; simp [SMap.find, h']
      · by_cases ha : a = j
        · simp [SMap.find, ha]
        · simpa [SMap.find, ha] using ih

theorem SMap.get_set_same {α : Type} [DecidableEq α] (d : α) (m : List (Nat × α)) (k : Nat) (v : α) :
    SMap.get d (SMap.set d m k v) k = v := by
  unfold SMap.set SMap.get
  split
  · rename_i h; simp [SMap.find_erase_same, h]
  · simp [SMap.find_insert_same]

theorem SMap.get_set_ne {α : Type} [DecidableEq α] (d e : α) (m : List (Nat × α)) {j k : Nat} (v : α) (h : j ≠ k) :
    SMap.get e (SMap.set d m k v) j = SMap.get e m j := by
  unfold SMap.set SMap.get
  split
  · simp [SMap.find_erase_ne m h]
  · simp [SMap.find_insert_ne _ v h, SMap.find_erase_ne m h]

/-- Keys strictly rising, as a relation between neighbours and all that follow. -/
theorem SMap.rising_iff {α : Type} (m : List (Nat × α)) :
    SMap.rising m = true ↔ m.Pairwise fun a b => a.1 < b.1 := by
  induction m with
  | nil => simp [SMap.rising]
  | cons e t ih =>
    obtain ⟨a, v⟩ := e
    cases t with
    | nil => simp [SMap.rising]
    | cons f u =>
      obtain ⟨b, w⟩ := f
      simp only [SMap.rising, Bool.and_eq_true, decide_eq_true_eq, ih, List.pairwise_cons, List.mem_cons, forall_eq_or_imp]
      constructor
      · rintro ⟨h, h1, h2⟩
        exact ⟨⟨h, fun e he => Nat.lt_trans h (h1 e he)⟩, h1, h2⟩
      · rintro ⟨⟨h, _⟩, h1, h2⟩
        exact ⟨h, h1, h2⟩

theorem SMap.wf_iff {α : Type} [DecidableEq α] (d : α) (m : List (Nat × α)) :
    SMap.wf d m = true ↔ (m.Pairwise fun a b => a.1 < b.1) ∧ ∀ e ∈ m, e.2 ≠ d := by
  simp [SMap.wf, SMap.rising_iff]

theorem SMap.mem_insert {α : Type} {m : List (Nat × α)} {k : Nat} {v : α} {e : Nat × α} (h : e ∈ SMap.insert m k v) :
    e = (k, v) ∨ e ∈ m := by
  induction m with
  | nil => simpa [SMap.insert] using h
  | cons f t ih =>
    obtain ⟨a, w⟩ := f
    simp only [SMap.insert] at h
    split at h
    · simpa using h
    · split at h
      · rcases List.mem_cons.1 h with h | h
        · exact .inl h
        · exact .inr (List.mem_cons_of_mem _ h)
      · rcases List.mem_cons.1 h with h | h
        · exact .inr (h ▸ List.mem_cons_self ..)
        · rcases ih h with h | h
          · exact .inl h
          · exact .inr (List.mem_cons_of_mem _ h)

theorem SMap.insert_pairwise {α : Type} {m : List (Nat × α)} (k : Nat) (v : α) (h : m.Pairwise fun a b => a.1 < b.1) :
    (SMap.insert m k v).Pairwise fun a b => a.1 < b.1 := by
  induction m with
  | nil => simp [SMap.insert]
  | cons f t ih =>
    obtain ⟨a, w⟩ := f
    obtain ⟨h1, h2⟩ := List.pairwise_cons.1 h
    simp only [SMap.insert]
    split
    · rename_i hk
      refine List.pairwise_cons.2 ⟨fun e he => ?_, h⟩
      rcases List.mem_cons.1 he with he | he
      · subst he; exact hk
      · exact Nat.lt_trans hk (h1 e he)
    · split
      · rename_i hk
        subst hk
        exact List.pairwise_cons.2 ⟨h1, h2⟩
      · rename_i hk hne
        refine List.pairwise_cons.2 ⟨fun e he => ?_, ih h2⟩
        rcases SMap.mem_insert he with he | he
        · subst he; simp; omega
        · exact h1 e he

/-- Setting a key keeps the canonical form. -/
theorem SMap.rising_insert {α : Type} {m : List (Nat × α)} (k : Nat) (v : α) (h : SMap.rising m = true) :
    SMap.rising (SMap.insert m k v) = true := by
  rw [SMap.rising_iff] at h ⊢; exact SMap.insert_pairwise k v h

theorem SMap.rising_filter {α : Type} {m : List (Nat × α)} (p : Nat × α → Bool) (h : SMap.rising m = true) :
    SMap.rising (m.filter p) = true := by
  rw [SMap.rising_iff] at h ⊢; exact h.filter p

theorem SMap.rising_drop {α : Type} {m : List (Nat × α)} (p : Nat → Bool) (h : SMap.rising m = true) :
    SMap.rising (SMap.drop m p) = true := SMap.rising_filter _ h

theorem SMap.rising_set {α : Type} [DecidableEq α] (d : α) {m : List (Nat × α)} (k : Nat) (v : α) (h : SMap.rising m = true) :
    SMap.rising (SMap.set d m k v) = true := by
  unfold SMap.set; split
  · exact SMap.rising_filter _ h
  · exact SMap.rising_insert _ _ (SMap.rising_filter _ h)

theorem SMap.rising_foldInsert {α : Type} (l : List (Nat × α)) {m : List (Nat × α)} (h : SMap.rising m = true) :
    SMap.rising (l.foldl (fun m e => SMap.insert m e.1 e.2) m) = true := by
  induction l generalizing m with
  | nil => exact h
  | cons e l ih => exact ih (SMap.rising_insert _ _ h)

theorem SMap.wf_set {α : Type} [DecidableEq α] {d : α} {m : List (Nat × α)} (k : Nat) (v : α) (h : SMap.wf d m = true) :
    SMap.wf d (SMap.set d m k v) = true := by
  rw [SMap.wf_iff] at h ⊢
  obtain ⟨h1, h2⟩ := h
  have h3 : (SMap.erase m k).Pairwise fun a b => a.1 < b.1 := h1.sublist List.filter_sublist
  have h4 : ∀ e ∈ SMap.erase m k, e.2 ≠ d := fun e he => h2 e (List.mem_filter.1 he).1
  unfold SMap.set
  split
  · exact ⟨h3, h4⟩
  · rename_i hv
    refine ⟨SMap.insert_pairwise _ _ h3, fun e he => ?_⟩
    rcases SMap.mem_insert he with he | he
    · subst he; exact hv
    · exact h4 e he

/-- Storing a run of values keeps the canonical form. -/
theorem SMap.wf_setMany {α : Type} [DecidableEq α] {d : α} {m : List (Nat × α)} (k : Nat) (vs : List α)
    (h : SMap.wf d m = true) : SMap.wf d (SMap.setMany d m k vs) = true := by
  induction vs generalizing m k with
  | nil => exact h
  | cons v t ih => exact ih (k + 1) (SMap.wf_set k v h)

/-- A key below a stored run keeps its value. -/
theorem SMap.get_setMany_lt {α : Type} [DecidableEq α] (d e : α) (m : List (Nat × α)) {j k : Nat} (vs : List α) (h : j < k) :
    SMap.get e (SMap.setMany d m k vs) j = SMap.get e m j := by
  induction vs generalizing m k with
  | nil => rfl
  | cons v t ih =>
    rw [SMap.setMany, ih (m := SMap.set d m k v) (by omega), SMap.get_set_ne d e m v (by omega)]

/-- A key past a stored run keeps its value. -/
theorem SMap.get_setMany_ge {α : Type} [DecidableEq α] (d e : α) (m : List (Nat × α)) {j k : Nat} (vs : List α)
    (h : k + vs.length ≤ j) : SMap.get e (SMap.setMany d m k vs) j = SMap.get e m j := by
  induction vs generalizing m k with
  | nil => rfl
  | cons v t ih =>
    simp only [List.length_cons] at h
    rw [SMap.setMany, ih (m := SMap.set d m k v) (by omega), SMap.get_set_ne d e m v (by omega)]

/-- A key of a stored run has its value of the run. -/
theorem SMap.get_setMany_mem {α : Type} [DecidableEq α] (d : α) (m : List (Nat × α)) (k i : Nat) (vs : List α)
    (h : i < vs.length) : SMap.get d (SMap.setMany d m k vs) (k + i) = vs[i] := by
  induction vs generalizing m k i with
  | nil => simp at h
  | cons v t ih =>
    rw [SMap.setMany]
    cases i with
    | zero => rw [SMap.get_setMany_lt d d _ t (by omega)]; simpa using SMap.get_set_same d m k v
    | succ i =>
      have : k + (i + 1) = (k + 1) + i := by omega
      rw [this, ih (SMap.set d m k v) (k + 1) i (by simpa using h)]; simp

/-- A run stored is the run read. -/
theorem SMap.getMany_setMany {α : Type} [DecidableEq α] (d : α) (m : List (Nat × α)) (k : Nat) (vs : List α) :
    SMap.getMany d (SMap.setMany d m k vs) k vs.length = vs := by
  induction vs generalizing m k with
  | nil => rfl
  | cons v t ih =>
    rw [List.length_cons, SMap.getMany, SMap.setMany, ih, SMap.get_setMany_lt d d _ t (by omega), SMap.get_set_same]

end Sys2Proof.Machine
end

