-- ==== Sys2Proof/Laws/State.lean ====
section
/-! SUPPORT. What each update of the state leaves, field by field, and what a stored register field, byte or instance
reads as. -/

namespace Sys2Proof.Machine

/-! ### Every update, every other part of the state -/

@[simp] theorem State.put_mtime (s : State) (f : Fld) (v : Nat) : (s.put f v).mtime = s.mtime := rfl
@[simp] theorem State.put_act (s : State) (f : Fld) (v : Nat) : (s.put f v).act = s.act := rfl
@[simp] theorem State.put_dram (s : State) (f : Fld) (v : Nat) : (s.put f v).dram = s.dram := rfl
@[simp] theorem State.put_sys (s : State) (f : Fld) (v : Nat) : (s.put f v).sys = s.sys := rfl
@[simp] theorem State.put_intc (s : State) (f : Fld) (v : Nat) : (s.put f v).intc = s.intc := rfl
@[simp] theorem State.put_hif (s : State) (f : Fld) (v : Nat) : (s.put f v).hif = s.hif := rfl
@[simp] theorem State.put_reg (s : State) (f : Fld) (v : Nat) : (s.put f v).reg = s.reg := rfl
@[simp] theorem State.put_auxs (s : State) (f : Fld) (v : Nat) : (s.put f v).auxs = s.auxs := rfl
@[simp] theorem State.put_caddy (s : State) (f : Fld) (v : Nat) : (s.put f v).caddy = s.caddy := rfl
@[simp] theorem State.put_tim (s : State) (f : Fld) (v : Nat) : (s.put f v).tim = s.tim := rfl
@[simp] theorem State.put_prs (s : State) (f : Fld) (v : Nat) : (s.put f v).prs = s.prs := rfl
@[simp] theorem State.put_fifos (s : State) (f : Fld) (v : Nat) : (s.put f v).fifos = s.fifos := rfl
@[simp] theorem State.put_mbx (s : State) (f : Fld) (v : Nat) : (s.put f v).mbx = s.mbx := rfl
@[simp] theorem State.put_dmcs (s : State) (f : Fld) (v : Nat) : (s.put f v).dmcs = s.dmcs := rfl
@[simp] theorem State.put_dqos (s : State) (f : Fld) (v : Nat) : (s.put f v).dqos = s.dqos := rfl
@[simp] theorem State.put_cells (s : State) (f : Fld) (v : Nat) : (s.put f v).cells = s.cells := rfl
@[simp] theorem State.put_csch (s : State) (f : Fld) (v : Nat) : (s.put f v).csch = s.csch := rfl
@[simp] theorem State.put_csis (s : State) (f : Fld) (v : Nat) : (s.put f v).csis = s.csis := rfl
@[simp] theorem State.put_isp (s : State) (f : Fld) (v : Nat) : (s.put f v).isp = s.isp := rfl
@[simp] theorem State.put_visr (s : State) (f : Fld) (v : Nat) : (s.put f v).visr = s.visr := rfl
@[simp] theorem State.put_hrx (s : State) (f : Fld) (v : Nat) : (s.put f v).hrx = s.hrx := rfl
@[simp] theorem State.put_htx (s : State) (f : Fld) (v : Nat) : (s.put f v).htx = s.htx := rfl
@[simp] theorem State.put_comp (s : State) (f : Fld) (v : Nat) : (s.put f v).comp = s.comp := rfl
@[simp] theorem State.put_aport (s : State) (f : Fld) (v : Nat) : (s.put f v).aport = s.aport := rfl
@[simp] theorem State.put_mpt (s : State) (f : Fld) (v : Nat) : (s.put f v).mpt = s.mpt := rfl
@[simp] theorem State.put_spout (s : State) (f : Fld) (v : Nat) : (s.put f v).spout = s.spout := rfl
@[simp] theorem State.put_strn (s : State) (f : Fld) (v : Nat) : (s.put f v).strn = s.strn := rfl
@[simp] theorem State.put_ptp (s : State) (f : Fld) (v : Nat) : (s.put f v).ptp = s.ptp := rfl
@[simp] theorem State.put_nvm (s : State) (f : Fld) (v : Nat) : (s.put f v).nvm = s.nvm := rfl
@[simp] theorem State.put_out (s : State) (f : Fld) (v : Nat) : (s.put f v).out = s.out := rfl
@[simp] theorem State.put_free (s : State) (f : Fld) (v : Nat) : (s.put f v).free = s.free := rfl
@[simp] theorem State.put_pending (s : State) (f : Fld) (v : Nat) : (s.put f v).pending = s.pending := rfl

@[simp] theorem State.putA_mtime (s : State) (f : Fld) (v : Nat) : (s.putA f v).mtime = s.mtime := rfl
@[simp] theorem State.putA_regs (s : State) (f : Fld) (v : Nat) : (s.putA f v).regs = s.regs := rfl
@[simp] theorem State.putA_dram (s : State) (f : Fld) (v : Nat) : (s.putA f v).dram = s.dram := rfl
@[simp] theorem State.putA_sys (s : State) (f : Fld) (v : Nat) : (s.putA f v).sys = s.sys := rfl
@[simp] theorem State.putA_intc (s : State) (f : Fld) (v : Nat) : (s.putA f v).intc = s.intc := rfl
@[simp] theorem State.putA_hif (s : State) (f : Fld) (v : Nat) : (s.putA f v).hif = s.hif := rfl
@[simp] theorem State.putA_reg (s : State) (f : Fld) (v : Nat) : (s.putA f v).reg = s.reg := rfl
@[simp] theorem State.putA_auxs (s : State) (f : Fld) (v : Nat) : (s.putA f v).auxs = s.auxs := rfl
@[simp] theorem State.putA_caddy (s : State) (f : Fld) (v : Nat) : (s.putA f v).caddy = s.caddy := rfl
@[simp] theorem State.putA_tim (s : State) (f : Fld) (v : Nat) : (s.putA f v).tim = s.tim := rfl
@[simp] theorem State.putA_prs (s : State) (f : Fld) (v : Nat) : (s.putA f v).prs = s.prs := rfl
@[simp] theorem State.putA_fifos (s : State) (f : Fld) (v : Nat) : (s.putA f v).fifos = s.fifos := rfl
@[simp] theorem State.putA_mbx (s : State) (f : Fld) (v : Nat) : (s.putA f v).mbx = s.mbx := rfl
@[simp] theorem State.putA_dmcs (s : State) (f : Fld) (v : Nat) : (s.putA f v).dmcs = s.dmcs := rfl
@[simp] theorem State.putA_dqos (s : State) (f : Fld) (v : Nat) : (s.putA f v).dqos = s.dqos := rfl
@[simp] theorem State.putA_cells (s : State) (f : Fld) (v : Nat) : (s.putA f v).cells = s.cells := rfl
@[simp] theorem State.putA_csch (s : State) (f : Fld) (v : Nat) : (s.putA f v).csch = s.csch := rfl
@[simp] theorem State.putA_csis (s : State) (f : Fld) (v : Nat) : (s.putA f v).csis = s.csis := rfl
@[simp] theorem State.putA_isp (s : State) (f : Fld) (v : Nat) : (s.putA f v).isp = s.isp := rfl
@[simp] theorem State.putA_visr (s : State) (f : Fld) (v : Nat) : (s.putA f v).visr = s.visr := rfl
@[simp] theorem State.putA_hrx (s : State) (f : Fld) (v : Nat) : (s.putA f v).hrx = s.hrx := rfl
@[simp] theorem State.putA_htx (s : State) (f : Fld) (v : Nat) : (s.putA f v).htx = s.htx := rfl
@[simp] theorem State.putA_comp (s : State) (f : Fld) (v : Nat) : (s.putA f v).comp = s.comp := rfl
@[simp] theorem State.putA_aport (s : State) (f : Fld) (v : Nat) : (s.putA f v).aport = s.aport := rfl
@[simp] theorem State.putA_mpt (s : State) (f : Fld) (v : Nat) : (s.putA f v).mpt = s.mpt := rfl
@[simp] theorem State.putA_spout (s : State) (f : Fld) (v : Nat) : (s.putA f v).spout = s.spout := rfl
@[simp] theorem State.putA_strn (s : State) (f : Fld) (v : Nat) : (s.putA f v).strn = s.strn := rfl
@[simp] theorem State.putA_ptp (s : State) (f : Fld) (v : Nat) : (s.putA f v).ptp = s.ptp := rfl
@[simp] theorem State.putA_nvm (s : State) (f : Fld) (v : Nat) : (s.putA f v).nvm = s.nvm := rfl
@[simp] theorem State.putA_out (s : State) (f : Fld) (v : Nat) : (s.putA f v).out = s.out := rfl
@[simp] theorem State.putA_free (s : State) (f : Fld) (v : Nat) : (s.putA f v).free = s.free := rfl
@[simp] theorem State.putA_pending (s : State) (f : Fld) (v : Nat) : (s.putA f v).pending = s.pending := rfl

@[simp] theorem State.dramWrite_mtime (s : State) (a : Nat) (bs : List Byte) : (s.dramWrite a bs).mtime = s.mtime := rfl
@[simp] theorem State.dramWrite_regs (s : State) (a : Nat) (bs : List Byte) : (s.dramWrite a bs).regs = s.regs := rfl
@[simp] theorem State.dramWrite_act (s : State) (a : Nat) (bs : List Byte) : (s.dramWrite a bs).act = s.act := rfl
@[simp] theorem State.dramWrite_sys (s : State) (a : Nat) (bs : List Byte) : (s.dramWrite a bs).sys = s.sys := rfl
@[simp] theorem State.dramWrite_intc (s : State) (a : Nat) (bs : List Byte) : (s.dramWrite a bs).intc = s.intc := rfl
@[simp] theorem State.dramWrite_hif (s : State) (a : Nat) (bs : List Byte) : (s.dramWrite a bs).hif = s.hif := rfl
@[simp] theorem State.dramWrite_reg (s : State) (a : Nat) (bs : List Byte) : (s.dramWrite a bs).reg = s.reg := rfl
@[simp] theorem State.dramWrite_auxs (s : State) (a : Nat) (bs : List Byte) : (s.dramWrite a bs).auxs = s.auxs := rfl
@[simp] theorem State.dramWrite_caddy (s : State) (a : Nat) (bs : List Byte) : (s.dramWrite a bs).caddy = s.caddy := rfl
@[simp] theorem State.dramWrite_tim (s : State) (a : Nat) (bs : List Byte) : (s.dramWrite a bs).tim = s.tim := rfl
@[simp] theorem State.dramWrite_prs (s : State) (a : Nat) (bs : List Byte) : (s.dramWrite a bs).prs = s.prs := rfl
@[simp] theorem State.dramWrite_fifos (s : State) (a : Nat) (bs : List Byte) : (s.dramWrite a bs).fifos = s.fifos := rfl
@[simp] theorem State.dramWrite_mbx (s : State) (a : Nat) (bs : List Byte) : (s.dramWrite a bs).mbx = s.mbx := rfl
@[simp] theorem State.dramWrite_dmcs (s : State) (a : Nat) (bs : List Byte) : (s.dramWrite a bs).dmcs = s.dmcs := rfl
@[simp] theorem State.dramWrite_dqos (s : State) (a : Nat) (bs : List Byte) : (s.dramWrite a bs).dqos = s.dqos := rfl
@[simp] theorem State.dramWrite_cells (s : State) (a : Nat) (bs : List Byte) : (s.dramWrite a bs).cells = s.cells := rfl
@[simp] theorem State.dramWrite_csch (s : State) (a : Nat) (bs : List Byte) : (s.dramWrite a bs).csch = s.csch := rfl
@[simp] theorem State.dramWrite_csis (s : State) (a : Nat) (bs : List Byte) : (s.dramWrite a bs).csis = s.csis := rfl
@[simp] theorem State.dramWrite_isp (s : State) (a : Nat) (bs : List Byte) : (s.dramWrite a bs).isp = s.isp := rfl
@[simp] theorem State.dramWrite_visr (s : State) (a : Nat) (bs : List Byte) : (s.dramWrite a bs).visr = s.visr := rfl
@[simp] theorem State.dramWrite_hrx (s : State) (a : Nat) (bs : List Byte) : (s.dramWrite a bs).hrx = s.hrx := rfl
@[simp] theorem State.dramWrite_htx (s : State) (a : Nat) (bs : List Byte) : (s.dramWrite a bs).htx = s.htx := rfl
@[simp] theorem State.dramWrite_comp (s : State) (a : Nat) (bs : List Byte) : (s.dramWrite a bs).comp = s.comp := rfl
@[simp] theorem State.dramWrite_aport (s : State) (a : Nat) (bs : List Byte) : (s.dramWrite a bs).aport = s.aport := rfl
@[simp] theorem State.dramWrite_mpt (s : State) (a : Nat) (bs : List Byte) : (s.dramWrite a bs).mpt = s.mpt := rfl
@[simp] theorem State.dramWrite_spout (s : State) (a : Nat) (bs : List Byte) : (s.dramWrite a bs).spout = s.spout := rfl
@[simp] theorem State.dramWrite_strn (s : State) (a : Nat) (bs : List Byte) : (s.dramWrite a bs).strn = s.strn := rfl
@[simp] theorem State.dramWrite_ptp (s : State) (a : Nat) (bs : List Byte) : (s.dramWrite a bs).ptp = s.ptp := rfl
@[simp] theorem State.dramWrite_nvm (s : State) (a : Nat) (bs : List Byte) : (s.dramWrite a bs).nvm = s.nvm := rfl
@[simp] theorem State.dramWrite_out (s : State) (a : Nat) (bs : List Byte) : (s.dramWrite a bs).out = s.out := rfl
@[simp] theorem State.dramWrite_free (s : State) (a : Nat) (bs : List Byte) : (s.dramWrite a bs).free = s.free := rfl
@[simp] theorem State.dramWrite_pending (s : State) (a : Nat) (bs : List Byte) : (s.dramWrite a bs).pending = s.pending := rfl

@[simp] theorem State.mramWrite_mtime (s : State) (a : Nat) (bs : List Byte) : (s.mramWrite a bs).mtime = s.mtime := rfl
@[simp] theorem State.mramWrite_regs (s : State) (a : Nat) (bs : List Byte) : (s.mramWrite a bs).regs = s.regs := rfl
@[simp] theorem State.mramWrite_act (s : State) (a : Nat) (bs : List Byte) : (s.mramWrite a bs).act = s.act := rfl
@[simp] theorem State.mramWrite_dram (s : State) (a : Nat) (bs : List Byte) : (s.mramWrite a bs).dram = s.dram := rfl
@[simp] theorem State.mramWrite_sys (s : State) (a : Nat) (bs : List Byte) : (s.mramWrite a bs).sys = s.sys := rfl
@[simp] theorem State.mramWrite_intc (s : State) (a : Nat) (bs : List Byte) : (s.mramWrite a bs).intc = s.intc := rfl
@[simp] theorem State.mramWrite_hif (s : State) (a : Nat) (bs : List Byte) : (s.mramWrite a bs).hif = s.hif := rfl
@[simp] theorem State.mramWrite_reg (s : State) (a : Nat) (bs : List Byte) : (s.mramWrite a bs).reg = s.reg := rfl
@[simp] theorem State.mramWrite_auxs (s : State) (a : Nat) (bs : List Byte) : (s.mramWrite a bs).auxs = s.auxs := rfl
@[simp] theorem State.mramWrite_caddy (s : State) (a : Nat) (bs : List Byte) : (s.mramWrite a bs).caddy = s.caddy := rfl
@[simp] theorem State.mramWrite_tim (s : State) (a : Nat) (bs : List Byte) : (s.mramWrite a bs).tim = s.tim := rfl
@[simp] theorem State.mramWrite_prs (s : State) (a : Nat) (bs : List Byte) : (s.mramWrite a bs).prs = s.prs := rfl
@[simp] theorem State.mramWrite_fifos (s : State) (a : Nat) (bs : List Byte) : (s.mramWrite a bs).fifos = s.fifos := rfl
@[simp] theorem State.mramWrite_mbx (s : State) (a : Nat) (bs : List Byte) : (s.mramWrite a bs).mbx = s.mbx := rfl
@[simp] theorem State.mramWrite_dmcs (s : State) (a : Nat) (bs : List Byte) : (s.mramWrite a bs).dmcs = s.dmcs := rfl
@[simp] theorem State.mramWrite_dqos (s : State) (a : Nat) (bs : List Byte) : (s.mramWrite a bs).dqos = s.dqos := rfl
@[simp] theorem State.mramWrite_cells (s : State) (a : Nat) (bs : List Byte) : (s.mramWrite a bs).cells = s.cells := rfl
@[simp] theorem State.mramWrite_csch (s : State) (a : Nat) (bs : List Byte) : (s.mramWrite a bs).csch = s.csch := rfl
@[simp] theorem State.mramWrite_csis (s : State) (a : Nat) (bs : List Byte) : (s.mramWrite a bs).csis = s.csis := rfl
@[simp] theorem State.mramWrite_isp (s : State) (a : Nat) (bs : List Byte) : (s.mramWrite a bs).isp = s.isp := rfl
@[simp] theorem State.mramWrite_visr (s : State) (a : Nat) (bs : List Byte) : (s.mramWrite a bs).visr = s.visr := rfl
@[simp] theorem State.mramWrite_hrx (s : State) (a : Nat) (bs : List Byte) : (s.mramWrite a bs).hrx = s.hrx := rfl
@[simp] theorem State.mramWrite_htx (s : State) (a : Nat) (bs : List Byte) : (s.mramWrite a bs).htx = s.htx := rfl
@[simp] theorem State.mramWrite_comp (s : State) (a : Nat) (bs : List Byte) : (s.mramWrite a bs).comp = s.comp := rfl
@[simp] theorem State.mramWrite_aport (s : State) (a : Nat) (bs : List Byte) : (s.mramWrite a bs).aport = s.aport := rfl
@[simp] theorem State.mramWrite_mpt (s : State) (a : Nat) (bs : List Byte) : (s.mramWrite a bs).mpt = s.mpt := rfl
@[simp] theorem State.mramWrite_spout (s : State) (a : Nat) (bs : List Byte) : (s.mramWrite a bs).spout = s.spout := rfl
@[simp] theorem State.mramWrite_strn (s : State) (a : Nat) (bs : List Byte) : (s.mramWrite a bs).strn = s.strn := rfl
@[simp] theorem State.mramWrite_ptp (s : State) (a : Nat) (bs : List Byte) : (s.mramWrite a bs).ptp = s.ptp := rfl
@[simp] theorem State.mramWrite_out (s : State) (a : Nat) (bs : List Byte) : (s.mramWrite a bs).out = s.out := rfl
@[simp] theorem State.mramWrite_free (s : State) (a : Nat) (bs : List Byte) : (s.mramWrite a bs).free = s.free := rfl
@[simp] theorem State.mramWrite_pending (s : State) (a : Nat) (bs : List Byte) : (s.mramWrite a bs).pending = s.pending := rfl

@[simp] theorem State.setCell_mtime (s : State) (n : Nat) (c : CellSt) : (s.setCell n c).mtime = s.mtime := rfl
@[simp] theorem State.setCell_regs (s : State) (n : Nat) (c : CellSt) : (s.setCell n c).regs = s.regs := rfl
@[simp] theorem State.setCell_act (s : State) (n : Nat) (c : CellSt) : (s.setCell n c).act = s.act := rfl
@[simp] theorem State.setCell_dram (s : State) (n : Nat) (c : CellSt) : (s.setCell n c).dram = s.dram := rfl
@[simp] theorem State.setCell_sys (s : State) (n : Nat) (c : CellSt) : (s.setCell n c).sys = s.sys := rfl
@[simp] theorem State.setCell_intc (s : State) (n : Nat) (c : CellSt) : (s.setCell n c).intc = s.intc := rfl
@[simp] theorem State.setCell_hif (s : State) (n : Nat) (c : CellSt) : (s.setCell n c).hif = s.hif := rfl
@[simp] theorem State.setCell_reg (s : State) (n : Nat) (c : CellSt) : (s.setCell n c).reg = s.reg := rfl
@[simp] theorem State.setCell_auxs (s : State) (n : Nat) (c : CellSt) : (s.setCell n c).auxs = s.auxs := rfl
@[simp] theorem State.setCell_caddy (s : State) (n : Nat) (c : CellSt) : (s.setCell n c).caddy = s.caddy := rfl
@[simp] theorem State.setCell_tim (s : State) (n : Nat) (c : CellSt) : (s.setCell n c).tim = s.tim := rfl
@[simp] theorem State.setCell_prs (s : State) (n : Nat) (c : CellSt) : (s.setCell n c).prs = s.prs := rfl
@[simp] theorem State.setCell_fifos (s : State) (n : Nat) (c : CellSt) : (s.setCell n c).fifos = s.fifos := rfl
@[simp] theorem State.setCell_mbx (s : State) (n : Nat) (c : CellSt) : (s.setCell n c).mbx = s.mbx := rfl
@[simp] theorem State.setCell_dmcs (s : State) (n : Nat) (c : CellSt) : (s.setCell n c).dmcs = s.dmcs := rfl
@[simp] theorem State.setCell_dqos (s : State) (n : Nat) (c : CellSt) : (s.setCell n c).dqos = s.dqos := rfl
@[simp] theorem State.setCell_csch (s : State) (n : Nat) (c : CellSt) : (s.setCell n c).csch = s.csch := rfl
@[simp] theorem State.setCell_csis (s : State) (n : Nat) (c : CellSt) : (s.setCell n c).csis = s.csis := rfl
@[simp] theorem State.setCell_isp (s : State) (n : Nat) (c : CellSt) : (s.setCell n c).isp = s.isp := rfl
@[simp] theorem State.setCell_visr (s : State) (n : Nat) (c : CellSt) : (s.setCell n c).visr = s.visr := rfl
@[simp] theorem State.setCell_hrx (s : State) (n : Nat) (c : CellSt) : (s.setCell n c).hrx = s.hrx := rfl
@[simp] theorem State.setCell_htx (s : State) (n : Nat) (c : CellSt) : (s.setCell n c).htx = s.htx := rfl
@[simp] theorem State.setCell_comp (s : State) (n : Nat) (c : CellSt) : (s.setCell n c).comp = s.comp := rfl
@[simp] theorem State.setCell_aport (s : State) (n : Nat) (c : CellSt) : (s.setCell n c).aport = s.aport := rfl
@[simp] theorem State.setCell_mpt (s : State) (n : Nat) (c : CellSt) : (s.setCell n c).mpt = s.mpt := rfl
@[simp] theorem State.setCell_spout (s : State) (n : Nat) (c : CellSt) : (s.setCell n c).spout = s.spout := rfl
@[simp] theorem State.setCell_strn (s : State) (n : Nat) (c : CellSt) : (s.setCell n c).strn = s.strn := rfl
@[simp] theorem State.setCell_ptp (s : State) (n : Nat) (c : CellSt) : (s.setCell n c).ptp = s.ptp := rfl
@[simp] theorem State.setCell_nvm (s : State) (n : Nat) (c : CellSt) : (s.setCell n c).nvm = s.nvm := rfl
@[simp] theorem State.setCell_out (s : State) (n : Nat) (c : CellSt) : (s.setCell n c).out = s.out := rfl
@[simp] theorem State.setCell_free (s : State) (n : Nat) (c : CellSt) : (s.setCell n c).free = s.free := rfl
@[simp] theorem State.setCell_pending (s : State) (n : Nat) (c : CellSt) : (s.setCell n c).pending = s.pending := rfl

@[simp] theorem State.setFifo_mtime (s : State) (n : Nat) (c : FifoSt) : (s.setFifo n c).mtime = s.mtime := rfl
@[simp] theorem State.setFifo_regs (s : State) (n : Nat) (c : FifoSt) : (s.setFifo n c).regs = s.regs := rfl
@[simp] theorem State.setFifo_act (s : State) (n : Nat) (c : FifoSt) : (s.setFifo n c).act = s.act := rfl
@[simp] theorem State.setFifo_dram (s : State) (n : Nat) (c : FifoSt) : (s.setFifo n c).dram = s.dram := rfl
@[simp] theorem State.setFifo_sys (s : State) (n : Nat) (c : FifoSt) : (s.setFifo n c).sys = s.sys := rfl
@[simp] theorem State.setFifo_intc (s : State) (n : Nat) (c : FifoSt) : (s.setFifo n c).intc = s.intc := rfl
@[simp] theorem State.setFifo_hif (s : State) (n : Nat) (c : FifoSt) : (s.setFifo n c).hif = s.hif := rfl
@[simp] theorem State.setFifo_reg (s : State) (n : Nat) (c : FifoSt) : (s.setFifo n c).reg = s.reg := rfl
@[simp] theorem State.setFifo_auxs (s : State) (n : Nat) (c : FifoSt) : (s.setFifo n c).auxs = s.auxs := rfl
@[simp] theorem State.setFifo_caddy (s : State) (n : Nat) (c : FifoSt) : (s.setFifo n c).caddy = s.caddy := rfl
@[simp] theorem State.setFifo_tim (s : State) (n : Nat) (c : FifoSt) : (s.setFifo n c).tim = s.tim := rfl
@[simp] theorem State.setFifo_prs (s : State) (n : Nat) (c : FifoSt) : (s.setFifo n c).prs = s.prs := rfl
@[simp] theorem State.setFifo_mbx (s : State) (n : Nat) (c : FifoSt) : (s.setFifo n c).mbx = s.mbx := rfl
@[simp] theorem State.setFifo_dmcs (s : State) (n : Nat) (c : FifoSt) : (s.setFifo n c).dmcs = s.dmcs := rfl
@[simp] theorem State.setFifo_dqos (s : State) (n : Nat) (c : FifoSt) : (s.setFifo n c).dqos = s.dqos := rfl
@[simp] theorem State.setFifo_cells (s : State) (n : Nat) (c : FifoSt) : (s.setFifo n c).cells = s.cells := rfl
@[simp] theorem State.setFifo_csch (s : State) (n : Nat) (c : FifoSt) : (s.setFifo n c).csch = s.csch := rfl
@[simp] theorem State.setFifo_csis (s : State) (n : Nat) (c : FifoSt) : (s.setFifo n c).csis = s.csis := rfl
@[simp] theorem State.setFifo_isp (s : State) (n : Nat) (c : FifoSt) : (s.setFifo n c).isp = s.isp := rfl
@[simp] theorem State.setFifo_visr (s : State) (n : Nat) (c : FifoSt) : (s.setFifo n c).visr = s.visr := rfl
@[simp] theorem State.setFifo_hrx (s : State) (n : Nat) (c : FifoSt) : (s.setFifo n c).hrx = s.hrx := rfl
@[simp] theorem State.setFifo_htx (s : State) (n : Nat) (c : FifoSt) : (s.setFifo n c).htx = s.htx := rfl
@[simp] theorem State.setFifo_comp (s : State) (n : Nat) (c : FifoSt) : (s.setFifo n c).comp = s.comp := rfl
@[simp] theorem State.setFifo_aport (s : State) (n : Nat) (c : FifoSt) : (s.setFifo n c).aport = s.aport := rfl
@[simp] theorem State.setFifo_mpt (s : State) (n : Nat) (c : FifoSt) : (s.setFifo n c).mpt = s.mpt := rfl
@[simp] theorem State.setFifo_spout (s : State) (n : Nat) (c : FifoSt) : (s.setFifo n c).spout = s.spout := rfl
@[simp] theorem State.setFifo_strn (s : State) (n : Nat) (c : FifoSt) : (s.setFifo n c).strn = s.strn := rfl
@[simp] theorem State.setFifo_ptp (s : State) (n : Nat) (c : FifoSt) : (s.setFifo n c).ptp = s.ptp := rfl
@[simp] theorem State.setFifo_nvm (s : State) (n : Nat) (c : FifoSt) : (s.setFifo n c).nvm = s.nvm := rfl
@[simp] theorem State.setFifo_out (s : State) (n : Nat) (c : FifoSt) : (s.setFifo n c).out = s.out := rfl
@[simp] theorem State.setFifo_free (s : State) (n : Nat) (c : FifoSt) : (s.setFifo n c).free = s.free := rfl
@[simp] theorem State.setFifo_pending (s : State) (n : Nat) (c : FifoSt) : (s.setFifo n c).pending = s.pending := rfl

@[simp] theorem State.setDmc_mtime (s : State) (n : Nat) (c : DmcSt) : (s.setDmc n c).mtime = s.mtime := rfl
@[simp] theorem State.setDmc_regs (s : State) (n : Nat) (c : DmcSt) : (s.setDmc n c).regs = s.regs := rfl
@[simp] theorem State.setDmc_act (s : State) (n : Nat) (c : DmcSt) : (s.setDmc n c).act = s.act := rfl
@[simp] theorem State.setDmc_dram (s : State) (n : Nat) (c : DmcSt) : (s.setDmc n c).dram = s.dram := rfl
@[simp] theorem State.setDmc_sys (s : State) (n : Nat) (c : DmcSt) : (s.setDmc n c).sys = s.sys := rfl
@[simp] theorem State.setDmc_intc (s : State) (n : Nat) (c : DmcSt) : (s.setDmc n c).intc = s.intc := rfl
@[simp] theorem State.setDmc_hif (s : State) (n : Nat) (c : DmcSt) : (s.setDmc n c).hif = s.hif := rfl
@[simp] theorem State.setDmc_reg (s : State) (n : Nat) (c : DmcSt) : (s.setDmc n c).reg = s.reg := rfl
@[simp] theorem State.setDmc_auxs (s : State) (n : Nat) (c : DmcSt) : (s.setDmc n c).auxs = s.auxs := rfl
@[simp] theorem State.setDmc_caddy (s : State) (n : Nat) (c : DmcSt) : (s.setDmc n c).caddy = s.caddy := rfl
@[simp] theorem State.setDmc_tim (s : State) (n : Nat) (c : DmcSt) : (s.setDmc n c).tim = s.tim := rfl
@[simp] theorem State.setDmc_prs (s : State) (n : Nat) (c : DmcSt) : (s.setDmc n c).prs = s.prs := rfl
@[simp] theorem State.setDmc_fifos (s : State) (n : Nat) (c : DmcSt) : (s.setDmc n c).fifos = s.fifos := rfl
@[simp] theorem State.setDmc_mbx (s : State) (n : Nat) (c : DmcSt) : (s.setDmc n c).mbx = s.mbx := rfl
@[simp] theorem State.setDmc_dqos (s : State) (n : Nat) (c : DmcSt) : (s.setDmc n c).dqos = s.dqos := rfl
@[simp] theorem State.setDmc_cells (s : State) (n : Nat) (c : DmcSt) : (s.setDmc n c).cells = s.cells := rfl
@[simp] theorem State.setDmc_csch (s : State) (n : Nat) (c : DmcSt) : (s.setDmc n c).csch = s.csch := rfl
@[simp] theorem State.setDmc_csis (s : State) (n : Nat) (c : DmcSt) : (s.setDmc n c).csis = s.csis := rfl
@[simp] theorem State.setDmc_isp (s : State) (n : Nat) (c : DmcSt) : (s.setDmc n c).isp = s.isp := rfl
@[simp] theorem State.setDmc_visr (s : State) (n : Nat) (c : DmcSt) : (s.setDmc n c).visr = s.visr := rfl
@[simp] theorem State.setDmc_hrx (s : State) (n : Nat) (c : DmcSt) : (s.setDmc n c).hrx = s.hrx := rfl
@[simp] theorem State.setDmc_htx (s : State) (n : Nat) (c : DmcSt) : (s.setDmc n c).htx = s.htx := rfl
@[simp] theorem State.setDmc_comp (s : State) (n : Nat) (c : DmcSt) : (s.setDmc n c).comp = s.comp := rfl
@[simp] theorem State.setDmc_aport (s : State) (n : Nat) (c : DmcSt) : (s.setDmc n c).aport = s.aport := rfl
@[simp] theorem State.setDmc_mpt (s : State) (n : Nat) (c : DmcSt) : (s.setDmc n c).mpt = s.mpt := rfl
@[simp] theorem State.setDmc_spout (s : State) (n : Nat) (c : DmcSt) : (s.setDmc n c).spout = s.spout := rfl
@[simp] theorem State.setDmc_strn (s : State) (n : Nat) (c : DmcSt) : (s.setDmc n c).strn = s.strn := rfl
@[simp] theorem State.setDmc_ptp (s : State) (n : Nat) (c : DmcSt) : (s.setDmc n c).ptp = s.ptp := rfl
@[simp] theorem State.setDmc_nvm (s : State) (n : Nat) (c : DmcSt) : (s.setDmc n c).nvm = s.nvm := rfl
@[simp] theorem State.setDmc_out (s : State) (n : Nat) (c : DmcSt) : (s.setDmc n c).out = s.out := rfl
@[simp] theorem State.setDmc_free (s : State) (n : Nat) (c : DmcSt) : (s.setDmc n c).free = s.free := rfl
@[simp] theorem State.setDmc_pending (s : State) (n : Nat) (c : DmcSt) : (s.setDmc n c).pending = s.pending := rfl

@[simp] theorem State.setCsi_mtime (s : State) (n : Nat) (c : CsiSt) : (s.setCsi n c).mtime = s.mtime := rfl
@[simp] theorem State.setCsi_regs (s : State) (n : Nat) (c : CsiSt) : (s.setCsi n c).regs = s.regs := rfl
@[simp] theorem State.setCsi_act (s : State) (n : Nat) (c : CsiSt) : (s.setCsi n c).act = s.act := rfl
@[simp] theorem State.setCsi_dram (s : State) (n : Nat) (c : CsiSt) : (s.setCsi n c).dram = s.dram := rfl
@[simp] theorem State.setCsi_sys (s : State) (n : Nat) (c : CsiSt) : (s.setCsi n c).sys = s.sys := rfl
@[simp] theorem State.setCsi_intc (s : State) (n : Nat) (c : CsiSt) : (s.setCsi n c).intc = s.intc := rfl
@[simp] theorem State.setCsi_hif (s : State) (n : Nat) (c : CsiSt) : (s.setCsi n c).hif = s.hif := rfl
@[simp] theorem State.setCsi_reg (s : State) (n : Nat) (c : CsiSt) : (s.setCsi n c).reg = s.reg := rfl
@[simp] theorem State.setCsi_auxs (s : State) (n : Nat) (c : CsiSt) : (s.setCsi n c).auxs = s.auxs := rfl
@[simp] theorem State.setCsi_caddy (s : State) (n : Nat) (c : CsiSt) : (s.setCsi n c).caddy = s.caddy := rfl
@[simp] theorem State.setCsi_tim (s : State) (n : Nat) (c : CsiSt) : (s.setCsi n c).tim = s.tim := rfl
@[simp] theorem State.setCsi_prs (s : State) (n : Nat) (c : CsiSt) : (s.setCsi n c).prs = s.prs := rfl
@[simp] theorem State.setCsi_fifos (s : State) (n : Nat) (c : CsiSt) : (s.setCsi n c).fifos = s.fifos := rfl
@[simp] theorem State.setCsi_mbx (s : State) (n : Nat) (c : CsiSt) : (s.setCsi n c).mbx = s.mbx := rfl
@[simp] theorem State.setCsi_dmcs (s : State) (n : Nat) (c : CsiSt) : (s.setCsi n c).dmcs = s.dmcs := rfl
@[simp] theorem State.setCsi_dqos (s : State) (n : Nat) (c : CsiSt) : (s.setCsi n c).dqos = s.dqos := rfl
@[simp] theorem State.setCsi_cells (s : State) (n : Nat) (c : CsiSt) : (s.setCsi n c).cells = s.cells := rfl
@[simp] theorem State.setCsi_csch (s : State) (n : Nat) (c : CsiSt) : (s.setCsi n c).csch = s.csch := rfl
@[simp] theorem State.setCsi_isp (s : State) (n : Nat) (c : CsiSt) : (s.setCsi n c).isp = s.isp := rfl
@[simp] theorem State.setCsi_visr (s : State) (n : Nat) (c : CsiSt) : (s.setCsi n c).visr = s.visr := rfl
@[simp] theorem State.setCsi_hrx (s : State) (n : Nat) (c : CsiSt) : (s.setCsi n c).hrx = s.hrx := rfl
@[simp] theorem State.setCsi_htx (s : State) (n : Nat) (c : CsiSt) : (s.setCsi n c).htx = s.htx := rfl
@[simp] theorem State.setCsi_comp (s : State) (n : Nat) (c : CsiSt) : (s.setCsi n c).comp = s.comp := rfl
@[simp] theorem State.setCsi_aport (s : State) (n : Nat) (c : CsiSt) : (s.setCsi n c).aport = s.aport := rfl
@[simp] theorem State.setCsi_mpt (s : State) (n : Nat) (c : CsiSt) : (s.setCsi n c).mpt = s.mpt := rfl
@[simp] theorem State.setCsi_spout (s : State) (n : Nat) (c : CsiSt) : (s.setCsi n c).spout = s.spout := rfl
@[simp] theorem State.setCsi_strn (s : State) (n : Nat) (c : CsiSt) : (s.setCsi n c).strn = s.strn := rfl
@[simp] theorem State.setCsi_ptp (s : State) (n : Nat) (c : CsiSt) : (s.setCsi n c).ptp = s.ptp := rfl
@[simp] theorem State.setCsi_nvm (s : State) (n : Nat) (c : CsiSt) : (s.setCsi n c).nvm = s.nvm := rfl
@[simp] theorem State.setCsi_out (s : State) (n : Nat) (c : CsiSt) : (s.setCsi n c).out = s.out := rfl
@[simp] theorem State.setCsi_free (s : State) (n : Nat) (c : CsiSt) : (s.setCsi n c).free = s.free := rfl
@[simp] theorem State.setCsi_pending (s : State) (n : Nat) (c : CsiSt) : (s.setCsi n c).pending = s.pending := rfl

@[simp] theorem State.setRing_mtime (s : State) (r : Nat) (c : RingSt) : (s.setRing r c).mtime = s.mtime := rfl
@[simp] theorem State.setRing_regs (s : State) (r : Nat) (c : RingSt) : (s.setRing r c).regs = s.regs := rfl
@[simp] theorem State.setRing_act (s : State) (r : Nat) (c : RingSt) : (s.setRing r c).act = s.act := rfl
@[simp] theorem State.setRing_dram (s : State) (r : Nat) (c : RingSt) : (s.setRing r c).dram = s.dram := rfl
@[simp] theorem State.setRing_sys (s : State) (r : Nat) (c : RingSt) : (s.setRing r c).sys = s.sys := rfl
@[simp] theorem State.setRing_intc (s : State) (r : Nat) (c : RingSt) : (s.setRing r c).intc = s.intc := rfl
@[simp] theorem State.setRing_hif (s : State) (r : Nat) (c : RingSt) : (s.setRing r c).hif = s.hif := rfl
@[simp] theorem State.setRing_reg (s : State) (r : Nat) (c : RingSt) : (s.setRing r c).reg = s.reg := rfl
@[simp] theorem State.setRing_auxs (s : State) (r : Nat) (c : RingSt) : (s.setRing r c).auxs = s.auxs := rfl
@[simp] theorem State.setRing_caddy (s : State) (r : Nat) (c : RingSt) : (s.setRing r c).caddy = s.caddy := rfl
@[simp] theorem State.setRing_tim (s : State) (r : Nat) (c : RingSt) : (s.setRing r c).tim = s.tim := rfl
@[simp] theorem State.setRing_prs (s : State) (r : Nat) (c : RingSt) : (s.setRing r c).prs = s.prs := rfl
@[simp] theorem State.setRing_fifos (s : State) (r : Nat) (c : RingSt) : (s.setRing r c).fifos = s.fifos := rfl
@[simp] theorem State.setRing_mbx (s : State) (r : Nat) (c : RingSt) : (s.setRing r c).mbx = s.mbx := rfl
@[simp] theorem State.setRing_dmcs (s : State) (r : Nat) (c : RingSt) : (s.setRing r c).dmcs = s.dmcs := rfl
@[simp] theorem State.setRing_dqos (s : State) (r : Nat) (c : RingSt) : (s.setRing r c).dqos = s.dqos := rfl
@[simp] theorem State.setRing_cells (s : State) (r : Nat) (c : RingSt) : (s.setRing r c).cells = s.cells := rfl
@[simp] theorem State.setRing_csis (s : State) (r : Nat) (c : RingSt) : (s.setRing r c).csis = s.csis := rfl
@[simp] theorem State.setRing_isp (s : State) (r : Nat) (c : RingSt) : (s.setRing r c).isp = s.isp := rfl
@[simp] theorem State.setRing_visr (s : State) (r : Nat) (c : RingSt) : (s.setRing r c).visr = s.visr := rfl
@[simp] theorem State.setRing_hrx (s : State) (r : Nat) (c : RingSt) : (s.setRing r c).hrx = s.hrx := rfl
@[simp] theorem State.setRing_htx (s : State) (r : Nat) (c : RingSt) : (s.setRing r c).htx = s.htx := rfl
@[simp] theorem State.setRing_comp (s : State) (r : Nat) (c : RingSt) : (s.setRing r c).comp = s.comp := rfl
@[simp] theorem State.setRing_aport (s : State) (r : Nat) (c : RingSt) : (s.setRing r c).aport = s.aport := rfl
@[simp] theorem State.setRing_mpt (s : State) (r : Nat) (c : RingSt) : (s.setRing r c).mpt = s.mpt := rfl
@[simp] theorem State.setRing_spout (s : State) (r : Nat) (c : RingSt) : (s.setRing r c).spout = s.spout := rfl
@[simp] theorem State.setRing_strn (s : State) (r : Nat) (c : RingSt) : (s.setRing r c).strn = s.strn := rfl
@[simp] theorem State.setRing_ptp (s : State) (r : Nat) (c : RingSt) : (s.setRing r c).ptp = s.ptp := rfl
@[simp] theorem State.setRing_nvm (s : State) (r : Nat) (c : RingSt) : (s.setRing r c).nvm = s.nvm := rfl
@[simp] theorem State.setRing_out (s : State) (r : Nat) (c : RingSt) : (s.setRing r c).out = s.out := rfl
@[simp] theorem State.setRing_free (s : State) (r : Nat) (c : RingSt) : (s.setRing r c).free = s.free := rfl
@[simp] theorem State.setRing_pending (s : State) (r : Nat) (c : RingSt) : (s.setRing r c).pending = s.pending := rfl

@[simp] theorem State.setPort_mtime (s : State) (k : Nat) (c : ApPort) : (s.setPort k c).mtime = s.mtime := rfl
@[simp] theorem State.setPort_regs (s : State) (k : Nat) (c : ApPort) : (s.setPort k c).regs = s.regs := rfl
@[simp] theorem State.setPort_act (s : State) (k : Nat) (c : ApPort) : (s.setPort k c).act = s.act := rfl
@[simp] theorem State.setPort_dram (s : State) (k : Nat) (c : ApPort) : (s.setPort k c).dram = s.dram := rfl
@[simp] theorem State.setPort_sys (s : State) (k : Nat) (c : ApPort) : (s.setPort k c).sys = s.sys := rfl
@[simp] theorem State.setPort_intc (s : State) (k : Nat) (c : ApPort) : (s.setPort k c).intc = s.intc := rfl
@[simp] theorem State.setPort_hif (s : State) (k : Nat) (c : ApPort) : (s.setPort k c).hif = s.hif := rfl
@[simp] theorem State.setPort_reg (s : State) (k : Nat) (c : ApPort) : (s.setPort k c).reg = s.reg := rfl
@[simp] theorem State.setPort_auxs (s : State) (k : Nat) (c : ApPort) : (s.setPort k c).auxs = s.auxs := rfl
@[simp] theorem State.setPort_caddy (s : State) (k : Nat) (c : ApPort) : (s.setPort k c).caddy = s.caddy := rfl
@[simp] theorem State.setPort_tim (s : State) (k : Nat) (c : ApPort) : (s.setPort k c).tim = s.tim := rfl
@[simp] theorem State.setPort_prs (s : State) (k : Nat) (c : ApPort) : (s.setPort k c).prs = s.prs := rfl
@[simp] theorem State.setPort_fifos (s : State) (k : Nat) (c : ApPort) : (s.setPort k c).fifos = s.fifos := rfl
@[simp] theorem State.setPort_mbx (s : State) (k : Nat) (c : ApPort) : (s.setPort k c).mbx = s.mbx := rfl
@[simp] theorem State.setPort_dmcs (s : State) (k : Nat) (c : ApPort) : (s.setPort k c).dmcs = s.dmcs := rfl
@[simp] theorem State.setPort_dqos (s : State) (k : Nat) (c : ApPort) : (s.setPort k c).dqos = s.dqos := rfl
@[simp] theorem State.setPort_cells (s : State) (k : Nat) (c : ApPort) : (s.setPort k c).cells = s.cells := rfl
@[simp] theorem State.setPort_csch (s : State) (k : Nat) (c : ApPort) : (s.setPort k c).csch = s.csch := rfl
@[simp] theorem State.setPort_csis (s : State) (k : Nat) (c : ApPort) : (s.setPort k c).csis = s.csis := rfl
@[simp] theorem State.setPort_isp (s : State) (k : Nat) (c : ApPort) : (s.setPort k c).isp = s.isp := rfl
@[simp] theorem State.setPort_visr (s : State) (k : Nat) (c : ApPort) : (s.setPort k c).visr = s.visr := rfl
@[simp] theorem State.setPort_hrx (s : State) (k : Nat) (c : ApPort) : (s.setPort k c).hrx = s.hrx := rfl
@[simp] theorem State.setPort_htx (s : State) (k : Nat) (c : ApPort) : (s.setPort k c).htx = s.htx := rfl
@[simp] theorem State.setPort_comp (s : State) (k : Nat) (c : ApPort) : (s.setPort k c).comp = s.comp := rfl
@[simp] theorem State.setPort_mpt (s : State) (k : Nat) (c : ApPort) : (s.setPort k c).mpt = s.mpt := rfl
@[simp] theorem State.setPort_spout (s : State) (k : Nat) (c : ApPort) : (s.setPort k c).spout = s.spout := rfl
@[simp] theorem State.setPort_strn (s : State) (k : Nat) (c : ApPort) : (s.setPort k c).strn = s.strn := rfl
@[simp] theorem State.setPort_ptp (s : State) (k : Nat) (c : ApPort) : (s.setPort k c).ptp = s.ptp := rfl
@[simp] theorem State.setPort_nvm (s : State) (k : Nat) (c : ApPort) : (s.setPort k c).nvm = s.nvm := rfl
@[simp] theorem State.setPort_out (s : State) (k : Nat) (c : ApPort) : (s.setPort k c).out = s.out := rfl
@[simp] theorem State.setPort_free (s : State) (k : Nat) (c : ApPort) : (s.setPort k c).free = s.free := rfl
@[simp] theorem State.setPort_pending (s : State) (k : Nat) (c : ApPort) : (s.setPort k c).pending = s.pending := rfl

@[simp] theorem State.setLoop_mtime (s : State) (d : TimDom) (l : LoopSt) : (s.setLoop d l).mtime = s.mtime := by cases d <;> rfl
@[simp] theorem State.setLoop_regs (s : State) (d : TimDom) (l : LoopSt) : (s.setLoop d l).regs = s.regs := by cases d <;> rfl
@[simp] theorem State.setLoop_act (s : State) (d : TimDom) (l : LoopSt) : (s.setLoop d l).act = s.act := by cases d <;> rfl
@[simp] theorem State.setLoop_dram (s : State) (d : TimDom) (l : LoopSt) : (s.setLoop d l).dram = s.dram := by cases d <;> rfl
@[simp] theorem State.setLoop_sys (s : State) (d : TimDom) (l : LoopSt) : (s.setLoop d l).sys = s.sys := by cases d <;> rfl
@[simp] theorem State.setLoop_intc (s : State) (d : TimDom) (l : LoopSt) : (s.setLoop d l).intc = s.intc := by cases d <;> rfl
@[simp] theorem State.setLoop_hif (s : State) (d : TimDom) (l : LoopSt) : (s.setLoop d l).hif = s.hif := by cases d <;> rfl
@[simp] theorem State.setLoop_reg (s : State) (d : TimDom) (l : LoopSt) : (s.setLoop d l).reg = s.reg := by cases d <;> rfl
@[simp] theorem State.setLoop_auxs (s : State) (d : TimDom) (l : LoopSt) : (s.setLoop d l).auxs = s.auxs := by cases d <;> rfl
@[simp] theorem State.setLoop_caddy (s : State) (d : TimDom) (l : LoopSt) : (s.setLoop d l).caddy = s.caddy := by cases d <;> rfl
@[simp] theorem State.setLoop_prs (s : State) (d : TimDom) (l : LoopSt) : (s.setLoop d l).prs = s.prs := by cases d <;> rfl
@[simp] theorem State.setLoop_fifos (s : State) (d : TimDom) (l : LoopSt) : (s.setLoop d l).fifos = s.fifos := by cases d <;> rfl
@[simp] theorem State.setLoop_mbx (s : State) (d : TimDom) (l : LoopSt) : (s.setLoop d l).mbx = s.mbx := by cases d <;> rfl
@[simp] theorem State.setLoop_dmcs (s : State) (d : TimDom) (l : LoopSt) : (s.setLoop d l).dmcs = s.dmcs := by cases d <;> rfl
@[simp] theorem State.setLoop_dqos (s : State) (d : TimDom) (l : LoopSt) : (s.setLoop d l).dqos = s.dqos := by cases d <;> rfl
@[simp] theorem State.setLoop_cells (s : State) (d : TimDom) (l : LoopSt) : (s.setLoop d l).cells = s.cells := by cases d <;> rfl
@[simp] theorem State.setLoop_csch (s : State) (d : TimDom) (l : LoopSt) : (s.setLoop d l).csch = s.csch := by cases d <;> rfl
@[simp] theorem State.setLoop_csis (s : State) (d : TimDom) (l : LoopSt) : (s.setLoop d l).csis = s.csis := by cases d <;> rfl
@[simp] theorem State.setLoop_isp (s : State) (d : TimDom) (l : LoopSt) : (s.setLoop d l).isp = s.isp := by cases d <;> rfl
@[simp] theorem State.setLoop_visr (s : State) (d : TimDom) (l : LoopSt) : (s.setLoop d l).visr = s.visr := by cases d <;> rfl
@[simp] theorem State.setLoop_hrx (s : State) (d : TimDom) (l : LoopSt) : (s.setLoop d l).hrx = s.hrx := by cases d <;> rfl
@[simp] theorem State.setLoop_htx (s : State) (d : TimDom) (l : LoopSt) : (s.setLoop d l).htx = s.htx := by cases d <;> rfl
@[simp] theorem State.setLoop_comp (s : State) (d : TimDom) (l : LoopSt) : (s.setLoop d l).comp = s.comp := by cases d <;> rfl
@[simp] theorem State.setLoop_aport (s : State) (d : TimDom) (l : LoopSt) : (s.setLoop d l).aport = s.aport := by cases d <;> rfl
@[simp] theorem State.setLoop_mpt (s : State) (d : TimDom) (l : LoopSt) : (s.setLoop d l).mpt = s.mpt := by cases d <;> rfl
@[simp] theorem State.setLoop_spout (s : State) (d : TimDom) (l : LoopSt) : (s.setLoop d l).spout = s.spout := by cases d <;> rfl
@[simp] theorem State.setLoop_strn (s : State) (d : TimDom) (l : LoopSt) : (s.setLoop d l).strn = s.strn := by cases d <;> rfl
@[simp] theorem State.setLoop_ptp (s : State) (d : TimDom) (l : LoopSt) : (s.setLoop d l).ptp = s.ptp := by cases d <;> rfl
@[simp] theorem State.setLoop_nvm (s : State) (d : TimDom) (l : LoopSt) : (s.setLoop d l).nvm = s.nvm := by cases d <;> rfl
@[simp] theorem State.setLoop_out (s : State) (d : TimDom) (l : LoopSt) : (s.setLoop d l).out = s.out := by cases d <;> rfl
@[simp] theorem State.setLoop_free (s : State) (d : TimDom) (l : LoopSt) : (s.setLoop d l).free = s.free := by cases d <;> rfl
@[simp] theorem State.setLoop_pending (s : State) (d : TimDom) (l : LoopSt) : (s.setLoop d l).pending = s.pending := by cases d <;> rfl

@[simp] theorem State.setOuts_mtime (s : State) (o : OutsSt) : (s.setOuts o).mtime = s.mtime := rfl
@[simp] theorem State.setOuts_regs (s : State) (o : OutsSt) : (s.setOuts o).regs = s.regs := rfl
@[simp] theorem State.setOuts_act (s : State) (o : OutsSt) : (s.setOuts o).act = s.act := rfl
@[simp] theorem State.setOuts_dram (s : State) (o : OutsSt) : (s.setOuts o).dram = s.dram := rfl
@[simp] theorem State.setOuts_sys (s : State) (o : OutsSt) : (s.setOuts o).sys = s.sys := rfl
@[simp] theorem State.setOuts_intc (s : State) (o : OutsSt) : (s.setOuts o).intc = s.intc := rfl
@[simp] theorem State.setOuts_hif (s : State) (o : OutsSt) : (s.setOuts o).hif = s.hif := rfl
@[simp] theorem State.setOuts_reg (s : State) (o : OutsSt) : (s.setOuts o).reg = s.reg := rfl
@[simp] theorem State.setOuts_auxs (s : State) (o : OutsSt) : (s.setOuts o).auxs = s.auxs := rfl
@[simp] theorem State.setOuts_caddy (s : State) (o : OutsSt) : (s.setOuts o).caddy = s.caddy := rfl
@[simp] theorem State.setOuts_prs (s : State) (o : OutsSt) : (s.setOuts o).prs = s.prs := rfl
@[simp] theorem State.setOuts_fifos (s : State) (o : OutsSt) : (s.setOuts o).fifos = s.fifos := rfl
@[simp] theorem State.setOuts_mbx (s : State) (o : OutsSt) : (s.setOuts o).mbx = s.mbx := rfl
@[simp] theorem State.setOuts_dmcs (s : State) (o : OutsSt) : (s.setOuts o).dmcs = s.dmcs := rfl
@[simp] theorem State.setOuts_dqos (s : State) (o : OutsSt) : (s.setOuts o).dqos = s.dqos := rfl
@[simp] theorem State.setOuts_cells (s : State) (o : OutsSt) : (s.setOuts o).cells = s.cells := rfl
@[simp] theorem State.setOuts_csch (s : State) (o : OutsSt) : (s.setOuts o).csch = s.csch := rfl
@[simp] theorem State.setOuts_csis (s : State) (o : OutsSt) : (s.setOuts o).csis = s.csis := rfl
@[simp] theorem State.setOuts_isp (s : State) (o : OutsSt) : (s.setOuts o).isp = s.isp := rfl
@[simp] theorem State.setOuts_visr (s : State) (o : OutsSt) : (s.setOuts o).visr = s.visr := rfl
@[simp] theorem State.setOuts_hrx (s : State) (o : OutsSt) : (s.setOuts o).hrx = s.hrx := rfl
@[simp] theorem State.setOuts_htx (s : State) (o : OutsSt) : (s.setOuts o).htx = s.htx := rfl
@[simp] theorem State.setOuts_comp (s : State) (o : OutsSt) : (s.setOuts o).comp = s.comp := rfl
@[simp] theorem State.setOuts_aport (s : State) (o : OutsSt) : (s.setOuts o).aport = s.aport := rfl
@[simp] theorem State.setOuts_mpt (s : State) (o : OutsSt) : (s.setOuts o).mpt = s.mpt := rfl
@[simp] theorem State.setOuts_spout (s : State) (o : OutsSt) : (s.setOuts o).spout = s.spout := rfl
@[simp] theorem State.setOuts_strn (s : State) (o : OutsSt) : (s.setOuts o).strn = s.strn := rfl
@[simp] theorem State.setOuts_ptp (s : State) (o : OutsSt) : (s.setOuts o).ptp = s.ptp := rfl
@[simp] theorem State.setOuts_nvm (s : State) (o : OutsSt) : (s.setOuts o).nvm = s.nvm := rfl
@[simp] theorem State.setOuts_out (s : State) (o : OutsSt) : (s.setOuts o).out = s.out := rfl
@[simp] theorem State.setOuts_free (s : State) (o : OutsSt) : (s.setOuts o).free = s.free := rfl
@[simp] theorem State.setOuts_pending (s : State) (o : OutsSt) : (s.setOuts o).pending = s.pending := rfl

@[simp] theorem State.setOut_mtime (s : State) (o : Nat) (x : OutSt) : (s.setOut o x).mtime = s.mtime := rfl
@[simp] theorem State.setOut_regs (s : State) (o : Nat) (x : OutSt) : (s.setOut o x).regs = s.regs := rfl
@[simp] theorem State.setOut_act (s : State) (o : Nat) (x : OutSt) : (s.setOut o x).act = s.act := rfl
@[simp] theorem State.setOut_dram (s : State) (o : Nat) (x : OutSt) : (s.setOut o x).dram = s.dram := rfl
@[simp] theorem State.setOut_sys (s : State) (o : Nat) (x : OutSt) : (s.setOut o x).sys = s.sys := rfl
@[simp] theorem State.setOut_intc (s : State) (o : Nat) (x : OutSt) : (s.setOut o x).intc = s.intc := rfl
@[simp] theorem State.setOut_hif (s : State) (o : Nat) (x : OutSt) : (s.setOut o x).hif = s.hif := rfl
@[simp] theorem State.setOut_reg (s : State) (o : Nat) (x : OutSt) : (s.setOut o x).reg = s.reg := rfl
@[simp] theorem State.setOut_auxs (s : State) (o : Nat) (x : OutSt) : (s.setOut o x).auxs = s.auxs := rfl
@[simp] theorem State.setOut_caddy (s : State) (o : Nat) (x : OutSt) : (s.setOut o x).caddy = s.caddy := rfl
@[simp] theorem State.setOut_tim (s : State) (o : Nat) (x : OutSt) : (s.setOut o x).tim = s.tim := rfl
@[simp] theorem State.setOut_prs (s : State) (o : Nat) (x : OutSt) : (s.setOut o x).prs = s.prs := rfl
@[simp] theorem State.setOut_fifos (s : State) (o : Nat) (x : OutSt) : (s.setOut o x).fifos = s.fifos := rfl
@[simp] theorem State.setOut_mbx (s : State) (o : Nat) (x : OutSt) : (s.setOut o x).mbx = s.mbx := rfl
@[simp] theorem State.setOut_dmcs (s : State) (o : Nat) (x : OutSt) : (s.setOut o x).dmcs = s.dmcs := rfl
@[simp] theorem State.setOut_dqos (s : State) (o : Nat) (x : OutSt) : (s.setOut o x).dqos = s.dqos := rfl
@[simp] theorem State.setOut_cells (s : State) (o : Nat) (x : OutSt) : (s.setOut o x).cells = s.cells := rfl
@[simp] theorem State.setOut_csch (s : State) (o : Nat) (x : OutSt) : (s.setOut o x).csch = s.csch := rfl
@[simp] theorem State.setOut_csis (s : State) (o : Nat) (x : OutSt) : (s.setOut o x).csis = s.csis := rfl
@[simp] theorem State.setOut_visr (s : State) (o : Nat) (x : OutSt) : (s.setOut o x).visr = s.visr := rfl
@[simp] theorem State.setOut_hrx (s : State) (o : Nat) (x : OutSt) : (s.setOut o x).hrx = s.hrx := rfl
@[simp] theorem State.setOut_htx (s : State) (o : Nat) (x : OutSt) : (s.setOut o x).htx = s.htx := rfl
@[simp] theorem State.setOut_comp (s : State) (o : Nat) (x : OutSt) : (s.setOut o x).comp = s.comp := rfl
@[simp] theorem State.setOut_aport (s : State) (o : Nat) (x : OutSt) : (s.setOut o x).aport = s.aport := rfl
@[simp] theorem State.setOut_mpt (s : State) (o : Nat) (x : OutSt) : (s.setOut o x).mpt = s.mpt := rfl
@[simp] theorem State.setOut_spout (s : State) (o : Nat) (x : OutSt) : (s.setOut o x).spout = s.spout := rfl
@[simp] theorem State.setOut_strn (s : State) (o : Nat) (x : OutSt) : (s.setOut o x).strn = s.strn := rfl
@[simp] theorem State.setOut_ptp (s : State) (o : Nat) (x : OutSt) : (s.setOut o x).ptp = s.ptp := rfl
@[simp] theorem State.setOut_nvm (s : State) (o : Nat) (x : OutSt) : (s.setOut o x).nvm = s.nvm := rfl
@[simp] theorem State.setOut_out (s : State) (o : Nat) (x : OutSt) : (s.setOut o x).out = s.out := rfl
@[simp] theorem State.setOut_free (s : State) (o : Nat) (x : OutSt) : (s.setOut o x).free = s.free := rfl
@[simp] theorem State.setOut_pending (s : State) (o : Nat) (x : OutSt) : (s.setOut o x).pending = s.pending := rfl

@[simp] theorem State.mramWrite_mram (s : State) (a : Nat) (bs : List Byte) :
    (s.mramWrite a bs).nvm.mram = SMap.setMany memDefault s.nvm.mram a bs := rfl
@[simp] theorem State.dramWrite_dram (s : State) (a : Nat) (bs : List Byte) :
    (s.dramWrite a bs).dram = SMap.setMany memDefault s.dram a bs := rfl

/-! ### Register fields -/

/-- A stored field reads as the bits that fit in it (R9). -/
theorem State.get_put_same (s : State) (f : Fld) (v : Nat) : (s.put f v).get f = v % 2 ^ f.w :=
  SMap.get_set_same ..

/-- A field at another place keeps its content. -/
theorem State.get_put_ne (s : State) {f g : Fld} (v : Nat) (h : g.key ≠ f.key) : (s.put f v).get g = s.get g :=
  SMap.get_set_ne _ _ _ _ h

theorem State.getA_putA_same (s : State) (f : Fld) (v : Nat) : (s.putA f v).getA f = v % 2 ^ f.w :=
  SMap.get_set_same ..

theorem State.getA_putA_ne (s : State) {f g : Fld} (v : Nat) (h : g.key ≠ f.key) : (s.putA f v).getA g = s.getA g :=
  SMap.get_set_ne _ _ _ _ h

@[simp] theorem State.getA_put (s : State) (f g : Fld) (v : Nat) : (s.put f v).getA g = s.getA g := rfl
@[simp] theorem State.get_putA (s : State) (f g : Fld) (v : Nat) : (s.putA f v).get g = s.get g := rfl

/-- A state whose stored registers are another's reads as it. -/
theorem State.get_of_regs {s t : State} (h : t.regs = s.regs) (g : Fld) : t.get g = s.get g := by
  simp [State.get, h]

theorem State.bit_iff (s : State) (f : Fld) : s.bit f = true ↔ s.get f = 1 := by simp [State.bit]

@[simp] theorem State.puts_nil (s : State) : s.puts [] = s := rfl
@[simp] theorem State.puts_cons (s : State) (f : Fld) (v : Nat) (l : List (Fld × Nat)) :
    s.puts ((f, v) :: l) = (s.put f v).puts l := rfl

/-! ### Memory -/

theorem State.dramByte_write_lt (s : State) {a b : Nat} (bs : List Byte) (h : b < a) :
    (s.dramWrite a bs).dramByte b = s.dramByte b := SMap.get_setMany_lt _ _ _ _ h

theorem State.dramByte_write_ge (s : State) {a b : Nat} (bs : List Byte) (h : a + bs.length ≤ b) :
    (s.dramWrite a bs).dramByte b = s.dramByte b := SMap.get_setMany_ge _ _ _ _ h

/-- What is stored in DRAM is read back. -/
theorem State.dramHeld_write (s : State) (a : Nat) (bs : List Byte) : (s.dramWrite a bs).dramHeld a bs.length = bs :=
  SMap.getMany_setMany ..

/-- A read within the temperature window returns what DRAM holds (R199, R200). -/
theorem State.dramRead_sound {s : State} (h : dramSound s = true) (a n : Nat) : s.dramRead a n = s.dramHeld a n := by
  simp [State.dramRead, h]

/-- The temperature window does not depend on what DRAM holds. -/
@[simp] theorem State.dramSound_dramWrite (s : State) (a : Nat) (bs : List Byte) : dramSound (s.dramWrite a bs) = dramSound s := rfl

theorem State.dramWrite_wf {s : State} (a : Nat) (bs : List Byte) (h : Memory.wf s.dram = true) :
    Memory.wf (s.dramWrite a bs).dram = true := SMap.wf_setMany _ _ h

theorem State.mramWrite_wf {s : State} (a : Nat) (bs : List Byte) (h : Memory.wf s.nvm.mram = true) :
    Memory.wf (s.mramWrite a bs).nvm.mram = true := SMap.wf_setMany _ _ h

/-! ### Instances -/

theorem State.cell_setCell_same (s : State) (n : Nat) (c : CellSt) : (s.setCell n c).cell n = c := SMap.get_set_same ..
theorem State.cell_setCell_ne (s : State) {m n : Nat} (c : CellSt) (h : m ≠ n) : (s.setCell n c).cell m = s.cell m :=
  SMap.get_set_ne _ _ _ _ h
theorem State.fifo_setFifo_same (s : State) (n : Nat) (c : FifoSt) : (s.setFifo n c).fifo n = c := SMap.get_set_same ..
theorem State.fifo_setFifo_ne (s : State) {m n : Nat} (c : FifoSt) (h : m ≠ n) : (s.setFifo n c).fifo m = s.fifo m :=
  SMap.get_set_ne _ _ _ _ h
theorem State.dmc_setDmc_same (s : State) (n : Nat) (c : DmcSt) : (s.setDmc n c).dmc n = c := SMap.get_set_same ..
theorem State.csi_setCsi_same (s : State) (n : Nat) (c : CsiSt) : (s.setCsi n c).csi n = c := SMap.get_set_same ..
theorem State.ring_setRing_same (s : State) (r : Nat) (c : RingSt) : (s.setRing r c).ring r = c := SMap.get_set_same ..
theorem State.port_setPort_same (s : State) (k : Nat) (c : ApPort) : (s.setPort k c).port k = c := SMap.get_set_same ..

/-! ### The gates of every meaning -/

theorem onCore_live {s : State} (f : State → State) (h : s.live) : onCore f s = .next (f s) := by
  simp [onCore, h.1, h.2]

theorem onKa_live {s : State} (f : State → State) (h : s.kaLive) : onKa f s = .next (f s) := by
  simp [onKa, h.1, h.2]

theorem always_next (f : State → State) (s : State) : always f s = .next (f s) := rfl

/-- A meaning behind the core's gate goes on only with its effect, or, while the core is in reset, with none. -/
theorem onCore_cases {f : State → State} {s t : State} (h : onCore f s = .next t) :
    (s.sys.coreUp = true ∧ t = f s) ∨ (s.sys.coreUp = false ∧ t = s) := by
  unfold onCore at h
  split at h
  · cases h
  · split at h
    · rename_i hc; cases h; exact .inl ⟨hc, rfl⟩
    · rename_i hc; cases h; exact .inr ⟨by simpa using hc, rfl⟩

theorem onKa_cases {f : State → State} {s t : State} (h : onKa f s = .next t) :
    (s.sys.pll = true ∧ t = f s) ∨ (s.sys.pll = false ∧ t = s) := by
  unfold onKa at h
  split at h
  · cases h
  · split at h
    · rename_i hc; cases h; exact .inl ⟨hc, rfl⟩
    · rename_i hc; cases h; exact .inr ⟨by simpa using hc, rfl⟩

/-- A write of a page that answers acts (R60, R92). -/
theorem onPage_answers {p : Page} {s : State} (f : State → State) (h : s.answers p) : onPage p f s = f s := by
  simp [onPage, h.1, h.2]

theorem readOnPage_answers {p : Page} {s : State} (f : State → W32 × State) (h : s.answers p) :
    readOnPage p f s = f s := by
  simp [readOnPage, h.1, h.2]

end Sys2Proof.Machine
end

