-- ==== Sys2Proof/Laws/Frames.lean ====
section
/-! SUPPORT. Laws of the frames that statements use: what a chain of stored fields leaves as it was, and what recording
an error does. -/

namespace Sys2Proof.Machine

theorem State.regsBut_refl (s : State) (fs : List Fld) : s.regsBut s fs := fun _ _ => rfl

theorem State.regsBut_put {s t : State} {fs : List Fld} {f : Fld} (v : Nat) (h : s.regsBut t fs) (hf : f ∈ fs) :
    s.regsBut (t.put f v) fs := fun g hg => (State.get_put_ne t v (hg f hf)).trans (h g hg)

theorem State.regsBut_of_regs {s t u : State} {fs : List Fld} (h : s.regsBut t fs) (e : u.regs = t.regs) :
    s.regsBut u fs := fun g hg => (State.get_of_regs e g).trans (h g hg)

theorem State.only_refl (s : State) (fs : List Fld) : s.only s fs := ⟨rfl, s.regsBut_refl fs⟩

theorem State.only_put {s t : State} {fs : List Fld} {f : Fld} (v : Nat) (h : s.only t fs) (hf : f ∈ fs) :
    s.only (t.put f v) fs := ⟨by rw [h.1]; rfl, State.regsBut_put v h.2 hf⟩

/-- A field whose content is read after a store: its own low bits, or what it held. -/
theorem State.get_put (s : State) (f g : Fld) (v : Nat) (h : f = g ∨ g.key ≠ f.key) :
    (s.put f v).get g = if f = g then v % 2 ^ f.w else s.get g := by
  by_cases e : f = g
  · subst e; simp [State.get_put_same]
  · simp only [e, if_false]; exact State.get_put_ne s v (h.resolve_left e)

theorem recErr_only {s t : State} {fs : List Fld} (p : Page) (code : Nat) (h : s.only t fs) (hf : ∀ f ∈ errFields p, f ∈ fs) :
    s.only (recErr p code t) fs := by
  have h1 := hf (HDR.EFIRST_SRC p.base) (by simp [errFields])
  have h2 := hf (HDR.EFIRST_VALID p.base) (by simp [errFields])
  have h3 := hf (HDR.EOVF p.base) (by simp [errFields])
  have h4 := hf (HDR.ISR_ERR p.base) (by simp [errFields])
  unfold recErr; dsimp only; split
  · exact State.only_put _ (State.only_put _ h h3) h4
  · exact State.only_put _ (State.only_put _ (State.only_put _ h h1) h2) h4

theorem recErr_records (p : Page) {code : Nat} (hc : code < 2 ^ 16) (s : State) : records p code s (recErr p code s) := by
  have e1 : ∀ v, ((s.put (HDR.EFIRST_SRC p.base) v).get (HDR.EOVF p.base)) = s.get (HDR.EOVF p.base) := fun v =>
    State.get_put_ne _ _ (by simp only [Fld.key, HDR.EFIRST_SRC, HDR.EOVF]; omega)
  unfold records recErr
  by_cases hv : s.bit (HDR.EFIRST_VALID p.base) = true
  · have hg := (State.bit_iff _ _).1 hv
    simp only [hv, if_true]
    refine ⟨by rw [State.get_put_same]; rfl, by simp, fun _ => ⟨?_, ?_, ?_⟩⟩
    · rw [State.get_put_ne _ _ (by simp only [Fld.key, HDR.EFIRST_SRC, HDR.ISR_ERR]; omega),
        State.get_put_ne _ _ (by simp only [Fld.key, HDR.EFIRST_SRC, HDR.EOVF]; omega)]
    · rw [State.get_put_ne _ _ (by simp only [Fld.key, HDR.EFIRST_VALID, HDR.ISR_ERR]; omega),
        State.get_put_ne _ _ (by simp only [Fld.key, HDR.EFIRST_VALID, HDR.EOVF]; omega), hg]
    · rw [State.get_put_ne _ _ (by simp only [Fld.key, HDR.EOVF, HDR.ISR_ERR]; omega), State.get_put_same]; rfl
  · have hv' : s.bit (HDR.EFIRST_VALID p.base) = false := by simpa using hv
    simp only [hv', if_false, Bool.false_eq_true]
    refine ⟨by rw [State.get_put_same]; rfl, fun _ => ⟨?_, ?_, ?_⟩, by simp⟩
    · rw [State.get_put_ne _ _ (by simp only [Fld.key, HDR.EFIRST_SRC, HDR.ISR_ERR]; omega),
        State.get_put_ne _ _ (by simp only [Fld.key, HDR.EFIRST_SRC, HDR.EFIRST_VALID]; omega), State.get_put_same]
      simp [HDR.EFIRST_SRC]; omega
    · rw [State.get_put_ne _ _ (by simp only [Fld.key, HDR.EFIRST_VALID, HDR.ISR_ERR]; omega), State.get_put_same]; rfl
    · rw [State.get_put_ne _ _ (by simp only [Fld.key, HDR.EOVF, HDR.ISR_ERR]; omega),
        State.get_put_ne _ _ (by simp only [Fld.key, HDR.EOVF, HDR.EFIRST_VALID]; omega), e1]

end Sys2Proof.Machine
end

