-- ==== Sys2Proof/Laws/Keeps.lean ====
section
/-! SUPPORT. What every operation of the model keeps: the queue, the fuses (R67), the canonical form of both memories;
and, for the operations that do not touch them, DRAM, the MRAM and the media clock themselves. -/

namespace Sys2Proof.Machine

/-- What lies between a state and a later one: the queue and the key hash are the same, the fused SVN has not fallen,
both memories have kept their canonical form and the register files their order. Where `kd` is false DRAM is the same, where `km` is false the MRAM is, and
where `kc` is false the media clock is. -/
structure Keeps (kd km kc : Bool) (s t : State) : Prop where
  pending : t.pending = s.pending
  keyHash : t.nvm.keyHash = s.nvm.keyHash
  svn : s.nvm.svn ≤ t.nvm.svn
  dramWf : Memory.wf s.dram = true → Memory.wf t.dram = true
  mramWf : Memory.wf s.nvm.mram = true → Memory.wf t.nvm.mram = true
  regs : SMap.rising s.regs = true → SMap.rising t.regs = true
  act : SMap.rising s.act = true → SMap.rising t.act = true
  dram : kd = false → t.dram = s.dram
  mram : km = false → t.nvm.mram = s.nvm.mram
  mtime : kc = false → t.mtime = s.mtime

variable {kd km kc : Bool} {s0 s t : State}

theorem Keeps.refl (kd km kc : Bool) (s : State) : Keeps kd km kc s s :=
  ⟨rfl, rfl, Nat.le_refl _, id, id, id, id, fun _ => rfl, fun _ => rfl, fun _ => rfl⟩

/-- An update of any other part of the state. -/
theorem Keeps.upd (h : Keeps kd km kc s0 s) (h1 : t.pending = s.pending) (h2 : t.nvm.keyHash = s.nvm.keyHash)
    (h3 : t.nvm.svn = s.nvm.svn) (h4 : t.dram = s.dram) (h5 : t.nvm.mram = s.nvm.mram) (h6 : t.mtime = s.mtime)
    (h7 : t.regs = s.regs) (h8 : t.act = s.act) :
    Keeps kd km kc s0 t :=
  ⟨h1.trans h.pending, h2.trans h.keyHash, h3 ▸ h.svn, fun e => h4 ▸ h.dramWf e, fun e => h5 ▸ h.mramWf e,
    fun e => h7 ▸ h.regs e, fun e => h8 ▸ h.act e, fun e => h4.trans (h.dram e), fun e => h5.trans (h.mram e), fun e => h6.trans (h.mtime e)⟩

/-- A weaker claim of the same step. -/
theorem Keeps.weaken (h : Keeps false false false s t) : Keeps kd km kc s t :=
  ⟨h.pending, h.keyHash, h.svn, h.dramWf, h.mramWf, h.regs, h.act, fun _ => h.dram rfl, fun _ => h.mram rfl, fun _ => h.mtime rfl⟩

/-- The weakest claim of a step. -/
theorem Keeps.lift (h : Keeps kd km kc s t) : Keeps true true true s t :=
  ⟨h.pending, h.keyHash, h.svn, h.dramWf, h.mramWf, h.regs, h.act, nofun, nofun, nofun⟩

/-- One step after another. -/
theorem Keeps.trans {u : State} (a : Keeps kd km kc s0 s) (b : Keeps kd km kc s u) : Keeps kd km kc s0 u :=
  ⟨b.pending.trans a.pending, b.keyHash.trans a.keyHash, Nat.le_trans a.svn b.svn, fun e => b.dramWf (a.dramWf e),
    fun e => b.mramWf (a.mramWf e), fun e => b.regs (a.regs e), fun e => b.act (a.act e),
    fun e => (b.dram e).trans (a.dram e), fun e => (b.mram e).trans (a.mram e), fun e => (b.mtime e).trans (a.mtime e)⟩

/-- The state of a pair that a test has taken apart. -/
theorem Keeps.of_snd {α : Type} {p : α × State} {a : α} (e : p = (a, t)) (h : Keeps kd km kc s0 p.2) : Keeps kd km kc s0 t := by
  subst e; exact h

/-- A state written out: what it does not change comes from an earlier one. -/
theorem Keeps.lit {mt rg ac dr sy ic hf rr ax cd tm ps ff mb dm dq ce cs ci ip vi hr hx co ap mp sp sn pt nv ou fr pn}
    (h1 : pn = s.pending) (h2 : nv.keyHash = s.nvm.keyHash) (h3 : nv.svn = s.nvm.svn) (h4 : dr = s.dram)
    (h5 : nv.mram = s.nvm.mram) (h6 : mt = s.mtime) (h7 : rg = s.regs) (h8 : ac = s.act) (h : Keeps kd km kc s0 s) :
    Keeps kd km kc s0 ⟨mt, rg, ac, dr, sy, ic, hf, rr, ax, cd, tm, ps, ff, mb, dm, dq, ce, cs, ci, ip, vi, hr, hx, co, ap, mp, sp, sn,
      pt, nv, ou, fr, pn⟩ := h.upd h1 h2 h3 h4 h5 h6 h7 h8

theorem Keeps.of_snd2 {α β : Type} {p : α × β × State} {a : α} {b : β} (e : p = (a, b, t))
    (h : Keeps kd km kc s0 p.2.2) : Keeps kd km kc s0 t := by
  subst e; exact h

theorem Keeps.foldl {α : Type} {f : State → α → State} (hf : ∀ t x, Keeps kd km kc s0 t → Keeps kd km kc s0 (f t x))
    (h : Keeps kd km kc s0 s) (l : List α) : Keeps kd km kc s0 (l.foldl f s) := by
  induction l generalizing s with
  | nil => exact h
  | cons x l ih => exact ih (hf s x h)

theorem Keeps.foldl_snd {α β : Type} {f : β × State → α → β × State}
    (hf : ∀ a x, Keeps kd km kc s0 a.2 → Keeps kd km kc s0 (f a x).2) {a : β × State} (h : Keeps kd km kc s0 a.2)
    (l : List α) : Keeps kd km kc s0 (l.foldl f a).2 := by
  induction l generalizing a with
  | nil => exact h
  | cons x l ih => exact ih (hf a x h)

theorem Keeps.elim {α : Type} {f : α → State} {o : Option α} (h : Keeps kd km kc s0 s) (hf : ∀ a, Keeps kd km kc s0 (f a)) :
    Keeps kd km kc s0 (o.elim s f) := by
  cases o with
  | none => exact h
  | some a => exact hf a

theorem ite_keeps {c : Prop} [Decidable c] {a b : State} (ha : Keeps kd km kc s0 a) (hb : Keeps kd km kc s0 b) :
    Keeps kd km kc s0 (if c then a else b) := by
  split
  · exact ha
  · exact hb

theorem put_keeps (h : Keeps kd km kc s0 s) (f : Fld) (v : Nat) : Keeps kd km kc s0 (s.put f v) :=
  ⟨h.pending, h.keyHash, h.svn, h.dramWf, h.mramWf, fun e => SMap.rising_set _ _ _ (h.regs e), h.act, h.dram, h.mram, h.mtime⟩
theorem putA_keeps (h : Keeps kd km kc s0 s) (f : Fld) (v : Nat) : Keeps kd km kc s0 (s.putA f v) :=
  ⟨h.pending, h.keyHash, h.svn, h.dramWf, h.mramWf, h.regs, fun e => SMap.rising_set _ _ _ (h.act e), h.dram, h.mram, h.mtime⟩
theorem inc_keeps (h : Keeps kd km kc s0 s) (f : Fld) : Keeps kd km kc s0 (s.inc f) := put_keeps h _ _
theorem puts_keeps (h : Keeps kd km kc s0 s) (l : List (Fld × Nat)) : Keeps kd km kc s0 (s.puts l) := by
  induction l generalizing s with
  | nil => exact h
  | cons e l ih => exact ih (put_keeps h _ _)
theorem when_keeps {f : State → State} (hf : ∀ t, Keeps kd km kc s0 t → Keeps kd km kc s0 (f t)) (h : Keeps kd km kc s0 s)
    (b : Bool) : Keeps kd km kc s0 (s.when b f) := by
  unfold State.when; split
  · exact hf _ h
  · exact h
theorem put64_keeps (h : Keeps kd km kc s0 s) (lo hi : Fld) (v : Nat) : Keeps kd km kc s0 (s.put64 lo hi v) :=
  put_keeps (put_keeps h _ _) _ _
theorem store_keeps (h : Keeps kd km kc s0 s) (f : Fld) (w : W32) : Keeps kd km kc s0 (s.store f w) := put_keeps h _ _
theorem storeAll_keeps (h : Keeps kd km kc s0 s) (fs : List Fld) (w : W32) : Keeps kd km kc s0 (s.storeAll fs w) :=
  Keeps.foldl (fun _ _ h => store_keeps h _ _) h fs
theorem fresh_keeps (h : Keeps kd km kc s0 s) : Keeps kd km kc s0 s.fresh.2 := h.upd rfl rfl rfl rfl rfl rfl rfl rfl
theorem setCell_keeps (h : Keeps kd km kc s0 s) (n : Nat) (x : CellSt) : Keeps kd km kc s0 (s.setCell n x) :=
  h.upd rfl rfl rfl rfl rfl rfl rfl rfl
theorem setFifo_keeps (h : Keeps kd km kc s0 s) (n : Nat) (x : FifoSt) : Keeps kd km kc s0 (s.setFifo n x) :=
  h.upd rfl rfl rfl rfl rfl rfl rfl rfl
theorem setDmc_keeps (h : Keeps kd km kc s0 s) (n : Nat) (x : DmcSt) : Keeps kd km kc s0 (s.setDmc n x) :=
  h.upd rfl rfl rfl rfl rfl rfl rfl rfl
theorem setCsi_keeps (h : Keeps kd km kc s0 s) (n : Nat) (x : CsiSt) : Keeps kd km kc s0 (s.setCsi n x) :=
  h.upd rfl rfl rfl rfl rfl rfl rfl rfl
theorem setRing_keeps (h : Keeps kd km kc s0 s) (n : Nat) (x : RingSt) : Keeps kd km kc s0 (s.setRing n x) :=
  h.upd rfl rfl rfl rfl rfl rfl rfl rfl
theorem setPort_keeps (h : Keeps kd km kc s0 s) (n : Nat) (x : ApPort) : Keeps kd km kc s0 (s.setPort n x) :=
  h.upd rfl rfl rfl rfl rfl rfl rfl rfl
theorem setLoop_keeps (h : Keeps kd km kc s0 s) (d : TimDom) (x : LoopSt) : Keeps kd km kc s0 (s.setLoop d x) := by
  cases d <;> exact h.upd rfl rfl rfl rfl rfl rfl rfl rfl
theorem setOuts_keeps (h : Keeps kd km kc s0 s) (x : OutsSt) : Keeps kd km kc s0 (s.setOuts x) :=
  h.upd rfl rfl rfl rfl rfl rfl rfl rfl
theorem setOut_keeps (h : Keeps kd km kc s0 s) (n : Nat) (x : OutSt) : Keeps kd km kc s0 (s.setOut n x) :=
  h.upd rfl rfl rfl rfl rfl rfl rfl rfl
theorem repeatFor_keeps {f : Nat → State → State} (hf : ∀ i t, Keeps kd km kc s0 t → Keeps kd km kc s0 (f i t))
    (h : Keeps kd km kc s0 s) (n : Nat) : Keeps kd km kc s0 (repeatFor n f s) :=
  Keeps.foldl (fun t i h => hf i t h) h _
theorem dramWrite_keeps (h : Keeps true km kc s0 s) (a : Nat) (bs : List Byte) : Keeps true km kc s0 (s.dramWrite a bs) :=
  ⟨h.pending, h.keyHash, h.svn, fun e => State.dramWrite_wf a bs (h.dramWf e), h.mramWf, h.regs, h.act, nofun, h.mram, h.mtime⟩
theorem mramWrite_keeps (h : Keeps kd true kc s0 s) (a : Nat) (bs : List Byte) : Keeps kd true kc s0 (s.mramWrite a bs) :=
  ⟨h.pending, h.keyHash, h.svn, h.dramWf, fun e => State.mramWrite_wf a bs (h.mramWf e), h.regs, h.act, h.dram, nofun, h.mtime⟩
theorem Keeps.setMtime (h : Keeps kd km true s0 s) (x : Nat) : Keeps kd km true s0 { s with mtime := x } :=
  ⟨h.pending, h.keyHash, h.svn, h.dramWf, h.mramWf, h.regs, h.act, h.dram, h.mram, nofun⟩
theorem checked_keeps {f : State → State} (hf : ∀ t, Keeps kd km kc s0 t → Keeps kd km kc s0 (f t)) (h : Keeps kd km kc s0 s)
    (p : Page) (l : List (Bool × Nat)) : Keeps kd km kc s0 (checked p l f s) := by
  unfold checked; split
  · exact hf _ h
  · refine Keeps.foldl (fun t c h => ?_) h _
    unfold recErr; dsimp only; split
    · exact put_keeps (put_keeps h _ _) _ _
    · exact put_keeps (put_keeps (put_keeps h _ _) _ _) _ _

/-! ### The gates of the meanings -/

theorem onCore_keeps {f : State → State} (h : onCore f s = .next t) (hf : Keeps kd km kc s (f s)) : Keeps kd km kc s t := by
  rcases onCore_cases h with ⟨_, rfl⟩ | ⟨_, rfl⟩
  · exact hf
  · exact .refl ..

theorem onKa_keeps {f : State → State} (h : onKa f s = .next t) (hf : Keeps kd km kc s (f s)) : Keeps kd km kc s t := by
  rcases onKa_cases h with ⟨_, rfl⟩ | ⟨_, rfl⟩
  · exact hf
  · exact .refl ..

theorem always_keeps {f : State → State} (h : always f s = .next t) (hf : Keeps kd km kc s (f s)) : Keeps kd km kc s t := by
  cases h; exact hf

end Sys2Proof.Machine
end

