-- ==== Sys2Proof/Laws/KeepsSystem.lean ====
section
/-! SUPPORT. What the operations of the system pages: resets, the core supply, Caddy, the clock references, PRS and the host link keep (`Keeps`),
one lemma for each. -/

namespace Sys2Proof.Machine

variable {kd km kc : Bool} {s0 t : State}

/-! ### Machine/Ops.lean -/

theorem copyShadows_keeps {s : State} (h : Keeps kd km kc s0 s) (p : Page) : Keeps kd km kc s0 (copyShadows p s) :=
  ⟨h.pending, h.keyHash, h.svn, h.dramWf, h.mramWf, h.regs,
    fun e => SMap.rising_foldInsert _ (SMap.rising_drop _ (h.act e)), h.dram, h.mram, h.mtime⟩

theorem resetFields_keeps {s : State} (h : Keeps kd km kc s0 s) (p : Page) : Keeps kd km kc s0 (resetFields p s) :=
  ⟨h.pending, h.keyHash, h.svn, h.dramWf, h.mramWf, fun e => SMap.rising_drop _ (h.regs e),
    fun e => SMap.rising_drop _ (h.act e), h.dram, h.mram, h.mtime⟩

/-! ### Machine/Flags.lean -/

theorem recErr_keeps {s : State} (h : Keeps kd km kc s0 s) (p : Page) (code : Nat) :
    Keeps kd km kc s0 (recErr p code s) := by
  unfold recErr
  try dsimp only
  repeat' first | with_reducible assumption | with_reducible apply put_keeps | with_reducible apply Keeps.foldl
                | with_reducible apply Keeps.elim | (intros; with_reducible assumption) | (intro x) | split
                | refine Keeps.lit rfl rfl rfl rfl rfl rfl rfl rfl ?_
                | refine Keeps.of_snd (by with_reducible assumption) ?_
                | refine Keeps.of_snd2 (by with_reducible assumption) ?_

theorem clearErr_keeps {s : State} (h : Keeps kd km kc s0 s) (p : Page) :
    Keeps kd km kc s0 (clearErr p s) := by
  unfold clearErr
  try dsimp only
  repeat' first | with_reducible assumption | with_reducible apply put_keeps | with_reducible apply Keeps.foldl
                | with_reducible apply Keeps.elim | (intros; with_reducible assumption) | (intro x) | split
                | refine Keeps.lit rfl rfl rfl rfl rfl rfl rfl rfl ?_
                | refine Keeps.of_snd (by with_reducible assumption) ?_
                | refine Keeps.of_snd2 (by with_reducible assumption) ?_

theorem recErrs_keeps {s : State} (h : Keeps kd km kc s0 s) (p : Page) (codes : List Nat) :
    Keeps kd km kc s0 (recErrs p codes s) := by
  unfold recErrs
  try dsimp only
  repeat' first | with_reducible assumption | with_reducible apply recErr_keeps | with_reducible apply Keeps.foldl
                | with_reducible apply Keeps.elim | (intros; with_reducible assumption) | (intro x) | split
                | refine Keeps.lit rfl rfl rfl rfl rfl rfl rfl rfl ?_
                | refine Keeps.of_snd (by with_reducible assumption) ?_
                | refine Keeps.of_snd2 (by with_reducible assumption) ?_

theorem lowerLines_keeps {s : State} (h : Keeps kd km kc s0 s)  :
    Keeps kd km kc s0 (lowerLines s) := by
  unfold lowerLines
  try dsimp only
  repeat' first | with_reducible assumption | with_reducible apply Keeps.foldl | with_reducible apply Keeps.elim
                | (intros; with_reducible assumption) | (intro x) | split
                | refine Keeps.lit rfl rfl rfl rfl rfl rfl rfl rfl ?_
                | refine Keeps.of_snd (by with_reducible assumption) ?_
                | refine Keeps.of_snd2 (by with_reducible assumption) ?_

theorem seeLine_keeps {s : State} (h : Keeps kd km kc s0 s) (src : Nat) :
    Keeps kd km kc s0 (seeLine src s) := by
  unfold seeLine
  try dsimp only
  repeat' first | with_reducible assumption | with_reducible apply Keeps.foldl | with_reducible apply Keeps.elim
                | (intros; with_reducible assumption) | (intro x) | split
                | refine Keeps.lit rfl rfl rfl rfl rfl rfl rfl rfl ?_
                | refine Keeps.of_snd (by with_reducible assumption) ?_
                | refine Keeps.of_snd2 (by with_reducible assumption) ?_

theorem fireEdge_keeps {s : State} (h : Keeps kd km kc s0 s) (src : Nat) :
    Keeps kd km kc s0 (fireEdge src s) := by
  unfold fireEdge
  try dsimp only
  repeat' first | with_reducible assumption | with_reducible apply Keeps.foldl | with_reducible apply Keeps.elim
                | (intros; with_reducible assumption) | (intro x) | split
                | refine Keeps.lit rfl rfl rfl rfl rfl rfl rfl rfl ?_
                | refine Keeps.of_snd (by with_reducible assumption) ?_
                | refine Keeps.of_snd2 (by with_reducible assumption) ?_

theorem assertSource_keeps {s : State} (h : Keeps kd km kc s0 s) (src : Nat) :
    Keeps kd km kc s0 (assertSource src s) := by
  unfold assertSource
  try dsimp only
  repeat' first | with_reducible assumption | with_reducible apply put_keeps | with_reducible apply Keeps.foldl
                | with_reducible apply Keeps.elim | (intros; with_reducible assumption) | (intro x) | split
                | refine Keeps.lit rfl rfl rfl rfl rfl rfl rfl rfl ?_
                | refine Keeps.of_snd (by with_reducible assumption) ?_
                | refine Keeps.of_snd2 (by with_reducible assumption) ?_

theorem sampleSource_keeps {s : State} (h : Keeps kd km kc s0 s) (src : Nat) :
    Keeps kd km kc s0 (sampleSource src s) := by
  unfold sampleSource
  try dsimp only
  repeat' first | with_reducible assumption | with_reducible apply put_keeps | with_reducible apply seeLine_keeps
                | with_reducible apply Keeps.foldl | with_reducible apply Keeps.elim
                | (intros; with_reducible assumption) | (intro x) | split
                | refine Keeps.lit rfl rfl rfl rfl rfl rfl rfl rfl ?_
                | refine Keeps.of_snd (by with_reducible assumption) ?_
                | refine Keeps.of_snd2 (by with_reducible assumption) ?_

theorem sampleAll_keeps {s : State} (h : Keeps kd km kc s0 s)  :
    Keeps kd km kc s0 (sampleAll s) := by
  unfold sampleAll
  try dsimp only
  repeat' first | with_reducible assumption | with_reducible apply repeatFor_keeps
                | with_reducible apply sampleSource_keeps | with_reducible apply Keeps.foldl
                | with_reducible apply Keeps.elim | (intros; with_reducible assumption) | (intro x) | split
                | refine Keeps.lit rfl rfl rfl rfl rfl rfl rfl rfl ?_
                | refine Keeps.of_snd (by with_reducible assumption) ?_
                | refine Keeps.of_snd2 (by with_reducible assumption) ?_

theorem linkWait_keeps {s : State} (h : Keeps kd km kc s0 s) (r : LinkReq) :
    Keeps kd km kc s0 (linkWait r s) := by
  unfold linkWait
  try dsimp only
  repeat' first | with_reducible assumption | with_reducible apply Keeps.foldl | with_reducible apply Keeps.elim
                | (intros; with_reducible assumption) | (intro x) | split
                | refine Keeps.lit rfl rfl rfl rfl rfl rfl rfl rfl ?_
                | refine Keeps.of_snd (by with_reducible assumption) ?_
                | refine Keeps.of_snd2 (by with_reducible assumption) ?_

theorem onLink_keeps {f : State → State} {s : State} (hf : ∀ t, Keeps kd km kc s0 t → Keeps kd km kc s0 (f t))
    (h : Keeps kd km kc s0 s) (c : Instr) : Keeps kd km kc s0 (onLink c f s) :=
  ite_keeps (linkWait_keeps h _) (hf _ h)

theorem onPage_keeps {f : State → State} {s : State} (hf : ∀ t, Keeps kd km kc s0 t → Keeps kd km kc s0 (f t))
    (h : Keeps kd km kc s0 s) (p : Page) : Keeps kd km kc s0 (onPage p f s) := by
  unfold onPage; split
  · exact recErr_keeps h _ _
  · split
    · exact h.upd rfl rfl rfl rfl rfl rfl rfl rfl
    · exact hf _ h

theorem readOnPage_keeps {f : State → W32 × State} {s : State}
    (hf : ∀ t, Keeps kd km kc s0 t → Keeps kd km kc s0 (f t).2) (h : Keeps kd km kc s0 s) (p : Page) :
    Keeps kd km kc s0 (readOnPage p f s).2 := by
  unfold readOnPage; split
  · exact recErr_keeps h _ _
  · split
    · exact fresh_keeps h
    · exact hf _ h

/-! ### Machine/Operands.lean -/

theorem writeFld_keeps {s : State} (h : Keeps kd km kc s0 s) (d : W32) (f : Fld) :
    Keeps kd km kc s0 (writeFld d s f) := by
  unfold writeFld
  try dsimp only
  repeat' first | with_reducible assumption | with_reducible apply put_keeps | with_reducible apply store_keeps
                | with_reducible apply Keeps.foldl | with_reducible apply Keeps.elim
                | (intros; with_reducible assumption) | (intro x) | split
                | refine Keeps.lit rfl rfl rfl rfl rfl rfl rfl rfl ?_
                | refine Keeps.of_snd (by with_reducible assumption) ?_
                | refine Keeps.of_snd2 (by with_reducible assumption) ?_

theorem plainWrite_keeps {s : State} (h : Keeps kd km kc s0 s) (p : Page) (o : Nat) (d : W32) :
    Keeps kd km kc s0 (plainWrite p o d s) := by
  unfold plainWrite
  try dsimp only
  repeat' first | with_reducible assumption | with_reducible apply writeFld_keeps | with_reducible apply Keeps.foldl
                | with_reducible apply Keeps.elim | (intros; with_reducible assumption) | (intro x) | split
                | refine Keeps.lit rfl rfl rfl rfl rfl rfl rfl rfl ?_
                | refine Keeps.of_snd (by with_reducible assumption) ?_
                | refine Keeps.of_snd2 (by with_reducible assumption) ?_

/-! ### Machine/Audio.lean -/

theorem clearHist_keeps {s : State} (h : Keeps kd km kc s0 s) (k : Nat) :
    Keeps kd km kc s0 (clearHist k s) := by
  unfold clearHist
  try dsimp only
  repeat' first | with_reducible assumption | with_reducible apply setPort_keeps | with_reducible apply Keeps.foldl
                | with_reducible apply Keeps.elim | (intros; with_reducible assumption) | (intro x) | split
                | refine Keeps.lit rfl rfl rfl rfl rfl rfl rfl rfl ?_
                | refine Keeps.of_snd (by with_reducible assumption) ?_
                | refine Keeps.of_snd2 (by with_reducible assumption) ?_

theorem showOn_keeps {s : State} (h : Keeps kd km kc s0 s)  :
    Keeps kd km kc s0 (showOn s) := by
  unfold showOn
  try dsimp only
  repeat' first | with_reducible assumption | with_reducible apply put_keeps | with_reducible apply repeatFor_keeps
                | with_reducible apply clearHist_keeps | with_reducible apply Keeps.foldl
                | with_reducible apply Keeps.elim | (intros; with_reducible assumption) | (intro x) | split
                | refine Keeps.lit rfl rfl rfl rfl rfl rfl rfl rfl ?_
                | refine Keeps.of_snd (by with_reducible assumption) ?_
                | refine Keeps.of_snd2 (by with_reducible assumption) ?_

theorem showMuted_keeps {s : State} (h : Keeps kd km kc s0 s)  :
    Keeps kd km kc s0 (showMuted s) := by
  unfold showMuted
  try dsimp only
  repeat' first | with_reducible assumption | with_reducible apply put_keeps | with_reducible apply Keeps.foldl
                | with_reducible apply Keeps.elim | (intros; with_reducible assumption) | (intro x) | split
                | refine Keeps.lit rfl rfl rfl rfl rfl rfl rfl rfl ?_
                | refine Keeps.of_snd (by with_reducible assumption) ?_
                | refine Keeps.of_snd2 (by with_reducible assumption) ?_

theorem portCommand_keeps {s : State} (h : Keeps kd km kc s0 s) (unmute : Bool) (k : Nat) :
    Keeps kd km kc s0 (portCommand unmute k s) := by
  unfold portCommand
  try dsimp only
  repeat' first | with_reducible assumption | with_reducible apply put_keeps | with_reducible apply setPort_keeps
                | with_reducible apply Keeps.foldl | with_reducible apply Keeps.elim
                | (intros; with_reducible assumption) | (intro x) | split
                | refine Keeps.lit rfl rfl rfl rfl rfl rfl rfl rfl ?_
                | refine Keeps.of_snd (by with_reducible assumption) ?_
                | refine Keeps.of_snd2 (by with_reducible assumption) ?_

theorem writeMuteBit_keeps {s : State} (h : Keeps kd km kc s0 s) (unmute : Bool) (k : Nat) :
    Keeps kd km kc s0 (writeMuteBit unmute k s) := by
  unfold writeMuteBit
  try dsimp only
  repeat' first | with_reducible assumption | with_reducible apply portCommand_keeps
                | with_reducible apply Keeps.foldl | with_reducible apply Keeps.elim
                | (intros; with_reducible assumption) | (intro x) | split
                | refine Keeps.lit rfl rfl rfl rfl rfl rfl rfl rfl ?_
                | refine Keeps.of_snd (by with_reducible assumption) ?_
                | refine Keeps.of_snd2 (by with_reducible assumption) ?_

theorem writeMute_keeps {s : State} (h : Keeps kd km kc s0 s) (d : W32) :
    Keeps kd km kc s0 (writeMute d s) := by
  unfold writeMute
  try dsimp only
  repeat' first | with_reducible assumption | with_reducible apply repeatFor_keeps
                | with_reducible apply writeMuteBit_keeps | with_reducible apply Keeps.foldl
                | with_reducible apply Keeps.elim | (intros; with_reducible assumption) | (intro x) | split
                | refine Keeps.lit rfl rfl rfl rfl rfl rfl rfl rfl ?_
                | refine Keeps.of_snd (by with_reducible assumption) ?_
                | refine Keeps.of_snd2 (by with_reducible assumption) ?_

theorem portLag_keeps {s : State} (h : Keeps kd km kc s0 s) (k : Nat) (c : Nat) (p : ApPort) :
    Keeps kd km kc s0 (portLag k c p s).2 := by
  unfold portLag
  try dsimp only
  repeat' first | with_reducible assumption | with_reducible apply fresh_keeps | with_reducible apply Keeps.foldl
                | with_reducible apply Keeps.elim | (intros; with_reducible assumption) | (intro x) | split
                | refine Keeps.lit rfl rfl rfl rfl rfl rfl rfl rfl ?_
                | refine Keeps.of_snd (by with_reducible assumption) ?_
                | refine Keeps.of_snd2 (by with_reducible assumption) ?_

theorem portFsEdgeEff_keeps {s : State} (h : Keeps kd km kc s0 s) (k : Nat) (xs : List W32) :
    Keeps kd km kc s0 (portFsEdgeEff k xs s) := by
  unfold portFsEdgeEff
  try dsimp only
  repeat' first | with_reducible assumption | with_reducible apply put_keeps | with_reducible apply setPort_keeps
                | with_reducible apply showMuted_keeps | with_reducible apply portLag_keeps
                | with_reducible apply Keeps.foldl | with_reducible apply Keeps.elim
                | (intros; with_reducible assumption) | (intro x) | split
                | refine Keeps.lit rfl rfl rfl rfl rfl rfl rfl rfl ?_
                | refine Keeps.of_snd (by with_reducible assumption) ?_
                | refine Keeps.of_snd2 (by with_reducible assumption) ?_

theorem restartPort_keeps {s : State} (h : Keeps kd km kc s0 s) (k : Nat) :
    Keeps kd km kc s0 (restartPort k s) := by
  unfold restartPort
  try dsimp only
  repeat' first | with_reducible assumption | with_reducible apply clearHist_keeps | with_reducible apply Keeps.foldl
                | with_reducible apply Keeps.elim | (intros; with_reducible assumption) | (intro x) | split
                | refine Keeps.lit rfl rfl rfl rfl rfl rfl rfl rfl ?_
                | refine Keeps.of_snd (by with_reducible assumption) ?_
                | refine Keeps.of_snd2 (by with_reducible assumption) ?_

theorem writePcfg_keeps {s : State} (h : Keeps kd km kc s0 s) (k : Nat) (d : W32) :
    Keeps kd km kc s0 (writePcfg k d s) := by
  unfold writePcfg
  try dsimp only
  repeat' first | with_reducible assumption | with_reducible apply storeAll_keeps | with_reducible apply checked_keeps
                | with_reducible apply restartPort_keeps | with_reducible apply Keeps.foldl
                | with_reducible apply Keeps.elim | (intros; with_reducible assumption) | (intro x) | split
                | refine Keeps.lit rfl rfl rfl rfl rfl rfl rfl rfl ?_
                | refine Keeps.of_snd (by with_reducible assumption) ?_
                | refine Keeps.of_snd2 (by with_reducible assumption) ?_

theorem writePen_keeps {s : State} (h : Keeps kd km kc s0 s) (d : W32) :
    Keeps kd km kc s0 (writePen d s) := by
  unfold writePen
  try dsimp only
  repeat' first | with_reducible assumption | with_reducible apply store_keeps | with_reducible apply showOn_keeps
                | with_reducible apply Keeps.foldl | with_reducible apply Keeps.elim
                | (intros; with_reducible assumption) | (intro x) | split
                | refine Keeps.lit rfl rfl rfl rfl rfl rfl rfl rfl ?_
                | refine Keeps.of_snd (by with_reducible assumption) ?_
                | refine Keeps.of_snd2 (by with_reducible assumption) ?_

theorem zeroSlots_keeps {s : State} (h : Keeps kd km kc s0 s) (src : Nat) (k : Nat) :
    Keeps kd km kc s0 (zeroSlots src k s) := by
  unfold zeroSlots
  try dsimp only
  repeat' first | with_reducible assumption | with_reducible apply setPort_keeps | with_reducible apply Keeps.foldl
                | with_reducible apply Keeps.elim | (intros; with_reducible assumption) | (intro x) | split
                | refine Keeps.lit rfl rfl rfl rfl rfl rfl rfl rfl ?_
                | refine Keeps.of_snd (by with_reducible assumption) ?_
                | refine Keeps.of_snd2 (by with_reducible assumption) ?_

theorem sourceStatus_keeps {s : State} (h : Keeps kd km kc s0 s) (earc : Bool) (st : Nat) :
    Keeps kd km kc s0 (sourceStatus earc st s) := by
  unfold sourceStatus
  try dsimp only
  repeat' first | with_reducible assumption | with_reducible apply put_keeps | with_reducible apply repeatFor_keeps
                | with_reducible apply zeroSlots_keeps | with_reducible apply Keeps.foldl
                | with_reducible apply Keeps.elim | (intros; with_reducible assumption) | (intro x) | split
                | refine Keeps.lit rfl rfl rfl rfl rfl rfl rfl rfl ?_
                | refine Keeps.of_snd (by with_reducible assumption) ?_
                | refine Keeps.of_snd2 (by with_reducible assumption) ?_

theorem sourceChangeEff_keeps {s : State} (h : Keeps kd km kc s0 s) (earc : Bool) (st : Nat) :
    Keeps kd km kc s0 (sourceChangeEff earc st s) := by
  unfold sourceChangeEff
  try dsimp only
  repeat' first | with_reducible assumption | with_reducible apply put_keeps | with_reducible apply sourceStatus_keeps
                | with_reducible apply Keeps.foldl | with_reducible apply Keeps.elim
                | (intros; with_reducible assumption) | (intro x) | split
                | refine Keeps.lit rfl rfl rfl rfl rfl rfl rfl rfl ?_
                | refine Keeps.of_snd (by with_reducible assumption) ?_
                | refine Keeps.of_snd2 (by with_reducible assumption) ?_

theorem resumePort_keeps {s : State} (h : Keeps kd km kc s0 s) (src : Nat) (k : Nat) :
    Keeps kd km kc s0 (resumePort src k s) := by
  unfold resumePort
  try dsimp only
  repeat' first | with_reducible assumption | with_reducible apply setPort_keeps | with_reducible apply Keeps.foldl
                | with_reducible apply Keeps.elim | (intros; with_reducible assumption) | (intro x) | split
                | refine Keeps.lit rfl rfl rfl rfl rfl rfl rfl rfl ?_
                | refine Keeps.of_snd (by with_reducible assumption) ?_
                | refine Keeps.of_snd2 (by with_reducible assumption) ?_

theorem sourceResumeEff_keeps {s : State} (h : Keeps kd km kc s0 s) (earc : Bool) :
    Keeps kd km kc s0 (sourceResumeEff earc s) := by
  unfold sourceResumeEff
  try dsimp only
  repeat' first | with_reducible assumption | with_reducible apply repeatFor_keeps
                | with_reducible apply showMuted_keeps | with_reducible apply resumePort_keeps
                | with_reducible apply Keeps.foldl | with_reducible apply Keeps.elim
                | (intros; with_reducible assumption) | (intro x) | split
                | refine Keeps.lit rfl rfl rfl rfl rfl rfl rfl rfl ?_
                | refine Keeps.of_snd (by with_reducible assumption) ?_
                | refine Keeps.of_snd2 (by with_reducible assumption) ?_

theorem aportCtl_keeps {s : State} (h : Keeps kd km kc s0 s) (d : W32) :
    Keeps kd km kc s0 (aportCtl d s) := by
  unfold aportCtl
  try dsimp only
  repeat' first | with_reducible assumption | with_reducible apply puts_keeps | with_reducible apply store_keeps
                | with_reducible apply showOn_keeps | with_reducible apply Keeps.foldl
                | with_reducible apply Keeps.elim | (intros; with_reducible assumption) | (intro x) | split
                | refine Keeps.lit rfl rfl rfl rfl rfl rfl rfl rfl ?_
                | refine Keeps.of_snd (by with_reducible assumption) ?_
                | refine Keeps.of_snd2 (by with_reducible assumption) ?_

theorem earcLeave_keeps {s : State} (h : Keeps kd km kc s0 s) (st : Nat) :
    Keeps kd km kc s0 (earcLeave st s) := by
  unfold earcLeave
  try dsimp only
  repeat' first | with_reducible assumption | with_reducible apply put_keeps | with_reducible apply sourceStatus_keeps
                | with_reducible apply Keeps.foldl | with_reducible apply Keeps.elim
                | (intros; with_reducible assumption) | (intro x) | split
                | refine Keeps.lit rfl rfl rfl rfl rfl rfl rfl rfl ?_
                | refine Keeps.of_snd (by with_reducible assumption) ?_
                | refine Keeps.of_snd2 (by with_reducible assumption) ?_

theorem earcCtl_keeps {s : State} (h : Keeps kd km kc s0 s) (d : W32) :
    Keeps kd km kc s0 (earcCtl d s) := by
  unfold earcCtl
  try dsimp only
  repeat' first | with_reducible assumption | with_reducible apply put_keeps | with_reducible apply store_keeps
                | with_reducible apply earcLeave_keeps | with_reducible apply Keeps.foldl
                | with_reducible apply Keeps.elim | (intros; with_reducible assumption) | (intro x) | split
                | refine Keeps.lit rfl rfl rfl rfl rfl rfl rfl rfl ?_
                | refine Keeps.of_snd (by with_reducible assumption) ?_
                | refine Keeps.of_snd2 (by with_reducible assumption) ?_

theorem earcHpd_keeps {s : State} (h : Keeps kd km kc s0 s) (high : Bool) :
    Keeps kd km kc s0 (earcHpd high s) := by
  unfold earcHpd
  try dsimp only
  repeat' first | with_reducible assumption | with_reducible apply put_keeps | with_reducible apply earcLeave_keeps
                | with_reducible apply Keeps.foldl | with_reducible apply Keeps.elim
                | (intros; with_reducible assumption) | (intro x) | split
                | refine Keeps.lit rfl rfl rfl rfl rfl rfl rfl rfl ?_
                | refine Keeps.of_snd (by with_reducible assumption) ?_
                | refine Keeps.of_snd2 (by with_reducible assumption) ?_

theorem earcLinkEff_keeps {s : State} (h : Keeps kd km kc s0 s)  :
    Keeps kd km kc s0 (earcLinkEff s) := by
  unfold earcLinkEff
  try dsimp only
  repeat' first | with_reducible assumption | with_reducible apply puts_keeps | with_reducible apply Keeps.foldl
                | with_reducible apply Keeps.elim | (intros; with_reducible assumption) | (intro x) | split
                | refine Keeps.lit rfl rfl rfl rfl rfl rfl rfl rfl ?_
                | refine Keeps.of_snd (by with_reducible assumption) ?_
                | refine Keeps.of_snd2 (by with_reducible assumption) ?_

theorem earcStreamEff_keeps {s : State} (h : Keeps kd km kc s0 s)  :
    Keeps kd km kc s0 (earcStreamEff s) := by
  unfold earcStreamEff
  try dsimp only
  repeat' first | with_reducible assumption | with_reducible apply put_keeps | with_reducible apply Keeps.foldl
                | with_reducible apply Keeps.elim | (intros; with_reducible assumption) | (intro x) | split
                | refine Keeps.lit rfl rfl rfl rfl rfl rfl rfl rfl ?_
                | refine Keeps.of_snd (by with_reducible assumption) ?_
                | refine Keeps.of_snd2 (by with_reducible assumption) ?_

theorem heartbeatLostEff_keeps {s : State} (h : Keeps kd km kc s0 s)  :
    Keeps kd km kc s0 (heartbeatLostEff s) := by
  unfold heartbeatLostEff
  try dsimp only
  repeat' first | with_reducible assumption | with_reducible apply put_keeps | with_reducible apply inc_keeps
                | with_reducible apply recErr_keeps | with_reducible apply earcLeave_keeps
                | with_reducible apply Keeps.foldl | with_reducible apply Keeps.elim
                | (intros; with_reducible assumption) | (intro x) | split
                | refine Keeps.lit rfl rfl rfl rfl rfl rfl rfl rfl ?_
                | refine Keeps.of_snd (by with_reducible assumption) ?_
                | refine Keeps.of_snd2 (by with_reducible assumption) ?_

theorem capctlUpdEff_keeps {s : State} (h : Keeps kd km kc s0 s)  :
    Keeps kd km kc s0 (capctlUpdEff s) := by
  unfold capctlUpdEff
  try dsimp only
  repeat' first | with_reducible assumption | with_reducible apply Keeps.foldl | with_reducible apply Keeps.elim
                | (intros; with_reducible assumption) | (intro x) | split
                | refine Keeps.lit rfl rfl rfl rfl rfl rfl rfl rfl ?_
                | refine Keeps.of_snd (by with_reducible assumption) ?_
                | refine Keeps.of_snd2 (by with_reducible assumption) ?_

theorem earcChannelStatusEff_keeps {s : State} (h : Keeps kd km kc s0 s) (cs : List W32) (fmt : Nat) :
    Keeps kd km kc s0 (earcChannelStatusEff cs fmt s) := by
  unfold earcChannelStatusEff
  try dsimp only
  repeat' first | with_reducible assumption | with_reducible apply put_keeps | with_reducible apply repeatFor_keeps
                | with_reducible apply sourceStatus_keeps | with_reducible apply Keeps.foldl
                | with_reducible apply Keeps.elim | (intros; with_reducible assumption) | (intro x) | split
                | refine Keeps.lit rfl rfl rfl rfl rfl rfl rfl rfl ?_
                | refine Keeps.of_snd (by with_reducible assumption) ?_
                | refine Keeps.of_snd2 (by with_reducible assumption) ?_

/-! ### Machine/Caddy.lean -/

theorem recomputeEff_keeps {s : State} (h : Keeps kd km kc s0 s)  :
    Keeps kd km kc s0 (recomputeEff s) := by
  unfold recomputeEff
  try dsimp only
  repeat' first | with_reducible assumption | with_reducible apply put_keeps | with_reducible apply Keeps.foldl
                | with_reducible apply Keeps.elim | (intros; with_reducible assumption) | (intro x) | split
                | refine Keeps.lit rfl rfl rfl rfl rfl rfl rfl rfl ?_
                | refine Keeps.of_snd (by with_reducible assumption) ?_
                | refine Keeps.of_snd2 (by with_reducible assumption) ?_

theorem caddyRequest_keeps {s : State} (h : Keeps kd km kc s0 s) (id : Nat) (amt : Nat) (prio : Nat) (start : Nat) :
    Keeps kd km kc s0 (caddyRequest id amt prio start s) := by
  unfold caddyRequest
  try dsimp only
  repeat' first | with_reducible assumption | with_reducible apply put_keeps | with_reducible apply Keeps.foldl
                | with_reducible apply Keeps.elim | (intros; with_reducible assumption) | (intro x) | split
                | refine Keeps.lit rfl rfl rfl rfl rfl rfl rfl rfl ?_
                | refine Keeps.of_snd (by with_reducible assumption) ?_
                | refine Keeps.of_snd2 (by with_reducible assumption) ?_

theorem standingRequest_keeps {s : State} (h : Keeps kd km kc s0 s) (id : Nat) :
    Keeps kd km kc s0 (standingRequest id s) := by
  unfold standingRequest
  try dsimp only
  repeat' first | with_reducible assumption | with_reducible apply caddyRequest_keeps
                | with_reducible apply Keeps.foldl | with_reducible apply Keeps.elim
                | (intros; with_reducible assumption) | (intro x) | split
                | refine Keeps.lit rfl rfl rfl rfl rfl rfl rfl rfl ?_
                | refine Keeps.of_snd (by with_reducible assumption) ?_
                | refine Keeps.of_snd2 (by with_reducible assumption) ?_

theorem cellRequest_keeps {s : State} (h : Keeps kd km kc s0 s) (n : Nat) (enc : Bool) (start : Nat) :
    Keeps kd km kc s0 (cellRequest n enc start s) := by
  unfold cellRequest
  try dsimp only
  repeat' first | with_reducible assumption | with_reducible apply caddyRequest_keeps
                | with_reducible apply Keeps.foldl | with_reducible apply Keeps.elim
                | (intros; with_reducible assumption) | (intro x) | split
                | refine Keeps.lit rfl rfl rfl rfl rfl rfl rfl rfl ?_
                | refine Keeps.of_snd (by with_reducible assumption) ?_
                | refine Keeps.of_snd2 (by with_reducible assumption) ?_

theorem dropGrant_keeps {s : State} (h : Keeps kd km kc s0 s) (id : Nat) :
    Keeps kd km kc s0 (dropGrant id s) := by
  unfold dropGrant
  try dsimp only
  repeat' first | with_reducible assumption | with_reducible apply Keeps.foldl | with_reducible apply Keeps.elim
                | (intros; with_reducible assumption) | (intro x) | split
                | refine Keeps.lit rfl rfl rfl rfl rfl rfl rfl rfl ?_
                | refine Keeps.of_snd (by with_reducible assumption) ?_
                | refine Keeps.of_snd2 (by with_reducible assumption) ?_

theorem withdraw_keeps {s : State} (h : Keeps kd km kc s0 s) (id : Nat) :
    Keeps kd km kc s0 (withdraw id s) := by
  unfold withdraw
  try dsimp only
  repeat' first | with_reducible assumption | with_reducible apply Keeps.foldl | with_reducible apply Keeps.elim
                | (intros; with_reducible assumption) | (intro x) | split
                | refine Keeps.lit rfl rfl rfl rfl rfl rfl rfl rfl ?_
                | refine Keeps.of_snd (by with_reducible assumption) ?_
                | refine Keeps.of_snd2 (by with_reducible assumption) ?_

theorem stopConsumer_keeps {s : State} (h : Keeps kd km kc s0 s) (id : Nat) :
    Keeps kd km kc s0 (stopConsumer id s) := by
  unfold stopConsumer
  try dsimp only
  repeat' first | with_reducible assumption | with_reducible apply dropGrant_keeps
                | with_reducible apply withdraw_keeps | with_reducible apply Keeps.foldl
                | with_reducible apply Keeps.elim | (intros; with_reducible assumption) | (intro x) | split
                | refine Keeps.lit rfl rfl rfl rfl rfl rfl rfl rfl ?_
                | refine Keeps.of_snd (by with_reducible assumption) ?_
                | refine Keeps.of_snd2 (by with_reducible assumption) ?_

theorem caddyReturnOp_keeps {s : State} (h : Keeps kd km kc s0 s) (id : Nat) :
    Keeps kd km kc s0 (caddyReturnOp id s) := by
  unfold caddyReturnOp
  try dsimp only
  repeat' first | with_reducible assumption | with_reducible apply recErr_keeps | with_reducible apply dropGrant_keeps
                | with_reducible apply withdraw_keeps | with_reducible apply Keeps.foldl
                | with_reducible apply Keeps.elim | (intros; with_reducible assumption) | (intro x) | split
                | refine Keeps.lit rfl rfl rfl rfl rfl rfl rfl rfl ?_
                | refine Keeps.of_snd (by with_reducible assumption) ?_
                | refine Keeps.of_snd2 (by with_reducible assumption) ?_

theorem grantReq_keeps {s : State} (h : Keeps kd km kc s0 s) (r : Req) :
    Keeps kd km kc s0 (grantReq r s) := by
  unfold grantReq
  try dsimp only
  repeat' first | with_reducible assumption | with_reducible apply Keeps.foldl | with_reducible apply Keeps.elim
                | (intros; with_reducible assumption) | (intro x) | split
                | refine Keeps.lit rfl rfl rfl rfl rfl rfl rfl rfl ?_
                | refine Keeps.of_snd (by with_reducible assumption) ?_
                | refine Keeps.of_snd2 (by with_reducible assumption) ?_

theorem caddyClear_keeps {s : State} (h : Keeps kd km kc s0 s)  :
    Keeps kd km kc s0 (caddyClear s) := by
  unfold caddyClear
  try dsimp only
  repeat' first | with_reducible assumption | with_reducible apply Keeps.foldl | with_reducible apply Keeps.elim
                | (intros; with_reducible assumption) | (intro x) | split
                | refine Keeps.lit rfl rfl rfl rfl rfl rfl rfl rfl ?_
                | refine Keeps.of_snd (by with_reducible assumption) ?_
                | refine Keeps.of_snd2 (by with_reducible assumption) ?_

theorem caddySample_keeps {s : State} (h : Keeps kd km kc s0 s)  :
    Keeps kd km kc s0 (caddySample s) := by
  unfold caddySample
  try dsimp only
  repeat' first | with_reducible assumption | with_reducible apply Keeps.foldl | with_reducible apply Keeps.elim
                | (intros; with_reducible assumption) | (intro x) | split
                | refine Keeps.lit rfl rfl rfl rfl rfl rfl rfl rfl ?_
                | refine Keeps.of_snd (by with_reducible assumption) ?_
                | refine Keeps.of_snd2 (by with_reducible assumption) ?_

theorem writeBudget_keeps {s : State} (h : Keeps kd km kc s0 s) (d : W32) :
    Keeps kd km kc s0 (writeBudget d s) := by
  unfold writeBudget
  try dsimp only
  repeat' first | with_reducible assumption | with_reducible apply put_keeps | with_reducible apply checked_keeps
                | with_reducible apply Keeps.foldl | with_reducible apply Keeps.elim
                | (intros; with_reducible assumption) | (intro x) | split
                | refine Keeps.lit rfl rfl rfl rfl rfl rfl rfl rfl ?_
                | refine Keeps.of_snd (by with_reducible assumption) ?_
                | refine Keeps.of_snd2 (by with_reducible assumption) ?_

theorem writeReserve_keeps {s : State} (h : Keeps kd km kc s0 s) (d : W32) :
    Keeps kd km kc s0 (writeReserve d s) := by
  unfold writeReserve
  try dsimp only
  repeat' first | with_reducible assumption | with_reducible apply put_keeps | with_reducible apply checked_keeps
                | with_reducible apply Keeps.foldl | with_reducible apply Keeps.elim
                | (intros; with_reducible assumption) | (intro x) | split
                | refine Keeps.lit rfl rfl rfl rfl rfl rfl rfl rfl ?_
                | refine Keeps.of_snd (by with_reducible assumption) ?_
                | refine Keeps.of_snd2 (by with_reducible assumption) ?_

theorem writeBrake_keeps {s : State} (h : Keeps kd km kc s0 s) (d : W32) :
    Keeps kd km kc s0 (writeBrake d s) := by
  unfold writeBrake
  try dsimp only
  repeat' first | with_reducible assumption | with_reducible apply storeAll_keeps | with_reducible apply checked_keeps
                | with_reducible apply Keeps.foldl | with_reducible apply Keeps.elim
                | (intros; with_reducible assumption) | (intro x) | split
                | refine Keeps.lit rfl rfl rfl rfl rfl rfl rfl rfl ?_
                | refine Keeps.of_snd (by with_reducible assumption) ?_
                | refine Keeps.of_snd2 (by with_reducible assumption) ?_

theorem writeDerate_keeps {s : State} (h : Keeps kd km kc s0 s) (d : W32) :
    Keeps kd km kc s0 (writeDerate d s) := by
  unfold writeDerate
  try dsimp only
  repeat' first | with_reducible assumption | with_reducible apply storeAll_keeps
                | with_reducible apply recomputeEff_keeps | with_reducible apply Keeps.foldl
                | with_reducible apply Keeps.elim | (intros; with_reducible assumption) | (intro x) | split
                | refine Keeps.lit rfl rfl rfl rfl rfl rfl rfl rfl ?_
                | refine Keeps.of_snd (by with_reducible assumption) ?_
                | refine Keeps.of_snd2 (by with_reducible assumption) ?_

theorem unsupported_keeps {s : State} (h : Keeps kd km kc s0 s)  :
    Keeps kd km kc s0 (unsupported s) := by
  unfold unsupported
  try dsimp only
  repeat' first | with_reducible assumption | with_reducible apply Keeps.foldl | with_reducible apply Keeps.elim
                | (intros; with_reducible assumption) | (intro x) | split
                | refine Keeps.lit rfl rfl rfl rfl rfl rfl rfl rfl ?_
                | refine Keeps.of_snd (by with_reducible assumption) ?_
                | refine Keeps.of_snd2 (by with_reducible assumption) ?_

theorem checkSupply_keeps {s : State} (h : Keeps kd km kc s0 s)  :
    Keeps kd km kc s0 (checkSupply s) := by
  unfold checkSupply
  try dsimp only
  repeat' first | with_reducible assumption | with_reducible apply unsupported_keeps
                | with_reducible apply Keeps.foldl | with_reducible apply Keeps.elim
                | (intros; with_reducible assumption) | (intro x) | split
                | refine Keeps.lit rfl rfl rfl rfl rfl rfl rfl rfl ?_
                | refine Keeps.of_snd (by with_reducible assumption) ?_
                | refine Keeps.of_snd2 (by with_reducible assumption) ?_

theorem requestAgedEff_keeps {s : State} (h : Keeps kd km kc s0 s) (c : Nat) :
    Keeps kd km kc s0 (requestAgedEff c s) := by
  unfold requestAgedEff
  try dsimp only
  repeat' first | with_reducible assumption | with_reducible apply put_keeps | with_reducible apply Keeps.foldl
                | with_reducible apply Keeps.elim | (intros; with_reducible assumption) | (intro x) | split
                | refine Keeps.lit rfl rfl rfl rfl rfl rfl rfl rfl ?_
                | refine Keeps.of_snd (by with_reducible assumption) ?_
                | refine Keeps.of_snd2 (by with_reducible assumption) ?_

theorem brakeEngageEff_keeps {s : State} (h : Keeps kd km kc s0 s)  :
    Keeps kd km kc s0 (brakeEngageEff s) := by
  unfold brakeEngageEff
  try dsimp only
  repeat' first | with_reducible assumption | with_reducible apply put_keeps | with_reducible apply inc_keeps
                | with_reducible apply Keeps.foldl | with_reducible apply Keeps.elim
                | (intros; with_reducible assumption) | (intro x) | split
                | refine Keeps.lit rfl rfl rfl rfl rfl rfl rfl rfl ?_
                | refine Keeps.of_snd (by with_reducible assumption) ?_
                | refine Keeps.of_snd2 (by with_reducible assumption) ?_

theorem brake2Eff_keeps {s : State} (h : Keeps kd km kc s0 s)  :
    Keeps kd km kc s0 (brake2Eff s) := by
  unfold brake2Eff
  try dsimp only
  repeat' first | with_reducible assumption | with_reducible apply put_keeps | with_reducible apply Keeps.foldl
                | with_reducible apply Keeps.elim | (intros; with_reducible assumption) | (intro x) | split
                | refine Keeps.lit rfl rfl rfl rfl rfl rfl rfl rfl ?_
                | refine Keeps.of_snd (by with_reducible assumption) ?_
                | refine Keeps.of_snd2 (by with_reducible assumption) ?_

theorem brakeStepBackEff_keeps {s : State} (h : Keeps kd km kc s0 s)  :
    Keeps kd km kc s0 (brakeStepBackEff s) := by
  unfold brakeStepBackEff
  try dsimp only
  repeat' first | with_reducible assumption | with_reducible apply put_keeps | with_reducible apply Keeps.foldl
                | with_reducible apply Keeps.elim | (intros; with_reducible assumption) | (intro x) | split
                | refine Keeps.lit rfl rfl rfl rfl rfl rfl rfl rfl ?_
                | refine Keeps.of_snd (by with_reducible assumption) ?_
                | refine Keeps.of_snd2 (by with_reducible assumption) ?_

/-! ### Machine/Tim.lean -/

theorem setTimer_keeps {s : State} (h : Keeps kd km kc s0 s) (n : Nat) (v : Nat) :
    Keeps kd km kc s0 (setTimer n v s) := by
  unfold setTimer
  try dsimp only
  repeat' first | with_reducible assumption | with_reducible apply Keeps.foldl | with_reducible apply Keeps.elim
                | (intros; with_reducible assumption) | (intro x) | split
                | refine Keeps.lit rfl rfl rfl rfl rfl rfl rfl rfl ?_
                | refine Keeps.of_snd (by with_reducible assumption) ?_
                | refine Keeps.of_snd2 (by with_reducible assumption) ?_

theorem enterRef_keeps {s : State} (h : Keeps kd km kc s0 s) (n : Nat) (st : Nat) :
    Keeps kd km kc s0 (enterRef n st s) := by
  unfold enterRef
  try dsimp only
  repeat' first | with_reducible assumption | with_reducible apply put_keeps | with_reducible apply setTimer_keeps
                | with_reducible apply Keeps.foldl | with_reducible apply Keeps.elim
                | (intros; with_reducible assumption) | (intro x) | split
                | refine Keeps.lit rfl rfl rfl rfl rfl rfl rfl rfl ?_
                | refine Keeps.of_snd (by with_reducible assumption) ?_
                | refine Keeps.of_snd2 (by with_reducible assumption) ?_

theorem setMeas_keeps {s : State} (h : Keeps kd km kc s0 s) (n : Nat) (l : List Int) :
    Keeps kd km kc s0 (setMeas n l s) := by
  unfold setMeas
  try dsimp only
  repeat' first | with_reducible assumption | with_reducible apply Keeps.foldl | with_reducible apply Keeps.elim
                | (intros; with_reducible assumption) | (intro x) | split
                | refine Keeps.lit rfl rfl rfl rfl rfl rfl rfl rfl ?_
                | refine Keeps.of_snd (by with_reducible assumption) ?_
                | refine Keeps.of_snd2 (by with_reducible assumption) ?_

theorem enterAbsent_keeps {s : State} (h : Keeps kd km kc s0 s) (n : Nat) :
    Keeps kd km kc s0 (enterAbsent n s) := by
  unfold enterAbsent
  try dsimp only
  repeat' first | with_reducible assumption | with_reducible apply puts_keeps | with_reducible apply enterRef_keeps
                | with_reducible apply setMeas_keeps | with_reducible apply Keeps.foldl
                | with_reducible apply Keeps.elim | (intros; with_reducible assumption) | (intro x) | split
                | refine Keeps.lit rfl rfl rfl rfl rfl rfl rfl rfl ?_
                | refine Keeps.of_snd (by with_reducible assumption) ?_
                | refine Keeps.of_snd2 (by with_reducible assumption) ?_

theorem becomeQualified_keeps {s : State} (h : Keeps kd km kc s0 s) (n : Nat) :
    Keeps kd km kc s0 (becomeQualified n s) := by
  unfold becomeQualified
  try dsimp only
  repeat' first | with_reducible assumption | with_reducible apply put_keeps | with_reducible apply enterRef_keeps
                | with_reducible apply Keeps.foldl | with_reducible apply Keeps.elim
                | (intros; with_reducible assumption) | (intro x) | split
                | refine Keeps.lit rfl rfl rfl rfl rfl rfl rfl rfl ?_
                | refine Keeps.of_snd (by with_reducible assumption) ?_
                | refine Keeps.of_snd2 (by with_reducible assumption) ?_

theorem judgeRef_keeps {s : State} (h : Keeps kd km kc s0 s) (n : Nat) (off : Int) (step : Nat) :
    Keeps kd km kc s0 (judgeRef n off step s) := by
  unfold judgeRef
  try dsimp only
  repeat' first | with_reducible assumption | with_reducible apply put_keeps | with_reducible apply setTimer_keeps
                | with_reducible apply enterRef_keeps | with_reducible apply becomeQualified_keeps
                | with_reducible apply Keeps.foldl | with_reducible apply Keeps.elim
                | (intros; with_reducible assumption) | (intro x) | split
                | refine Keeps.lit rfl rfl rfl rfl rfl rfl rfl rfl ?_
                | refine Keeps.of_snd (by with_reducible assumption) ?_
                | refine Keeps.of_snd2 (by with_reducible assumption) ?_

theorem qlUpdate_keeps {s : State} (h : Keeps kd km kc s0 s)  :
    Keeps kd km kc s0 (qlUpdate s) := by
  unfold qlUpdate
  try dsimp only
  repeat' first | with_reducible assumption | with_reducible apply put_keeps | with_reducible apply Keeps.foldl
                | with_reducible apply Keeps.elim | (intros; with_reducible assumption) | (intro x) | split
                | refine Keeps.lit rfl rfl rfl rfl rfl rfl rfl rfl ?_
                | refine Keeps.of_snd (by with_reducible assumption) ?_
                | refine Keeps.of_snd2 (by with_reducible assumption) ?_

theorem freezeLoop_keeps {s : State} (h : Keeps kd km kc s0 s) (d : TimDom) :
    Keeps kd km kc s0 (freezeLoop d s) := by
  unfold freezeLoop
  try dsimp only
  repeat' first | with_reducible assumption | with_reducible apply setLoop_keeps | with_reducible apply Keeps.foldl
                | with_reducible apply Keeps.elim | (intros; with_reducible assumption) | (intro x) | split
                | refine Keeps.lit rfl rfl rfl rfl rfl rfl rfl rfl ?_
                | refine Keeps.of_snd (by with_reducible assumption) ?_
                | refine Keeps.of_snd2 (by with_reducible assumption) ?_

theorem newPhase_keeps {s : State} (h : Keeps kd km kc s0 s) (d : TimDom) (n : Nat) :
    Keeps kd km kc s0 (newPhase d n s) := by
  unfold newPhase
  try dsimp only
  repeat' first | with_reducible assumption | with_reducible apply fresh_keeps | with_reducible apply Keeps.foldl
                | with_reducible apply Keeps.elim | (intros; with_reducible assumption) | (intro x) | split
                | refine Keeps.lit rfl rfl rfl rfl rfl rfl rfl rfl ?_
                | refine Keeps.of_snd (by with_reducible assumption) ?_
                | refine Keeps.of_snd2 (by with_reducible assumption) ?_

theorem rankDomain_keeps {s : State} (h : Keeps kd km kc s0 s) (d : TimDom) :
    Keeps kd km kc s0 (rankDomain d s) := by
  unfold rankDomain
  try dsimp only
  repeat' first | with_reducible assumption | with_reducible apply puts_keeps | with_reducible apply setLoop_keeps
                | with_reducible apply fireEdge_keeps | with_reducible apply freezeLoop_keeps
                | with_reducible apply newPhase_keeps | with_reducible apply Keeps.foldl
                | with_reducible apply Keeps.elim | (intros; with_reducible assumption) | (intro x) | split
                | refine Keeps.lit rfl rfl rfl rfl rfl rfl rfl rfl ?_
                | refine Keeps.of_snd (by with_reducible assumption) ?_
                | refine Keeps.of_snd2 (by with_reducible assumption) ?_

theorem rankAll_keeps {s : State} (h : Keeps kd km kc s0 s)  :
    Keeps kd km kc s0 (rankAll s) := by
  unfold rankAll
  try dsimp only
  repeat' first | with_reducible assumption | with_reducible apply rankDomain_keeps | with_reducible apply Keeps.foldl
                | with_reducible apply Keeps.elim | (intros; with_reducible assumption) | (intro x) | split
                | refine Keeps.lit rfl rfl rfl rfl rfl rfl rfl rfl ?_
                | refine Keeps.of_snd (by with_reducible assumption) ?_
                | refine Keeps.of_snd2 (by with_reducible assumption) ?_

theorem freezeOn_keeps {s : State} (h : Keeps kd km kc s0 s) (n : Nat) :
    Keeps kd km kc s0 (freezeOn n s) := by
  unfold freezeOn
  try dsimp only
  repeat' first | with_reducible assumption | with_reducible apply freezeLoop_keeps | with_reducible apply Keeps.foldl
                | with_reducible apply Keeps.elim | (intros; with_reducible assumption) | (intro x) | split
                | refine Keeps.lit rfl rfl rfl rfl rfl rfl rfl rfl ?_
                | refine Keeps.of_snd (by with_reducible assumption) ?_
                | refine Keeps.of_snd2 (by with_reducible assumption) ?_

theorem refAbsent_keeps {s : State} (h : Keeps kd km kc s0 s) (n : Nat) :
    Keeps kd km kc s0 (refAbsent n s) := by
  unfold refAbsent
  try dsimp only
  repeat' first | with_reducible assumption | with_reducible apply enterAbsent_keeps
                | with_reducible apply rankAll_keeps | with_reducible apply Keeps.foldl
                | with_reducible apply Keeps.elim | (intros; with_reducible assumption) | (intro x) | split
                | refine Keeps.lit rfl rfl rfl rfl rfl rfl rfl rfl ?_
                | refine Keeps.of_snd (by with_reducible assumption) ?_
                | refine Keeps.of_snd2 (by with_reducible assumption) ?_

theorem refLoss_keeps {s : State} (h : Keeps kd km kc s0 s) (n : Nat) :
    Keeps kd km kc s0 (refLoss n s) := by
  unfold refLoss
  try dsimp only
  repeat' first | with_reducible assumption | with_reducible apply enterAbsent_keeps
                | with_reducible apply rankAll_keeps | with_reducible apply freezeOn_keeps
                | with_reducible apply Keeps.foldl | with_reducible apply Keeps.elim
                | (intros; with_reducible assumption) | (intro x) | split
                | refine Keeps.lit rfl rfl rfl rfl rfl rfl rfl rfl ?_
                | refine Keeps.of_snd (by with_reducible assumption) ?_
                | refine Keeps.of_snd2 (by with_reducible assumption) ?_

theorem refLosses_keeps {s : State} (h : Keeps kd km kc s0 s) (ns : List Nat) :
    Keeps kd km kc s0 (refLosses ns s) := by
  unfold refLosses
  try dsimp only
  repeat' first | with_reducible assumption | with_reducible apply enterAbsent_keeps
                | with_reducible apply rankAll_keeps | with_reducible apply freezeOn_keeps
                | with_reducible apply Keeps.foldl | with_reducible apply Keeps.elim
                | (intros; with_reducible assumption) | (intro x) | split
                | refine Keeps.lit rfl rfl rfl rfl rfl rfl rfl rfl ?_
                | refine Keeps.of_snd (by with_reducible assumption) ?_
                | refine Keeps.of_snd2 (by with_reducible assumption) ?_

theorem loopUpdate_keeps {s : State} (h : Keeps kd km kc s0 s) (d : TimDom) :
    Keeps kd km kc s0 (loopUpdate d s) := by
  unfold loopUpdate
  try dsimp only
  repeat' first | with_reducible assumption | with_reducible apply put_keeps | with_reducible apply setLoop_keeps
                | with_reducible apply Keeps.foldl | with_reducible apply Keeps.elim
                | (intros; with_reducible assumption) | (intro x) | split
                | refine Keeps.lit rfl rfl rfl rfl rfl rfl rfl rfl ?_
                | refine Keeps.of_snd (by with_reducible assumption) ?_
                | refine Keeps.of_snd2 (by with_reducible assumption) ?_

theorem writeRefcfg_keeps {s : State} (h : Keeps kd km kc s0 s) (n : Nat) (d : W32) :
    Keeps kd km kc s0 (writeRefcfg n d s) := by
  unfold writeRefcfg
  try dsimp only
  repeat' first | with_reducible assumption | with_reducible apply storeAll_keeps | with_reducible apply checked_keeps
                | with_reducible apply Keeps.foldl | with_reducible apply Keeps.elim
                | (intros; with_reducible assumption) | (intro x) | split
                | refine Keeps.lit rfl rfl rfl rfl rfl rfl rfl rfl ?_
                | refine Keeps.of_snd (by with_reducible assumption) ?_
                | refine Keeps.of_snd2 (by with_reducible assumption) ?_

theorem writeDpll_keeps {s : State} (h : Keeps kd km kc s0 s) (d : W32) :
    Keeps kd km kc s0 (writeDpll d s) := by
  unfold writeDpll
  try dsimp only
  repeat' first | with_reducible assumption | with_reducible apply storeAll_keeps | with_reducible apply checked_keeps
                | with_reducible apply Keeps.foldl | with_reducible apply Keeps.elim
                | (intros; with_reducible assumption) | (intro x) | split
                | refine Keeps.lit rfl rfl rfl rfl rfl rfl rfl rfl ?_
                | refine Keeps.of_snd (by with_reducible assumption) ?_
                | refine Keeps.of_snd2 (by with_reducible assumption) ?_

theorem writeHold_keeps {s : State} (h : Keeps kd km kc s0 s) (d : W32) :
    Keeps kd km kc s0 (writeHold d s) := by
  unfold writeHold
  try dsimp only
  repeat' first | with_reducible assumption | with_reducible apply put_keeps | with_reducible apply checked_keeps
                | with_reducible apply Keeps.foldl | with_reducible apply Keeps.elim
                | (intros; with_reducible assumption) | (intro x) | split
                | refine Keeps.lit rfl rfl rfl rfl rfl rfl rfl rfl ?_
                | refine Keeps.of_snd (by with_reducible assumption) ?_
                | refine Keeps.of_snd2 (by with_reducible assumption) ?_

theorem writeAud_keeps {s : State} (h : Keeps kd km kc s0 s) (d : W32) :
    Keeps kd km kc s0 (writeAud d s) := by
  unfold writeAud
  try dsimp only
  repeat' first | with_reducible assumption | with_reducible apply storeAll_keeps | with_reducible apply checked_keeps
                | with_reducible apply Keeps.foldl | with_reducible apply Keeps.elim
                | (intros; with_reducible assumption) | (intro x) | split
                | refine Keeps.lit rfl rfl rfl rfl rfl rfl rfl rfl ?_
                | refine Keeps.of_snd (by with_reducible assumption) ?_
                | refine Keeps.of_snd2 (by with_reducible assumption) ?_

theorem realign_keeps {s : State} (h : Keeps kd km kc s0 s) (d : TimDom) :
    Keeps kd km kc s0 (realign d s) := by
  unfold realign
  try dsimp only
  repeat' first | with_reducible assumption | with_reducible apply put_keeps | with_reducible apply recErr_keeps
                | with_reducible apply Keeps.foldl | with_reducible apply Keeps.elim
                | (intros; with_reducible assumption) | (intro x) | split
                | refine Keeps.lit rfl rfl rfl rfl rfl rfl rfl rfl ?_
                | refine Keeps.of_snd (by with_reducible assumption) ?_
                | refine Keeps.of_snd2 (by with_reducible assumption) ?_

theorem writeRealign_keeps {s : State} (h : Keeps kd km kc s0 s) (d : W32) :
    Keeps kd km kc s0 (writeRealign d s) := by
  unfold writeRealign
  try dsimp only
  repeat' first | with_reducible assumption | with_reducible apply realign_keeps | with_reducible apply Keeps.foldl
                | with_reducible apply Keeps.elim | (intros; with_reducible assumption) | (intro x) | split
                | refine Keeps.lit rfl rfl rfl rfl rfl rfl rfl rfl ?_
                | refine Keeps.of_snd (by with_reducible assumption) ?_
                | refine Keeps.of_snd2 (by with_reducible assumption) ?_

theorem timCtl_keeps {s : State} (h : Keeps kd km kc s0 s) (d : W32) :
    Keeps kd km kc s0 (timCtl d s) := by
  unfold timCtl
  try dsimp only
  repeat' first | with_reducible assumption | with_reducible apply puts_keeps | with_reducible apply rankAll_keeps
                | with_reducible apply Keeps.foldl | with_reducible apply Keeps.elim
                | (intros; with_reducible assumption) | (intro x) | split
                | refine Keeps.lit rfl rfl rfl rfl rfl rfl rfl rfl ?_
                | refine Keeps.of_snd (by with_reducible assumption) ?_
                | refine Keeps.of_snd2 (by with_reducible assumption) ?_

theorem timCommit_keeps {s : State} (h : Keeps kd km kc s0 s)  :
    Keeps kd km kc s0 (timCommit s) := by
  unfold timCommit
  try dsimp only
  repeat' first | with_reducible assumption | with_reducible apply qlUpdate_keeps | with_reducible apply rankAll_keeps
                | with_reducible apply Keeps.foldl | with_reducible apply Keeps.elim
                | (intros; with_reducible assumption) | (intro x) | split
                | refine Keeps.lit rfl rfl rfl rfl rfl rfl rfl rfl ?_
                | refine Keeps.of_snd (by with_reducible assumption) ?_
                | refine Keeps.of_snd2 (by with_reducible assumption) ?_

theorem synthTick_keeps {s : State} (h : Keeps kd km kc s0 s)  :
    Keeps kd km kc s0 (synthTick s) := by
  unfold synthTick
  try dsimp only
  repeat' first | with_reducible assumption | with_reducible apply setOuts_keeps | with_reducible apply Keeps.foldl
                | with_reducible apply Keeps.elim | (intros; with_reducible assumption) | (intro x) | split
                | refine Keeps.lit rfl rfl rfl rfl rfl rfl rfl rfl ?_
                | refine Keeps.of_snd (by with_reducible assumption) ?_
                | refine Keeps.of_snd2 (by with_reducible assumption) ?_

theorem measurePhase_keeps {s : State} (h : Keeps kd km kc s0 s) (d : TimDom) :
    Keeps kd km kc s0 (measurePhase d s) := by
  unfold measurePhase
  try dsimp only
  repeat' first | with_reducible assumption | with_reducible apply put_keeps | with_reducible apply Keeps.foldl
                | with_reducible apply Keeps.elim | (intros; with_reducible assumption) | (intro x) | split
                | refine Keeps.lit rfl rfl rfl rfl rfl rfl rfl rfl ?_
                | refine Keeps.of_snd (by with_reducible assumption) ?_
                | refine Keeps.of_snd2 (by with_reducible assumption) ?_

theorem takeMdiv_keeps {s : State} (h : Keeps kd km kc s0 s) (at' : Nat) (n : Nat) :
    Keeps kd km kc s0 (takeMdiv at' n s) := by
  unfold takeMdiv
  try dsimp only
  repeat' first | with_reducible assumption | with_reducible apply setOuts_keeps | with_reducible apply Keeps.foldl
                | with_reducible apply Keeps.elim | (intros; with_reducible assumption) | (intro x) | split
                | refine Keeps.lit rfl rfl rfl rfl rfl rfl rfl rfl ?_
                | refine Keeps.of_snd (by with_reducible assumption) ?_
                | refine Keeps.of_snd2 (by with_reducible assumption) ?_

theorem takeAud_keeps {s : State} (h : Keeps kd km kc s0 s)  :
    Keeps kd km kc s0 (takeAud s) := by
  unfold takeAud
  try dsimp only
  repeat' first | with_reducible assumption | with_reducible apply put_keeps | with_reducible apply putA_keeps
                | with_reducible apply setOuts_keeps | with_reducible apply repeatFor_keeps
                | with_reducible apply rankDomain_keeps | with_reducible apply takeMdiv_keeps
                | with_reducible apply Keeps.foldl | with_reducible apply Keeps.elim
                | (intros; with_reducible assumption) | (intro x) | split
                | refine Keeps.lit rfl rfl rfl rfl rfl rfl rfl rfl ?_
                | refine Keeps.of_snd (by with_reducible assumption) ?_
                | refine Keeps.of_snd2 (by with_reducible assumption) ?_

theorem wclkTick_keeps {s : State} (h : Keeps kd km kc s0 s)  :
    Keeps kd km kc s0 (wclkTick s) := by
  unfold wclkTick
  try dsimp only
  repeat' first | with_reducible assumption | with_reducible apply setOuts_keeps
                | with_reducible apply measurePhase_keeps | with_reducible apply takeAud_keeps
                | with_reducible apply Keeps.foldl | with_reducible apply Keeps.elim
                | (intros; with_reducible assumption) | (intro x) | split
                | refine Keeps.lit rfl rfl rfl rfl rfl rfl rfl rfl ?_
                | refine Keeps.of_snd (by with_reducible assumption) ?_
                | refine Keeps.of_snd2 (by with_reducible assumption) ?_

theorem ppsRise_keeps {s : State} (h : Keeps kd km kc s0 s)  :
    Keeps kd km kc s0 (ppsRise s) := by
  unfold ppsRise
  try dsimp only
  repeat' first | with_reducible assumption | with_reducible apply setOuts_keeps | with_reducible apply Keeps.foldl
                | with_reducible apply Keeps.elim | (intros; with_reducible assumption) | (intro x) | split
                | refine Keeps.lit rfl rfl rfl rfl rfl rfl rfl rfl ?_
                | refine Keeps.of_snd (by with_reducible assumption) ?_
                | refine Keeps.of_snd2 (by with_reducible assumption) ?_

theorem ppsTick_keeps {s : State} (h : Keeps kd km kc s0 s)  :
    Keeps kd km kc s0 (ppsTick s) := by
  unfold ppsTick
  try dsimp only
  repeat' first | with_reducible assumption | with_reducible apply measurePhase_keeps
                | with_reducible apply ppsRise_keeps | with_reducible apply Keeps.foldl
                | with_reducible apply Keeps.elim | (intros; with_reducible assumption) | (intro x) | split
                | refine Keeps.lit rfl rfl rfl rfl rfl rfl rfl rfl ?_
                | refine Keeps.of_snd (by with_reducible assumption) ?_
                | refine Keeps.of_snd2 (by with_reducible assumption) ?_

theorem realignApplyEff_keeps {s : State} (h : Keeps kd km kc s0 s) (d : TimDom) :
    Keeps kd km kc s0 (realignApplyEff d s) := by
  unfold realignApplyEff
  try dsimp only
  repeat' first | with_reducible assumption | with_reducible apply put_keeps | with_reducible apply setOuts_keeps
                | with_reducible apply recErr_keeps | with_reducible apply ppsRise_keeps
                | with_reducible apply Keeps.foldl | with_reducible apply Keeps.elim
                | (intros; with_reducible assumption) | (intro x) | split
                | refine Keeps.lit rfl rfl rfl rfl rfl rfl rfl rfl ?_
                | refine Keeps.of_snd (by with_reducible assumption) ?_
                | refine Keeps.of_snd2 (by with_reducible assumption) ?_

theorem phaseTick_keeps {s : State} (h : Keeps kd km kc s0 s)  :
    Keeps kd km kc s0 (phaseTick s) := by
  unfold phaseTick
  try dsimp only
  repeat' first | with_reducible assumption | with_reducible apply setOuts_keeps | with_reducible apply Keeps.foldl
                | with_reducible apply Keeps.elim | (intros; with_reducible assumption) | (intro x) | split
                | refine Keeps.lit rfl rfl rfl rfl rfl rfl rfl rfl ?_
                | refine Keeps.of_snd (by with_reducible assumption) ?_
                | refine Keeps.of_snd2 (by with_reducible assumption) ?_

theorem timTick_keeps {s : State} (h : Keeps kd km kc s0 s)  :
    Keeps kd km kc s0 (timTick s) := by
  unfold timTick
  try dsimp only
  repeat' first | with_reducible assumption | with_reducible apply puts_keeps | with_reducible apply setOuts_keeps
                | with_reducible apply synthTick_keeps | with_reducible apply wclkTick_keeps
                | with_reducible apply ppsTick_keeps | with_reducible apply phaseTick_keeps
                | with_reducible apply Keeps.foldl | with_reducible apply Keeps.elim
                | (intros; with_reducible assumption) | (intro x) | split
                | refine Keeps.lit rfl rfl rfl rfl rfl rfl rfl rfl ?_
                | refine Keeps.of_snd (by with_reducible assumption) ?_
                | refine Keeps.of_snd2 (by with_reducible assumption) ?_

theorem takeRefcfg_keeps {s : State} (h : Keeps kd km kc s0 s) (n : Nat) :
    Keeps kd km kc s0 (takeRefcfg n s) := by
  unfold takeRefcfg
  try dsimp only
  repeat' first | with_reducible assumption | with_reducible apply putA_keeps | with_reducible apply enterAbsent_keeps
                | with_reducible apply Keeps.foldl | with_reducible apply Keeps.elim
                | (intros; with_reducible assumption) | (intro x) | split
                | refine Keeps.lit rfl rfl rfl rfl rfl rfl rfl rfl ?_
                | refine Keeps.of_snd (by with_reducible assumption) ?_
                | refine Keeps.of_snd2 (by with_reducible assumption) ?_

theorem takeOff_keeps {s : State} (h : Keeps kd km kc s0 s) (n : Nat) (k : Nat) (off : Int) (fam : Nat) :
    Keeps kd km kc s0 (takeOff n k off fam s) := by
  unfold takeOff
  try dsimp only
  repeat' first | with_reducible assumption | with_reducible apply puts_keeps | with_reducible apply setMeas_keeps
                | with_reducible apply Keeps.foldl | with_reducible apply Keeps.elim
                | (intros; with_reducible assumption) | (intro x) | split
                | refine Keeps.lit rfl rfl rfl rfl rfl rfl rfl rfl ?_
                | refine Keeps.of_snd (by with_reducible assumption) ?_
                | refine Keeps.of_snd2 (by with_reducible assumption) ?_

theorem takeMeas_keeps {s : State} (h : Keeps kd km kc s0 s) (n : Nat) (m : RefMeas) :
    Keeps kd km kc s0 (takeMeas n m s) := by
  unfold takeMeas
  try dsimp only
  repeat' first | with_reducible assumption | with_reducible apply takeOff_keeps | with_reducible apply Keeps.foldl
                | with_reducible apply Keeps.elim | (intros; with_reducible assumption) | (intro x) | split
                | refine Keeps.lit rfl rfl rfl rfl rfl rfl rfl rfl ?_
                | refine Keeps.of_snd (by with_reducible assumption) ?_
                | refine Keeps.of_snd2 (by with_reducible assumption) ?_

theorem crossCompare_keeps {s : State} (h : Keeps kd km kc s0 s) (elig : List Nat) :
    Keeps kd km kc s0 (crossCompare elig s) := by
  unfold crossCompare
  try dsimp only
  repeat' first | with_reducible assumption | with_reducible apply put_keeps | with_reducible apply puts_keeps
                | with_reducible apply Keeps.foldl | with_reducible apply Keeps.elim
                | (intros; with_reducible assumption) | (intro x) | split
                | refine Keeps.lit rfl rfl rfl rfl rfl rfl rfl rfl ?_
                | refine Keeps.of_snd (by with_reducible assumption) ?_
                | refine Keeps.of_snd2 (by with_reducible assumption) ?_

theorem freezeHard_keeps {s : State} (h : Keeps kd km kc s0 s) (before : State) :
    Keeps kd km kc s0 (freezeHard before s) := by
  unfold freezeHard
  try dsimp only
  repeat' first | with_reducible assumption | with_reducible apply put_keeps | with_reducible apply when_keeps
                | with_reducible apply repeatFor_keeps | with_reducible apply freezeOn_keeps
                | with_reducible apply Keeps.foldl | with_reducible apply Keeps.elim
                | (intros; with_reducible assumption) | (intro x) | split
                | refine Keeps.lit rfl rfl rfl rfl rfl rfl rfl rfl ?_
                | refine Keeps.of_snd (by with_reducible assumption) ?_
                | refine Keeps.of_snd2 (by with_reducible assumption) ?_

theorem monitorUpdateEff_keeps {s : State} (h : Keeps kd km kc s0 s) (ms : List RefMeas) :
    Keeps kd km kc s0 (monitorUpdateEff ms s) := by
  unfold monitorUpdateEff
  try dsimp only
  repeat' first | with_reducible assumption | with_reducible apply repeatFor_keeps
                | with_reducible apply judgeRef_keeps | with_reducible apply rankAll_keeps
                | with_reducible apply takeRefcfg_keeps | with_reducible apply takeMeas_keeps
                | with_reducible apply crossCompare_keeps | with_reducible apply freezeHard_keeps
                | with_reducible apply Keeps.foldl | with_reducible apply Keeps.elim
                | (intros; with_reducible assumption) | (intro x) | split
                | refine Keeps.lit rfl rfl rfl rfl rfl rfl rfl rfl ?_
                | refine Keeps.of_snd (by with_reducible assumption) ?_
                | refine Keeps.of_snd2 (by with_reducible assumption) ?_

theorem notePulse_keeps {s : State} (h : Keeps kd km kc s0 s)  :
    Keeps kd km kc s0 (notePulse s) := by
  unfold notePulse
  try dsimp only
  repeat' first | with_reducible assumption | with_reducible apply Keeps.foldl | with_reducible apply Keeps.elim
                | (intros; with_reducible assumption) | (intro x) | split
                | refine Keeps.lit rfl rfl rfl rfl rfl rfl rfl rfl ?_
                | refine Keeps.of_snd (by with_reducible assumption) ?_
                | refine Keeps.of_snd2 (by with_reducible assumption) ?_

theorem ppsPulseEff_keeps {s : State} (h : Keeps kd km kc s0 s) (off : Int) :
    Keeps kd km kc s0 (ppsPulseEff off s) := by
  unfold ppsPulseEff
  try dsimp only
  repeat' first | with_reducible assumption | with_reducible apply judgeRef_keeps | with_reducible apply rankAll_keeps
                | with_reducible apply takeOff_keeps | with_reducible apply freezeHard_keeps
                | with_reducible apply notePulse_keeps | with_reducible apply Keeps.foldl
                | with_reducible apply Keeps.elim | (intros; with_reducible assumption) | (intro x) | split
                | refine Keeps.lit rfl rfl rfl rfl rfl rfl rfl rfl ?_
                | refine Keeps.of_snd (by with_reducible assumption) ?_
                | refine Keeps.of_snd2 (by with_reducible assumption) ?_

theorem refRateChangeEff_keeps {s : State} (h : Keeps kd km kc s0 s) (n : Nat) :
    Keeps kd km kc s0 (refRateChangeEff n s) := by
  unfold refRateChangeEff
  try dsimp only
  repeat' first | with_reducible assumption | with_reducible apply refAbsent_keeps | with_reducible apply Keeps.foldl
                | with_reducible apply Keeps.elim | (intros; with_reducible assumption) | (intro x) | split
                | refine Keeps.lit rfl rfl rfl rfl rfl rfl rfl rfl ?_
                | refine Keeps.of_snd (by with_reducible assumption) ?_
                | refine Keeps.of_snd2 (by with_reducible assumption) ?_

theorem dpllUpdateEff_keeps {s : State} (h : Keeps kd km kc s0 s)  :
    Keeps kd km kc s0 (dpllUpdateEff s) := by
  unfold dpllUpdateEff
  try dsimp only
  repeat' first | with_reducible assumption | with_reducible apply loopUpdate_keeps | with_reducible apply Keeps.foldl
                | with_reducible apply Keeps.elim | (intros; with_reducible assumption) | (intro x) | split
                | refine Keeps.lit rfl rfl rfl rfl rfl rfl rfl rfl ?_
                | refine Keeps.of_snd (by with_reducible assumption) ?_
                | refine Keeps.of_snd2 (by with_reducible assumption) ?_

theorem domainLockedEff_keeps {s : State} (h : Keeps kd km kc s0 s) (d : TimDom) :
    Keeps kd km kc s0 (domainLockedEff d s) := by
  unfold domainLockedEff
  try dsimp only
  repeat' first | with_reducible assumption | with_reducible apply put_keeps | with_reducible apply setLoop_keeps
                | with_reducible apply Keeps.foldl | with_reducible apply Keeps.elim
                | (intros; with_reducible assumption) | (intro x) | split
                | refine Keeps.lit rfl rfl rfl rfl rfl rfl rfl rfl ?_
                | refine Keeps.of_snd (by with_reducible assumption) ?_
                | refine Keeps.of_snd2 (by with_reducible assumption) ?_

theorem outenWriteEff_keeps {s : State} (h : Keeps kd km kc s0 s) (d : W32) :
    Keeps kd km kc s0 (outenWriteEff d s) := by
  unfold outenWriteEff
  try dsimp only
  repeat' first | with_reducible assumption | with_reducible apply storeAll_keeps | with_reducible apply Keeps.foldl
                | with_reducible apply Keeps.elim | (intros; with_reducible assumption) | (intro x) | split
                | refine Keeps.lit rfl rfl rfl rfl rfl rfl rfl rfl ?_
                | refine Keeps.of_snd (by with_reducible assumption) ?_
                | refine Keeps.of_snd2 (by with_reducible assumption) ?_

theorem readMtimel_keeps {s : State} (h : Keeps kd km kc s0 s)  :
    Keeps kd km kc s0 (readMtimel s).2 := by
  unfold readMtimel
  try dsimp only
  repeat' first | with_reducible assumption | with_reducible apply put_keeps | with_reducible apply Keeps.foldl
                | with_reducible apply Keeps.elim | (intros; with_reducible assumption) | (intro x) | split
                | refine Keeps.lit rfl rfl rfl rfl rfl rfl rfl rfl ?_
                | refine Keeps.of_snd (by with_reducible assumption) ?_
                | refine Keeps.of_snd2 (by with_reducible assumption) ?_

theorem answer_keeps {r : W32 × State} (h : Keeps kd km kc s0 r.2) : Keeps kd km kc s0 (answer r) :=
  h.upd rfl rfl rfl rfl rfl rfl rfl rfl

/-! ### Machine/Resets.lean -/

theorem coreResetBlocks_keeps {s : State} (h : Keeps true km kc s0 s) : Keeps true km kc s0 (coreResetBlocks s) := by
  unfold coreResetBlocks
  refine caddyClear_keeps ?_
  exact ⟨h.pending, h.keyHash, h.svn, fun _ => rfl, h.mramWf, fun e => SMap.rising_drop (fun k => !keyKa k) (h.regs e),
    fun e => SMap.rising_drop (fun k => !keyKa k) (h.act e), nofun, h.mram, h.mtime⟩

theorem coreReset_keeps {s : State} (h : Keeps true km kc s0 s)  :
    Keeps true km kc s0 (coreReset s) := by
  unfold coreReset
  try dsimp only
  repeat' first | with_reducible assumption | with_reducible apply sourceStatus_keeps
                | with_reducible apply qlUpdate_keeps | with_reducible apply refLosses_keeps
                | with_reducible apply coreResetBlocks_keeps | with_reducible apply Keeps.foldl
                | with_reducible apply Keeps.elim | (intros; with_reducible assumption) | (intro x) | split
                | refine Keeps.lit rfl rfl rfl rfl rfl rfl rfl rfl ?_
                | refine Keeps.of_snd (by with_reducible assumption) ?_
                | refine Keeps.of_snd2 (by with_reducible assumption) ?_

theorem setCause_keeps {s : State} (h : Keeps kd km kc s0 s) (f : Fld) :
    Keeps kd km kc s0 (setCause f s) := by
  unfold setCause
  try dsimp only
  repeat' first | with_reducible assumption | with_reducible apply put_keeps | with_reducible apply puts_keeps
                | with_reducible apply Keeps.foldl | with_reducible apply Keeps.elim
                | (intros; with_reducible assumption) | (intro x) | split
                | refine Keeps.lit rfl rfl rfl rfl rfl rfl rfl rfl ?_
                | refine Keeps.of_snd (by with_reducible assumption) ?_
                | refine Keeps.of_snd2 (by with_reducible assumption) ?_

theorem fullReset_keeps {s : State} (h : Keeps true km true s0 s) (cause : Fld) (seq : Nat) :
    Keeps true km true s0 (fullReset cause seq s) := by
  unfold fullReset
  refine setCause_keeps ?_ _
  exact ⟨h.pending, h.keyHash, h.svn, fun _ => rfl, h.mramWf, fun _ => rfl, fun _ => rfl, nofun, h.mram, nofun⟩

theorem poreset_keeps {s : State} (h : Keeps true km true s0 s) (why : Nat) :
    Keeps true km true s0 (poreset why s) := by
  unfold poreset
  try dsimp only
  repeat' first | with_reducible assumption | with_reducible apply fullReset_keeps | with_reducible apply Keeps.foldl
                | with_reducible apply Keeps.elim | (intros; with_reducible assumption) | (intro x) | split
                | refine Keeps.lit rfl rfl rfl rfl rfl rfl rfl rfl ?_
                | refine Keeps.of_snd (by with_reducible assumption) ?_
                | refine Keeps.of_snd2 (by with_reducible assumption) ?_

theorem vddAonLowEff_keeps {s : State} (h : Keeps true km true s0 s)  :
    Keeps true km true s0 (vddAonLowEff s) := by
  unfold vddAonLowEff
  try dsimp only
  repeat' first | with_reducible assumption | with_reducible apply poreset_keeps | with_reducible apply Keeps.foldl
                | with_reducible apply Keeps.elim | (intros; with_reducible assumption) | (intro x) | split
                | refine Keeps.lit rfl rfl rfl rfl rfl rfl rfl rfl ?_
                | refine Keeps.of_snd (by with_reducible assumption) ?_
                | refine Keeps.of_snd2 (by with_reducible assumption) ?_

theorem pinReset_keeps {s : State} (h : Keeps true km true s0 s)  :
    Keeps true km true s0 (pinReset s) := by
  unfold pinReset
  try dsimp only
  repeat' first | with_reducible assumption | with_reducible apply fullReset_keeps | with_reducible apply Keeps.foldl
                | with_reducible apply Keeps.elim | (intros; with_reducible assumption) | (intro x) | split
                | refine Keeps.lit rfl rfl rfl rfl rfl rfl rfl rfl ?_
                | refine Keeps.of_snd (by with_reducible assumption) ?_
                | refine Keeps.of_snd2 (by with_reducible assumption) ?_

theorem chipReset_keeps {s : State} (h : Keeps true km true s0 s) (cause : Fld) :
    Keeps true km true s0 (chipReset cause s) := by
  unfold chipReset
  try dsimp only
  repeat' first | with_reducible assumption | with_reducible apply unsupported_keeps
                | with_reducible apply fullReset_keeps | with_reducible apply Keeps.foldl
                | with_reducible apply Keeps.elim | (intros; with_reducible assumption) | (intro x) | split
                | refine Keeps.lit rfl rfl rfl rfl rfl rfl rfl rfl ?_
                | refine Keeps.of_snd (by with_reducible assumption) ?_
                | refine Keeps.of_snd2 (by with_reducible assumption) ?_

theorem serviceReset_keeps {s : State} (h : Keeps true km kc s0 s) (cause : Fld) :
    Keeps true km kc s0 (serviceReset cause s) := by
  unfold serviceReset
  try dsimp only
  repeat' first | with_reducible assumption | with_reducible apply puts_keeps | with_reducible apply coreReset_keeps
                | with_reducible apply setCause_keeps | with_reducible apply Keeps.foldl
                | with_reducible apply Keeps.elim | (intros; with_reducible assumption) | (intro x) | split
                | refine Keeps.lit rfl rfl rfl rfl rfl rfl rfl rfl ?_
                | refine Keeps.of_snd (by with_reducible assumption) ?_
                | refine Keeps.of_snd2 (by with_reducible assumption) ?_

/-! ### Machine/Supply.lean -/

theorem loopOnTime_keeps {s : State} (h : Keeps kd km kc s0 s) (ph : Nat) :
    Keeps kd km kc s0 (loopOnTime ph s).2 := by
  unfold loopOnTime
  try dsimp only
  repeat' first | with_reducible assumption | with_reducible apply fresh_keeps | with_reducible apply Keeps.foldl
                | with_reducible apply Keeps.elim | (intros; with_reducible assumption) | (intro x) | split
                | refine Keeps.lit rfl rfl rfl rfl rfl rfl rfl rfl ?_
                | refine Keeps.of_snd (by with_reducible assumption) ?_
                | refine Keeps.of_snd2 (by with_reducible assumption) ?_

theorem openOnTime_keeps {s : State} (h : Keeps kd km kc s0 s)  :
    Keeps kd km kc s0 (openOnTime s).2 := by
  unfold openOnTime
  try dsimp only
  repeat' first | with_reducible assumption | with_reducible apply fresh_keeps | with_reducible apply Keeps.foldl
                | with_reducible apply Keeps.elim | (intros; with_reducible assumption) | (intro x) | split
                | refine Keeps.lit rfl rfl rfl rfl rfl rfl rfl rfl ?_
                | refine Keeps.of_snd (by with_reducible assumption) ?_
                | refine Keeps.of_snd2 (by with_reducible assumption) ?_

theorem deadStep_keeps {s : State} (h : Keeps kd km kc s0 s) (f : Fld) (step : Int) :
    Keeps kd km kc s0 (deadStep f step s) := by
  unfold deadStep
  try dsimp only
  repeat' first | with_reducible assumption | with_reducible apply put_keeps | with_reducible apply Keeps.foldl
                | with_reducible apply Keeps.elim | (intros; with_reducible assumption) | (intro x) | split
                | refine Keeps.lit rfl rfl rfl rfl rfl rfl rfl rfl ?_
                | refine Keeps.of_snd (by with_reducible assumption) ?_
                | refine Keeps.of_snd2 (by with_reducible assumption) ?_

theorem deadAdjust_keeps {s : State} (h : Keeps kd km kc s0 s) (ph : Nat) (hl : Bool) (sw : Int) :
    Keeps kd km kc s0 (deadAdjust ph hl sw s) := by
  unfold deadAdjust
  try dsimp only
  repeat' first | with_reducible assumption | with_reducible apply deadStep_keeps | with_reducible apply Keeps.foldl
                | with_reducible apply Keeps.elim | (intros; with_reducible assumption) | (intro x) | split
                | refine Keeps.lit rfl rfl rfl rfl rfl rfl rfl rfl ?_
                | refine Keeps.of_snd (by with_reducible assumption) ?_
                | refine Keeps.of_snd2 (by with_reducible assumption) ?_

theorem startPulse_keeps {s : State} (h : Keeps kd km kc s0 s) (ph : Nat) (ton : Nat) (e : Nat) (sw : Int) :
    Keeps kd km kc s0 (startPulse ph ton e sw s) := by
  unfold startPulse
  try dsimp only
  repeat' first | with_reducible assumption | with_reducible apply deadAdjust_keeps | with_reducible apply Keeps.foldl
                | with_reducible apply Keeps.elim | (intros; with_reducible assumption) | (intro x) | split
                | refine Keeps.lit rfl rfl rfl rfl rfl rfl rfl rfl ?_
                | refine Keeps.of_snd (by with_reducible assumption) ?_
                | refine Keeps.of_snd2 (by with_reducible assumption) ?_

theorem setPhases_keeps {s : State} (h : Keeps kd km kc s0 s) (n : Nat) :
    Keeps kd km kc s0 (setPhases n s) := by
  unfold setPhases
  try dsimp only
  repeat' first | with_reducible assumption | with_reducible apply put_keeps | with_reducible apply when_keeps
                | with_reducible apply Keeps.foldl | with_reducible apply Keeps.elim
                | (intros; with_reducible assumption) | (intro x) | split
                | refine Keeps.lit rfl rfl rfl rfl rfl rfl rfl rfl ?_
                | refine Keeps.of_snd (by with_reducible assumption) ?_
                | refine Keeps.of_snd2 (by with_reducible assumption) ?_

theorem phaseAdd_keeps {s : State} (h : Keeps kd km kc s0 s)  :
    Keeps kd km kc s0 (phaseAdd s) := by
  unfold phaseAdd
  try dsimp only
  repeat' first | with_reducible assumption | with_reducible apply setPhases_keeps | with_reducible apply Keeps.foldl
                | with_reducible apply Keeps.elim | (intros; with_reducible assumption) | (intro x) | split
                | refine Keeps.lit rfl rfl rfl rfl rfl rfl rfl rfl ?_
                | refine Keeps.of_snd (by with_reducible assumption) ?_
                | refine Keeps.of_snd2 (by with_reducible assumption) ?_

theorem dwellCheck_keeps {s : State} (h : Keeps kd km kc s0 s)  :
    Keeps kd km kc s0 (dwellCheck s) := by
  unfold dwellCheck
  try dsimp only
  repeat' first | with_reducible assumption | with_reducible apply Keeps.foldl | with_reducible apply Keeps.elim
                | (intros; with_reducible assumption) | (intro x) | split
                | refine Keeps.lit rfl rfl rfl rfl rfl rfl rfl rfl ?_
                | refine Keeps.of_snd (by with_reducible assumption) ?_
                | refine Keeps.of_snd2 (by with_reducible assumption) ?_

theorem phaseJudge_keeps {s : State} (h : Keeps kd km kc s0 s)  :
    Keeps kd km kc s0 (phaseJudge s) := by
  unfold phaseJudge
  try dsimp only
  repeat' first | with_reducible assumption | with_reducible apply phaseAdd_keeps
                | with_reducible apply dwellCheck_keeps | with_reducible apply Keeps.foldl
                | with_reducible apply Keeps.elim | (intros; with_reducible assumption) | (intro x) | split
                | refine Keeps.lit rfl rfl rfl rfl rfl rfl rfl rfl ?_
                | refine Keeps.of_snd (by with_reducible assumption) ?_
                | refine Keeps.of_snd2 (by with_reducible assumption) ?_

theorem biasJudge_keeps {s : State} (h : Keeps kd km kc s0 s)  :
    Keeps kd km kc s0 (biasJudge s) := by
  unfold biasJudge
  try dsimp only
  repeat' first | with_reducible assumption | with_reducible apply Keeps.foldl | with_reducible apply Keeps.elim
                | (intros; with_reducible assumption) | (intro x) | split
                | refine Keeps.lit rfl rfl rfl rfl rfl rfl rfl rfl ?_
                | refine Keeps.of_snd (by with_reducible assumption) ?_
                | refine Keeps.of_snd2 (by with_reducible assumption) ?_

theorem softStart_keeps {s : State} (h : Keeps kd km kc s0 s) (afterTrip : Bool) (vrail : Nat) :
    Keeps kd km kc s0 (softStart afterTrip vrail s) := by
  unfold softStart
  try dsimp only
  repeat' first | with_reducible assumption | with_reducible apply put_keeps | with_reducible apply puts_keeps
                | with_reducible apply repeatFor_keeps | with_reducible apply biasJudge_keeps
                | with_reducible apply Keeps.foldl | with_reducible apply Keeps.elim
                | (intros; with_reducible assumption) | (intro x) | split
                | refine Keeps.lit rfl rfl rfl rfl rfl rfl rfl rfl ?_
                | refine Keeps.of_snd (by with_reducible assumption) ?_
                | refine Keeps.of_snd2 (by with_reducible assumption) ?_

theorem rampBusy_keeps {s : State} (h : Keeps kd km kc s0 s)  :
    Keeps kd km kc s0 (rampBusy s) := by
  unfold rampBusy
  try dsimp only
  repeat' first | with_reducible assumption | with_reducible apply put_keeps | with_reducible apply Keeps.foldl
                | with_reducible apply Keeps.elim | (intros; with_reducible assumption) | (intro x) | split
                | refine Keeps.lit rfl rfl rfl rfl rfl rfl rfl rfl ?_
                | refine Keeps.of_snd (by with_reducible assumption) ?_
                | refine Keeps.of_snd2 (by with_reducible assumption) ?_

theorem auxsTick_keeps {s : State} (h : Keeps kd km kc s0 s)  :
    Keeps kd km kc s0 (auxsTick s) := by
  unfold auxsTick
  try dsimp only
  repeat' first | with_reducible assumption | with_reducible apply repeatFor_keeps | with_reducible apply Keeps.foldl
                | with_reducible apply Keeps.elim | (intros; with_reducible assumption) | (intro x) | split
                | refine Keeps.lit rfl rfl rfl rfl rfl rfl rfl rfl ?_
                | refine Keeps.of_snd (by with_reducible assumption) ?_
                | refine Keeps.of_snd2 (by with_reducible assumption) ?_

theorem regTick_keeps {s : State} (h : Keeps kd km kc s0 s)  :
    Keeps kd km kc s0 (regTick s) := by
  unfold regTick
  try dsimp only
  repeat' first | with_reducible assumption | with_reducible apply dwellCheck_keeps
                | with_reducible apply biasJudge_keeps | with_reducible apply rampBusy_keeps
                | with_reducible apply auxsTick_keeps | with_reducible apply Keeps.foldl
                | with_reducible apply Keeps.elim | (intros; with_reducible assumption) | (intro x) | split
                | refine Keeps.lit rfl rfl rfl rfl rfl rfl rfl rfl ?_
                | refine Keeps.of_snd (by with_reducible assumption) ?_
                | refine Keeps.of_snd2 (by with_reducible assumption) ?_

theorem writeVset_keeps {s : State} (h : Keeps kd km kc s0 s) (d : W32) :
    Keeps kd km kc s0 (writeVset d s) := by
  unfold writeVset
  try dsimp only
  repeat' first | with_reducible assumption | with_reducible apply put_keeps | with_reducible apply checked_keeps
                | with_reducible apply Keeps.foldl | with_reducible apply Keeps.elim
                | (intros; with_reducible assumption) | (intro x) | split
                | refine Keeps.lit rfl rfl rfl rfl rfl rfl rfl rfl ?_
                | refine Keeps.of_snd (by with_reducible assumption) ?_
                | refine Keeps.of_snd2 (by with_reducible assumption) ?_

theorem writeTlim_keeps {s : State} (h : Keeps kd km kc s0 s) (d : W32) :
    Keeps kd km kc s0 (writeTlim d s) := by
  unfold writeTlim
  try dsimp only
  repeat' first | with_reducible assumption | with_reducible apply storeAll_keeps | with_reducible apply checked_keeps
                | with_reducible apply Keeps.foldl | with_reducible apply Keeps.elim
                | (intros; with_reducible assumption) | (intro x) | split
                | refine Keeps.lit rfl rfl rfl rfl rfl rfl rfl rfl ?_
                | refine Keeps.of_snd (by with_reducible assumption) ?_
                | refine Keeps.of_snd2 (by with_reducible assumption) ?_

theorem deadClamp_keeps {s : State} (h : Keeps kd km kc s0 s) (f : Fld) :
    Keeps kd km kc s0 (deadClamp f s) := by
  unfold deadClamp
  try dsimp only
  repeat' first | with_reducible assumption | with_reducible apply put_keeps | with_reducible apply Keeps.foldl
                | with_reducible apply Keeps.elim | (intros; with_reducible assumption) | (intro x) | split
                | refine Keeps.lit rfl rfl rfl rfl rfl rfl rfl rfl ?_
                | refine Keeps.of_snd (by with_reducible assumption) ?_
                | refine Keeps.of_snd2 (by with_reducible assumption) ?_

theorem writeDt_keeps {s : State} (h : Keeps kd km kc s0 s) (d : W32) :
    Keeps kd km kc s0 (writeDt d s) := by
  unfold writeDt
  try dsimp only
  repeat' first | with_reducible assumption | with_reducible apply storeAll_keeps
                | with_reducible apply repeatFor_keeps | with_reducible apply checked_keeps
                | with_reducible apply deadClamp_keeps | with_reducible apply Keeps.foldl
                | with_reducible apply Keeps.elim | (intros; with_reducible assumption) | (intro x) | split
                | refine Keeps.lit rfl rfl rfl rfl rfl rfl rfl rfl ?_
                | refine Keeps.of_snd (by with_reducible assumption) ?_
                | refine Keeps.of_snd2 (by with_reducible assumption) ?_

theorem writePhth_keeps {s : State} (h : Keeps kd km kc s0 s) (d : W32) :
    Keeps kd km kc s0 (writePhth d s) := by
  unfold writePhth
  try dsimp only
  repeat' first | with_reducible assumption | with_reducible apply storeAll_keeps | with_reducible apply checked_keeps
                | with_reducible apply Keeps.foldl | with_reducible apply Keeps.elim
                | (intros; with_reducible assumption) | (intro x) | split
                | refine Keeps.lit rfl rfl rfl rfl rfl rfl rfl rfl ?_
                | refine Keeps.of_snd (by with_reducible assumption) ?_
                | refine Keeps.of_snd2 (by with_reducible assumption) ?_

theorem writePhctl_keeps {s : State} (h : Keeps kd km kc s0 s) (d : W32) :
    Keeps kd km kc s0 (writePhctl d s) := by
  unfold writePhctl
  try dsimp only
  repeat' first | with_reducible assumption | with_reducible apply storeAll_keeps
                | with_reducible apply setPhases_keeps | with_reducible apply phaseJudge_keeps
                | with_reducible apply Keeps.foldl | with_reducible apply Keeps.elim
                | (intros; with_reducible assumption) | (intro x) | split
                | refine Keeps.lit rfl rfl rfl rfl rfl rfl rfl rfl ?_
                | refine Keeps.of_snd (by with_reducible assumption) ?_
                | refine Keeps.of_snd2 (by with_reducible assumption) ?_

theorem repulse_keeps {ton : Nat → State → Nat × State} {s : State}
    (hf : ∀ n t, Keeps kd km kc s0 t → Keeps kd km kc s0 (ton n t).2) (h : Keeps kd km kc s0 s) (e : Nat) :
    Keeps kd km kc s0 (repulse e ton s) :=
  (Keeps.foldl_snd (β := List Pulse) (fun _ p h => hf p.ph _ h) (a := ([], s)) h _).upd rfl rfl rfl rfl rfl rfl rfl rfl

theorem writeTon_keeps {s : State} (h : Keeps kd km kc s0 s) (sub : Nat) (d : W32) :
    Keeps kd km kc s0 (writeTon sub d s) := by
  unfold writeTon
  try dsimp only
  repeat' first | with_reducible assumption | with_reducible apply storeAll_keeps
                | with_reducible apply loopOnTime_keeps | with_reducible apply repulse_keeps
                | with_reducible apply Keeps.foldl | with_reducible apply Keeps.elim
                | (intros; with_reducible assumption) | (intro x) | split
                | refine Keeps.lit rfl rfl rfl rfl rfl rfl rfl rfl ?_
                | refine Keeps.of_snd (by with_reducible assumption) ?_
                | refine Keeps.of_snd2 (by with_reducible assumption) ?_

theorem olAtOnce_keeps {s : State} (h : Keeps kd km kc s0 s) (e : Nat) :
    Keeps kd km kc s0 (olAtOnce e s) := by
  unfold olAtOnce
  try dsimp only
  repeat' first | with_reducible assumption | with_reducible apply Keeps.foldl | with_reducible apply Keeps.elim
                | (intros; with_reducible assumption) | (intro x) | split
                | refine Keeps.lit rfl rfl rfl rfl rfl rfl rfl rfl ?_
                | refine Keeps.of_snd (by with_reducible assumption) ?_
                | refine Keeps.of_snd2 (by with_reducible assumption) ?_

theorem writeOl_keeps {s : State} (h : Keeps kd km kc s0 s) (sub : Nat) (d : W32) :
    Keeps kd km kc s0 (writeOl sub d s) := by
  unfold writeOl
  try dsimp only
  repeat' first | with_reducible assumption | with_reducible apply storeAll_keeps
                | with_reducible apply openOnTime_keeps | with_reducible apply repulse_keeps
                | with_reducible apply olAtOnce_keeps | with_reducible apply Keeps.foldl
                | with_reducible apply Keeps.elim | (intros; with_reducible assumption) | (intro x) | split
                | refine Keeps.lit rfl rfl rfl rfl rfl rfl rfl rfl ?_
                | refine Keeps.of_snd (by with_reducible assumption) ?_
                | refine Keeps.of_snd2 (by with_reducible assumption) ?_

theorem openLoopBegin_keeps {s : State} (h : Keeps kd km kc s0 s)  :
    Keeps kd km kc s0 (openLoopBegin s) := by
  unfold openLoopBegin
  try dsimp only
  repeat' first | with_reducible assumption | with_reducible apply put_keeps | with_reducible apply when_keeps
                | with_reducible apply Keeps.foldl | with_reducible apply Keeps.elim
                | (intros; with_reducible assumption) | (intro x) | split
                | refine Keeps.lit rfl rfl rfl rfl rfl rfl rfl rfl ?_
                | refine Keeps.of_snd (by with_reducible assumption) ?_
                | refine Keeps.of_snd2 (by with_reducible assumption) ?_

theorem writeMode_keeps {s : State} (h : Keeps kd km kc s0 s) (d : W32) :
    Keeps kd km kc s0 (writeMode d s) := by
  unfold writeMode
  try dsimp only
  repeat' first | with_reducible assumption | with_reducible apply put_keeps | with_reducible apply recErr_keeps
                | with_reducible apply dwellCheck_keeps | with_reducible apply phaseJudge_keeps
                | with_reducible apply openLoopBegin_keeps | with_reducible apply Keeps.foldl
                | with_reducible apply Keeps.elim | (intros; with_reducible assumption) | (intro x) | split
                | refine Keeps.lit rfl rfl rfl rfl rfl rfl rfl rfl ?_
                | refine Keeps.of_snd (by with_reducible assumption) ?_
                | refine Keeps.of_snd2 (by with_reducible assumption) ?_

theorem writeFstat_keeps {s : State} (h : Keeps kd km kc s0 s) (d : W32) :
    Keeps kd km kc s0 (writeFstat d s) := by
  unfold writeFstat
  try dsimp only
  repeat' first | with_reducible assumption | with_reducible apply puts_keeps | with_reducible apply Keeps.foldl
                | with_reducible apply Keeps.elim | (intros; with_reducible assumption) | (intro x) | split
                | refine Keeps.lit rfl rfl rfl rfl rfl rfl rfl rfl ?_
                | refine Keeps.of_snd (by with_reducible assumption) ?_
                | refine Keeps.of_snd2 (by with_reducible assumption) ?_

theorem onPulseStartEff_keeps {s : State} (h : Keeps kd km kc s0 s) (sub : Nat) (vdie : Nat) (sw : Int) :
    Keeps kd km kc s0 (onPulseStartEff sub vdie sw s) := by
  unfold onPulseStartEff
  try dsimp only
  repeat' first | with_reducible assumption | with_reducible apply loopOnTime_keeps
                | with_reducible apply startPulse_keeps | with_reducible apply Keeps.foldl
                | with_reducible apply Keeps.elim | (intros; with_reducible assumption) | (intro x) | split
                | refine Keeps.lit rfl rfl rfl rfl rfl rfl rfl rfl ?_
                | refine Keeps.of_snd (by with_reducible assumption) ?_
                | refine Keeps.of_snd2 (by with_reducible assumption) ?_

theorem pulseEndEff_keeps {s : State} (h : Keeps kd km kc s0 s) (ph : Nat) (sub : Nat) (sw : Int) :
    Keeps kd km kc s0 (pulseEndEff ph sub sw s) := by
  unfold pulseEndEff
  try dsimp only
  repeat' first | with_reducible assumption | with_reducible apply deadAdjust_keeps | with_reducible apply Keeps.foldl
                | with_reducible apply Keeps.elim | (intros; with_reducible assumption) | (intro x) | split
                | refine Keeps.lit rfl rfl rfl rfl rfl rfl rfl rfl ?_
                | refine Keeps.of_snd (by with_reducible assumption) ?_
                | refine Keeps.of_snd2 (by with_reducible assumption) ?_

theorem phaseAmps_keeps {s : State} (h : Keeps kd km kc s0 s) (v : Nat) :
    Keeps kd km kc s0 (phaseAmps v s).2 := by
  unfold phaseAmps
  try dsimp only
  repeat' first | with_reducible assumption | with_reducible apply Keeps.foldl | with_reducible apply Keeps.elim
                | (intros; with_reducible assumption) | (intro x) | split
                | refine Keeps.lit rfl rfl rfl rfl rfl rfl rfl rfl ?_
                | refine Keeps.of_snd (by with_reducible assumption) ?_
                | refine Keeps.of_snd2 (by with_reducible assumption) ?_

theorem measurePhases_keeps {s : State} (h : Keeps kd km kc s0 s) (isns : List Nat) :
    Keeps kd km kc s0 (measurePhases isns s) := by
  unfold measurePhases
  try dsimp only
  repeat' first | with_reducible assumption | with_reducible apply put_keeps | with_reducible apply repeatFor_keeps
                | with_reducible apply phaseAmps_keeps | with_reducible apply Keeps.foldl
                | with_reducible apply Keeps.elim | (intros; with_reducible assumption) | (intro x) | split
                | refine Keeps.lit rfl rfl rfl rfl rfl rfl rfl rfl ?_
                | refine Keeps.of_snd (by with_reducible assumption) ?_
                | refine Keeps.of_snd2 (by with_reducible assumption) ?_

theorem totalOf_keeps {s : State} (h : Keeps kd km kc s0 s)  :
    Keeps kd km kc s0 (totalOf s).2 := by
  unfold totalOf
  try dsimp only
  repeat' first | with_reducible assumption | with_reducible apply fresh_keeps | with_reducible apply Keeps.foldl
                | with_reducible apply Keeps.elim | (intros; with_reducible assumption) | (intro x) | split
                | refine Keeps.lit rfl rfl rfl rfl rfl rfl rfl rfl ?_
                | refine Keeps.of_snd (by with_reducible assumption) ?_
                | refine Keeps.of_snd2 (by with_reducible assumption) ?_

theorem judgeVoltage_keeps {s : State} (h : Keeps kd km kc s0 s)  :
    Keeps kd km kc s0 (judgeVoltage s) := by
  unfold judgeVoltage
  try dsimp only
  repeat' first | with_reducible assumption | with_reducible apply biasJudge_keeps | with_reducible apply Keeps.foldl
                | with_reducible apply Keeps.elim | (intros; with_reducible assumption) | (intro x) | split
                | refine Keeps.lit rfl rfl rfl rfl rfl rfl rfl rfl ?_
                | refine Keeps.of_snd (by with_reducible assumption) ?_
                | refine Keeps.of_snd2 (by with_reducible assumption) ?_

theorem regSampleEff_keeps {s : State} (h : Keeps kd km kc s0 s) (vout : Nat) (isns : List Nat) (vin : Nat) :
    Keeps kd km kc s0 (regSampleEff vout isns vin s) := by
  unfold regSampleEff
  try dsimp only
  repeat' first | with_reducible assumption | with_reducible apply put_keeps | with_reducible apply caddySample_keeps
                | with_reducible apply phaseJudge_keeps | with_reducible apply measurePhases_keeps
                | with_reducible apply totalOf_keeps | with_reducible apply judgeVoltage_keeps
                | with_reducible apply Keeps.foldl | with_reducible apply Keeps.elim
                | (intros; with_reducible assumption) | (intro x) | split
                | refine Keeps.lit rfl rfl rfl rfl rfl rfl rfl rfl ?_
                | refine Keeps.of_snd (by with_reducible assumption) ?_
                | refine Keeps.of_snd2 (by with_reducible assumption) ?_

theorem takeNotice_keeps {s : State} (h : Keeps kd km kc s0 s) (amt : Nat) (start : Nat) :
    Keeps kd km kc s0 (takeNotice amt start s) := by
  unfold takeNotice
  try dsimp only
  repeat' first | with_reducible assumption | with_reducible apply put_keeps | with_reducible apply inc_keeps
                | with_reducible apply phaseJudge_keeps | with_reducible apply Keeps.foldl
                | with_reducible apply Keeps.elim | (intros; with_reducible assumption) | (intro x) | split
                | refine Keeps.lit rfl rfl rfl rfl rfl rfl rfl rfl ?_
                | refine Keeps.of_snd (by with_reducible assumption) ?_
                | refine Keeps.of_snd2 (by with_reducible assumption) ?_

theorem ffNoticeEff_keeps {s : State} (h : Keeps kd km kc s0 s)  :
    Keeps kd km kc s0 (ffNoticeEff s) := by
  unfold ffNoticeEff
  try dsimp only
  repeat' first | with_reducible assumption | with_reducible apply takeNotice_keeps | with_reducible apply Keeps.foldl
                | with_reducible apply Keeps.elim | (intros; with_reducible assumption) | (intro x) | split
                | refine Keeps.lit rfl rfl rfl rfl rfl rfl rfl rfl ?_
                | refine Keeps.of_snd (by with_reducible assumption) ?_
                | refine Keeps.of_snd2 (by with_reducible assumption) ?_

theorem ffRampStartEff_keeps {s : State} (h : Keeps kd km kc s0 s)  :
    Keeps kd km kc s0 (ffRampStartEff s) := by
  unfold ffRampStartEff
  try dsimp only
  repeat' first | with_reducible assumption | with_reducible apply dwellCheck_keeps | with_reducible apply Keeps.foldl
                | with_reducible apply Keeps.elim | (intros; with_reducible assumption) | (intro x) | split
                | refine Keeps.lit rfl rfl rfl rfl rfl rfl rfl rfl ?_
                | refine Keeps.of_snd (by with_reducible assumption) ?_
                | refine Keeps.of_snd2 (by with_reducible assumption) ?_

theorem ffHoldEndEff_keeps {s : State} (h : Keeps kd km kc s0 s)  :
    Keeps kd km kc s0 (ffHoldEndEff s) := by
  unfold ffHoldEndEff
  try dsimp only
  repeat' first | with_reducible assumption | with_reducible apply Keeps.foldl | with_reducible apply Keeps.elim
                | (intros; with_reducible assumption) | (intro x) | split
                | refine Keeps.lit rfl rfl rfl rfl rfl rfl rfl rfl ?_
                | refine Keeps.of_snd (by with_reducible assumption) ?_
                | refine Keeps.of_snd2 (by with_reducible assumption) ?_

theorem phaseShedEff_keeps {s : State} (h : Keeps kd km kc s0 s)  :
    Keeps kd km kc s0 (phaseShedEff s) := by
  unfold phaseShedEff
  try dsimp only
  repeat' first | with_reducible assumption | with_reducible apply setPhases_keeps
                | with_reducible apply dwellCheck_keeps | with_reducible apply Keeps.foldl
                | with_reducible apply Keeps.elim | (intros; with_reducible assumption) | (intro x) | split
                | refine Keeps.lit rfl rfl rfl rfl rfl rfl rfl rfl ?_
                | refine Keeps.of_snd (by with_reducible assumption) ?_
                | refine Keeps.of_snd2 (by with_reducible assumption) ?_

theorem openLoopPulseEff_keeps {s : State} (h : Keeps kd km kc s0 s) (sub : Nat) (sw : Int) :
    Keeps kd km kc s0 (openLoopPulseEff sub sw s) := by
  unfold openLoopPulseEff
  try dsimp only
  repeat' first | with_reducible assumption | with_reducible apply openOnTime_keeps
                | with_reducible apply startPulse_keeps | with_reducible apply Keeps.foldl
                | with_reducible apply Keeps.elim | (intros; with_reducible assumption) | (intro x) | split
                | refine Keeps.lit rfl rfl rfl rfl rfl rfl rfl rfl ?_
                | refine Keeps.of_snd (by with_reducible assumption) ?_
                | refine Keeps.of_snd2 (by with_reducible assumption) ?_

theorem tripOp_keeps {s : State} (h : Keeps true km kc s0 s) (oc : Nat) (ov : Bool) (vinlo : Bool) :
    Keeps true km kc s0 (tripOp oc ov vinlo s) := by
  unfold tripOp
  try dsimp only
  repeat' first | with_reducible assumption | with_reducible apply put_keeps | with_reducible apply inc_keeps
                | with_reducible apply puts_keeps | with_reducible apply coreReset_keeps
                | with_reducible apply rampBusy_keeps | with_reducible apply Keeps.foldl
                | with_reducible apply Keeps.elim | (intros; with_reducible assumption) | (intro x) | split
                | refine Keeps.lit rfl rfl rfl rfl rfl rfl rfl rfl ?_
                | refine Keeps.of_snd (by with_reducible assumption) ?_
                | refine Keeps.of_snd2 (by with_reducible assumption) ?_

theorem regTripEff_keeps {s : State} (h : Keeps true km kc s0 s) (c : TripSense) :
    Keeps true km kc s0 (regTripEff c s) := by
  unfold regTripEff
  try dsimp only
  repeat' first | with_reducible assumption | with_reducible apply tripOp_keeps | with_reducible apply Keeps.foldl
                | with_reducible apply Keeps.elim | (intros; with_reducible assumption) | (intro x) | split
                | refine Keeps.lit rfl rfl rfl rfl rfl rfl rfl rfl ?_
                | refine Keeps.of_snd (by with_reducible assumption) ?_
                | refine Keeps.of_snd2 (by with_reducible assumption) ?_

theorem underVoltageEff_keeps {s : State} (h : Keeps kd km kc s0 s)  :
    Keeps kd km kc s0 (underVoltageEff s) := by
  unfold underVoltageEff
  try dsimp only
  repeat' first | with_reducible assumption | with_reducible apply put_keeps | with_reducible apply Keeps.foldl
                | with_reducible apply Keeps.elim | (intros; with_reducible assumption) | (intro x) | split
                | refine Keeps.lit rfl rfl rfl rfl rfl rfl rfl rfl ?_
                | refine Keeps.of_snd (by with_reducible assumption) ?_
                | refine Keeps.of_snd2 (by with_reducible assumption) ?_

theorem tripRetryEff_keeps {s : State} (h : Keeps kd km kc s0 s) (vrail : Nat) :
    Keeps kd km kc s0 (tripRetryEff vrail s) := by
  unfold tripRetryEff
  try dsimp only
  repeat' first | with_reducible assumption | with_reducible apply put_keeps | with_reducible apply softStart_keeps
                | with_reducible apply Keeps.foldl | with_reducible apply Keeps.elim
                | (intros; with_reducible assumption) | (intro x) | split
                | refine Keeps.lit rfl rfl rfl rfl rfl rfl rfl rfl ?_
                | refine Keeps.of_snd (by with_reducible assumption) ?_
                | refine Keeps.of_snd2 (by with_reducible assumption) ?_

theorem tripcntClearEff_keeps {s : State} (h : Keeps kd km kc s0 s)  :
    Keeps kd km kc s0 (tripcntClearEff s) := by
  unfold tripcntClearEff
  try dsimp only
  repeat' first | with_reducible assumption | with_reducible apply put_keeps | with_reducible apply Keeps.foldl
                | with_reducible apply Keeps.elim | (intros; with_reducible assumption) | (intro x) | split
                | refine Keeps.lit rfl rfl rfl rfl rfl rfl rfl rfl ?_
                | refine Keeps.of_snd (by with_reducible assumption) ?_
                | refine Keeps.of_snd2 (by with_reducible assumption) ?_

theorem powerGoodEff_keeps {s : State} (h : Keeps kd km kc s0 s)  :
    Keeps kd km kc s0 (powerGoodEff s) := by
  unfold powerGoodEff
  try dsimp only
  repeat' first | with_reducible assumption | with_reducible apply put_keeps | with_reducible apply puts_keeps
                | with_reducible apply phaseJudge_keeps | with_reducible apply openLoopBegin_keeps
                | with_reducible apply Keeps.foldl | with_reducible apply Keeps.elim
                | (intros; with_reducible assumption) | (intro x) | split
                | refine Keeps.lit rfl rfl rfl rfl rfl rfl rfl rfl ?_
                | refine Keeps.of_snd (by with_reducible assumption) ?_
                | refine Keeps.of_snd2 (by with_reducible assumption) ?_

theorem setPointRampEndEff_keeps {s : State} (h : Keeps kd km kc s0 s)  :
    Keeps kd km kc s0 (setPointRampEndEff s) := by
  unfold setPointRampEndEff
  try dsimp only
  repeat' first | with_reducible assumption | with_reducible apply put_keeps | with_reducible apply Keeps.foldl
                | with_reducible apply Keeps.elim | (intros; with_reducible assumption) | (intro x) | split
                | refine Keeps.lit rfl rfl rfl rfl rfl rfl rfl rfl ?_
                | refine Keeps.of_snd (by with_reducible assumption) ?_
                | refine Keeps.of_snd2 (by with_reducible assumption) ?_

/-! ### Machine/Urgency.lean -/

theorem setHot_keeps {s : State} (h : Keeps kd km kc s0 s) (since : Nat → Option Nat) (ch : Nat) :
    Keeps kd km kc s0 (setHot since ch s) := by
  unfold setHot
  try dsimp only
  repeat' first | with_reducible assumption | with_reducible apply Keeps.foldl | with_reducible apply Keeps.elim
                | (intros; with_reducible assumption) | (intro x) | split
                | refine Keeps.lit rfl rfl rfl rfl rfl rfl rfl rfl ?_
                | refine Keeps.of_snd (by with_reducible assumption) ?_
                | refine Keeps.of_snd2 (by with_reducible assumption) ?_

theorem noteHot_keeps {s : State} (h : Keeps kd km kc s0 s) (ch : Nat) :
    Keeps kd km kc s0 (noteHot ch s) := by
  unfold noteHot
  try dsimp only
  repeat' first | with_reducible assumption | with_reducible apply setHot_keeps | with_reducible apply Keeps.foldl
                | with_reducible apply Keeps.elim | (intros; with_reducible assumption) | (intro x) | split
                | refine Keeps.lit rfl rfl rfl rfl rfl rfl rfl rfl ?_
                | refine Keeps.of_snd (by with_reducible assumption) ?_
                | refine Keeps.of_snd2 (by with_reducible assumption) ?_

theorem clearSat_keeps {s : State} (h : Keeps kd km kc s0 s)  :
    Keeps kd km kc s0 (clearSat s) := by
  unfold clearSat
  try dsimp only
  repeat' first | with_reducible assumption | with_reducible apply put_keeps | with_reducible apply Keeps.foldl
                | with_reducible apply Keeps.elim | (intros; with_reducible assumption) | (intro x) | split
                | refine Keeps.lit rfl rfl rfl rfl rfl rfl rfl rfl ?_
                | refine Keeps.of_snd (by with_reducible assumption) ?_
                | refine Keeps.of_snd2 (by with_reducible assumption) ?_

theorem dqosCommit_keeps {s : State} (h : Keeps kd km kc s0 s) (before : State) :
    Keeps kd km kc s0 (dqosCommit before s) := by
  unfold dqosCommit
  try dsimp only
  repeat' first | with_reducible assumption | with_reducible apply repeatFor_keeps | with_reducible apply setHot_keeps
                | with_reducible apply clearSat_keeps | with_reducible apply Keeps.foldl
                | with_reducible apply Keeps.elim | (intros; with_reducible assumption) | (intro x) | split
                | refine Keeps.lit rfl rfl rfl rfl rfl rfl rfl rfl ?_
                | refine Keeps.of_snd (by with_reducible assumption) ?_
                | refine Keeps.of_snd2 (by with_reducible assumption) ?_

/-! ### Machine/Commit.lean -/

theorem refillPolicer_keeps {s : State} (h : Keeps kd km kc s0 s) (p : Nat) :
    Keeps kd km kc s0 (refillPolicer p s) := by
  unfold refillPolicer
  try dsimp only
  repeat' first | with_reducible assumption | with_reducible apply Keeps.foldl | with_reducible apply Keeps.elim
                | (intros; with_reducible assumption) | (intro x) | split
                | refine Keeps.lit rfl rfl rfl rfl rfl rfl rfl rfl ?_
                | refine Keeps.of_snd (by with_reducible assumption) ?_
                | refine Keeps.of_snd2 (by with_reducible assumption) ?_

theorem commitHook_keeps {s : State} (h : Keeps kd km kc s0 s) (p : Page) (before : State) :
    Keeps kd km kc s0 (commitHook p before s) := by
  unfold commitHook
  try dsimp only
  repeat' first | with_reducible assumption | with_reducible apply repeatFor_keeps
                | with_reducible apply recomputeEff_keeps | with_reducible apply checkSupply_keeps
                | with_reducible apply timCommit_keeps | with_reducible apply phaseJudge_keeps
                | with_reducible apply rampBusy_keeps | with_reducible apply dqosCommit_keeps
                | with_reducible apply refillPolicer_keeps | with_reducible apply Keeps.foldl
                | with_reducible apply Keeps.elim | (intros; with_reducible assumption) | (intro x) | split
                | refine Keeps.lit rfl rfl rfl rfl rfl rfl rfl rfl ?_
                | refine Keeps.of_snd (by with_reducible assumption) ?_
                | refine Keeps.of_snd2 (by with_reducible assumption) ?_

theorem applyCommit_keeps {s : State} (h : Keeps kd km kc s0 s) (p : Page) :
    Keeps kd km kc s0 (applyCommit p s) := by
  unfold applyCommit
  try dsimp only
  repeat' first | with_reducible assumption | with_reducible apply put_keeps | with_reducible apply copyShadows_keeps
                | with_reducible apply commitHook_keeps | with_reducible apply Keeps.foldl
                | with_reducible apply Keeps.elim | (intros; with_reducible assumption) | (intro x) | split
                | refine Keeps.lit rfl rfl rfl rfl rfl rfl rfl rfl ?_
                | refine Keeps.of_snd (by with_reducible assumption) ?_
                | refine Keeps.of_snd2 (by with_reducible assumption) ?_

theorem commitPoint_keeps {s : State} (h : Keeps kd km kc s0 s) (p : Page) (point : Nat) :
    Keeps kd km kc s0 (commitPoint p point s) := by
  unfold commitPoint
  try dsimp only
  repeat' first | with_reducible assumption | with_reducible apply applyCommit_keeps
                | with_reducible apply Keeps.foldl | with_reducible apply Keeps.elim
                | (intros; with_reducible assumption) | (intro x) | split
                | refine Keeps.lit rfl rfl rfl rfl rfl rfl rfl rfl ?_
                | refine Keeps.of_snd (by with_reducible assumption) ?_
                | refine Keeps.of_snd2 (by with_reducible assumption) ?_

theorem toothCommits_keeps {s : State} (h : Keeps kd km kc s0 s)  :
    Keeps kd km kc s0 (toothCommits s) := by
  unfold toothCommits
  try dsimp only
  repeat' first | with_reducible assumption | with_reducible apply commitPoint_keeps
                | with_reducible apply Keeps.foldl | with_reducible apply Keeps.elim
                | (intros; with_reducible assumption) | (intro x) | split
                | refine Keeps.lit rfl rfl rfl rfl rfl rfl rfl rfl ?_
                | refine Keeps.of_snd (by with_reducible assumption) ?_
                | refine Keeps.of_snd2 (by with_reducible assumption) ?_

theorem requestCommit_keeps {s : State} (h : Keeps kd km kc s0 s) (p : Page) (point : Nat) :
    Keeps kd km kc s0 (requestCommit p point s) := by
  unfold requestCommit
  try dsimp only
  repeat' first | with_reducible assumption | with_reducible apply put_keeps | with_reducible apply applyCommit_keeps
                | with_reducible apply Keeps.foldl | with_reducible apply Keeps.elim
                | (intros; with_reducible assumption) | (intro x) | split
                | refine Keeps.lit rfl rfl rfl rfl rfl rfl rfl rfl ?_
                | refine Keeps.of_snd (by with_reducible assumption) ?_
                | refine Keeps.of_snd2 (by with_reducible assumption) ?_

theorem writeShcmt_keeps {s : State} (h : Keeps kd km kc s0 s) (p : Page) (d : W32) :
    Keeps kd km kc s0 (writeShcmt p d s) := by
  unfold writeShcmt
  try dsimp only
  repeat' first | with_reducible assumption | with_reducible apply put_keeps | with_reducible apply store_keeps
                | with_reducible apply recErr_keeps | with_reducible apply requestCommit_keeps
                | with_reducible apply Keeps.foldl | with_reducible apply Keeps.elim
                | (intros; with_reducible assumption) | (intro x) | split
                | refine Keeps.lit rfl rfl rfl rfl rfl rfl rfl rfl ?_
                | refine Keeps.of_snd (by with_reducible assumption) ?_
                | refine Keeps.of_snd2 (by with_reducible assumption) ?_

theorem releaseMember_keeps {s : State} (h : Keeps kd km kc s0 s) (g : Nat) (p : Page) :
    Keeps kd km kc s0 (releaseMember g s p) := by
  unfold releaseMember
  try dsimp only
  repeat' first | with_reducible assumption | with_reducible apply recErr_keeps
                | with_reducible apply requestCommit_keeps | with_reducible apply Keeps.foldl
                | with_reducible apply Keeps.elim | (intros; with_reducible assumption) | (intro x) | split
                | refine Keeps.lit rfl rfl rfl rfl rfl rfl rfl rfl ?_
                | refine Keeps.of_snd (by with_reducible assumption) ?_
                | refine Keeps.of_snd2 (by with_reducible assumption) ?_

theorem releaseGroup_keeps {s : State} (h : Keeps kd km kc s0 s) (g : Nat) :
    Keeps kd km kc s0 (releaseGroup g s) := by
  unfold releaseGroup
  try dsimp only
  repeat' first | with_reducible assumption | with_reducible apply releaseMember_keeps
                | with_reducible apply Keeps.foldl | with_reducible apply Keeps.elim
                | (intros; with_reducible assumption) | (intro x) | split
                | refine Keeps.lit rfl rfl rfl rfl rfl rfl rfl rfl ?_
                | refine Keeps.of_snd (by with_reducible assumption) ?_
                | refine Keeps.of_snd2 (by with_reducible assumption) ?_

theorem writeGrpcmt_keeps {s : State} (h : Keeps kd km kc s0 s) (d : W32) :
    Keeps kd km kc s0 (writeGrpcmt d s) := by
  unfold writeGrpcmt
  try dsimp only
  repeat' first | with_reducible assumption | with_reducible apply repeatFor_keeps
                | with_reducible apply releaseGroup_keeps | with_reducible apply Keeps.foldl
                | with_reducible apply Keeps.elim | (intros; with_reducible assumption) | (intro x) | split
                | refine Keeps.lit rfl rfl rfl rfl rfl rfl rfl rfl ?_
                | refine Keeps.of_snd (by with_reducible assumption) ?_
                | refine Keeps.of_snd2 (by with_reducible assumption) ?_

theorem writeGrppt_keeps {s : State} (h : Keeps kd km kc s0 s) (d : W32) :
    Keeps kd km kc s0 (writeGrppt d s) := by
  unfold writeGrppt
  try dsimp only
  repeat' first | with_reducible assumption | with_reducible apply storeAll_keeps | with_reducible apply recErr_keeps
                | with_reducible apply Keeps.foldl | with_reducible apply Keeps.elim
                | (intros; with_reducible assumption) | (intro x) | split
                | refine Keeps.lit rfl rfl rfl rfl rfl rfl rfl rfl ?_
                | refine Keeps.of_snd (by with_reducible assumption) ?_
                | refine Keeps.of_snd2 (by with_reducible assumption) ?_

theorem shadowCommitEff_keeps {s : State} (h : Keeps kd km kc s0 s) (p : Page) (d : W32) :
    Keeps kd km kc s0 (shadowCommitEff p d s) := by
  unfold shadowCommitEff
  try dsimp only
  repeat' first | with_reducible assumption | with_reducible apply writeShcmt_keeps | with_reducible apply Keeps.foldl
                | with_reducible apply Keeps.elim | (intros; with_reducible assumption) | (intro x) | split
                | refine Keeps.lit rfl rfl rfl rfl rfl rfl rfl rfl ?_
                | refine Keeps.of_snd (by with_reducible assumption) ?_
                | refine Keeps.of_snd2 (by with_reducible assumption) ?_

/-! ### Machine/HostLink.lean -/

theorem fifoWrite_keeps {s : State} (h : Keeps kd km kc s0 s) (n : Fin 16) (w : W32) (mark : Bool) :
    Keeps kd km kc s0 (fifoWrite n w mark s) := by
  unfold fifoWrite
  try dsimp only
  repeat' first | with_reducible assumption | with_reducible apply put_keeps | with_reducible apply setFifo_keeps
                | with_reducible apply recErr_keeps | with_reducible apply Keeps.foldl
                | with_reducible apply Keeps.elim | (intros; with_reducible assumption) | (intro x) | split
                | refine Keeps.lit rfl rfl rfl rfl rfl rfl rfl rfl ?_
                | refine Keeps.of_snd (by with_reducible assumption) ?_
                | refine Keeps.of_snd2 (by with_reducible assumption) ?_

theorem readRdata_keeps {s : State} (h : Keeps kd km kc s0 s) (n : Fin 16) :
    Keeps kd km kc s0 (readRdata n s).2 := by
  unfold readRdata
  try dsimp only
  repeat' first | with_reducible assumption | with_reducible apply put_keeps | with_reducible apply setFifo_keeps
                | with_reducible apply recErr_keeps | with_reducible apply Keeps.foldl
                | with_reducible apply Keeps.elim | (intros; with_reducible assumption) | (intro x) | split
                | refine Keeps.lit rfl rfl rfl rfl rfl rfl rfl rfl ?_
                | refine Keeps.of_snd (by with_reducible assumption) ?_
                | refine Keeps.of_snd2 (by with_reducible assumption) ?_

theorem fifoEnableOp_keeps {s : State} (h : Keeps kd km kc s0 s) (n : Fin 16) :
    Keeps kd km kc s0 (fifoEnableOp n s) := by
  unfold fifoEnableOp
  try dsimp only
  repeat' first | with_reducible assumption | with_reducible apply puts_keeps | with_reducible apply checked_keeps
                | with_reducible apply Keeps.foldl | with_reducible apply Keeps.elim
                | (intros; with_reducible assumption) | (intro x) | split
                | refine Keeps.lit rfl rfl rfl rfl rfl rfl rfl rfl ?_
                | refine Keeps.of_snd (by with_reducible assumption) ?_
                | refine Keeps.of_snd2 (by with_reducible assumption) ?_

theorem fifoDisableOp_keeps {s : State} (h : Keeps kd km kc s0 s) (n : Nat) :
    Keeps kd km kc s0 (fifoDisableOp n s) := by
  unfold fifoDisableOp
  try dsimp only
  repeat' first | with_reducible assumption | with_reducible apply puts_keeps | with_reducible apply Keeps.foldl
                | with_reducible apply Keeps.elim | (intros; with_reducible assumption) | (intro x) | split
                | refine Keeps.lit rfl rfl rfl rfl rfl rfl rfl rfl ?_
                | refine Keeps.of_snd (by with_reducible assumption) ?_
                | refine Keeps.of_snd2 (by with_reducible assumption) ?_

theorem fifoCfg_keeps {s : State} (h : Keeps kd km kc s0 s) (n : Fin 16) (d : W32) :
    Keeps kd km kc s0 (fifoCfg n d s) := by
  unfold fifoCfg
  try dsimp only
  repeat' first | with_reducible assumption | with_reducible apply store_keeps | with_reducible apply storeAll_keeps
                | with_reducible apply setFifo_keeps | with_reducible apply checked_keeps
                | with_reducible apply Keeps.foldl | with_reducible apply Keeps.elim
                | (intros; with_reducible assumption) | (intro x) | split
                | refine Keeps.lit rfl rfl rfl rfl rfl rfl rfl rfl ?_
                | refine Keeps.of_snd (by with_reducible assumption) ?_
                | refine Keeps.of_snd2 (by with_reducible assumption) ?_

theorem framingError_keeps {s : State} (h : Keeps kd km kc s0 s) (n : Fin 16) (skip : Bool) (f : FifoSt) :
    Keeps kd km kc s0 (framingError n skip f s) := by
  unfold framingError
  try dsimp only
  repeat' first | with_reducible assumption | with_reducible apply put_keeps | with_reducible apply setFifo_keeps
                | with_reducible apply recErr_keeps | with_reducible apply Keeps.foldl
                | with_reducible apply Keeps.elim | (intros; with_reducible assumption) | (intro x) | split
                | refine Keeps.lit rfl rfl rfl rfl rfl rfl rfl rfl ?_
                | refine Keeps.of_snd (by with_reducible assumption) ?_
                | refine Keeps.of_snd2 (by with_reducible assumption) ?_

theorem agentItem_keeps {s : State} (h : Keeps kd km kc s0 s) (n : Fin 16) (w : W32) (e : Bool) (f : FifoSt) :
    Keeps kd km kc s0 (agentItem n w e f s) := by
  unfold agentItem
  try dsimp only
  repeat' first | with_reducible assumption | with_reducible apply setFifo_keeps
                | with_reducible apply framingError_keeps | with_reducible apply Keeps.foldl
                | with_reducible apply Keeps.elim | (intros; with_reducible assumption) | (intro x) | split
                | refine Keeps.lit rfl rfl rfl rfl rfl rfl rfl rfl ?_
                | refine Keeps.of_snd (by with_reducible assumption) ?_
                | refine Keeps.of_snd2 (by with_reducible assumption) ?_

theorem bfifoAgentTakeEff_keeps {s : State} (h : Keeps kd km kc s0 s) (n : Fin 16) :
    Keeps kd km kc s0 (bfifoAgentTakeEff n s) := by
  unfold bfifoAgentTakeEff
  try dsimp only
  repeat' first | with_reducible assumption | with_reducible apply agentItem_keeps | with_reducible apply Keeps.foldl
                | with_reducible apply Keeps.elim | (intros; with_reducible assumption) | (intro x) | split
                | refine Keeps.lit rfl rfl rfl rfl rfl rfl rfl rfl ?_
                | refine Keeps.of_snd (by with_reducible assumption) ?_
                | refine Keeps.of_snd2 (by with_reducible assumption) ?_

theorem bfifoAgentPutEff_keeps {s : State} (h : Keeps kd km kc s0 s) (n : Fin 16) :
    Keeps kd km kc s0 (bfifoAgentPutEff n s) := by
  unfold bfifoAgentPutEff
  try dsimp only
  repeat' first | with_reducible assumption | with_reducible apply puts_keeps | with_reducible apply setFifo_keeps
                | with_reducible apply Keeps.foldl | with_reducible apply Keeps.elim
                | (intros; with_reducible assumption) | (intro x) | split
                | refine Keeps.lit rfl rfl rfl rfl rfl rfl rfl rfl ?_
                | refine Keeps.of_snd (by with_reducible assumption) ?_
                | refine Keeps.of_snd2 (by with_reducible assumption) ?_

theorem writeReq_keeps {s : State} (h : Keeps kd km kc s0 s) (i : Nat) (d : W32) :
    Keeps kd km kc s0 (writeReq i d s) := by
  unfold writeReq
  try dsimp only
  repeat' first | with_reducible assumption | with_reducible apply put_keeps | with_reducible apply checked_keeps
                | with_reducible apply Keeps.foldl | with_reducible apply Keeps.elim
                | (intros; with_reducible assumption) | (intro x) | split
                | refine Keeps.lit rfl rfl rfl rfl rfl rfl rfl rfl ?_
                | refine Keeps.of_snd (by with_reducible assumption) ?_
                | refine Keeps.of_snd2 (by with_reducible assumption) ?_

theorem mbxRingEff_keeps {s : State} (h : Keeps kd km kc s0 s)  :
    Keeps kd km kc s0 (mbxRingEff s) := by
  unfold mbxRingEff
  try dsimp only
  repeat' first | with_reducible assumption | with_reducible apply put_keeps | with_reducible apply checked_keeps
                | with_reducible apply fireEdge_keeps | with_reducible apply Keeps.foldl
                | with_reducible apply Keeps.elim | (intros; with_reducible assumption) | (intro x) | split
                | refine Keeps.lit rfl rfl rfl rfl rfl rfl rfl rfl ?_
                | refine Keeps.of_snd (by with_reducible assumption) ?_
                | refine Keeps.of_snd2 (by with_reducible assumption) ?_

theorem mbxAckEff_keeps {s : State} (h : Keeps kd km kc s0 s)  :
    Keeps kd km kc s0 (mbxAckEff s) := by
  unfold mbxAckEff
  try dsimp only
  repeat' first | with_reducible assumption | with_reducible apply put_keeps | with_reducible apply checked_keeps
                | with_reducible apply Keeps.foldl | with_reducible apply Keeps.elim
                | (intros; with_reducible assumption) | (intro x) | split
                | refine Keeps.lit rfl rfl rfl rfl rfl rfl rfl rfl ?_
                | refine Keeps.of_snd (by with_reducible assumption) ?_
                | refine Keeps.of_snd2 (by with_reducible assumption) ?_

theorem writeMbctl_keeps {s : State} (h : Keeps kd km kc s0 s) (d : W32) :
    Keeps kd km kc s0 (writeMbctl d s) := by
  unfold writeMbctl
  try dsimp only
  repeat' first | with_reducible assumption | with_reducible apply mbxRingEff_keeps
                | with_reducible apply mbxAckEff_keeps | with_reducible apply Keeps.foldl
                | with_reducible apply Keeps.elim | (intros; with_reducible assumption) | (intro x) | split
                | refine Keeps.lit rfl rfl rfl rfl rfl rfl rfl rfl ?_
                | refine Keeps.of_snd (by with_reducible assumption) ?_
                | refine Keeps.of_snd2 (by with_reducible assumption) ?_

theorem mbxBusyEff_keeps {s : State} (h : Keeps kd km kc s0 s)  :
    Keeps kd km kc s0 (mbxBusyEff s) := by
  unfold mbxBusyEff
  try dsimp only
  repeat' first | with_reducible assumption | with_reducible apply put_keeps | with_reducible apply answer_keeps
                | with_reducible apply Keeps.foldl | with_reducible apply Keeps.elim
                | (intros; with_reducible assumption) | (intro x) | split
                | refine Keeps.lit rfl rfl rfl rfl rfl rfl rfl rfl ?_
                | refine Keeps.of_snd (by with_reducible assumption) ?_
                | refine Keeps.of_snd2 (by with_reducible assumption) ?_

theorem serveMbx_keeps {f : State → (Nat × List Nat) × State} {s : State}
    (hf : ∀ t, Keeps kd km kc s0 t → Keeps kd km kc s0 (f t).2) (h : Keeps kd km kc s0 s) (cmd : Nat) :
    Keeps kd km kc s0 (serveMbx cmd f s) := by
  unfold serveMbx; split
  · exact (hf _ h).upd rfl rfl rfl rfl rfl rfl rfl rfl
  · exact h

theorem postAnswer_keeps {s : State} (h : Keeps kd km kc s0 s) (st : Nat) (rs : List Nat) :
    Keeps kd km kc s0 (postAnswer st rs s) := by
  unfold postAnswer
  try dsimp only
  repeat' first | with_reducible assumption | with_reducible apply put_keeps | with_reducible apply puts_keeps
                | with_reducible apply repeatFor_keeps | with_reducible apply answer_keeps
                | with_reducible apply Keeps.foldl | with_reducible apply Keeps.elim
                | (intros; with_reducible assumption) | (intro x) | split
                | refine Keeps.lit rfl rfl rfl rfl rfl rfl rfl rfl ?_
                | refine Keeps.of_snd (by with_reducible assumption) ?_
                | refine Keeps.of_snd2 (by with_reducible assumption) ?_

theorem mbxDoneEff_keeps {s : State} (h : Keeps kd km kc s0 s)  :
    Keeps kd km kc s0 (mbxDoneEff s) := by
  unfold mbxDoneEff
  try dsimp only
  repeat' first | with_reducible assumption | with_reducible apply answer_keeps
                | with_reducible apply postAnswer_keeps | with_reducible apply Keeps.foldl
                | with_reducible apply Keeps.elim | (intros; with_reducible assumption) | (intro x) | split
                | refine Keeps.lit rfl rfl rfl rfl rfl rfl rfl rfl ?_
                | refine Keeps.of_snd (by with_reducible assumption) ?_
                | refine Keeps.of_snd2 (by with_reducible assumption) ?_

theorem echoAnswer_keeps {s : State} (h : Keeps kd km kc s0 s)  :
    Keeps kd km kc s0 (echoAnswer s).2 := by
  unfold echoAnswer
  try dsimp only
  repeat' first | with_reducible assumption | with_reducible apply Keeps.foldl | with_reducible apply Keeps.elim
                | (intros; with_reducible assumption) | (intro x) | split
                | refine Keeps.lit rfl rfl rfl rfl rfl rfl rfl rfl ?_
                | refine Keeps.of_snd (by with_reducible assumption) ?_
                | refine Keeps.of_snd2 (by with_reducible assumption) ?_

theorem cfgReset_keeps {s : State} (h : Keeps kd km kc s0 s)  :
    Keeps kd km kc s0 (cfgReset s) := by
  unfold cfgReset
  try dsimp only
  repeat' first | with_reducible assumption | with_reducible apply Keeps.foldl | with_reducible apply Keeps.elim
                | (intros; with_reducible assumption) | (intro x) | split
                | refine Keeps.lit rfl rfl rfl rfl rfl rfl rfl rfl ?_
                | refine Keeps.of_snd (by with_reducible assumption) ?_
                | refine Keeps.of_snd2 (by with_reducible assumption) ?_

theorem linkLost_keeps {s : State} (h : Keeps kd km kc s0 s)  :
    Keeps kd km kc s0 (linkLost s) := by
  unfold linkLost
  try dsimp only
  repeat' first | with_reducible assumption | with_reducible apply put_keeps | with_reducible apply inc_keeps
                | with_reducible apply puts_keeps | with_reducible apply cfgReset_keeps
                | with_reducible apply Keeps.foldl | with_reducible apply Keeps.elim
                | (intros; with_reducible assumption) | (intro x) | split
                | refine Keeps.lit rfl rfl rfl rfl rfl rfl rfl rfl ?_
                | refine Keeps.of_snd (by with_reducible assumption) ?_
                | refine Keeps.of_snd2 (by with_reducible assumption) ?_

theorem configureLink_keeps {s : State} (h : Keeps kd km kc s0 s) (host : CfgSpace) (l1 : Bool) :
    Keeps kd km kc s0 (configureLink host l1 s) := by
  unfold configureLink
  try dsimp only
  repeat' first | with_reducible assumption | with_reducible apply puts_keeps | with_reducible apply Keeps.foldl
                | with_reducible apply Keeps.elim | (intros; with_reducible assumption) | (intro x) | split
                | refine Keeps.lit rfl rfl rfl rfl rfl rfl rfl rfl ?_
                | refine Keeps.of_snd (by with_reducible assumption) ?_
                | refine Keeps.of_snd2 (by with_reducible assumption) ?_

theorem linkUpEff_keeps {s : State} (h : Keeps kd km kc s0 s) (width : Nat) (speed : Nat) (host : CfgSpace) (l1 : Bool) :
    Keeps kd km kc s0 (linkUpEff width speed host l1 s) := by
  unfold linkUpEff
  try dsimp only
  repeat' first | with_reducible assumption | with_reducible apply put_keeps | with_reducible apply puts_keeps
                | with_reducible apply configureLink_keeps | with_reducible apply Keeps.foldl
                | with_reducible apply Keeps.elim | (intros; with_reducible assumption) | (intro x) | split
                | refine Keeps.lit rfl rfl rfl rfl rfl rfl rfl rfl ?_
                | refine Keeps.of_snd (by with_reducible assumption) ?_
                | refine Keeps.of_snd2 (by with_reducible assumption) ?_

theorem perstNLowEff_keeps {s : State} (h : Keeps kd km kc s0 s)  :
    Keeps kd km kc s0 (perstNLowEff s) := by
  unfold perstNLowEff
  try dsimp only
  repeat' first | with_reducible assumption | with_reducible apply cfgReset_keeps
                | with_reducible apply linkLost_keeps | with_reducible apply Keeps.foldl
                | with_reducible apply Keeps.elim | (intros; with_reducible assumption) | (intro x) | split
                | refine Keeps.lit rfl rfl rfl rfl rfl rfl rfl rfl ?_
                | refine Keeps.of_snd (by with_reducible assumption) ?_
                | refine Keeps.of_snd2 (by with_reducible assumption) ?_

theorem perstNRiseEff_keeps {s : State} (h : Keeps kd km kc s0 s)  :
    Keeps kd km kc s0 (perstNRiseEff s) := by
  unfold perstNRiseEff
  try dsimp only
  repeat' first | with_reducible assumption | with_reducible apply put_keeps | with_reducible apply Keeps.foldl
                | with_reducible apply Keeps.elim | (intros; with_reducible assumption) | (intro x) | split
                | refine Keeps.lit rfl rfl rfl rfl rfl rfl rfl rfl ?_
                | refine Keeps.of_snd (by with_reducible assumption) ?_
                | refine Keeps.of_snd2 (by with_reducible assumption) ?_

/-! ### Machine/Prs.lean -/

theorem slotIrq_keeps {s : State} (h : Keeps kd km kc s0 s) (k : Nat) :
    Keeps kd km kc s0 (slotIrq k s) := by
  unfold slotIrq
  try dsimp only
  repeat' first | with_reducible assumption | with_reducible apply fireEdge_keeps | with_reducible apply Keeps.foldl
                | with_reducible apply Keeps.elim | (intros; with_reducible assumption) | (intro x) | split
                | refine Keeps.lit rfl rfl rfl rfl rfl rfl rfl rfl ?_
                | refine Keeps.of_snd (by with_reducible assumption) ?_
                | refine Keeps.of_snd2 (by with_reducible assumption) ?_

theorem markFired_keeps {s : State} (h : Keeps kd km kc s0 s) (k : Nat) :
    Keeps kd km kc s0 (markFired k s) := by
  unfold markFired
  try dsimp only
  repeat' first | with_reducible assumption | with_reducible apply put_keeps | with_reducible apply Keeps.foldl
                | with_reducible apply Keeps.elim | (intros; with_reducible assumption) | (intro x) | split
                | refine Keeps.lit rfl rfl rfl rfl rfl rfl rfl rfl ?_
                | refine Keeps.of_snd (by with_reducible assumption) ?_
                | refine Keeps.of_snd2 (by with_reducible assumption) ?_

theorem fireSlot_keeps {s : State} (h : Keeps kd km kc s0 s) (k : Nat) :
    Keeps kd km kc s0 (fireSlot k s) := by
  unfold fireSlot
  try dsimp only
  repeat' first | with_reducible assumption | with_reducible apply recErr_keeps | with_reducible apply slotIrq_keeps
                | with_reducible apply markFired_keeps | with_reducible apply Keeps.foldl
                | with_reducible apply Keeps.elim | (intros; with_reducible assumption) | (intro x) | split
                | refine Keeps.lit rfl rfl rfl rfl rfl rfl rfl rfl ?_
                | refine Keeps.of_snd (by with_reducible assumption) ?_
                | refine Keeps.of_snd2 (by with_reducible assumption) ?_

theorem dropSlot_keeps {s : State} (h : Keeps kd km kc s0 s) (k : Nat) :
    Keeps kd km kc s0 (dropSlot k s) := by
  unfold dropSlot
  try dsimp only
  repeat' first | with_reducible assumption | with_reducible apply puts_keeps | with_reducible apply slotIrq_keeps
                | with_reducible apply Keeps.foldl | with_reducible apply Keeps.elim
                | (intros; with_reducible assumption) | (intro x) | split
                | refine Keeps.lit rfl rfl rfl rfl rfl rfl rfl rfl ?_
                | refine Keeps.of_snd (by with_reducible assumption) ?_
                | refine Keeps.of_snd2 (by with_reducible assumption) ?_

theorem judgeSlot_keeps {s : State} (h : Keeps kd km kc s0 s) (k : Nat) :
    Keeps kd km kc s0 (judgeSlot k s) := by
  unfold judgeSlot
  try dsimp only
  repeat' first | with_reducible assumption | with_reducible apply puts_keeps | with_reducible apply fireSlot_keeps
                | with_reducible apply dropSlot_keeps | with_reducible apply Keeps.foldl
                | with_reducible apply Keeps.elim | (intros; with_reducible assumption) | (intro x) | split
                | refine Keeps.lit rfl rfl rfl rfl rfl rfl rfl rfl ?_
                | refine Keeps.of_snd (by with_reducible assumption) ?_
                | refine Keeps.of_snd2 (by with_reducible assumption) ?_

theorem fireDue_keeps {s : State} (h : Keeps kd km kc s0 s) (k : Nat) :
    Keeps kd km kc s0 (fireDue k s) := by
  unfold fireDue
  try dsimp only
  repeat' first | with_reducible assumption | with_reducible apply fireSlot_keeps | with_reducible apply Keeps.foldl
                | with_reducible apply Keeps.elim | (intros; with_reducible assumption) | (intro x) | split
                | refine Keeps.lit rfl rfl rfl rfl rfl rfl rfl rfl ?_
                | refine Keeps.of_snd (by with_reducible assumption) ?_
                | refine Keeps.of_snd2 (by with_reducible assumption) ?_

theorem convertSlot_keeps {s : State} (h : Keeps kd km kc s0 s) (k : Nat) :
    Keeps kd km kc s0 (convertSlot k s) := by
  unfold convertSlot
  try dsimp only
  repeat' first | with_reducible assumption | with_reducible apply puts_keeps | with_reducible apply put64_keeps
                | with_reducible apply Keeps.foldl | with_reducible apply Keeps.elim
                | (intros; with_reducible assumption) | (intro x) | split
                | refine Keeps.lit rfl rfl rfl rfl rfl rfl rfl rfl ?_
                | refine Keeps.of_snd (by with_reducible assumption) ?_
                | refine Keeps.of_snd2 (by with_reducible assumption) ?_

theorem convertAll_keeps {s : State} (h : Keeps kd km kc s0 s)  :
    Keeps kd km kc s0 (convertAll s) := by
  unfold convertAll
  try dsimp only
  repeat' first | with_reducible assumption | with_reducible apply repeatFor_keeps
                | with_reducible apply convertSlot_keeps | with_reducible apply Keeps.foldl
                | with_reducible apply Keeps.elim | (intros; with_reducible assumption) | (intro x) | split
                | refine Keeps.lit rfl rfl rfl rfl rfl rfl rfl rfl ?_
                | refine Keeps.of_snd (by with_reducible assumption) ?_
                | refine Keeps.of_snd2 (by with_reducible assumption) ?_

theorem slotsInTurn_keeps {s : State} (h : Keeps kd km kc s0 s) (first : Bool) :
    Keeps kd km kc s0 (slotsInTurn first s) := by
  unfold slotsInTurn
  try dsimp only
  repeat' first | with_reducible assumption | with_reducible apply repeatFor_keeps
                | with_reducible apply judgeSlot_keeps | with_reducible apply fireDue_keeps
                | with_reducible apply Keeps.foldl | with_reducible apply Keeps.elim
                | (intros; with_reducible assumption) | (intro x) | split
                | refine Keeps.lit rfl rfl rfl rfl rfl rfl rfl rfl ?_
                | refine Keeps.of_snd (by with_reducible assumption) ?_
                | refine Keeps.of_snd2 (by with_reducible assumption) ?_

theorem enterSearch_keeps {s : State} (h : Keeps kd km kc s0 s) (fresh : Bool) :
    Keeps kd km kc s0 (enterSearch fresh s) := by
  unfold enterSearch
  try dsimp only
  repeat' first | with_reducible assumption | with_reducible apply put_keeps | with_reducible apply fresh_keeps
                | with_reducible apply convertAll_keeps | with_reducible apply Keeps.foldl
                | with_reducible apply Keeps.elim | (intros; with_reducible assumption) | (intro x) | split
                | refine Keeps.lit rfl rfl rfl rfl rfl rfl rfl rfl ?_
                | refine Keeps.of_snd (by with_reducible assumption) ?_
                | refine Keeps.of_snd2 (by with_reducible assumption) ?_

theorem toothDmc_keeps {s : State} (h : Keeps kd km kc s0 s)  :
    Keeps kd km kc s0 (toothDmc s) := by
  unfold toothDmc
  try dsimp only
  repeat' first | with_reducible assumption | with_reducible apply Keeps.foldl | with_reducible apply Keeps.elim
                | (intros; with_reducible assumption) | (intro x) | split
                | refine Keeps.lit rfl rfl rfl rfl rfl rfl rfl rfl ?_
                | refine Keeps.of_snd (by with_reducible assumption) ?_
                | refine Keeps.of_snd2 (by with_reducible assumption) ?_

theorem setScr_keeps {s : State} (h : Keeps kd km kc s0 s)  :
    Keeps kd km kc s0 (setScr s) := by
  unfold setScr
  try dsimp only
  repeat' first | with_reducible assumption | with_reducible apply put_keeps | with_reducible apply Keeps.foldl
                | with_reducible apply Keeps.elim | (intros; with_reducible assumption) | (intro x) | split
                | refine Keeps.lit rfl rfl rfl rfl rfl rfl rfl rfl ?_
                | refine Keeps.of_snd (by with_reducible assumption) ?_
                | refine Keeps.of_snd2 (by with_reducible assumption) ?_

theorem showPclk_keeps {s : State} (h : Keeps kd km kc s0 s) (c : Nat × Nat) :
    Keeps kd km kc s0 (showPclk c s) := by
  unfold showPclk
  try dsimp only
  repeat' first | with_reducible assumption | with_reducible apply put_keeps | with_reducible apply setScr_keeps
                | with_reducible apply Keeps.foldl | with_reducible apply Keeps.elim
                | (intros; with_reducible assumption) | (intro x) | split
                | refine Keeps.lit rfl rfl rfl rfl rfl rfl rfl rfl ?_
                | refine Keeps.of_snd (by with_reducible assumption) ?_
                | refine Keeps.of_snd2 (by with_reducible assumption) ?_

theorem toothPclk_keeps {s : State} (h : Keeps kd km kc s0 s)  :
    Keeps kd km kc s0 (toothPclk s) := by
  unfold toothPclk
  try dsimp only
  repeat' first | with_reducible assumption | with_reducible apply showPclk_keeps | with_reducible apply Keeps.foldl
                | with_reducible apply Keeps.elim | (intros; with_reducible assumption) | (intro x) | split
                | refine Keeps.lit rfl rfl rfl rfl rfl rfl rfl rfl ?_
                | refine Keeps.of_snd (by with_reducible assumption) ?_
                | refine Keeps.of_snd2 (by with_reducible assumption) ?_

theorem countTooth_keeps {s : State} (h : Keeps kd km kc s0 s) (inst : Nat) (num : Nat) :
    Keeps kd km kc s0 (countTooth inst num s) := by
  unfold countTooth
  try dsimp only
  repeat' first | with_reducible assumption | with_reducible apply puts_keeps
                | with_reducible apply toothCommits_keeps | with_reducible apply toothDmc_keeps
                | with_reducible apply toothPclk_keeps | with_reducible apply Keeps.foldl
                | with_reducible apply Keeps.elim | (intros; with_reducible assumption) | (intro x) | split
                | refine Keeps.lit rfl rfl rfl rfl rfl rfl rfl rfl ?_
                | refine Keeps.of_snd (by with_reducible assumption) ?_
                | refine Keeps.of_snd2 (by with_reducible assumption) ?_

theorem toothFalls_keeps {s : State} (h : Keeps kd km kc s0 s) (inst : Nat) (num : Nat) :
    Keeps kd km kc s0 (toothFalls inst num s) := by
  unfold toothFalls
  try dsimp only
  repeat' first | with_reducible assumption | with_reducible apply slotsInTurn_keeps
                | with_reducible apply countTooth_keeps | with_reducible apply Keeps.foldl
                | with_reducible apply Keeps.elim | (intros; with_reducible assumption) | (intro x) | split
                | refine Keeps.lit rfl rfl rfl rfl rfl rfl rfl rfl ?_
                | refine Keeps.of_snd (by with_reducible assumption) ?_
                | refine Keeps.of_snd2 (by with_reducible assumption) ?_

theorem enterFree_keeps {s : State} (h : Keeps kd km kc s0 s)  :
    Keeps kd km kc s0 (enterFree s) := by
  unfold enterFree
  try dsimp only
  repeat' first | with_reducible assumption | with_reducible apply put_keeps | with_reducible apply countTooth_keeps
                | with_reducible apply Keeps.foldl | with_reducible apply Keeps.elim
                | (intros; with_reducible assumption) | (intro x) | split
                | refine Keeps.lit rfl rfl rfl rfl rfl rfl rfl rfl ?_
                | refine Keeps.of_snd (by with_reducible assumption) ?_
                | refine Keeps.of_snd2 (by with_reducible assumption) ?_

theorem enterSource_keeps {s : State} (h : Keeps kd km kc s0 s) (fresh : Bool) :
    Keeps kd km kc s0 (enterSource fresh s) := by
  unfold enterSource
  try dsimp only
  repeat' first | with_reducible assumption | with_reducible apply fresh_keeps
                | with_reducible apply enterSearch_keeps | with_reducible apply enterFree_keeps
                | with_reducible apply Keeps.foldl | with_reducible apply Keeps.elim
                | (intros; with_reducible assumption) | (intro x) | split
                | refine Keeps.lit rfl rfl rfl rfl rfl rfl rfl rfl ?_
                | refine Keeps.of_snd (by with_reducible assumption) ?_
                | refine Keeps.of_snd2 (by with_reducible assumption) ?_

theorem resolve_keeps {s : State} (h : Keeps kd km kc s0 s) (e : Int) :
    Keeps kd km kc s0 (resolve e s) := by
  unfold resolve
  try dsimp only
  repeat' first | with_reducible assumption | with_reducible apply Keeps.foldl | with_reducible apply Keeps.elim
                | (intros; with_reducible assumption) | (intro x) | split
                | refine Keeps.lit rfl rfl rfl rfl rfl rfl rfl rfl ?_
                | refine Keeps.of_snd (by with_reducible assumption) ?_
                | refine Keeps.of_snd2 (by with_reducible assumption) ?_

theorem pulseSearch_keeps {s : State} (h : Keeps kd km kc s0 s) (b : Nat) :
    Keeps kd km kc s0 (pulseSearch b s) := by
  unfold pulseSearch
  try dsimp only
  repeat' first | with_reducible assumption | with_reducible apply puts_keeps | with_reducible apply toothFalls_keeps
                | with_reducible apply Keeps.foldl | with_reducible apply Keeps.elim
                | (intros; with_reducible assumption) | (intro x) | split
                | refine Keeps.lit rfl rfl rfl rfl rfl rfl rfl rfl ?_
                | refine Keeps.of_snd (by with_reducible assumption) ?_
                | refine Keeps.of_snd2 (by with_reducible assumption) ?_

theorem pulseTrain_keeps {s : State} (h : Keeps kd km kc s0 s) (b : Nat) :
    Keeps kd km kc s0 (pulseTrain b s) := by
  unfold pulseTrain
  try dsimp only
  repeat' first | with_reducible assumption | with_reducible apply put_keeps | with_reducible apply inc_keeps
                | with_reducible apply puts_keeps | with_reducible apply resolve_keeps
                | with_reducible apply Keeps.foldl | with_reducible apply Keeps.elim
                | (intros; with_reducible assumption) | (intro x) | split
                | refine Keeps.lit rfl rfl rfl rfl rfl rfl rfl rfl ?_
                | refine Keeps.of_snd (by with_reducible assumption) ?_
                | refine Keeps.of_snd2 (by with_reducible assumption) ?_

theorem framePulseEff_keeps {s : State} (h : Keeps kd km kc s0 s) (src : Nat) (falling : Bool) (stamp : Nat) :
    Keeps kd km kc s0 (framePulseEff src falling stamp s) := by
  unfold framePulseEff
  try dsimp only
  repeat' first | with_reducible assumption | with_reducible apply pulseSearch_keeps
                | with_reducible apply pulseTrain_keeps | with_reducible apply Keeps.foldl
                | with_reducible apply Keeps.elim | (intros; with_reducible assumption) | (intro x) | split
                | refine Keeps.lit rfl rfl rfl rfl rfl rfl rfl rfl ?_
                | refine Keeps.of_snd (by with_reducible assumption) ?_
                | refine Keeps.of_snd2 (by with_reducible assumption) ?_

theorem toothEff_keeps {s : State} (h : Keeps kd km kc s0 s)  :
    Keeps kd km kc s0 (toothEff s) := by
  unfold toothEff
  try dsimp only
  repeat' first | with_reducible assumption | with_reducible apply toothFalls_keeps | with_reducible apply Keeps.foldl
                | with_reducible apply Keeps.elim | (intros; with_reducible assumption) | (intro x) | split
                | refine Keeps.lit rfl rfl rfl rfl rfl rfl rfl rfl ?_
                | refine Keeps.of_snd (by with_reducible assumption) ?_
                | refine Keeps.of_snd2 (by with_reducible assumption) ?_

theorem coastSlots_keeps {s : State} (h : Keeps kd km kc s0 s)  :
    Keeps kd km kc s0 (coastSlots s) := by
  unfold coastSlots
  try dsimp only
  repeat' first | with_reducible assumption | with_reducible apply put_keeps | with_reducible apply repeatFor_keeps
                | with_reducible apply Keeps.foldl | with_reducible apply Keeps.elim
                | (intros; with_reducible assumption) | (intro x) | split
                | refine Keeps.lit rfl rfl rfl rfl rfl rfl rfl rfl ?_
                | refine Keeps.of_snd (by with_reducible assumption) ?_
                | refine Keeps.of_snd2 (by with_reducible assumption) ?_

theorem toothMissedEff_keeps {s : State} (h : Keeps kd km kc s0 s)  :
    Keeps kd km kc s0 (toothMissedEff s) := by
  unfold toothMissedEff
  try dsimp only
  repeat' first | with_reducible assumption | with_reducible apply put_keeps | with_reducible apply inc_keeps
                | with_reducible apply puts_keeps | with_reducible apply slotsInTurn_keeps
                | with_reducible apply enterSearch_keeps | with_reducible apply resolve_keeps
                | with_reducible apply coastSlots_keeps | with_reducible apply Keeps.foldl
                | with_reducible apply Keeps.elim | (intros; with_reducible assumption) | (intro x) | split
                | refine Keeps.lit rfl rfl rfl rfl rfl rfl rfl rfl ?_
                | refine Keeps.of_snd (by with_reducible assumption) ?_
                | refine Keeps.of_snd2 (by with_reducible assumption) ?_

theorem teethNow_keeps {s : State} (h : Keeps kd km kc s0 s)  :
    Keeps kd km kc s0 (teethNow s) := by
  unfold teethNow
  try dsimp only
  repeat' first | with_reducible assumption | with_reducible apply toothEff_keeps
                | with_reducible apply toothMissedEff_keeps | with_reducible apply Keeps.foldl
                | with_reducible apply Keeps.elim | (intros; with_reducible assumption) | (intro x) | split
                | refine Keeps.lit rfl rfl rfl rfl rfl rfl rfl rfl ?_
                | refine Keeps.of_snd (by with_reducible assumption) ?_
                | refine Keeps.of_snd2 (by with_reducible assumption) ?_

theorem changeSource_keeps {s : State} (h : Keeps kd km kc s0 s) (fs : List Fld) (d : W32) :
    Keeps kd km kc s0 (changeSource fs d s) := by
  unfold changeSource
  try dsimp only
  repeat' first | with_reducible assumption | with_reducible apply storeAll_keeps
                | with_reducible apply slotsInTurn_keeps | with_reducible apply enterSource_keeps
                | with_reducible apply teethNow_keeps | with_reducible apply Keeps.foldl
                | with_reducible apply Keeps.elim | (intros; with_reducible assumption) | (intro x) | split
                | refine Keeps.lit rfl rfl rfl rfl rfl rfl rfl rfl ?_
                | refine Keeps.of_snd (by with_reducible assumption) ?_
                | refine Keeps.of_snd2 (by with_reducible assumption) ?_

theorem writePrsCfg_keeps {s : State} (h : Keeps kd km kc s0 s) (d : W32) :
    Keeps kd km kc s0 (writePrsCfg d s) := by
  unfold writePrsCfg
  try dsimp only
  repeat' first | with_reducible assumption | with_reducible apply storeAll_keeps | with_reducible apply checked_keeps
                | with_reducible apply changeSource_keeps | with_reducible apply Keeps.foldl
                | with_reducible apply Keeps.elim | (intros; with_reducible assumption) | (intro x) | split
                | refine Keeps.lit rfl rfl rfl rfl rfl rfl rfl rfl ?_
                | refine Keeps.of_snd (by with_reducible assumption) ?_
                | refine Keeps.of_snd2 (by with_reducible assumption) ?_

theorem writePeriod_keeps {s : State} (h : Keeps kd km kc s0 s) (d : W32) :
    Keeps kd km kc s0 (writePeriod d s) := by
  unfold writePeriod
  try dsimp only
  repeat' first | with_reducible assumption | with_reducible apply put_keeps | with_reducible apply checked_keeps
                | with_reducible apply Keeps.foldl | with_reducible apply Keeps.elim
                | (intros; with_reducible assumption) | (intro x) | split
                | refine Keeps.lit rfl rfl rfl rfl rfl rfl rfl rfl ?_
                | refine Keeps.of_snd (by with_reducible assumption) ?_
                | refine Keeps.of_snd2 (by with_reducible assumption) ?_

theorem writeWindow_keeps {s : State} (h : Keeps kd km kc s0 s) (d : W32) :
    Keeps kd km kc s0 (writeWindow d s) := by
  unfold writeWindow
  try dsimp only
  repeat' first | with_reducible assumption | with_reducible apply put_keeps | with_reducible apply checked_keeps
                | with_reducible apply Keeps.foldl | with_reducible apply Keeps.elim
                | (intros; with_reducible assumption) | (intro x) | split
                | refine Keeps.lit rfl rfl rfl rfl rfl rfl rfl rfl ?_
                | refine Keeps.of_snd (by with_reducible assumption) ?_
                | refine Keeps.of_snd2 (by with_reducible assumption) ?_

theorem prsStart_keeps {s : State} (h : Keeps kd km kc s0 s)  :
    Keeps kd km kc s0 (prsStart s) := by
  unfold prsStart
  try dsimp only
  repeat' first | with_reducible assumption | with_reducible apply put_keeps | with_reducible apply repeatFor_keeps
                | with_reducible apply judgeSlot_keeps | with_reducible apply fireDue_keeps
                | with_reducible apply enterSource_keeps | with_reducible apply Keeps.foldl
                | with_reducible apply Keeps.elim | (intros; with_reducible assumption) | (intro x) | split
                | refine Keeps.lit rfl rfl rfl rfl rfl rfl rfl rfl ?_
                | refine Keeps.of_snd (by with_reducible assumption) ?_
                | refine Keeps.of_snd2 (by with_reducible assumption) ?_

theorem prsStop_keeps {s : State} (h : Keeps kd km kc s0 s)  :
    Keeps kd km kc s0 (prsStop s) := by
  unfold prsStop
  try dsimp only
  repeat' first | with_reducible assumption | with_reducible apply puts_keeps | with_reducible apply Keeps.foldl
                | with_reducible apply Keeps.elim | (intros; with_reducible assumption) | (intro x) | split
                | refine Keeps.lit rfl rfl rfl rfl rfl rfl rfl rfl ?_
                | refine Keeps.of_snd (by with_reducible assumption) ?_
                | refine Keeps.of_snd2 (by with_reducible assumption) ?_

theorem fireBelow_keeps {s : State} (h : Keeps kd km kc s0 s) (k : Nat) :
    Keeps kd km kc s0 (fireBelow k s) := by
  unfold fireBelow
  try dsimp only
  repeat' first | with_reducible assumption | with_reducible apply repeatFor_keeps
                | with_reducible apply fireDue_keeps | with_reducible apply teethNow_keeps
                | with_reducible apply Keeps.foldl | with_reducible apply Keeps.elim
                | (intros; with_reducible assumption) | (intro x) | split
                | refine Keeps.lit rfl rfl rfl rfl rfl rfl rfl rfl ?_
                | refine Keeps.of_snd (by with_reducible assumption) ?_
                | refine Keeps.of_snd2 (by with_reducible assumption) ?_

theorem fireUpTo_keeps {s : State} (h : Keeps kd km kc s0 s) (k : Nat) :
    Keeps kd km kc s0 (fireUpTo k s) := by
  unfold fireUpTo
  try dsimp only
  repeat' first | with_reducible assumption | with_reducible apply fireDue_keeps
                | with_reducible apply fireBelow_keeps | with_reducible apply Keeps.foldl
                | with_reducible apply Keeps.elim | (intros; with_reducible assumption) | (intro x) | split
                | refine Keeps.lit rfl rfl rfl rfl rfl rfl rfl rfl ?_
                | refine Keeps.of_snd (by with_reducible assumption) ?_
                | refine Keeps.of_snd2 (by with_reducible assumption) ?_

theorem armedSlot_keeps {s : State} (h : Keeps kd km kc s0 s) (k : Nat) :
    Keeps kd km kc s0 (armedSlot k s) := by
  unfold armedSlot
  try dsimp only
  repeat' first | with_reducible assumption | with_reducible apply puts_keeps | with_reducible apply convertSlot_keeps
                | with_reducible apply Keeps.foldl | with_reducible apply Keeps.elim
                | (intros; with_reducible assumption) | (intro x) | split
                | refine Keeps.lit rfl rfl rfl rfl rfl rfl rfl rfl ?_
                | refine Keeps.of_snd (by with_reducible assumption) ?_
                | refine Keeps.of_snd2 (by with_reducible assumption) ?_

theorem armSlot_keeps {s : State} (h : Keeps kd km kc s0 s) (k : Nat) :
    Keeps kd km kc s0 (armSlot k s) := by
  unfold armSlot
  try dsimp only
  repeat' first | with_reducible assumption | with_reducible apply put_keeps | with_reducible apply recErr_keeps
                | with_reducible apply judgeSlot_keeps | with_reducible apply fireDue_keeps
                | with_reducible apply fireBelow_keeps | with_reducible apply armedSlot_keeps
                | with_reducible apply Keeps.foldl | with_reducible apply Keeps.elim
                | (intros; with_reducible assumption) | (intro x) | split
                | refine Keeps.lit rfl rfl rfl rfl rfl rfl rfl rfl ?_
                | refine Keeps.of_snd (by with_reducible assumption) ?_
                | refine Keeps.of_snd2 (by with_reducible assumption) ?_

theorem cancelSlot_keeps {s : State} (h : Keeps kd km kc s0 s) (k : Nat) :
    Keeps kd km kc s0 (cancelSlot k s) := by
  unfold cancelSlot
  try dsimp only
  repeat' first | with_reducible assumption | with_reducible apply put_keeps | with_reducible apply fireUpTo_keeps
                | with_reducible apply Keeps.foldl | with_reducible apply Keeps.elim
                | (intros; with_reducible assumption) | (intro x) | split
                | refine Keeps.lit rfl rfl rfl rfl rfl rfl rfl rfl ?_
                | refine Keeps.of_snd (by with_reducible assumption) ?_
                | refine Keeps.of_snd2 (by with_reducible assumption) ?_

theorem writeEvcs_keeps {s : State} (h : Keeps kd km kc s0 s) (k : Nat) (d : W32) :
    Keeps kd km kc s0 (writeEvcs k d s) := by
  unfold writeEvcs
  try dsimp only
  repeat' first | with_reducible assumption | with_reducible apply armSlot_keeps
                | with_reducible apply cancelSlot_keeps | with_reducible apply Keeps.foldl
                | with_reducible apply Keeps.elim | (intros; with_reducible assumption) | (intro x) | split
                | refine Keeps.lit rfl rfl rfl rfl rfl rfl rfl rfl ?_
                | refine Keeps.of_snd (by with_reducible assumption) ?_
                | refine Keeps.of_snd2 (by with_reducible assumption) ?_

theorem writeSlot_keeps {s : State} (h : Keeps kd km kc s0 s) (k : Nat) (fs : List Fld) (d : W32) :
    Keeps kd km kc s0 (writeSlot k fs d s) := by
  unfold writeSlot
  try dsimp only
  repeat' first | with_reducible assumption | with_reducible apply storeAll_keeps | with_reducible apply checked_keeps
                | with_reducible apply Keeps.foldl | with_reducible apply Keeps.elim
                | (intros; with_reducible assumption) | (intro x) | split
                | refine Keeps.lit rfl rfl rfl rfl rfl rfl rfl rfl ?_
                | refine Keeps.of_snd (by with_reducible assumption) ?_
                | refine Keeps.of_snd2 (by with_reducible assumption) ?_

theorem eventFireEff_keeps {s : State} (h : Keeps kd km kc s0 s) (k : Nat) :
    Keeps kd km kc s0 (eventFireEff k s) := by
  unfold eventFireEff
  try dsimp only
  repeat' first | with_reducible assumption | with_reducible apply fireUpTo_keeps | with_reducible apply Keeps.foldl
                | with_reducible apply Keeps.elim | (intros; with_reducible assumption) | (intro x) | split
                | refine Keeps.lit rfl rfl rfl rfl rfl rfl rfl rfl ?_
                | refine Keeps.of_snd (by with_reducible assumption) ?_
                | refine Keeps.of_snd2 (by with_reducible assumption) ?_

theorem nextTooth_keeps {s : State} (h : Keeps kd km kc s0 s)  :
    Keeps kd km kc s0 (nextTooth s).2 := by
  unfold nextTooth
  try dsimp only
  repeat' first | with_reducible assumption | with_reducible apply fresh_keeps | with_reducible apply Keeps.foldl
                | with_reducible apply Keeps.elim | (intros; with_reducible assumption) | (intro x) | split
                | refine Keeps.lit rfl rfl rfl rfl rfl rfl rfl rfl ?_
                | refine Keeps.of_snd (by with_reducible assumption) ?_
                | refine Keeps.of_snd2 (by with_reducible assumption) ?_

theorem readTcnt_keeps {s : State} (h : Keeps kd km kc s0 s)  :
    Keeps kd km kc s0 (readTcnt s).2 := by
  unfold readTcnt
  try dsimp only
  repeat' first | with_reducible assumption | with_reducible apply puts_keeps | with_reducible apply put64_keeps
                | with_reducible apply nextTooth_keeps | with_reducible apply Keeps.foldl
                | with_reducible apply Keeps.elim | (intros; with_reducible assumption) | (intro x) | split
                | refine Keeps.lit rfl rfl rfl rfl rfl rfl rfl rfl ?_
                | refine Keeps.of_snd (by with_reducible assumption) ?_
                | refine Keeps.of_snd2 (by with_reducible assumption) ?_

theorem takeAct_keeps {f : State → State} {s : State} (hf : ∀ t, Keeps kd km kc s0 t → Keeps kd km kc s0 (f t))
    (h : Keeps kd km kc s0 s) (a : PrsAct) : Keeps kd km kc s0 (takeAct a f s) := by
  unfold takeAct
  split
  · split
    · have ht := hf _ (h.upd (t := { s with prs := { s.prs with acts := ‹_› } }) rfl rfl rfl rfl rfl rfl rfl rfl)
      dsimp only
      split
      · exact fireEdge_keeps ht _
      · exact ht
    · exact h
  · exact h

theorem gpioAct_keeps {s : State} (h : Keeps kd km kc s0 s) (n : Nat) (arg : Nat) :
    Keeps kd km kc s0 (gpioAct n arg s) := by
  unfold gpioAct
  try dsimp only
  repeat' first | with_reducible assumption | with_reducible apply put_keeps | with_reducible apply fresh_keeps
                | with_reducible apply Keeps.foldl | with_reducible apply Keeps.elim
                | (intros; with_reducible assumption) | (intro x) | split
                | refine Keeps.lit rfl rfl rfl rfl rfl rfl rfl rfl ?_
                | refine Keeps.of_snd (by with_reducible assumption) ?_
                | refine Keeps.of_snd2 (by with_reducible assumption) ?_

end Sys2Proof.Machine
end

