-- ==== Sys2Proof/Laws/KeepsCoding.lean ====
section
/-! SUPPORT. What the operations of the DRAM controller, the job rings and the coding cells keep (`Keeps`),
one lemma for each. -/

namespace Sys2Proof.Machine

variable {kd km kc : Bool} {s0 t : State}

/-! ### Machine/Dram.lean -/

theorem setDmcState_keeps {s : State} (h : Keeps kd km kc s0 s) (n : Nat) (st : Nat) :
    Keeps kd km kc s0 (setDmcState n st s) := by
  unfold setDmcState
  try dsimp only
  repeat' first | with_reducible assumption | with_reducible apply put_keeps | with_reducible apply Keeps.foldl
                | with_reducible apply Keeps.elim | (intros; with_reducible assumption) | (intro x) | split
                | refine Keeps.lit rfl rfl rfl rfl rfl rfl rfl rfl ?_
                | refine Keeps.of_snd (by with_reducible assumption) ?_
                | refine Keeps.of_snd2 (by with_reducible assumption) ?_

theorem tempCompare_keeps {s : State} (h : Keeps kd km kc s0 s) (n : Nat) :
    Keeps kd km kc s0 (tempCompare n s) := by
  unfold tempCompare
  try dsimp only
  repeat' first | with_reducible assumption | with_reducible apply put_keeps | with_reducible apply setDmc_keeps
                | with_reducible apply Keeps.foldl | with_reducible apply Keeps.elim
                | (intros; with_reducible assumption) | (intro x) | split
                | refine Keeps.lit rfl rfl rfl rfl rfl rfl rfl rfl ?_
                | refine Keeps.of_snd (by with_reducible assumption) ?_
                | refine Keeps.of_snd2 (by with_reducible assumption) ?_

theorem applyTmg_keeps {s : State} (h : Keeps kd km kc s0 s) (n : Nat) :
    Keeps kd km kc s0 (applyTmg n s) := by
  unfold applyTmg
  try dsimp only
  repeat' first | with_reducible assumption | with_reducible apply putA_keeps | with_reducible apply Keeps.foldl
                | with_reducible apply Keeps.elim | (intros; with_reducible assumption) | (intro x) | split
                | refine Keeps.lit rfl rfl rfl rfl rfl rfl rfl rfl ?_
                | refine Keeps.of_snd (by with_reducible assumption) ?_
                | refine Keeps.of_snd2 (by with_reducible assumption) ?_

theorem setClass_keeps {s : State} (h : Keeps kd km kc s0 s) (n : Nat) (c : Nat) :
    Keeps kd km kc s0 (setClass n c s) := by
  unfold setClass
  try dsimp only
  repeat' first | with_reducible assumption | with_reducible apply put_keeps | with_reducible apply Keeps.foldl
                | with_reducible apply Keeps.elim | (intros; with_reducible assumption) | (intro x) | split
                | refine Keeps.lit rfl rfl rfl rfl rfl rfl rfl rfl ?_
                | refine Keeps.of_snd (by with_reducible assumption) ?_
                | refine Keeps.of_snd2 (by with_reducible assumption) ?_

theorem noRefreshOwed_keeps {s : State} (h : Keeps kd km kc s0 s) (n : Nat) :
    Keeps kd km kc s0 (noRefreshOwed n s) := by
  unfold noRefreshOwed
  try dsimp only
  repeat' first | with_reducible assumption | with_reducible apply fresh_keeps | with_reducible apply setDmc_keeps
                | with_reducible apply Keeps.foldl | with_reducible apply Keeps.elim
                | (intros; with_reducible assumption) | (intro x) | split
                | refine Keeps.lit rfl rfl rfl rfl rfl rfl rfl rfl ?_
                | refine Keeps.of_snd (by with_reducible assumption) ?_
                | refine Keeps.of_snd2 (by with_reducible assumption) ?_

theorem dmcResume_keeps {s : State} (h : Keeps kd km kc s0 s) (n : Nat) (fresh : Bool) :
    Keeps kd km kc s0 (dmcResume n fresh s) := by
  unfold dmcResume
  try dsimp only
  repeat' first | with_reducible assumption | with_reducible apply when_keeps | with_reducible apply fresh_keeps
                | with_reducible apply setDmc_keeps | with_reducible apply setDmcState_keeps
                | with_reducible apply applyTmg_keeps | with_reducible apply setClass_keeps
                | with_reducible apply noRefreshOwed_keeps | with_reducible apply Keeps.foldl
                | with_reducible apply Keeps.elim | (intros; with_reducible assumption) | (intro x) | split
                | refine Keeps.lit rfl rfl rfl rfl rfl rfl rfl rfl ?_
                | refine Keeps.of_snd (by with_reducible assumption) ?_
                | refine Keeps.of_snd2 (by with_reducible assumption) ?_

theorem writeTrain_keeps {s : State} (h : Keeps kd km kc s0 s) (n : Fin 4) (d : W32) :
    Keeps kd km kc s0 (writeTrain n d s) := by
  unfold writeTrain
  try dsimp only
  repeat' first | with_reducible assumption | with_reducible apply put_keeps | with_reducible apply store_keeps
                | with_reducible apply setDmc_keeps | with_reducible apply recErr_keeps
                | with_reducible apply Keeps.foldl | with_reducible apply Keeps.elim
                | (intros; with_reducible assumption) | (intro x) | split
                | refine Keeps.lit rfl rfl rfl rfl rfl rfl rfl rfl ?_
                | refine Keeps.of_snd (by with_reducible assumption) ?_
                | refine Keeps.of_snd2 (by with_reducible assumption) ?_

theorem retrainStartEff_keeps {s : State} (h : Keeps kd km kc s0 s) (n : Nat) :
    Keeps kd km kc s0 (retrainStartEff n s) := by
  unfold retrainStartEff
  try dsimp only
  repeat' first | with_reducible assumption | with_reducible apply setDmcState_keeps
                | with_reducible apply Keeps.foldl | with_reducible apply Keeps.elim
                | (intros; with_reducible assumption) | (intro x) | split
                | refine Keeps.lit rfl rfl rfl rfl rfl rfl rfl rfl ?_
                | refine Keeps.of_snd (by with_reducible assumption) ?_
                | refine Keeps.of_snd2 (by with_reducible assumption) ?_

theorem storeTraining_keeps {s : State} (h : Keeps kd km kc s0 s) (n : Nat) (lanes : List TrainLane) :
    Keeps kd km kc s0 (storeTraining n lanes s) := by
  unfold storeTraining
  try dsimp only
  repeat' first | with_reducible assumption | with_reducible apply put_keeps | with_reducible apply puts_keeps
                | with_reducible apply setDmc_keeps | with_reducible apply repeatFor_keeps
                | with_reducible apply Keeps.foldl | with_reducible apply Keeps.elim
                | (intros; with_reducible assumption) | (intro x) | split
                | refine Keeps.lit rfl rfl rfl rfl rfl rfl rfl rfl ?_
                | refine Keeps.of_snd (by with_reducible assumption) ?_
                | refine Keeps.of_snd2 (by with_reducible assumption) ?_

theorem retrainEndEff_keeps {s : State} (h : Keeps kd km kc s0 s) (n : Fin 4) (lanes : List TrainLane) :
    Keeps kd km kc s0 (retrainEndEff n lanes s) := by
  unfold retrainEndEff
  try dsimp only
  repeat' first | with_reducible assumption | with_reducible apply put_keeps | with_reducible apply inc_keeps
                | with_reducible apply setDmc_keeps | with_reducible apply recErr_keeps
                | with_reducible apply tempCompare_keeps | with_reducible apply dmcResume_keeps
                | with_reducible apply storeTraining_keeps | with_reducible apply Keeps.foldl
                | with_reducible apply Keeps.elim | (intros; with_reducible assumption) | (intro x) | split
                | refine Keeps.lit rfl rfl rfl rfl rfl rfl rfl rfl ?_
                | refine Keeps.of_snd (by with_reducible assumption) ?_
                | refine Keeps.of_snd2 (by with_reducible assumption) ?_

theorem mr4PollEff_keeps {s : State} (h : Keeps kd km kc s0 s) (n : Nat) (c : Nat) :
    Keeps kd km kc s0 (mr4PollEff n c s) := by
  unfold mr4PollEff
  try dsimp only
  repeat' first | with_reducible assumption | with_reducible apply setDmc_keeps | with_reducible apply setClass_keeps
                | with_reducible apply Keeps.foldl | with_reducible apply Keeps.elim
                | (intros; with_reducible assumption) | (intro x) | split
                | refine Keeps.lit rfl rfl rfl rfl rfl rfl rfl rfl ?_
                | refine Keeps.of_snd (by with_reducible assumption) ?_
                | refine Keeps.of_snd2 (by with_reducible assumption) ?_

theorem perBankRefreshEff_keeps {s : State} (h : Keeps kd km kc s0 s) (n : Nat) (postpone : Bool) :
    Keeps kd km kc s0 (perBankRefreshEff n postpone s) := by
  unfold perBankRefreshEff
  try dsimp only
  repeat' first | with_reducible assumption | with_reducible apply puts_keeps | with_reducible apply setDmc_keeps
                | with_reducible apply Keeps.foldl | with_reducible apply Keeps.elim
                | (intros; with_reducible assumption) | (intro x) | split
                | refine Keeps.lit rfl rfl rfl rfl rfl rfl rfl rfl ?_
                | refine Keeps.of_snd (by with_reducible assumption) ?_
                | refine Keeps.of_snd2 (by with_reducible assumption) ?_

theorem srRequestEff_keeps {s : State} (h : Keeps kd km kc s0 s) (n : Nat) :
    Keeps kd km kc s0 (srRequestEff n s) := by
  unfold srRequestEff
  try dsimp only
  repeat' first | with_reducible assumption | with_reducible apply put_keeps | with_reducible apply setDmc_keeps
                | with_reducible apply stopConsumer_keeps | with_reducible apply Keeps.foldl
                | with_reducible apply Keeps.elim | (intros; with_reducible assumption) | (intro x) | split
                | refine Keeps.lit rfl rfl rfl rfl rfl rfl rfl rfl ?_
                | refine Keeps.of_snd (by with_reducible assumption) ?_
                | refine Keeps.of_snd2 (by with_reducible assumption) ?_

theorem srEntryEff_keeps {s : State} (h : Keeps kd km kc s0 s) (n : Nat) :
    Keeps kd km kc s0 (srEntryEff n s) := by
  unfold srEntryEff
  try dsimp only
  repeat' first | with_reducible assumption | with_reducible apply setDmc_keeps
                | with_reducible apply stopConsumer_keeps | with_reducible apply setDmcState_keeps
                | with_reducible apply Keeps.foldl | with_reducible apply Keeps.elim
                | (intros; with_reducible assumption) | (intro x) | split
                | refine Keeps.lit rfl rfl rfl rfl rfl rfl rfl rfl ?_
                | refine Keeps.of_snd (by with_reducible assumption) ?_
                | refine Keeps.of_snd2 (by with_reducible assumption) ?_

theorem srExitRequestEff_keeps {s : State} (h : Keeps kd km kc s0 s) (n : Nat) :
    Keeps kd km kc s0 (srExitRequestEff n s) := by
  unfold srExitRequestEff
  try dsimp only
  repeat' first | with_reducible assumption | with_reducible apply put_keeps | with_reducible apply setDmc_keeps
                | with_reducible apply standingRequest_keeps | with_reducible apply Keeps.foldl
                | with_reducible apply Keeps.elim | (intros; with_reducible assumption) | (intro x) | split
                | refine Keeps.lit rfl rfl rfl rfl rfl rfl rfl rfl ?_
                | refine Keeps.of_snd (by with_reducible assumption) ?_
                | refine Keeps.of_snd2 (by with_reducible assumption) ?_

theorem stall_keeps {s : State} (h : Keeps kd km kc s0 s) (n : Nat) (most : Nat) :
    Keeps kd km kc s0 (stall n most s) := by
  unfold stall
  try dsimp only
  repeat' first | with_reducible assumption | with_reducible apply fresh_keeps | with_reducible apply setDmc_keeps
                | with_reducible apply setDmcState_keeps | with_reducible apply Keeps.foldl
                | with_reducible apply Keeps.elim | (intros; with_reducible assumption) | (intro x) | split
                | refine Keeps.lit rfl rfl rfl rfl rfl rfl rfl rfl ?_
                | refine Keeps.of_snd (by with_reducible assumption) ?_
                | refine Keeps.of_snd2 (by with_reducible assumption) ?_

theorem stallEnd_keeps {s : State} (h : Keeps kd km kc s0 s) (n : Nat) :
    Keeps kd km kc s0 (stallEnd n s) := by
  unfold stallEnd
  try dsimp only
  repeat' first | with_reducible assumption | with_reducible apply puts_keeps | with_reducible apply setDmc_keeps
                | with_reducible apply dmcResume_keeps | with_reducible apply Keeps.foldl
                | with_reducible apply Keeps.elim | (intros; with_reducible assumption) | (intro x) | split
                | refine Keeps.lit rfl rfl rfl rfl rfl rfl rfl rfl ?_
                | refine Keeps.of_snd (by with_reducible assumption) ?_
                | refine Keeps.of_snd2 (by with_reducible assumption) ?_

theorem dmcTick_keeps {s : State} (h : Keeps kd km kc s0 s)  :
    Keeps kd km kc s0 (dmcTick s) := by
  unfold dmcTick
  try dsimp only
  repeat' first | with_reducible assumption | with_reducible apply repeatFor_keeps | with_reducible apply stall_keeps
                | with_reducible apply stallEnd_keeps | with_reducible apply Keeps.foldl
                | with_reducible apply Keeps.elim | (intros; with_reducible assumption) | (intro x) | split
                | refine Keeps.lit rfl rfl rfl rfl rfl rfl rfl rfl ?_
                | refine Keeps.of_snd (by with_reducible assumption) ?_
                | refine Keeps.of_snd2 (by with_reducible assumption) ?_

theorem writeTmg_keeps {s : State} (h : Keeps kd km kc s0 s) (n : Fin 4) (second : Bool) (d : W32) :
    Keeps kd km kc s0 (writeTmg n second d s) := by
  unfold writeTmg
  try dsimp only
  repeat' first | with_reducible assumption | with_reducible apply storeAll_keeps | with_reducible apply checked_keeps
                | with_reducible apply applyTmg_keeps | with_reducible apply stall_keeps
                | with_reducible apply Keeps.foldl | with_reducible apply Keeps.elim
                | (intros; with_reducible assumption) | (intro x) | split
                | refine Keeps.lit rfl rfl rfl rfl rfl rfl rfl rfl ?_
                | refine Keeps.of_snd (by with_reducible assumption) ?_
                | refine Keeps.of_snd2 (by with_reducible assumption) ?_

theorem writeMrrd_keeps {s : State} (h : Keeps kd km kc s0 s) (n : Fin 4) (d : W32) (value : Nat) :
    Keeps kd km kc s0 (writeMrrd n d value s) := by
  unfold writeMrrd
  try dsimp only
  repeat' first | with_reducible assumption | with_reducible apply put_keeps | with_reducible apply store_keeps
                | with_reducible apply setDmc_keeps | with_reducible apply checked_keeps
                | with_reducible apply stall_keeps | with_reducible apply Keeps.foldl
                | with_reducible apply Keeps.elim | (intros; with_reducible assumption) | (intro x) | split
                | refine Keeps.lit rfl rfl rfl rfl rfl rfl rfl rfl ?_
                | refine Keeps.of_snd (by with_reducible assumption) ?_
                | refine Keeps.of_snd2 (by with_reducible assumption) ?_

theorem tempUpdateEff_keeps {s : State} (h : Keeps kd km kc s0 s) (v : Byte) :
    Keeps kd km kc s0 (tempUpdateEff v s) := by
  unfold tempUpdateEff
  try dsimp only
  repeat' first | with_reducible assumption | with_reducible apply put_keeps | with_reducible apply repeatFor_keeps
                | with_reducible apply recomputeEff_keeps | with_reducible apply unsupported_keeps
                | with_reducible apply tempCompare_keeps | with_reducible apply Keeps.foldl
                | with_reducible apply Keeps.elim | (intros; with_reducible assumption) | (intro x) | split
                | refine Keeps.lit rfl rfl rfl rfl rfl rfl rfl rfl ?_
                | refine Keeps.of_snd (by with_reducible assumption) ?_
                | refine Keeps.of_snd2 (by with_reducible assumption) ?_

theorem acceptReq_keeps {s : State} (h : Keeps kd km kc s0 s) (r : DqReq) :
    Keeps kd km kc s0 (acceptReq r s) := by
  unfold acceptReq
  try dsimp only
  repeat' first | with_reducible assumption | with_reducible apply Keeps.foldl | with_reducible apply Keeps.elim
                | (intros; with_reducible assumption) | (intro x) | split
                | refine Keeps.lit rfl rfl rfl rfl rfl rfl rfl rfl ?_
                | refine Keeps.of_snd (by with_reducible assumption) ?_
                | refine Keeps.of_snd2 (by with_reducible assumption) ?_

theorem acceptHeld_keeps {s : State} (h : Keeps kd km kc s0 s)  :
    Keeps kd km kc s0 (acceptHeld s) := by
  unfold acceptHeld
  try dsimp only
  repeat' first | with_reducible assumption | with_reducible apply acceptReq_keeps | with_reducible apply Keeps.foldl
                | with_reducible apply Keeps.elim | (intros; with_reducible assumption) | (intro x) | split
                | refine Keeps.lit rfl rfl rfl rfl rfl rfl rfl rfl ?_
                | refine Keeps.of_snd (by with_reducible assumption) ?_
                | refine Keeps.of_snd2 (by with_reducible assumption) ?_

theorem acceptReqs_keeps {s : State} (h : Keeps kd km kc s0 s) (ch : Nat) (l : List (Fin 12 × BitVec 33)) :
    Keeps kd km kc s0 (acceptReqs ch l s) := by
  unfold acceptReqs
  exact Keeps.foldl (fun t p h => acceptReq_keeps h _) (acceptHeld_keeps h) _

theorem countSlot_keeps {s : State} (h : Keeps kd km kc s0 s) (ch : Nat) (port : Nat) :
    Keeps kd km kc s0 (countSlot ch port s) := by
  unfold countSlot
  try dsimp only
  repeat' first | with_reducible assumption | with_reducible apply Keeps.foldl | with_reducible apply Keeps.elim
                | (intros; with_reducible assumption) | (intro x) | split
                | refine Keeps.lit rfl rfl rfl rfl rfl rfl rfl rfl ?_
                | refine Keeps.of_snd (by with_reducible assumption) ?_
                | refine Keeps.of_snd2 (by with_reducible assumption) ?_

theorem countLate_keeps {s : State} (h : Keeps kd km kc s0 s) (port : Nat) (ticks : Nat) :
    Keeps kd km kc s0 (countLate port ticks s) := by
  unfold countLate
  try dsimp only
  repeat' first | with_reducible assumption | with_reducible apply put_keeps | with_reducible apply inc_keeps
                | with_reducible apply Keeps.foldl | with_reducible apply Keeps.elim
                | (intros; with_reducible assumption) | (intro x) | split
                | refine Keeps.lit rfl rfl rfl rfl rfl rfl rfl rfl ?_
                | refine Keeps.of_snd (by with_reducible assumption) ?_
                | refine Keeps.of_snd2 (by with_reducible assumption) ?_

theorem serveSlot_keeps {s : State} (h : Keeps kd km kc s0 s) (ch : Nat) :
    Keeps kd km kc s0 (serveSlot ch s) := by
  unfold serveSlot
  try dsimp only
  repeat' first | with_reducible assumption | with_reducible apply noteHot_keeps | with_reducible apply clearSat_keeps
                | with_reducible apply acceptHeld_keeps | with_reducible apply countSlot_keeps
                | with_reducible apply countLate_keeps | with_reducible apply Keeps.foldl
                | with_reducible apply Keeps.elim | (intros; with_reducible assumption) | (intro x) | split
                | refine Keeps.lit rfl rfl rfl rfl rfl rfl rfl rfl ?_
                | refine Keeps.of_snd (by with_reducible assumption) ?_
                | refine Keeps.of_snd2 (by with_reducible assumption) ?_

theorem dqosSlotEff_keeps {s : State} (h : Keeps kd km kc s0 s) (ch : Nat) (arr : List (Fin 12 × BitVec 33)) :
    Keeps kd km kc s0 (dqosSlotEff ch arr s) := by
  unfold dqosSlotEff
  try dsimp only
  repeat' first | with_reducible assumption | with_reducible apply acceptReqs_keeps
                | with_reducible apply serveSlot_keeps | with_reducible apply Keeps.foldl
                | with_reducible apply Keeps.elim | (intros; with_reducible assumption) | (intro x) | split
                | refine Keeps.lit rfl rfl rfl rfl rfl rfl rfl rfl ?_
                | refine Keeps.of_snd (by with_reducible assumption) ?_
                | refine Keeps.of_snd2 (by with_reducible assumption) ?_

theorem saturationEff_keeps {s : State} (h : Keeps kd km kc s0 s) (ch : Nat) :
    Keeps kd km kc s0 (saturationEff ch s) := by
  unfold saturationEff
  try dsimp only
  repeat' first | with_reducible assumption | with_reducible apply put_keeps | with_reducible apply noteHot_keeps
                | with_reducible apply Keeps.foldl | with_reducible apply Keeps.elim
                | (intros; with_reducible assumption) | (intro x) | split
                | refine Keeps.lit rfl rfl rfl rfl rfl rfl rfl rfl ?_
                | refine Keeps.of_snd (by with_reducible assumption) ?_
                | refine Keeps.of_snd2 (by with_reducible assumption) ?_

theorem writeMark_keeps {s : State} (h : Keeps kd km kc s0 s) (d : W32) :
    Keeps kd km kc s0 (writeMark d s) := by
  unfold writeMark
  try dsimp only
  repeat' first | with_reducible assumption | with_reducible apply storeAll_keeps | with_reducible apply checked_keeps
                | with_reducible apply Keeps.foldl | with_reducible apply Keeps.elim
                | (intros; with_reducible assumption) | (intro x) | split
                | refine Keeps.lit rfl rfl rfl rfl rfl rfl rfl rfl ?_
                | refine Keeps.of_snd (by with_reducible assumption) ?_
                | refine Keeps.of_snd2 (by with_reducible assumption) ?_

theorem writeLat_keeps {s : State} (h : Keeps kd km kc s0 s) (p : Nat) (d : W32) :
    Keeps kd km kc s0 (writeLat p d s) := by
  unfold writeLat
  try dsimp only
  repeat' first | with_reducible assumption | with_reducible apply store_keeps | with_reducible apply checked_keeps
                | with_reducible apply Keeps.foldl | with_reducible apply Keeps.elim
                | (intros; with_reducible assumption) | (intro x) | split
                | refine Keeps.lit rfl rfl rfl rfl rfl rfl rfl rfl ?_
                | refine Keeps.of_snd (by with_reducible assumption) ?_
                | refine Keeps.of_snd2 (by with_reducible assumption) ?_

theorem writeDqPcfg_keeps {s : State} (h : Keeps kd km kc s0 s) (p : Nat) (d : W32) :
    Keeps kd km kc s0 (writeDqPcfg p d s) := by
  unfold writeDqPcfg
  try dsimp only
  repeat' first | with_reducible assumption | with_reducible apply storeAll_keeps | with_reducible apply checked_keeps
                | with_reducible apply Keeps.foldl | with_reducible apply Keeps.elim
                | (intros; with_reducible assumption) | (intro x) | split
                | refine Keeps.lit rfl rfl rfl rfl rfl rfl rfl rfl ?_
                | refine Keeps.of_snd (by with_reducible assumption) ?_
                | refine Keeps.of_snd2 (by with_reducible assumption) ?_

/-! ### Machine/Surface.lean -/

theorem writeBlock_keeps {s : State} (h : Keeps true km kc s0 s) (ltgt : Nat) (pl : Plane) (bx : Nat) (y : Nat) (ss : List Nat) :
    Keeps true km kc s0 (writeBlock ltgt pl bx y ss s) := by
  unfold writeBlock
  try dsimp only
  repeat' first | with_reducible assumption | with_reducible apply dramWrite_keeps | with_reducible apply Keeps.foldl
                | with_reducible apply Keeps.elim | (intros; with_reducible assumption) | (intro x) | split
                | refine Keeps.lit rfl rfl rfl rfl rfl rfl rfl rfl ?_
                | refine Keeps.of_snd (by with_reducible assumption) ?_
                | refine Keeps.of_snd2 (by with_reducible assumption) ?_

theorem mergeBlock_keeps {s : State} (h : Keeps true km kc s0 s) (ltgt : Nat) (pl : Plane) (on : Nat → Nat → Bool) (pic : Nat → Nat → Nat) (pad : Nat → Nat → Nat) (was : State) (bx : Nat) (y : Nat) :
    Keeps true km kc s0 (mergeBlock ltgt pl on pic pad was bx y s) := by
  unfold mergeBlock
  try dsimp only
  repeat' first | with_reducible assumption | with_reducible apply writeBlock_keeps | with_reducible apply Keeps.foldl
                | with_reducible apply Keeps.elim | (intros; with_reducible assumption) | (intro x) | split
                | refine Keeps.lit rfl rfl rfl rfl rfl rfl rfl rfl ?_
                | refine Keeps.of_snd (by with_reducible assumption) ?_
                | refine Keeps.of_snd2 (by with_reducible assumption) ?_

theorem storePlane_keeps {s : State} (h : Keeps true km kc s0 s) (pl : Plane) (on : Nat → Nat → Bool) (pic : Nat → Nat → Nat) (pad : Nat → Nat → Nat) (a : Nat) :
    Keeps true km kc s0 (storePlane pl on pic pad a s) := by
  unfold storePlane
  try dsimp only
  repeat' first | with_reducible assumption | with_reducible apply dramWrite_keeps
                | with_reducible apply mergeBlock_keeps | with_reducible apply Keeps.foldl
                | with_reducible apply Keeps.elim | (intros; with_reducible assumption) | (intro x) | split
                | refine Keeps.lit rfl rfl rfl rfl rfl rfl rfl rfl ?_
                | refine Keeps.of_snd (by with_reducible assumption) ?_
                | refine Keeps.of_snd2 (by with_reducible assumption) ?_

theorem storePicture_keeps {s : State} (h : Keeps true km kc s0 s) (f : Surface) (on : Nat → Nat → Nat → Bool) (pic : Picture) (a : Nat) :
    Keeps true km kc s0 (storePicture f on pic a s) := by
  unfold storePicture
  try dsimp only
  repeat' first | with_reducible assumption | with_reducible apply fresh_keeps | with_reducible apply storePlane_keeps
                | with_reducible apply Keeps.foldl | with_reducible apply Keeps.elim
                | (intros; with_reducible assumption) | (intro x) | split
                | refine Keeps.lit rfl rfl rfl rfl rfl rfl rfl rfl ?_
                | refine Keeps.of_snd (by with_reducible assumption) ?_
                | refine Keeps.of_snd2 (by with_reducible assumption) ?_

theorem storeSurface_keeps {s : State} (h : Keeps true km kc s0 s) (f : Surface) (pic : Picture) :
    Keeps true km kc s0 (storeSurface f pic s) := by
  unfold storeSurface
  try dsimp only
  repeat' first | with_reducible assumption | with_reducible apply storePicture_keeps
                | with_reducible apply Keeps.foldl | with_reducible apply Keeps.elim
                | (intros; with_reducible assumption) | (intro x) | split
                | refine Keeps.lit rfl rfl rfl rfl rfl rfl rfl rfl ?_
                | refine Keeps.of_snd (by with_reducible assumption) ?_
                | refine Keeps.of_snd2 (by with_reducible assumption) ?_

theorem tcfTally_keeps {s : State} (h : Keeps kd km kc s0 s) (p : Nat) (q : Nat) :
    Keeps kd km kc s0 (tcfTally p q s) := by
  unfold tcfTally
  try dsimp only
  repeat' first | with_reducible assumption | with_reducible apply puts_keeps | with_reducible apply Keeps.foldl
                | with_reducible apply Keeps.elim | (intros; with_reducible assumption) | (intro x) | split
                | refine Keeps.lit rfl rfl rfl rfl rfl rfl rfl rfl ?_
                | refine Keeps.of_snd (by with_reducible assumption) ?_
                | refine Keeps.of_snd2 (by with_reducible assumption) ?_

theorem readBlocks_keeps {s : State} (h : Keeps kd km kc s0 s) (pl : Plane) (on : Nat → Nat → Bool) :
    Keeps kd km kc s0 (readBlocks pl on s) := by
  unfold readBlocks
  try dsimp only
  repeat' first | with_reducible assumption | with_reducible apply recErr_keeps | with_reducible apply tcfTally_keeps
                | with_reducible apply Keeps.foldl | with_reducible apply Keeps.elim
                | (intros; with_reducible assumption) | (intro x) | split
                | refine Keeps.lit rfl rfl rfl rfl rfl rfl rfl rfl ?_
                | refine Keeps.of_snd (by with_reducible assumption) ?_
                | refine Keeps.of_snd2 (by with_reducible assumption) ?_

theorem readWhere_keeps {s : State} (h : Keeps kd km kc s0 s) (f : Surface) (row : Nat → Bool) :
    Keeps kd km kc s0 (readWhere f row s) := by
  unfold readWhere
  try dsimp only
  repeat' first | with_reducible assumption | with_reducible apply readBlocks_keeps | with_reducible apply Keeps.foldl
                | with_reducible apply Keeps.elim | (intros; with_reducible assumption) | (intro x) | split
                | refine Keeps.lit rfl rfl rfl rfl rfl rfl rfl rfl ?_
                | refine Keeps.of_snd (by with_reducible assumption) ?_
                | refine Keeps.of_snd2 (by with_reducible assumption) ?_

theorem readAreas_keeps {s : State} (h : Keeps kd km kc s0 s) (f : Surface) (on : Nat → Nat → Bool) :
    Keeps kd km kc s0 (readAreas f on s) := by
  unfold readAreas
  try dsimp only
  repeat' first | with_reducible assumption | with_reducible apply readBlocks_keeps | with_reducible apply Keeps.foldl
                | with_reducible apply Keeps.elim | (intros; with_reducible assumption) | (intro x) | split
                | refine Keeps.lit rfl rfl rfl rfl rfl rfl rfl rfl ?_
                | refine Keeps.of_snd (by with_reducible assumption) ?_
                | refine Keeps.of_snd2 (by with_reducible assumption) ?_

theorem readRows_keeps {s : State} (h : Keeps kd km kc s0 s) (f : Surface) (a : Nat) (b : Nat) :
    Keeps kd km kc s0 (readRows f a b s) := by
  unfold readRows
  try dsimp only
  repeat' first | with_reducible assumption | with_reducible apply readWhere_keeps | with_reducible apply Keeps.foldl
                | with_reducible apply Keeps.elim | (intros; with_reducible assumption) | (intro x) | split
                | refine Keeps.lit rfl rfl rfl rfl rfl rfl rfl rfl ?_
                | refine Keeps.of_snd (by with_reducible assumption) ?_
                | refine Keeps.of_snd2 (by with_reducible assumption) ?_

/-! ### Machine/Ecc.lean -/

theorem noteBad_keeps {s : State} (h : Keeps kd km kc s0 s) (l : Nat) :
    Keeps kd km kc s0 (noteBad l s) := by
  unfold noteBad
  try dsimp only
  repeat' first | with_reducible assumption | with_reducible apply puts_keeps | with_reducible apply store_keeps
                | with_reducible apply recErr_keeps | with_reducible apply Keeps.foldl
                | with_reducible apply Keeps.elim | (intros; with_reducible assumption) | (intro x) | split
                | refine Keeps.lit rfl rfl rfl rfl rfl rfl rfl rfl ?_
                | refine Keeps.of_snd (by with_reducible assumption) ?_
                | refine Keeps.of_snd2 (by with_reducible assumption) ?_

theorem noteReads_keeps {s : State} (h : Keeps kd km kc s0 s) (a : Nat) (n : Nat) :
    Keeps kd km kc s0 (noteReads a n s) := by
  unfold noteReads
  try dsimp only
  repeat' first | with_reducible assumption | with_reducible apply put_keeps | with_reducible apply inc_keeps
                | with_reducible apply noteBad_keeps | with_reducible apply Keeps.foldl
                | with_reducible apply Keeps.elim | (intros; with_reducible assumption) | (intro x) | split
                | refine Keeps.lit rfl rfl rfl rfl rfl rfl rfl rfl ?_
                | refine Keeps.of_snd (by with_reducible assumption) ?_
                | refine Keeps.of_snd2 (by with_reducible assumption) ?_

theorem setStoreWord_keeps {s : State} (h : Keeps kd km kc s0 s) (n : Nat) (w : Nat) (v : CsWord) :
    Keeps kd km kc s0 (setStoreWord n w v s) := by
  unfold setStoreWord
  try dsimp only
  repeat' first | with_reducible assumption | with_reducible apply store_keeps | with_reducible apply setCell_keeps
                | with_reducible apply Keeps.foldl | with_reducible apply Keeps.elim
                | (intros; with_reducible assumption) | (intro x) | split
                | refine Keeps.lit rfl rfl rfl rfl rfl rfl rfl rfl ?_
                | refine Keeps.of_snd (by with_reducible assumption) ?_
                | refine Keeps.of_snd2 (by with_reducible assumption) ?_

theorem upsetWord_keeps {s : State} (h : Keeps kd km kc s0 s) (n : Nat) (w : Nat) (m : CsWord) :
    Keeps kd km kc s0 (upsetWord n w m s) := by
  unfold upsetWord
  try dsimp only
  repeat' first | with_reducible assumption | with_reducible apply setStoreWord_keeps
                | with_reducible apply Keeps.foldl | with_reducible apply Keeps.elim
                | (intros; with_reducible assumption) | (intro x) | split
                | refine Keeps.lit rfl rfl rfl rfl rfl rfl rfl rfl ?_
                | refine Keeps.of_snd (by with_reducible assumption) ?_
                | refine Keeps.of_snd2 (by with_reducible assumption) ?_

theorem findCorrectable_keeps {s : State} (h : Keeps kd km kc s0 s) (n : Nat) (w : Nat) :
    Keeps kd km kc s0 (findCorrectable n w s) := by
  unfold findCorrectable
  try dsimp only
  repeat' first | with_reducible assumption | with_reducible apply inc_keeps | with_reducible apply puts_keeps
                | with_reducible apply setCell_keeps | with_reducible apply Keeps.foldl
                | with_reducible apply Keeps.elim | (intros; with_reducible assumption) | (intro x) | split
                | refine Keeps.lit rfl rfl rfl rfl rfl rfl rfl rfl ?_
                | refine Keeps.of_snd (by with_reducible assumption) ?_
                | refine Keeps.of_snd2 (by with_reducible assumption) ?_

theorem showUncorrectable_keeps {s : State} (h : Keeps kd km kc s0 s) (n : Nat) (w : Nat) :
    Keeps kd km kc s0 (showUncorrectable n w s) := by
  unfold showUncorrectable
  try dsimp only
  repeat' first | with_reducible assumption | with_reducible apply puts_keeps | with_reducible apply Keeps.foldl
                | with_reducible apply Keeps.elim | (intros; with_reducible assumption) | (intro x) | split
                | refine Keeps.lit rfl rfl rfl rfl rfl rfl rfl rfl ?_
                | refine Keeps.of_snd (by with_reducible assumption) ?_
                | refine Keeps.of_snd2 (by with_reducible assumption) ?_

/-! ### Machine/Csch.lean -/

theorem updFrame_keeps {s : State} (h : Keeps kd km kc s0 s) (num : Nat) (g : Frame → Frame) :
    Keeps kd km kc s0 (updFrame num g s) := by
  unfold updFrame
  try dsimp only
  repeat' first | with_reducible assumption | with_reducible apply Keeps.foldl | with_reducible apply Keeps.elim
                | (intros; with_reducible assumption) | (intro x) | split
                | refine Keeps.lit rfl rfl rfl rfl rfl rfl rfl rfl ?_
                | refine Keeps.of_snd (by with_reducible assumption) ?_
                | refine Keeps.of_snd2 (by with_reducible assumption) ?_

theorem updStrip_keeps {s : State} (h : Keeps kd km kc s0 s) (num : Nat) (j : Nat) (g : Strip → Strip) :
    Keeps kd km kc s0 (updStrip num j g s) := by
  unfold updStrip
  try dsimp only
  repeat' first | with_reducible assumption | with_reducible apply updFrame_keeps | with_reducible apply Keeps.foldl
                | with_reducible apply Keeps.elim | (intros; with_reducible assumption) | (intro x) | split
                | refine Keeps.lit rfl rfl rfl rfl rfl rfl rfl rfl ?_
                | refine Keeps.of_snd (by with_reducible assumption) ?_
                | refine Keeps.of_snd2 (by with_reducible assumption) ?_

theorem writeSqtail_keeps {s : State} (h : Keeps kd km kc s0 s) (r : Nat) (d : W32) :
    Keeps kd km kc s0 (writeSqtail r d s) := by
  unfold writeSqtail
  try dsimp only
  repeat' first | with_reducible assumption | with_reducible apply put_keeps | with_reducible apply checked_keeps
                | with_reducible apply Keeps.foldl | with_reducible apply Keeps.elim
                | (intros; with_reducible assumption) | (intro x) | split
                | refine Keeps.lit rfl rfl rfl rfl rfl rfl rfl rfl ?_
                | refine Keeps.of_snd (by with_reducible assumption) ?_
                | refine Keeps.of_snd2 (by with_reducible assumption) ?_

theorem writeCqtail_keeps {s : State} (h : Keeps kd km kc s0 s) (r : Nat) (d : W32) :
    Keeps kd km kc s0 (writeCqtail r d s) := by
  unfold writeCqtail
  try dsimp only
  repeat' first | with_reducible assumption | with_reducible apply put_keeps | with_reducible apply checked_keeps
                | with_reducible apply Keeps.foldl | with_reducible apply Keeps.elim
                | (intros; with_reducible assumption) | (intro x) | split
                | refine Keeps.lit rfl rfl rfl rfl rfl rfl rfl rfl ?_
                | refine Keeps.of_snd (by with_reducible assumption) ?_
                | refine Keeps.of_snd2 (by with_reducible assumption) ?_

theorem writeRingBase_keeps {s : State} (h : Keeps kd km kc s0 s) (r : Nat) (f : Fld) (d : W32) :
    Keeps kd km kc s0 (writeRingBase r f d s) := by
  unfold writeRingBase
  try dsimp only
  repeat' first | with_reducible assumption | with_reducible apply store_keeps | with_reducible apply checked_keeps
                | with_reducible apply Keeps.foldl | with_reducible apply Keeps.elim
                | (intros; with_reducible assumption) | (intro x) | split
                | refine Keeps.lit rfl rfl rfl rfl rfl rfl rfl rfl ?_
                | refine Keeps.of_snd (by with_reducible assumption) ?_
                | refine Keeps.of_snd2 (by with_reducible assumption) ?_

theorem ringStart_keeps {s : State} (h : Keeps kd km kc s0 s) (r : Nat) :
    Keeps kd km kc s0 (ringStart r s) := by
  unfold ringStart
  try dsimp only
  repeat' first | with_reducible assumption | with_reducible apply puts_keeps | with_reducible apply setRing_keeps
                | with_reducible apply Keeps.foldl | with_reducible apply Keeps.elim
                | (intros; with_reducible assumption) | (intro x) | split
                | refine Keeps.lit rfl rfl rfl rfl rfl rfl rfl rfl ?_
                | refine Keeps.of_snd (by with_reducible assumption) ?_
                | refine Keeps.of_snd2 (by with_reducible assumption) ?_

theorem ringSettle_keeps {s : State} (h : Keeps kd km kc s0 s) (r : Nat) :
    Keeps kd km kc s0 (ringSettle r s) := by
  unfold ringSettle
  try dsimp only
  repeat' first | with_reducible assumption | with_reducible apply put_keeps | with_reducible apply ringStart_keeps
                | with_reducible apply Keeps.foldl | with_reducible apply Keeps.elim
                | (intros; with_reducible assumption) | (intro x) | split
                | refine Keeps.lit rfl rfl rfl rfl rfl rfl rfl rfl ?_
                | refine Keeps.of_snd (by with_reducible assumption) ?_
                | refine Keeps.of_snd2 (by with_reducible assumption) ?_

theorem ringEnableOp_keeps {s : State} (h : Keeps kd km kc s0 s) (r : Nat) :
    Keeps kd km kc s0 (ringEnableOp r s) := by
  unfold ringEnableOp
  try dsimp only
  repeat' first | with_reducible assumption | with_reducible apply put_keeps | with_reducible apply setRing_keeps
                | with_reducible apply checked_keeps | with_reducible apply ringStart_keeps
                | with_reducible apply Keeps.foldl | with_reducible apply Keeps.elim
                | (intros; with_reducible assumption) | (intro x) | split
                | refine Keeps.lit rfl rfl rfl rfl rfl rfl rfl rfl ?_
                | refine Keeps.of_snd (by with_reducible assumption) ?_
                | refine Keeps.of_snd2 (by with_reducible assumption) ?_

theorem ringDisableOp_keeps {s : State} (h : Keeps kd km kc s0 s) (r : Nat) :
    Keeps kd km kc s0 (ringDisableOp r s) := by
  unfold ringDisableOp
  try dsimp only
  repeat' first | with_reducible assumption | with_reducible apply puts_keeps | with_reducible apply setRing_keeps
                | with_reducible apply ringSettle_keeps | with_reducible apply Keeps.foldl
                | with_reducible apply Keeps.elim | (intros; with_reducible assumption) | (intro x) | split
                | refine Keeps.lit rfl rfl rfl rfl rfl rfl rfl rfl ?_
                | refine Keeps.of_snd (by with_reducible assumption) ?_
                | refine Keeps.of_snd2 (by with_reducible assumption) ?_

theorem writeRcfg_keeps {s : State} (h : Keeps kd km kc s0 s) (r : Nat) (d : W32) :
    Keeps kd km kc s0 (writeRcfg r d s) := by
  unfold writeRcfg
  try dsimp only
  repeat' first | with_reducible assumption | with_reducible apply when_keeps | with_reducible apply storeAll_keeps
                | with_reducible apply recErr_keeps | with_reducible apply lowerLines_keeps
                | with_reducible apply ringEnableOp_keeps | with_reducible apply ringDisableOp_keeps
                | with_reducible apply Keeps.foldl | with_reducible apply Keeps.elim
                | (intros; with_reducible assumption) | (intro x) | split
                | refine Keeps.lit rfl rfl rfl rfl rfl rfl rfl rfl ?_
                | refine Keeps.of_snd (by with_reducible assumption) ?_
                | refine Keeps.of_snd2 (by with_reducible assumption) ?_

theorem writeKeyreq_keeps {s : State} (h : Keeps kd km kc s0 s) (r : Nat) (d : W32) :
    Keeps kd km kc s0 (writeKeyreq r d s) := by
  unfold writeKeyreq
  try dsimp only
  repeat' first | with_reducible assumption | with_reducible apply put_keeps | with_reducible apply Keeps.foldl
                | with_reducible apply Keeps.elim | (intros; with_reducible assumption) | (intro x) | split
                | refine Keeps.lit rfl rfl rfl rfl rfl rfl rfl rfl ?_
                | refine Keeps.of_snd (by with_reducible assumption) ?_
                | refine Keeps.of_snd2 (by with_reducible assumption) ?_

theorem startFrames_keeps {s : State} (h : Keeps kd km kc s0 s) (r : Nat) :
    Keeps kd km kc s0 (startFrames r s) := by
  unfold startFrames
  try dsimp only
  repeat' first | with_reducible assumption | with_reducible apply Keeps.foldl | with_reducible apply Keeps.elim
                | (intros; with_reducible assumption) | (intro x) | split
                | refine Keeps.lit rfl rfl rfl rfl rfl rfl rfl rfl ?_
                | refine Keeps.of_snd (by with_reducible assumption) ?_
                | refine Keeps.of_snd2 (by with_reducible assumption) ?_

theorem dropFrame_keeps {s : State} (h : Keeps kd km kc s0 s) (f : Frame) :
    Keeps kd km kc s0 (dropFrame f s) := by
  unfold dropFrame
  try dsimp only
  repeat' first | with_reducible assumption | with_reducible apply put_keeps | with_reducible apply inc_keeps
                | with_reducible apply updFrame_keeps | with_reducible apply Keeps.foldl
                | with_reducible apply Keeps.elim | (intros; with_reducible assumption) | (intro x) | split
                | refine Keeps.lit rfl rfl rfl rfl rfl rfl rfl rfl ?_
                | refine Keeps.of_snd (by with_reducible assumption) ?_
                | refine Keeps.of_snd2 (by with_reducible assumption) ?_

theorem depthDrop_keeps {s : State} (h : Keeps kd km kc s0 s) (r : Nat) :
    Keeps kd km kc s0 (depthDrop r s) := by
  unfold depthDrop
  try dsimp only
  repeat' first | with_reducible assumption | with_reducible apply dropFrame_keeps | with_reducible apply Keeps.foldl
                | with_reducible apply Keeps.elim | (intros; with_reducible assumption) | (intro x) | split
                | refine Keeps.lit rfl rfl rfl rfl rfl rfl rfl rfl ?_
                | refine Keeps.of_snd (by with_reducible assumption) ?_
                | refine Keeps.of_snd2 (by with_reducible assumption) ?_

theorem countDecode_keeps {s : State} (h : Keeps kd km kc s0 s) (e : Frame) :
    Keeps kd km kc s0 (countDecode e s) := by
  unfold countDecode
  try dsimp only
  repeat' first | with_reducible assumption | with_reducible apply setRing_keeps | with_reducible apply Keeps.foldl
                | with_reducible apply Keeps.elim | (intros; with_reducible assumption) | (intro x) | split
                | refine Keeps.lit rfl rfl rfl rfl rfl rfl rfl rfl ?_
                | refine Keeps.of_snd (by with_reducible assumption) ?_
                | refine Keeps.of_snd2 (by with_reducible assumption) ?_

theorem descriptorFetchEff_keeps {s : State} (h : Keeps kd km kc s0 s) (r : Nat) (info : PicInfo) :
    Keeps kd km kc s0 (descriptorFetchEff r info s) := by
  unfold descriptorFetchEff
  try dsimp only
  repeat' first | with_reducible assumption | with_reducible apply put_keeps | with_reducible apply recErr_keeps
                | with_reducible apply startFrames_keeps | with_reducible apply depthDrop_keeps
                | with_reducible apply countDecode_keeps | with_reducible apply Keeps.foldl
                | with_reducible apply Keeps.elim | (intros; with_reducible assumption) | (intro x) | split
                | refine Keeps.lit rfl rfl rfl rfl rfl rfl rfl rfl ?_
                | refine Keeps.of_snd (by with_reducible assumption) ?_
                | refine Keeps.of_snd2 (by with_reducible assumption) ?_

theorem startAction_keeps {s : State} (h : Keeps kd km kc s0 s) (r : Nat) :
    Keeps kd km kc s0 (startAction r s) := by
  unfold startAction
  try dsimp only
  repeat' first | with_reducible assumption | with_reducible apply put_keeps | with_reducible apply updFrame_keeps
                | with_reducible apply startFrames_keeps | with_reducible apply Keeps.foldl
                | with_reducible apply Keeps.elim | (intros; with_reducible assumption) | (intro x) | split
                | refine Keeps.lit rfl rfl rfl rfl rfl rfl rfl rfl ?_
                | refine Keeps.of_snd (by with_reducible assumption) ?_
                | refine Keeps.of_snd2 (by with_reducible assumption) ?_

theorem bitstreamStageEff_keeps {s : State} (h : Keeps true km kc s0 s) (r : Nat) (info : PicInfo) :
    Keeps true km kc s0 (bitstreamStageEff r info s) := by
  unfold bitstreamStageEff
  try dsimp only
  repeat' first | with_reducible assumption | with_reducible apply put_keeps | with_reducible apply setFifo_keeps
                | with_reducible apply dramWrite_keeps | with_reducible apply recErr_keeps
                | with_reducible apply updFrame_keeps | with_reducible apply Keeps.foldl
                | with_reducible apply Keeps.elim | (intros; with_reducible assumption) | (intro x) | split
                | refine Keeps.lit rfl rfl rfl rfl rfl rfl rfl rfl ?_
                | refine Keeps.of_snd (by with_reducible assumption) ?_
                | refine Keeps.of_snd2 (by with_reducible assumption) ?_

theorem layerBfifoCopyEff_keeps {s : State} (h : Keeps kd km kc s0 s) (r : Nat) :
    Keeps kd km kc s0 (layerBfifoCopyEff r s) := by
  unfold layerBfifoCopyEff
  try dsimp only
  repeat' first | with_reducible assumption | with_reducible apply puts_keeps | with_reducible apply setFifo_keeps
                | with_reducible apply updFrame_keeps | with_reducible apply Keeps.foldl
                | with_reducible apply Keeps.elim | (intros; with_reducible assumption) | (intro x) | split
                | refine Keeps.lit rfl rfl rfl rfl rfl rfl rfl rfl ?_
                | refine Keeps.of_snd (by with_reducible assumption) ?_
                | refine Keeps.of_snd2 (by with_reducible assumption) ?_

theorem decodeStatus_keeps {s : State} (h : Keeps true km kc s0 s) (f : Frame) :
    Keeps true km kc s0 (decodeStatus f s) := by
  unfold decodeStatus
  try dsimp only
  repeat' first | with_reducible assumption | with_reducible apply dramWrite_keeps | with_reducible apply Keeps.foldl
                | with_reducible apply Keeps.elim | (intros; with_reducible assumption) | (intro x) | split
                | refine Keeps.lit rfl rfl rfl rfl rfl rfl rfl rfl ?_
                | refine Keeps.of_snd (by with_reducible assumption) ?_
                | refine Keeps.of_snd2 (by with_reducible assumption) ?_

theorem completionRecordEff_keeps {s : State} (h : Keeps true km kc s0 s) (r : Nat) :
    Keeps true km kc s0 (completionRecordEff r s) := by
  unfold completionRecordEff
  try dsimp only
  repeat' first | with_reducible assumption | with_reducible apply put_keeps | with_reducible apply dramWrite_keeps
                | with_reducible apply ringSettle_keeps | with_reducible apply startFrames_keeps
                | with_reducible apply decodeStatus_keeps | with_reducible apply Keeps.foldl
                | with_reducible apply Keeps.elim | (intros; with_reducible assumption) | (intro x) | split
                | refine Keeps.lit rfl rfl rfl rfl rfl rfl rfl rfl ?_
                | refine Keeps.of_snd (by with_reducible assumption) ?_
                | refine Keeps.of_snd2 (by with_reducible assumption) ?_

/-! ### Machine/Strips.lean -/

theorem chooseEntries_keeps {s : State} (h : Keeps kd km kc s0 s) (f : Frame) :
    Keeps kd km kc s0 (chooseEntries s f).2 :=
  Keeps.foldl_snd (β := List Nat) (fun _ _ h => fresh_keeps h) (a := ([], s)) h _

theorem beginFrame_keeps {s : State} (h : Keeps kd km kc s0 s) (f : Frame) :
    Keeps kd km kc s0 (beginFrame f s) := by
  unfold beginFrame
  try dsimp only
  repeat' first | with_reducible assumption | with_reducible apply put_keeps | with_reducible apply setRing_keeps
                | with_reducible apply updFrame_keeps | with_reducible apply chooseEntries_keeps
                | with_reducible apply Keeps.foldl | with_reducible apply Keeps.elim
                | (intros; with_reducible assumption) | (intro x) | split
                | refine Keeps.lit rfl rfl rfl rfl rfl rfl rfl rfl ?_
                | refine Keeps.of_snd (by with_reducible assumption) ?_
                | refine Keeps.of_snd2 (by with_reducible assumption) ?_

theorem choosePool_keeps {s : State} (h : Keeps kd km kc s0 s) (f : Frame) (p : PicInfo) (free : List Nat) :
    Keeps kd km kc s0 (choosePool f p free s).2 := by
  unfold choosePool
  exact Keeps.foldl_snd (β := List (Option Nat)) (fun a x h => fresh_keeps h) (a := ([], s)) h _

theorem beginDecode_keeps {s : State} (h : Keeps kd km kc s0 s) (f : Frame) (p : PicInfo) :
    Keeps kd km kc s0 (beginDecode f p s) :=
  updFrame_keeps (choosePool_keeps (setRing_keeps h _ _) f p _) _ _

theorem chooseQps_keeps {s : State} (h : Keeps kd km kc s0 s) (f : Frame) (x : Strip) :
    Keeps kd km kc s0 (chooseQps f x s).2 := by
  unfold chooseQps; split
  · exact Keeps.foldl_snd (β := List Nat) (fun _ _ h => fresh_keeps (fresh_keeps h)) (a := ([], s)) h _
  · exact h

theorem assignStrip_keeps {s : State} (h : Keeps kd km kc s0 s) (n : Nat) (f : Frame) (j : Nat) (x : Strip) :
    Keeps kd km kc s0 (assignStrip n f j x s) := by
  unfold assignStrip
  try dsimp only
  repeat' first | with_reducible assumption | with_reducible apply puts_keeps | with_reducible apply setCell_keeps
                | with_reducible apply cellRequest_keeps | with_reducible apply updFrame_keeps
                | with_reducible apply updStrip_keeps | with_reducible apply chooseQps_keeps
                | with_reducible apply Keeps.foldl | with_reducible apply Keeps.elim
                | (intros; with_reducible assumption) | (intro x) | split
                | refine Keeps.lit rfl rfl rfl rfl rfl rfl rfl rfl ?_
                | refine Keeps.of_snd (by with_reducible assumption) ?_
                | refine Keeps.of_snd2 (by with_reducible assumption) ?_

theorem stripCommits_keeps {s : State} (h : Keeps kd km kc s0 s) (n : Fin 8) :
    Keeps kd km kc s0 (stripCommits n s) := by
  unfold stripCommits
  try dsimp only
  repeat' first | with_reducible assumption | with_reducible apply commitPoint_keeps
                | with_reducible apply Keeps.foldl | with_reducible apply Keeps.elim
                | (intros; with_reducible assumption) | (intro x) | split
                | refine Keeps.lit rfl rfl rfl rfl rfl rfl rfl rfl ?_
                | refine Keeps.of_snd (by with_reducible assumption) ?_
                | refine Keeps.of_snd2 (by with_reducible assumption) ?_

theorem noteRows_keeps {s : State} (h : Keeps kd km kc s0 s) (rows : Nat) :
    Keeps kd km kc s0 (noteRows rows s) := by
  unfold noteRows
  try dsimp only
  repeat' first | with_reducible assumption | with_reducible apply updFrame_keeps | with_reducible apply Keeps.foldl
                | with_reducible apply Keeps.elim | (intros; with_reducible assumption) | (intro x) | split
                | refine Keeps.lit rfl rfl rfl rfl rfl rfl rfl rfl ?_
                | refine Keeps.of_snd (by with_reducible assumption) ?_
                | refine Keeps.of_snd2 (by with_reducible assumption) ?_

theorem noteParsed_keeps {s : State} (h : Keeps kd km kc s0 s) (n : Fin 8) :
    Keeps kd km kc s0 (noteParsed n s) := by
  unfold noteParsed
  try dsimp only
  repeat' first | with_reducible assumption | with_reducible apply updStrip_keeps | with_reducible apply Keeps.foldl
                | with_reducible apply Keeps.elim | (intros; with_reducible assumption) | (intro x) | split
                | refine Keeps.lit rfl rfl rfl rfl rfl rfl rfl rfl ?_
                | refine Keeps.of_snd (by with_reducible assumption) ?_
                | refine Keeps.of_snd2 (by with_reducible assumption) ?_

theorem beginAny_keeps {s : State} (h : Keeps kd km kc s0 s) (f : Frame) :
    Keeps kd km kc s0 (beginAny f s) := by
  unfold beginAny
  try dsimp only
  repeat' first | with_reducible assumption | with_reducible apply beginFrame_keeps
                | with_reducible apply beginDecode_keeps | with_reducible apply Keeps.foldl
                | with_reducible apply Keeps.elim | (intros; with_reducible assumption) | (intro x) | split
                | refine Keeps.lit rfl rfl rfl rfl rfl rfl rfl rfl ?_
                | refine Keeps.of_snd (by with_reducible assumption) ?_
                | refine Keeps.of_snd2 (by with_reducible assumption) ?_

theorem dispatchOne_keeps {s : State} (h : Keeps kd km kc s0 s)  :
    Keeps kd km kc s0 (dispatchOne s) := by
  unfold dispatchOne
  try dsimp only
  repeat' first | with_reducible assumption | with_reducible apply updFrame_keeps
                | with_reducible apply dropFrame_keeps | with_reducible apply assignStrip_keeps
                | with_reducible apply stripCommits_keeps | with_reducible apply beginAny_keeps
                | with_reducible apply Keeps.foldl | with_reducible apply Keeps.elim
                | (intros; with_reducible assumption) | (intro x) | split
                | refine Keeps.lit rfl rfl rfl rfl rfl rfl rfl rfl ?_
                | refine Keeps.of_snd (by with_reducible assumption) ?_
                | refine Keeps.of_snd2 (by with_reducible assumption) ?_

theorem stripDispatchEff_keeps {s : State} (h : Keeps kd km kc s0 s) (rows : Nat) (parsed : List (Fin 8)) :
    Keeps kd km kc s0 (stripDispatchEff rows parsed s) := by
  unfold stripDispatchEff
  try dsimp only
  repeat' first | with_reducible assumption | with_reducible apply noteRows_keeps
                | with_reducible apply noteParsed_keeps | with_reducible apply dispatchOne_keeps
                | with_reducible apply Keeps.foldl | with_reducible apply Keeps.elim
                | (intros; with_reducible assumption) | (intro x) | split
                | refine Keeps.lit rfl rfl rfl rfl rfl rfl rfl rfl ?_
                | refine Keeps.of_snd (by with_reducible assumption) ?_
                | refine Keeps.of_snd2 (by with_reducible assumption) ?_

/-! ### Machine/Coded.lean -/

theorem encodeRecon_keeps {s : State} (h : Keeps true km kc s0 s) (f : Frame) (x : Strip) (skips : List Nat) :
    Keeps true km kc s0 (encodeRecon f x skips s) := by
  unfold encodeRecon
  try dsimp only
  repeat' first | with_reducible assumption | with_reducible apply fresh_keeps
                | with_reducible apply storePicture_keeps | with_reducible apply Keeps.foldl
                | with_reducible apply Keeps.elim | (intros; with_reducible assumption) | (intro x) | split
                | refine Keeps.lit rfl rfl rfl rfl rfl rfl rfl rfl ?_
                | refine Keeps.of_snd (by with_reducible assumption) ?_
                | refine Keeps.of_snd2 (by with_reducible assumption) ?_

theorem encodeReads_keeps {s : State} (h : Keeps kd km kc s0 s) (f : Frame) (x : Strip) :
    Keeps kd km kc s0 (encodeReads f x s) := by
  unfold encodeReads
  try dsimp only
  repeat' first | with_reducible assumption | with_reducible apply fresh_keeps | with_reducible apply tcfTally_keeps
                | with_reducible apply readWhere_keeps | with_reducible apply readRows_keeps
                | with_reducible apply Keeps.foldl | with_reducible apply Keeps.elim
                | (intros; with_reducible assumption) | (intro x) | split
                | refine Keeps.lit rfl rfl rfl rfl rfl rfl rfl rfl ?_
                | refine Keeps.of_snd (by with_reducible assumption) ?_
                | refine Keeps.of_snd2 (by with_reducible assumption) ?_

theorem decodeRecon_keeps {s : State} (h : Keeps true km kc s0 s) (f : Frame) (j : Nat) :
    Keeps true km kc s0 (decodeRecon f j s) := by
  unfold decodeRecon
  try dsimp only
  repeat' first | with_reducible assumption | with_reducible apply put_keeps | with_reducible apply fresh_keeps
                | with_reducible apply storePicture_keeps | with_reducible apply Keeps.foldl
                | with_reducible apply Keeps.elim | (intros; with_reducible assumption) | (intro x) | split
                | refine Keeps.lit rfl rfl rfl rfl rfl rfl rfl rfl ?_
                | refine Keeps.of_snd (by with_reducible assumption) ?_
                | refine Keeps.of_snd2 (by with_reducible assumption) ?_

theorem decodeReads_keeps {s : State} (h : Keeps kd km kc s0 s) (f : Frame) (x : Strip) (preds : List (Nat × Nat × Nat)) :
    Keeps kd km kc s0 (decodeReads f x preds s) := by
  unfold decodeReads
  refine Keeps.elim h fun p => ?_
  have h1 := Keeps.foldl (f := fun t i => (f.kept.getD i none).elim t fun e =>
      (entrySurface s f e.entry).elim t fun sf =>
        tcfTally t.fresh.1 t.fresh.2.fresh.1 (readAreas sf (fun y c => preds.any fun d =>
          (stripAreas p x).contains d.1 && d.2.1 == i && decide (c < e.cols) && d.2.2 == y * e.cols + c) t.fresh.2.fresh.2))
    (fun t i ht => .elim ht fun e => .elim ht fun sf => tcfTally_keeps (readAreas_keeps (fresh_keeps (fresh_keeps ht)) _ _) _ _)
    h (List.range p.refs.length)
  dsimp only
  refine ite_keeps (.elim (.elim h1 fun sf => readAreas_keeps h1 _ _) fun sf => readAreas_keeps (.elim h1 fun sf => readAreas_keeps h1 _ _) _ _)
    (.elim h1 fun sf => readAreas_keeps h1 _ _)

theorem addIntra_keeps {s : State} (h : Keeps kd km kc s0 s) (num : Nat) (i : Nat) (rows : Nat × Nat) :
    Keeps kd km kc s0 (addIntra num i rows s) := by
  unfold addIntra
  try dsimp only
  repeat' first | with_reducible assumption | with_reducible apply updFrame_keeps | with_reducible apply Keeps.foldl
                | with_reducible apply Keeps.elim | (intros; with_reducible assumption) | (intro x) | split
                | refine Keeps.lit rfl rfl rfl rfl rfl rfl rfl rfl ?_
                | refine Keeps.of_snd (by with_reducible assumption) ?_
                | refine Keeps.of_snd2 (by with_reducible assumption) ?_

theorem askRefresh_keeps {s : State} (h : Keeps kd km kc s0 s) (f : Frame) (x : Strip) :
    Keeps kd km kc s0 (askRefresh f x s) := by
  unfold askRefresh
  try dsimp only
  repeat' first | with_reducible assumption | with_reducible apply setRing_keeps | with_reducible apply addIntra_keeps
                | with_reducible apply Keeps.foldl | with_reducible apply Keeps.elim
                | (intros; with_reducible assumption) | (intro x) | split
                | refine Keeps.lit rfl rfl rfl rfl rfl rfl rfl rfl ?_
                | refine Keeps.of_snd (by with_reducible assumption) ?_
                | refine Keeps.of_snd2 (by with_reducible assumption) ?_

theorem concealStrip_keeps {s : State} (h : Keeps kd km kc s0 s) (f : Frame) (j : Nat) (x : Strip) (code : Bool) :
    Keeps kd km kc s0 (concealStrip f j x code s) := by
  unfold concealStrip
  try dsimp only
  repeat' first | with_reducible assumption | with_reducible apply inc_keeps | with_reducible apply recErr_keeps
                | with_reducible apply updFrame_keeps | with_reducible apply updStrip_keeps
                | with_reducible apply askRefresh_keeps | with_reducible apply Keeps.foldl
                | with_reducible apply Keeps.elim | (intros; with_reducible assumption) | (intro x) | split
                | refine Keeps.lit rfl rfl rfl rfl rfl rfl rfl rfl ?_
                | refine Keeps.of_snd (by with_reducible assumption) ?_
                | refine Keeps.of_snd2 (by with_reducible assumption) ?_

theorem writeLost_keeps {s : State} (h : Keeps true km kc s0 s) (num : Nat) :
    Keeps true km kc s0 (writeLost num s) := by
  unfold writeLost
  refine Keeps.foldl (fun t j ht => ?_) h _
  split
  · refine Keeps.elim ht fun x => ?_
    exact ite_keeps (updStrip_keeps (decodeRecon_keeps (decodeReads_keeps ht _ _ _) _ _) _ _ _) ht
  · exact ht

theorem concealDecode_keeps {s : State} (h : Keeps true km kc s0 s) (f : Frame) (j : Nat) (x : Strip) :
    Keeps true km kc s0 (concealDecode f j x s) := by
  unfold concealDecode
  try dsimp only
  repeat' first | with_reducible assumption | with_reducible apply updFrame_keeps
                | with_reducible apply updStrip_keeps | with_reducible apply writeLost_keeps
                | with_reducible apply Keeps.foldl | with_reducible apply Keeps.elim
                | (intros; with_reducible assumption) | (intro x) | split
                | refine Keeps.lit rfl rfl rfl rfl rfl rfl rfl rfl ?_
                | refine Keeps.of_snd (by with_reducible assumption) ?_
                | refine Keeps.of_snd2 (by with_reducible assumption) ?_

theorem loseStrip_keeps {s : State} (h : Keeps true km kc s0 s) (f : Frame) (j : Nat) (x : Strip) :
    Keeps true km kc s0 (loseStrip f j x s) := by
  unfold loseStrip
  try dsimp only
  repeat' first | with_reducible assumption | with_reducible apply inc_keeps | with_reducible apply updFrame_keeps
                | with_reducible apply updStrip_keeps | with_reducible apply concealStrip_keeps
                | with_reducible apply concealDecode_keeps | with_reducible apply Keeps.foldl
                | with_reducible apply Keeps.elim | (intros; with_reducible assumption) | (intro x) | split
                | refine Keeps.lit rfl rfl rfl rfl rfl rfl rfl rfl ?_
                | refine Keeps.of_snd (by with_reducible assumption) ?_
                | refine Keeps.of_snd2 (by with_reducible assumption) ?_

theorem layerBytes_keeps {s : State} (h : Keeps kd km kc s0 s) (f : Frame) (i : Nat) :
    Keeps kd km kc s0 (layerBytes s f i).2.2 := by
  unfold layerBytes
  try dsimp only
  repeat' first | with_reducible assumption | with_reducible apply fresh_keeps | with_reducible apply Keeps.foldl
                | with_reducible apply Keeps.elim | (intros; with_reducible assumption) | (intro x) | split
                | refine Keeps.lit rfl rfl rfl rfl rfl rfl rfl rfl ?_
                | refine Keeps.of_snd (by with_reducible assumption) ?_
                | refine Keeps.of_snd2 (by with_reducible assumption) ?_

theorem endLayer_keeps {s : State} (h : Keeps true km kc s0 s) (f : Frame) (i : Nat) :
    Keeps true km kc s0 (endLayer f i s) := by
  unfold endLayer
  try dsimp only
  repeat' first | with_reducible assumption | with_reducible apply setRing_keeps
                | with_reducible apply dramWrite_keeps | with_reducible apply updFrame_keeps
                | with_reducible apply layerBytes_keeps | with_reducible apply Keeps.foldl
                | with_reducible apply Keeps.elim | (intros; with_reducible assumption) | (intro x) | split
                | refine Keeps.lit rfl rfl rfl rfl rfl rfl rfl rfl ?_
                | refine Keeps.of_snd (by with_reducible assumption) ?_
                | refine Keeps.of_snd2 (by with_reducible assumption) ?_

theorem encodeStatus_keeps {s : State} (h : Keeps true km kc s0 s) (f : Frame) :
    Keeps true km kc s0 (encodeStatus f s) := by
  unfold encodeStatus
  try dsimp only
  repeat' first | with_reducible assumption | with_reducible apply dramWrite_keeps | with_reducible apply Keeps.foldl
                | with_reducible apply Keeps.elim | (intros; with_reducible assumption) | (intro x) | split
                | refine Keeps.lit rfl rfl rfl rfl rfl rfl rfl rfl ?_
                | refine Keeps.of_snd (by with_reducible assumption) ?_
                | refine Keeps.of_snd2 (by with_reducible assumption) ?_

theorem endFlags_keeps {s : State} (h : Keeps kd km kc s0 s) (f : Frame) :
    Keeps kd km kc s0 (endFlags f s) := by
  unfold endFlags
  try dsimp only
  repeat' first | with_reducible assumption | with_reducible apply put_keeps | with_reducible apply inc_keeps
                | with_reducible apply Keeps.foldl | with_reducible apply Keeps.elim
                | (intros; with_reducible assumption) | (intro x) | split
                | refine Keeps.lit rfl rfl rfl rfl rfl rfl rfl rfl ?_
                | refine Keeps.of_snd (by with_reducible assumption) ?_
                | refine Keeps.of_snd2 (by with_reducible assumption) ?_

theorem endPicture_keeps {s : State} (h : Keeps kd km kc s0 s) (f : Frame) (p : PicInfo) (q : Nat) :
    Keeps kd km kc s0 (endPicture f p q s) := by
  unfold endPicture
  try dsimp only
  repeat' first | with_reducible assumption | with_reducible apply setRing_keeps | with_reducible apply updFrame_keeps
                | with_reducible apply Keeps.foldl | with_reducible apply Keeps.elim
                | (intros; with_reducible assumption) | (intro x) | split
                | refine Keeps.lit rfl rfl rfl rfl rfl rfl rfl rfl ?_
                | refine Keeps.of_snd (by with_reducible assumption) ?_
                | refine Keeps.of_snd2 (by with_reducible assumption) ?_

theorem settlePictures_keeps {s : State} (h : Keeps kd km kc s0 s) (num : Nat) :
    Keeps kd km kc s0 (settlePictures num s) := by
  unfold settlePictures
  try dsimp only
  repeat' first | with_reducible assumption | with_reducible apply endPicture_keeps | with_reducible apply Keeps.foldl
                | with_reducible apply Keeps.elim | (intros; with_reducible assumption) | (intro x) | split
                | refine Keeps.lit rfl rfl rfl rfl rfl rfl rfl rfl ?_
                | refine Keeps.of_snd (by with_reducible assumption) ?_
                | refine Keeps.of_snd2 (by with_reducible assumption) ?_

theorem endFrame_keeps {s : State} (h : Keeps true km kc s0 s) (f : Frame) :
    Keeps true km kc s0 (endFrame f s) := by
  unfold endFrame
  try dsimp only
  repeat' first | with_reducible assumption | with_reducible apply inc_keeps | with_reducible apply setRing_keeps
                | with_reducible apply recErr_keeps | with_reducible apply updFrame_keeps
                | with_reducible apply endLayer_keeps | with_reducible apply encodeStatus_keeps
                | with_reducible apply endFlags_keeps | with_reducible apply Keeps.foldl
                | with_reducible apply Keeps.elim | (intros; with_reducible assumption) | (intro x) | split
                | refine Keeps.lit rfl rfl rfl rfl rfl rfl rfl rfl ?_
                | refine Keeps.of_snd (by with_reducible assumption) ?_
                | refine Keeps.of_snd2 (by with_reducible assumption) ?_

theorem settleFrame_keeps {s : State} (h : Keeps true km kc s0 s) (num : Nat) :
    Keeps true km kc s0 (settleFrame num s) := by
  unfold settleFrame
  try dsimp only
  repeat' first | with_reducible assumption | with_reducible apply settlePictures_keeps
                | with_reducible apply endFrame_keeps | with_reducible apply Keeps.foldl
                | with_reducible apply Keeps.elim | (intros; with_reducible assumption) | (intro x) | split
                | refine Keeps.lit rfl rfl rfl rfl rfl rfl rfl rfl ?_
                | refine Keeps.of_snd (by with_reducible assumption) ?_
                | refine Keeps.of_snd2 (by with_reducible assumption) ?_

theorem dropJob_keeps {s : State} (h : Keeps true km kc s0 s) (n : Nat) :
    Keeps true km kc s0 (dropJob n s) := by
  unfold dropJob
  try dsimp only
  repeat' first | with_reducible assumption | with_reducible apply inc_keeps | with_reducible apply setCell_keeps
                | with_reducible apply updStrip_keeps | with_reducible apply loseStrip_keeps
                | with_reducible apply settleFrame_keeps | with_reducible apply Keeps.foldl
                | with_reducible apply Keeps.elim | (intros; with_reducible assumption) | (intro x) | split
                | refine Keeps.lit rfl rfl rfl rfl rfl rfl rfl rfl ?_
                | refine Keeps.of_snd (by with_reducible assumption) ?_
                | refine Keeps.of_snd2 (by with_reducible assumption) ?_

theorem fenceCell_keeps {s : State} (h : Keeps true km kc s0 s) (n : Fin 8) (code : Nat) :
    Keeps true km kc s0 (fenceCell n code s) := by
  unfold fenceCell
  try dsimp only
  repeat' first | with_reducible assumption | with_reducible apply put_keeps | with_reducible apply puts_keeps
                | with_reducible apply recErr_keeps | with_reducible apply fireEdge_keeps
                | with_reducible apply stopConsumer_keeps | with_reducible apply dropJob_keeps
                | with_reducible apply Keeps.foldl | with_reducible apply Keeps.elim
                | (intros; with_reducible assumption) | (intro x) | split
                | refine Keeps.lit rfl rfl rfl rfl rfl rfl rfl rfl ?_
                | refine Keeps.of_snd (by with_reducible assumption) ?_
                | refine Keeps.of_snd2 (by with_reducible assumption) ?_

theorem stripWatchdogEff_keeps {s : State} (h : Keeps true km kc s0 s) (n : Fin 8) :
    Keeps true km kc s0 (stripWatchdogEff n s) := by
  unfold stripWatchdogEff
  try dsimp only
  repeat' first | with_reducible assumption | with_reducible apply fenceCell_keeps | with_reducible apply Keeps.foldl
                | with_reducible apply Keeps.elim | (intros; with_reducible assumption) | (intro x) | split
                | refine Keeps.lit rfl rfl rfl rfl rfl rfl rfl rfl ?_
                | refine Keeps.of_snd (by with_reducible assumption) ?_
                | refine Keeps.of_snd2 (by with_reducible assumption) ?_

theorem fetchWord_keeps {s : State} (h : Keeps true km kc s0 s) (n : Fin 8) (w : Nat) :
    Keeps true km kc s0 (fetchWord n w s) := by
  unfold fetchWord
  try dsimp only
  repeat' first | with_reducible assumption | with_reducible apply setCell_keeps
                | with_reducible apply findCorrectable_keeps | with_reducible apply showUncorrectable_keeps
                | with_reducible apply fenceCell_keeps | with_reducible apply Keeps.foldl
                | with_reducible apply Keeps.elim | (intros; with_reducible assumption) | (intro x) | split
                | refine Keeps.lit rfl rfl rfl rfl rfl rfl rfl rfl ?_
                | refine Keeps.of_snd (by with_reducible assumption) ?_
                | refine Keeps.of_snd2 (by with_reducible assumption) ?_

theorem seqStep_keeps {s : State} (h : Keeps true km kc s0 s) (n : Fin 8) (y : Cycle) :
    Keeps true km kc s0 (seqStep n y s) := by
  unfold seqStep
  try dsimp only
  repeat' first | with_reducible assumption | with_reducible apply fresh_keeps | with_reducible apply setCell_keeps
                | with_reducible apply upsetWord_keeps | with_reducible apply fenceCell_keeps
                | with_reducible apply fetchWord_keeps | with_reducible apply Keeps.foldl
                | with_reducible apply Keeps.elim | (intros; with_reducible assumption) | (intro x) | split
                | refine Keeps.lit rfl rfl rfl rfl rfl rfl rfl rfl ?_
                | refine Keeps.of_snd (by with_reducible assumption) ?_
                | refine Keeps.of_snd2 (by with_reducible assumption) ?_

theorem runCycles_keeps {s : State} (h : Keeps true km kc s0 s) (n : Fin 8) (run : List Cycle) :
    Keeps true km kc s0 (runCycles n run s) := by
  unfold runCycles
  try dsimp only
  repeat' first | with_reducible assumption | with_reducible apply seqStep_keeps | with_reducible apply Keeps.foldl
                | with_reducible apply Keeps.elim | (intros; with_reducible assumption) | (intro x) | split
                | refine Keeps.lit rfl rfl rfl rfl rfl rfl rfl rfl ?_
                | refine Keeps.of_snd (by with_reducible assumption) ?_
                | refine Keeps.of_snd2 (by with_reducible assumption) ?_

theorem cellFaultEff_keeps {s : State} (h : Keeps true km kc s0 s) (n : Fin 8) (run : List Cycle) (datapath : Bool) :
    Keeps true km kc s0 (cellFaultEff n run datapath s) := by
  unfold cellFaultEff
  try dsimp only
  repeat' first | with_reducible assumption | with_reducible apply fenceCell_keeps
                | with_reducible apply runCycles_keeps | with_reducible apply Keeps.foldl
                | with_reducible apply Keeps.elim | (intros; with_reducible assumption) | (intro x) | split
                | refine Keeps.lit rfl rfl rfl rfl rfl rfl rfl rfl ?_
                | refine Keeps.of_snd (by with_reducible assumption) ?_
                | refine Keeps.of_snd2 (by with_reducible assumption) ?_

theorem stripStartEff_keeps {s : State} (h : Keeps true km kc s0 s) (n : Fin 8) :
    Keeps true km kc s0 (stripStartEff n s) := by
  unfold stripStartEff
  try dsimp only
  repeat' first | with_reducible assumption | with_reducible apply put_keeps | with_reducible apply setCell_keeps
                | with_reducible apply updFrame_keeps | with_reducible apply fetchWord_keeps
                | with_reducible apply Keeps.foldl | with_reducible apply Keeps.elim
                | (intros; with_reducible assumption) | (intro x) | split
                | refine Keeps.lit rfl rfl rfl rfl rfl rfl rfl rfl ?_
                | refine Keeps.of_snd (by with_reducible assumption) ?_
                | refine Keeps.of_snd2 (by with_reducible assumption) ?_

theorem finishStrip_keeps {s : State} (h : Keeps true km kc s0 s) (n : Fin 8) (f : Frame) (j : Nat) (x : Strip) (res : StripResult) :
    Keeps true km kc s0 (finishStrip n f j x res s) := by
  unfold finishStrip
  try dsimp only
  repeat' first | with_reducible assumption | with_reducible apply put_keeps | with_reducible apply inc_keeps
                | with_reducible apply setCell_keeps | with_reducible apply stopConsumer_keeps
                | with_reducible apply updFrame_keeps | with_reducible apply updStrip_keeps
                | with_reducible apply encodeRecon_keeps | with_reducible apply encodeReads_keeps
                | with_reducible apply decodeRecon_keeps | with_reducible apply decodeReads_keeps
                | with_reducible apply writeLost_keeps | with_reducible apply settleFrame_keeps
                | with_reducible apply Keeps.foldl | with_reducible apply Keeps.elim
                | (intros; with_reducible assumption) | (intro x) | split
                | refine Keeps.lit rfl rfl rfl rfl rfl rfl rfl rfl ?_
                | refine Keeps.of_snd (by with_reducible assumption) ?_
                | refine Keeps.of_snd2 (by with_reducible assumption) ?_

theorem stripEndEff_keeps {s : State} (h : Keeps true km kc s0 s) (n : Fin 8) (run : List Cycle) (res : StripResult) :
    Keeps true km kc s0 (stripEndEff n run res s) := by
  unfold stripEndEff
  try dsimp only
  repeat' first | with_reducible assumption | with_reducible apply runCycles_keeps
                | with_reducible apply finishStrip_keeps | with_reducible apply Keeps.foldl
                | with_reducible apply Keeps.elim | (intros; with_reducible assumption) | (intro x) | split
                | refine Keeps.lit rfl rfl rfl rfl rfl rfl rfl rfl ?_
                | refine Keeps.of_snd (by with_reducible assumption) ?_
                | refine Keeps.of_snd2 (by with_reducible assumption) ?_

/-! ### Machine/Cells.lean -/

theorem enterReset_keeps {s : State} (h : Keeps kd km kc s0 s) (p : Page) :
    Keeps kd km kc s0 (enterReset p s) := by
  unfold enterReset
  try dsimp only
  repeat' first | with_reducible assumption | with_reducible apply resetFields_keeps
                | with_reducible apply lowerLines_keeps | with_reducible apply Keeps.foldl
                | with_reducible apply Keeps.elim | (intros; with_reducible assumption) | (intro x) | split
                | refine Keeps.lit rfl rfl rfl rfl rfl rfl rfl rfl ?_
                | refine Keeps.of_snd (by with_reducible assumption) ?_
                | refine Keeps.of_snd2 (by with_reducible assumption) ?_

theorem leaveReset_keeps {s : State} (h : Keeps kd km kc s0 s) (p : Page) :
    Keeps kd km kc s0 (leaveReset p s) := by
  unfold leaveReset
  try dsimp only
  repeat' first | with_reducible assumption | with_reducible apply store_keeps | with_reducible apply repeatFor_keeps
                | with_reducible apply recErr_keeps | with_reducible apply Keeps.foldl
                | with_reducible apply Keeps.elim | (intros; with_reducible assumption) | (intro x) | split
                | refine Keeps.lit rfl rfl rfl rfl rfl rfl rfl rfl ?_
                | refine Keeps.of_snd (by with_reducible assumption) ?_
                | refine Keeps.of_snd2 (by with_reducible assumption) ?_

theorem foundWord_keeps {s : State} (h : Keeps true km kc s0 s) (n : Fin 8) (w : Nat) :
    Keeps true km kc s0 (foundWord n w s) := by
  unfold foundWord
  try dsimp only
  repeat' first | with_reducible assumption | with_reducible apply recErr_keeps
                | with_reducible apply findCorrectable_keeps | with_reducible apply showUncorrectable_keeps
                | with_reducible apply fenceCell_keeps | with_reducible apply Keeps.foldl
                | with_reducible apply Keeps.elim | (intros; with_reducible assumption) | (intro x) | split
                | refine Keeps.lit rfl rfl rfl rfl rfl rfl rfl rfl ?_
                | refine Keeps.of_snd (by with_reducible assumption) ?_
                | refine Keeps.of_snd2 (by with_reducible assumption) ?_

theorem scrubEff_keeps {s : State} (h : Keeps true km kc s0 s) (n : Fin 8) (m : CsWord) :
    Keeps true km kc s0 (scrubEff n m s) := by
  unfold scrubEff
  try dsimp only
  repeat' first | with_reducible assumption | with_reducible apply put_keeps | with_reducible apply inc_keeps
                | with_reducible apply upsetWord_keeps | with_reducible apply foundWord_keeps
                | with_reducible apply Keeps.foldl | with_reducible apply Keeps.elim
                | (intros; with_reducible assumption) | (intro x) | split
                | refine Keeps.lit rfl rfl rfl rfl rfl rfl rfl rfl ?_
                | refine Keeps.of_snd (by with_reducible assumption) ?_
                | refine Keeps.of_snd2 (by with_reducible assumption) ?_

theorem csWritebackEff_keeps {s : State} (h : Keeps true km kc s0 s) (n : Fin 8) (stuck : CsWord) :
    Keeps true km kc s0 (csWritebackEff n stuck s) := by
  unfold csWritebackEff
  try dsimp only
  repeat' first | with_reducible assumption | with_reducible apply put_keeps | with_reducible apply setCell_keeps
                | with_reducible apply setStoreWord_keeps | with_reducible apply foundWord_keeps
                | with_reducible apply Keeps.foldl | with_reducible apply Keeps.elim
                | (intros; with_reducible assumption) | (intro x) | split
                | refine Keeps.lit rfl rfl rfl rfl rfl rfl rfl rfl ?_
                | refine Keeps.of_snd (by with_reducible assumption) ?_
                | refine Keeps.of_snd2 (by with_reducible assumption) ?_

theorem readWindow_keeps {s : State} (h : Keeps true km kc s0 s) (n : Fin 8) (off : Nat) (m : CsWord) :
    Keeps true km kc s0 (readWindow n off m s).2 := by
  unfold readWindow
  try dsimp only
  repeat' first | with_reducible assumption | with_reducible apply puts_keeps | with_reducible apply setCell_keeps
                | with_reducible apply recErr_keeps | with_reducible apply upsetWord_keeps
                | with_reducible apply foundWord_keeps | with_reducible apply Keeps.foldl
                | with_reducible apply Keeps.elim | (intros; with_reducible assumption) | (intro x) | split
                | refine Keeps.lit rfl rfl rfl rfl rfl rfl rfl rfl ?_
                | refine Keeps.of_snd (by with_reducible assumption) ?_
                | refine Keeps.of_snd2 (by with_reducible assumption) ?_

theorem startReload_keeps {s : State} (h : Keeps kd km kc s0 s)  :
    Keeps kd km kc s0 (startReload s) := by
  unfold startReload
  try dsimp only
  repeat' first | with_reducible assumption | with_reducible apply Keeps.foldl | with_reducible apply Keeps.elim
                | (intros; with_reducible assumption) | (intro x) | split
                | refine Keeps.lit rfl rfl rfl rfl rfl rfl rfl rfl ?_
                | refine Keeps.of_snd (by with_reducible assumption) ?_
                | refine Keeps.of_snd2 (by with_reducible assumption) ?_

theorem cellResetEff_keeps {s : State} (h : Keeps true km kc s0 s) (n : Fin 8) :
    Keeps true km kc s0 (cellResetEff n s) := by
  unfold cellResetEff
  try dsimp only
  repeat' first | with_reducible assumption | with_reducible apply put_keeps | with_reducible apply setCell_keeps
                | with_reducible apply stopConsumer_keeps | with_reducible apply dropJob_keeps
                | with_reducible apply enterReset_keeps | with_reducible apply startReload_keeps
                | with_reducible apply Keeps.foldl | with_reducible apply Keeps.elim
                | (intros; with_reducible assumption) | (intro x) | split
                | refine Keeps.lit rfl rfl rfl rfl rfl rfl rfl rfl ?_
                | refine Keeps.of_snd (by with_reducible assumption) ?_
                | refine Keeps.of_snd2 (by with_reducible assumption) ?_

theorem restoreReaders_keeps {s : State} (h : Keeps kd km kc s0 s) (n : Nat) :
    Keeps kd km kc s0 (restoreReaders n s) := by
  unfold restoreReaders
  try dsimp only
  repeat' first | with_reducible assumption | with_reducible apply puts_keeps | with_reducible apply store_keeps
                | with_reducible apply Keeps.foldl | with_reducible apply Keeps.elim
                | (intros; with_reducible assumption) | (intro x) | split
                | refine Keeps.lit rfl rfl rfl rfl rfl rfl rfl rfl ?_
                | refine Keeps.of_snd (by with_reducible assumption) ?_
                | refine Keeps.of_snd2 (by with_reducible assumption) ?_

theorem loadStore_keeps {s : State} (h : Keeps kd km kc s0 s) (n : Fin 8) (st : List (Nat × Byte)) :
    Keeps kd km kc s0 (loadStore n st s) := by
  unfold loadStore
  try dsimp only
  repeat' first | with_reducible assumption | with_reducible apply put_keeps | with_reducible apply store_keeps
                | with_reducible apply setCell_keeps | with_reducible apply restoreReaders_keeps
                | with_reducible apply Keeps.foldl | with_reducible apply Keeps.elim
                | (intros; with_reducible assumption) | (intro x) | split
                | refine Keeps.lit rfl rfl rfl rfl rfl rfl rfl rfl ?_
                | refine Keeps.of_snd (by with_reducible assumption) ?_
                | refine Keeps.of_snd2 (by with_reducible assumption) ?_

theorem cellReloadDoneEff_keeps {s : State} (h : Keeps kd km kc s0 s) (n : Fin 8) (upsets : List (Fin 8192 × CsWord)) :
    Keeps kd km kc s0 (cellReloadDoneEff n upsets s) := by
  unfold cellReloadDoneEff
  try dsimp only
  repeat' first | with_reducible assumption | with_reducible apply recErr_keeps | with_reducible apply noteReads_keeps
                | with_reducible apply leaveReset_keeps | with_reducible apply startReload_keeps
                | with_reducible apply loadStore_keeps | with_reducible apply Keeps.foldl
                | with_reducible apply Keeps.elim | (intros; with_reducible assumption) | (intro x) | split
                | refine Keeps.lit rfl rfl rfl rfl rfl rfl rfl rfl ?_
                | refine Keeps.of_snd (by with_reducible assumption) ?_
                | refine Keeps.of_snd2 (by with_reducible assumption) ?_

end Sys2Proof.Machine
end

