-- ==== Sys2Proof/Laws/KeepsMedia.lean ====
section
/-! SUPPORT. What the operations of the camera pipeline, HDMI and audio, and the media port keep (`Keeps`),
one lemma for each. -/

namespace Sys2Proof.Machine

variable {kd km kc : Bool} {s0 t : State}

/-! ### Machine/Camera.lean -/

theorem refreshAll_keeps {s : State} (h : Keeps kd km kc s0 s) (f : Frame) :
    Keeps kd km kc s0 (refreshAll f s) := by
  unfold refreshAll
  try dsimp only
  repeat' first | with_reducible assumption | with_reducible apply askRefresh_keeps | with_reducible apply Keeps.foldl
                | with_reducible apply Keeps.elim | (intros; with_reducible assumption) | (intro x) | split
                | refine Keeps.lit rfl rfl rfl rfl rfl rfl rfl rfl ?_
                | refine Keeps.of_snd (by with_reducible assumption) ?_
                | refine Keeps.of_snd2 (by with_reducible assumption) ?_

theorem abandonLinked_keeps {s : State} (h : Keeps kd km kc s0 s) (num : Nat) :
    Keeps kd km kc s0 (abandonLinked num s) := by
  unfold abandonLinked
  try dsimp only
  repeat' first | with_reducible assumption | with_reducible apply dropFrame_keeps
                | with_reducible apply concealStrip_keeps | with_reducible apply refreshAll_keeps
                | with_reducible apply Keeps.foldl | with_reducible apply Keeps.elim
                | (intros; with_reducible assumption) | (intro x) | split
                | refine Keeps.lit rfl rfl rfl rfl rfl rfl rfl rfl ?_
                | refine Keeps.of_snd (by with_reducible assumption) ?_
                | refine Keeps.of_snd2 (by with_reducible assumption) ?_

theorem abandonJob_keeps {s : State} (h : Keeps kd km kc s0 s) (o : Nat) (x : OutJob) :
    Keeps kd km kc s0 (abandonJob o x s) := by
  unfold abandonJob
  try dsimp only
  repeat' first | with_reducible assumption | with_reducible apply put_keeps | with_reducible apply inc_keeps
                | with_reducible apply setOut_keeps | with_reducible apply recErr_keeps
                | with_reducible apply abandonLinked_keeps | with_reducible apply Keeps.foldl
                | with_reducible apply Keeps.elim | (intros; with_reducible assumption) | (intro x) | split
                | refine Keeps.lit rfl rfl rfl rfl rfl rfl rfl rfl ?_
                | refine Keeps.of_snd (by with_reducible assumption) ?_
                | refine Keeps.of_snd2 (by with_reducible assumption) ?_

theorem abandonWhere_keeps {s : State} (h : Keeps kd km kc s0 s) (o : Nat) (p : OutJob → Bool) :
    Keeps kd km kc s0 (abandonWhere o p s) := by
  unfold abandonWhere
  try dsimp only
  repeat' first | with_reducible assumption | with_reducible apply abandonJob_keeps | with_reducible apply Keeps.foldl
                | with_reducible apply Keeps.elim | (intros; with_reducible assumption) | (intro x) | split
                | refine Keeps.lit rfl rfl rfl rfl rfl rfl rfl rfl ?_
                | refine Keeps.of_snd (by with_reducible assumption) ?_
                | refine Keeps.of_snd2 (by with_reducible assumption) ?_

theorem abandonOutput_keeps {s : State} (h : Keeps kd km kc s0 s) (o : Nat) :
    Keeps kd km kc s0 (abandonOutput o s) := by
  unfold abandonOutput
  try dsimp only
  repeat' first | with_reducible assumption | with_reducible apply abandonWhere_keeps
                | with_reducible apply Keeps.foldl | with_reducible apply Keeps.elim
                | (intros; with_reducible assumption) | (intro x) | split
                | refine Keeps.lit rfl rfl rfl rfl rfl rfl rfl rfl ?_
                | refine Keeps.of_snd (by with_reducible assumption) ?_
                | refine Keeps.of_snd2 (by with_reducible assumption) ?_

theorem abandonFed_keeps {s : State} (h : Keeps kd km kc s0 s) (p : Nat) (stamp : Nat) :
    Keeps kd km kc s0 (abandonFed p stamp s) := by
  unfold abandonFed
  try dsimp only
  repeat' first | with_reducible assumption | with_reducible apply repeatFor_keeps
                | with_reducible apply abandonWhere_keeps | with_reducible apply Keeps.foldl
                | with_reducible apply Keeps.elim | (intros; with_reducible assumption) | (intro x) | split
                | refine Keeps.lit rfl rfl rfl rfl rfl rfl rfl rfl ?_
                | refine Keeps.of_snd (by with_reducible assumption) ?_
                | refine Keeps.of_snd2 (by with_reducible assumption) ?_

theorem abandonFrame_keeps {s : State} (h : Keeps kd km kc s0 s) (n : Fin 3) :
    Keeps kd km kc s0 (abandonFrame n s) := by
  unfold abandonFrame
  try dsimp only
  repeat' first | with_reducible assumption | with_reducible apply put_keeps | with_reducible apply inc_keeps
                | with_reducible apply setCsi_keeps | with_reducible apply recErr_keeps
                | with_reducible apply abandonFed_keeps | with_reducible apply Keeps.foldl
                | with_reducible apply Keeps.elim | (intros; with_reducible assumption) | (intro x) | split
                | refine Keeps.lit rfl rfl rfl rfl rfl rfl rfl rfl ?_
                | refine Keeps.of_snd (by with_reducible assumption) ?_
                | refine Keeps.of_snd2 (by with_reducible assumption) ?_

theorem csiEnableOp_keeps {s : State} (h : Keeps kd km kc s0 s) (n : Fin 3) :
    Keeps kd km kc s0 (csiEnableOp n s) := by
  unfold csiEnableOp
  try dsimp only
  repeat' first | with_reducible assumption | with_reducible apply puts_keeps | with_reducible apply setCsi_keeps
                | with_reducible apply checked_keeps | with_reducible apply Keeps.foldl
                | with_reducible apply Keeps.elim | (intros; with_reducible assumption) | (intro x) | split
                | refine Keeps.lit rfl rfl rfl rfl rfl rfl rfl rfl ?_
                | refine Keeps.of_snd (by with_reducible assumption) ?_
                | refine Keeps.of_snd2 (by with_reducible assumption) ?_

theorem csiDisableOp_keeps {s : State} (h : Keeps kd km kc s0 s) (n : Fin 3) :
    Keeps kd km kc s0 (csiDisableOp n s) := by
  unfold csiDisableOp
  try dsimp only
  repeat' first | with_reducible assumption | with_reducible apply puts_keeps | with_reducible apply setCsi_keeps
                | with_reducible apply abandonFrame_keeps | with_reducible apply Keeps.foldl
                | with_reducible apply Keeps.elim | (intros; with_reducible assumption) | (intro x) | split
                | refine Keeps.lit rfl rfl rfl rfl rfl rfl rfl rfl ?_
                | refine Keeps.of_snd (by with_reducible assumption) ?_
                | refine Keeps.of_snd2 (by with_reducible assumption) ?_

theorem discardFrame_keeps {s : State} (h : Keeps kd km kc s0 s) (n : Nat) :
    Keeps kd km kc s0 (discardFrame n s) := by
  unfold discardFrame
  try dsimp only
  repeat' first | with_reducible assumption | with_reducible apply inc_keeps | with_reducible apply setCsi_keeps
                | with_reducible apply Keeps.foldl | with_reducible apply Keeps.elim
                | (intros; with_reducible assumption) | (intro x) | split
                | refine Keeps.lit rfl rfl rfl rfl rfl rfl rfl rfl ?_
                | refine Keeps.of_snd (by with_reducible assumption) ?_
                | refine Keeps.of_snd2 (by with_reducible assumption) ?_

theorem routeFrame_keeps {s : State} (h : Keeps kd km kc s0 s) (n : Nat) :
    Keeps kd km kc s0 (routeFrame n s) := by
  unfold routeFrame
  try dsimp only
  repeat' first | with_reducible assumption | with_reducible apply put_keeps | with_reducible apply setCsi_keeps
                | with_reducible apply discardFrame_keeps | with_reducible apply Keeps.foldl
                | with_reducible apply Keeps.elim | (intros; with_reducible assumption) | (intro x) | split
                | refine Keeps.lit rfl rfl rfl rfl rfl rfl rfl rfl ?_
                | refine Keeps.of_snd (by with_reducible assumption) ?_
                | refine Keeps.of_snd2 (by with_reducible assumption) ?_

theorem rawDone_keeps {s : State} (h : Keeps kd km kc s0 s) (n : Nat) :
    Keeps kd km kc s0 (rawDone n s) := by
  unfold rawDone
  try dsimp only
  repeat' first | with_reducible assumption | with_reducible apply puts_keeps | with_reducible apply setCsi_keeps
                | with_reducible apply Keeps.foldl | with_reducible apply Keeps.elim
                | (intros; with_reducible assumption) | (intro x) | split
                | refine Keeps.lit rfl rfl rfl rfl rfl rfl rfl rfl ?_
                | refine Keeps.of_snd (by with_reducible assumption) ?_
                | refine Keeps.of_snd2 (by with_reducible assumption) ?_

theorem wholeFrame_keeps {s : State} (h : Keeps kd km kc s0 s) (n : Nat) :
    Keeps kd km kc s0 (wholeFrame n s) := by
  unfold wholeFrame
  try dsimp only
  repeat' first | with_reducible assumption | with_reducible apply put_keeps | with_reducible apply rawDone_keeps
                | with_reducible apply Keeps.foldl | with_reducible apply Keeps.elim
                | (intros; with_reducible assumption) | (intro x) | split
                | refine Keeps.lit rfl rfl rfl rfl rfl rfl rfl rfl ?_
                | refine Keeps.of_snd (by with_reducible assumption) ?_
                | refine Keeps.of_snd2 (by with_reducible assumption) ?_

theorem closeFrame_keeps {s : State} (h : Keeps kd km kc s0 s) (n : Fin 3) :
    Keeps kd km kc s0 (closeFrame n s) := by
  unfold closeFrame
  try dsimp only
  repeat' first | with_reducible assumption | with_reducible apply abandonFrame_keeps
                | with_reducible apply wholeFrame_keeps | with_reducible apply Keeps.foldl
                | with_reducible apply Keeps.elim | (intros; with_reducible assumption) | (intro x) | split
                | refine Keeps.lit rfl rfl rfl rfl rfl rfl rfl rfl ?_
                | refine Keeps.of_snd (by with_reducible assumption) ?_
                | refine Keeps.of_snd2 (by with_reducible assumption) ?_

theorem onHead_keeps {lost act : State → State} {s : State} (hl : ∀ t, Keeps kd km kc s0 t → Keeps kd km kc s0 (lost t))
    (ha : ∀ t, Keeps kd km kc s0 t → Keeps kd km kc s0 (act t)) (h : Keeps kd km kc s0 s) (n : Fin 3) (hd : CsiHead) :
    Keeps kd km kc s0 (onHead n hd lost act s) := by
  unfold onHead
  repeat' first | with_reducible assumption | with_reducible apply hl | with_reducible apply ha
                | with_reducible apply put_keeps | with_reducible apply inc_keeps | with_reducible apply puts_keeps
                | with_reducible apply recErr_keeps | split

theorem frameStart_keeps {s : State} (h : Keeps kd km kc s0 s) (n : Fin 3) :
    Keeps kd km kc s0 (frameStart n s) := by
  unfold frameStart
  try dsimp only
  repeat' first | with_reducible assumption | with_reducible apply put_keeps | with_reducible apply fresh_keeps
                | with_reducible apply setCsi_keeps | with_reducible apply routeFrame_keeps
                | with_reducible apply closeFrame_keeps | with_reducible apply Keeps.foldl
                | with_reducible apply Keeps.elim | (intros; with_reducible assumption) | (intro x) | split
                | refine Keeps.lit rfl rfl rfl rfl rfl rfl rfl rfl ?_
                | refine Keeps.of_snd (by with_reducible assumption) ?_
                | refine Keeps.of_snd2 (by with_reducible assumption) ?_

theorem csiFrameStartEff_keeps {s : State} (h : Keeps kd km kc s0 s) (n : Fin 3) (h : CsiHead) :
    Keeps kd km kc s0 (csiFrameStartEff n h s) := by
  unfold csiFrameStartEff
  try dsimp only
  repeat' first | with_reducible assumption | with_reducible apply onHead_keeps
                | with_reducible apply frameStart_keeps | with_reducible apply Keeps.foldl
                | with_reducible apply Keeps.elim | (intros; with_reducible assumption) | (intro x) | split
                | refine Keeps.lit rfl rfl rfl rfl rfl rfl rfl rfl ?_
                | refine Keeps.of_snd (by with_reducible assumption) ?_
                | refine Keeps.of_snd2 (by with_reducible assumption) ?_

theorem deliverLine_keeps {s : State} (h : Keeps true km kc s0 s) (n : Nat) (px : List Nat) :
    Keeps true km kc s0 (deliverLine n px s) := by
  unfold deliverLine
  try dsimp only
  repeat' first | with_reducible assumption | with_reducible apply setCsi_keeps | with_reducible apply dramWrite_keeps
                | with_reducible apply Keeps.foldl | with_reducible apply Keeps.elim
                | (intros; with_reducible assumption) | (intro x) | split
                | refine Keeps.lit rfl rfl rfl rfl rfl rfl rfl rfl ?_
                | refine Keeps.of_snd (by with_reducible assumption) ?_
                | refine Keeps.of_snd2 (by with_reducible assumption) ?_

theorem repairLine_keeps {s : State} (h : Keeps true km kc s0 s) (n : Fin 3) :
    Keeps true km kc s0 (repairLine n s) := by
  unfold repairLine
  try dsimp only
  repeat' first | with_reducible assumption | with_reducible apply put_keeps | with_reducible apply inc_keeps
                | with_reducible apply setCsi_keeps | with_reducible apply abandonFrame_keeps
                | with_reducible apply deliverLine_keeps | with_reducible apply Keeps.foldl
                | with_reducible apply Keeps.elim | (intros; with_reducible assumption) | (intro x) | split
                | refine Keeps.lit rfl rfl rfl rfl rfl rfl rfl rfl ?_
                | refine Keeps.of_snd (by with_reducible assumption) ?_
                | refine Keeps.of_snd2 (by with_reducible assumption) ?_

theorem loseLine_keeps {s : State} (h : Keeps true km kc s0 s) (n : Fin 3) :
    Keeps true km kc s0 (loseLine n s) := by
  unfold loseLine
  try dsimp only
  repeat' first | with_reducible assumption | with_reducible apply checked_keeps
                | with_reducible apply repairLine_keeps | with_reducible apply Keeps.foldl
                | with_reducible apply Keeps.elim | (intros; with_reducible assumption) | (intro x) | split
                | refine Keeps.lit rfl rfl rfl rfl rfl rfl rfl rfl ?_
                | refine Keeps.of_snd (by with_reducible assumption) ?_
                | refine Keeps.of_snd2 (by with_reducible assumption) ?_

theorem longPacket_keeps {s : State} (h : Keeps true km kc s0 s) (n : Fin 3) (k : CsiLine) (px : List Nat) :
    Keeps true km kc s0 (longPacket n k px s) := by
  unfold longPacket
  try dsimp only
  repeat' first | with_reducible assumption | with_reducible apply recErr_keeps
                | with_reducible apply abandonFrame_keeps | with_reducible apply deliverLine_keeps
                | with_reducible apply loseLine_keeps | with_reducible apply Keeps.foldl
                | with_reducible apply Keeps.elim | (intros; with_reducible assumption) | (intro x) | split
                | refine Keeps.lit rfl rfl rfl rfl rfl rfl rfl rfl ?_
                | refine Keeps.of_snd (by with_reducible assumption) ?_
                | refine Keeps.of_snd2 (by with_reducible assumption) ?_

theorem csiLongPacketEff_keeps {s : State} (h : Keeps true km kc s0 s) (n : Fin 3) (h : CsiHead) (dt : BitVec 6) (k : CsiLine) (px : List Nat) :
    Keeps true km kc s0 (csiLongPacketEff n h dt k px s) := by
  unfold csiLongPacketEff
  try dsimp only
  repeat' first | with_reducible assumption | with_reducible apply onHead_keeps | with_reducible apply loseLine_keeps
                | with_reducible apply longPacket_keeps | with_reducible apply Keeps.foldl
                | with_reducible apply Keeps.elim | (intros; with_reducible assumption) | (intro x) | split
                | refine Keeps.lit rfl rfl rfl rfl rfl rfl rfl rfl ?_
                | refine Keeps.of_snd (by with_reducible assumption) ?_
                | refine Keeps.of_snd2 (by with_reducible assumption) ?_

theorem frameEnd_keeps {s : State} (h : Keeps kd km kc s0 s) (n : Fin 3) :
    Keeps kd km kc s0 (frameEnd n s) := by
  unfold frameEnd
  try dsimp only
  repeat' first | with_reducible assumption | with_reducible apply put_keeps | with_reducible apply setCsi_keeps
                | with_reducible apply closeFrame_keeps | with_reducible apply Keeps.foldl
                | with_reducible apply Keeps.elim | (intros; with_reducible assumption) | (intro x) | split
                | refine Keeps.lit rfl rfl rfl rfl rfl rfl rfl rfl ?_
                | refine Keeps.of_snd (by with_reducible assumption) ?_
                | refine Keeps.of_snd2 (by with_reducible assumption) ?_

theorem csiFrameEndEff_keeps {s : State} (h : Keeps kd km kc s0 s) (n : Fin 3) (h : CsiHead) :
    Keeps kd km kc s0 (csiFrameEndEff n h s) := by
  unfold csiFrameEndEff
  try dsimp only
  repeat' first | with_reducible assumption | with_reducible apply onHead_keeps | with_reducible apply frameEnd_keeps
                | with_reducible apply Keeps.foldl | with_reducible apply Keeps.elim
                | (intros; with_reducible assumption) | (intro x) | split
                | refine Keeps.lit rfl rfl rfl rfl rfl rfl rfl rfl ?_
                | refine Keeps.of_snd (by with_reducible assumption) ?_
                | refine Keeps.of_snd2 (by with_reducible assumption) ?_

theorem storeVis_keeps {s : State} (h : Keeps true km kc s0 s) (x : OutJob) (f : Sensor) (k : Nat) :
    Keeps true km kc s0 (storeVis x f k s) := by
  unfold storeVis
  try dsimp only
  repeat' first | with_reducible assumption | with_reducible apply put_keeps | with_reducible apply storePlane_keeps
                | with_reducible apply Keeps.foldl | with_reducible apply Keeps.elim
                | (intros; with_reducible assumption) | (intro x) | split
                | refine Keeps.lit rfl rfl rfl rfl rfl rfl rfl rfl ?_
                | refine Keeps.of_snd (by with_reducible assumption) ?_
                | refine Keeps.of_snd2 (by with_reducible assumption) ?_

theorem storeOutput_keeps {s : State} (h : Keeps true km kc s0 s) (o : Nat) (x : OutJob) :
    Keeps true km kc s0 (storeOutput o x s) := by
  unfold storeOutput
  try dsimp only
  repeat' first | with_reducible assumption | with_reducible apply fresh_keeps
                | with_reducible apply storePicture_keeps | with_reducible apply storeVis_keeps
                | with_reducible apply Keeps.foldl | with_reducible apply Keeps.elim
                | (intros; with_reducible assumption) | (intro x) | split
                | refine Keeps.lit rfl rfl rfl rfl rfl rfl rfl rfl ?_
                | refine Keeps.of_snd (by with_reducible assumption) ?_
                | refine Keeps.of_snd2 (by with_reducible assumption) ?_

theorem publish_keeps {s : State} (h : Keeps kd km kc s0 s) (o : Nat) (x : OutJob) :
    Keeps kd km kc s0 (publish o x s) := by
  unfold publish
  try dsimp only
  repeat' first | with_reducible assumption | with_reducible apply put_keeps | with_reducible apply inc_keeps
                | with_reducible apply put64_keeps | with_reducible apply setOut_keeps
                | with_reducible apply fireEdge_keeps | with_reducible apply Keeps.foldl
                | with_reducible apply Keeps.elim | (intros; with_reducible assumption) | (intro x) | split
                | refine Keeps.lit rfl rfl rfl rfl rfl rfl rfl rfl ?_
                | refine Keeps.of_snd (by with_reducible assumption) ?_
                | refine Keeps.of_snd2 (by with_reducible assumption) ?_

theorem publishBlack_keeps {s : State} (h : Keeps true km kc s0 s) (p : Nat) :
    Keeps true km kc s0 (publishBlack p s) := by
  unfold publishBlack
  try dsimp only
  repeat' first | with_reducible assumption | with_reducible apply storePicture_keeps
                | with_reducible apply publish_keeps | with_reducible apply Keeps.foldl
                | with_reducible apply Keeps.elim | (intros; with_reducible assumption) | (intro x) | split
                | refine Keeps.lit rfl rfl rfl rfl rfl rfl rfl rfl ?_
                | refine Keeps.of_snd (by with_reducible assumption) ?_
                | refine Keeps.of_snd2 (by with_reducible assumption) ?_

theorem csiLossEff_keeps {s : State} (h : Keeps true km kc s0 s) (n : Fin 3) :
    Keeps true km kc s0 (csiLossEff n s) := by
  unfold csiLossEff
  try dsimp only
  repeat' first | with_reducible assumption | with_reducible apply puts_keeps | with_reducible apply setCsi_keeps
                | with_reducible apply abandonFrame_keeps | with_reducible apply publishBlack_keeps
                | with_reducible apply Keeps.foldl | with_reducible apply Keeps.elim
                | (intros; with_reducible assumption) | (intro x) | split
                | refine Keeps.lit rfl rfl rfl rfl rfl rfl rfl rfl ?_
                | refine Keeps.of_snd (by with_reducible assumption) ?_
                | refine Keeps.of_snd2 (by with_reducible assumption) ?_

theorem readFstampl_keeps {s : State} (h : Keeps kd km kc s0 s) (n : Nat) :
    Keeps kd km kc s0 (readFstampl n s).2 := by
  unfold readFstampl
  try dsimp only
  repeat' first | with_reducible assumption | with_reducible apply put_keeps | with_reducible apply Keeps.foldl
                | with_reducible apply Keeps.elim | (intros; with_reducible assumption) | (intro x) | split
                | refine Keeps.lit rfl rfl rfl rfl rfl rfl rfl rfl ?_
                | refine Keeps.of_snd (by with_reducible assumption) ?_
                | refine Keeps.of_snd2 (by with_reducible assumption) ?_

theorem writeCsi_keeps {s : State} (h : Keeps kd km kc s0 s) (n : Fin 3) (fs : List Fld) (d : W32) :
    Keeps kd km kc s0 (writeCsi n fs d s) := by
  unfold writeCsi
  try dsimp only
  repeat' first | with_reducible assumption | with_reducible apply storeAll_keeps | with_reducible apply checked_keeps
                | with_reducible apply Keeps.foldl | with_reducible apply Keeps.elim
                | (intros; with_reducible assumption) | (intro x) | split
                | refine Keeps.lit rfl rfl rfl rfl rfl rfl rfl rfl ?_
                | refine Keeps.of_snd (by with_reducible assumption) ?_
                | refine Keeps.of_snd2 (by with_reducible assumption) ?_

theorem takePset_keeps {s : State} (h : Keeps kd km kc s0 s) (p : Nat) :
    Keeps kd km kc s0 (takePset p s) := by
  unfold takePset
  try dsimp only
  repeat' first | with_reducible assumption | with_reducible apply put_keeps | with_reducible apply recErr_keeps
                | with_reducible apply Keeps.foldl | with_reducible apply Keeps.elim
                | (intros; with_reducible assumption) | (intro x) | split
                | refine Keeps.lit rfl rfl rfl rfl rfl rfl rfl rfl ?_
                | refine Keeps.of_snd (by with_reducible assumption) ?_
                | refine Keeps.of_snd2 (by with_reducible assumption) ?_

theorem beginOutput_keeps {s : State} (h : Keeps kd km kc s0 s) (p : Nat) (buf : Nat) (stamp : Nat) (inline : Bool) (o : Nat) :
    Keeps kd km kc s0 (beginOutput p buf stamp inline o s) := by
  unfold beginOutput
  try dsimp only
  repeat' first | with_reducible assumption | with_reducible apply inc_keeps | with_reducible apply setOut_keeps
                | with_reducible apply recErr_keeps | with_reducible apply updFrame_keeps
                | with_reducible apply Keeps.foldl | with_reducible apply Keeps.elim
                | (intros; with_reducible assumption) | (intro x) | split
                | refine Keeps.lit rfl rfl rfl rfl rfl rfl rfl rfl ?_
                | refine Keeps.of_snd (by with_reducible assumption) ?_
                | refine Keeps.of_snd2 (by with_reducible assumption) ?_

theorem frameBoundary_keeps {s : State} (h : Keeps kd km kc s0 s) (p : Nat) (buf : Nat) (stamp : Nat) (inline : Bool) :
    Keeps kd km kc s0 (frameBoundary p buf stamp inline s) := by
  unfold frameBoundary
  try dsimp only
  repeat' first | with_reducible assumption | with_reducible apply repeatFor_keeps
                | with_reducible apply commitPoint_keeps | with_reducible apply takePset_keeps
                | with_reducible apply beginOutput_keeps | with_reducible apply Keeps.foldl
                | with_reducible apply Keeps.elim | (intros; with_reducible assumption) | (intro x) | split
                | refine Keeps.lit rfl rfl rfl rfl rfl rfl rfl rfl ?_
                | refine Keeps.of_snd (by with_reducible assumption) ?_
                | refine Keeps.of_snd2 (by with_reducible assumption) ?_

theorem ispFrameBoundaryEff_keeps {s : State} (h : Keeps kd km kc s0 s) (p : Nat) :
    Keeps kd km kc s0 (ispFrameBoundaryEff p s) := by
  unfold ispFrameBoundaryEff
  try dsimp only
  repeat' first | with_reducible assumption | with_reducible apply put_keeps | with_reducible apply setCsi_keeps
                | with_reducible apply frameBoundary_keeps | with_reducible apply Keeps.foldl
                | with_reducible apply Keeps.elim | (intros; with_reducible assumption) | (intro x) | split
                | refine Keeps.lit rfl rfl rfl rfl rfl rfl rfl rfl ?_
                | refine Keeps.of_snd (by with_reducible assumption) ?_
                | refine Keeps.of_snd2 (by with_reducible assumption) ?_

theorem passEndEff_keeps {s : State} (h : Keeps kd km kc s0 s)  :
    Keeps kd km kc s0 (passEndEff s) := by
  unfold passEndEff
  try dsimp only
  repeat' first | with_reducible assumption | with_reducible apply inc_keeps | with_reducible apply puts_keeps
                | with_reducible apply setCsi_keeps | with_reducible apply Keeps.foldl
                | with_reducible apply Keeps.elim | (intros; with_reducible assumption) | (intro x) | split
                | refine Keeps.lit rfl rfl rfl rfl rfl rfl rfl rfl ?_
                | refine Keeps.of_snd (by with_reducible assumption) ?_
                | refine Keeps.of_snd2 (by with_reducible assumption) ?_

theorem measureFirst_keeps {s : State} (h : Keeps kd km kc s0 s) (x : OutJob) (o : Nat) (firstRow : Nat) :
    Keeps kd km kc s0 (measureFirst x o firstRow s) := by
  unfold measureFirst
  try dsimp only
  repeat' first | with_reducible assumption | with_reducible apply puts_keeps | with_reducible apply Keeps.foldl
                | with_reducible apply Keeps.elim | (intros; with_reducible assumption) | (intro x) | split
                | refine Keeps.lit rfl rfl rfl rfl rfl rfl rfl rfl ?_
                | refine Keeps.of_snd (by with_reducible assumption) ?_
                | refine Keeps.of_snd2 (by with_reducible assumption) ?_

theorem outputPublishEff_keeps {s : State} (h : Keeps true km kc s0 s) (o : Nat) (firstRow : Nat) :
    Keeps true km kc s0 (outputPublishEff o firstRow s) := by
  unfold outputPublishEff
  try dsimp only
  repeat' first | with_reducible assumption | with_reducible apply updFrame_keeps
                | with_reducible apply storeOutput_keeps | with_reducible apply publish_keeps
                | with_reducible apply measureFirst_keeps | with_reducible apply Keeps.foldl
                | with_reducible apply Keeps.elim | (intros; with_reducible assumption) | (intro x) | split
                | refine Keeps.lit rfl rfl rfl rfl rfl rfl rfl rfl ?_
                | refine Keeps.of_snd (by with_reducible assumption) ?_
                | refine Keeps.of_snd2 (by with_reducible assumption) ?_

theorem outputAbandonEff_keeps {s : State} (h : Keeps kd km kc s0 s) (o : Nat) :
    Keeps kd km kc s0 (outputAbandonEff o s) := by
  unfold outputAbandonEff
  try dsimp only
  repeat' first | with_reducible assumption | with_reducible apply abandonJob_keeps | with_reducible apply Keeps.foldl
                | with_reducible apply Keeps.elim | (intros; with_reducible assumption) | (intro x) | split
                | refine Keeps.lit rfl rfl rfl rfl rfl rfl rfl rfl ?_
                | refine Keeps.of_snd (by with_reducible assumption) ?_
                | refine Keeps.of_snd2 (by with_reducible assumption) ?_

theorem writeRqtail_keeps {s : State} (h : Keeps kd km kc s0 s) (d : W32) :
    Keeps kd km kc s0 (writeRqtail d s) := by
  unfold writeRqtail
  try dsimp only
  repeat' first | with_reducible assumption | with_reducible apply put_keeps | with_reducible apply checked_keeps
                | with_reducible apply Keeps.foldl | with_reducible apply Keeps.elim
                | (intros; with_reducible assumption) | (intro x) | split
                | refine Keeps.lit rfl rfl rfl rfl rfl rfl rfl rfl ?_
                | refine Keeps.of_snd (by with_reducible assumption) ?_
                | refine Keeps.of_snd2 (by with_reducible assumption) ?_

theorem writeVisr_keeps {s : State} (h : Keeps kd km kc s0 s) (fs : List Fld) (d : W32) :
    Keeps kd km kc s0 (writeVisr fs d s) := by
  unfold writeVisr
  try dsimp only
  repeat' first | with_reducible assumption | with_reducible apply storeAll_keeps | with_reducible apply checked_keeps
                | with_reducible apply Keeps.foldl | with_reducible apply Keeps.elim
                | (intros; with_reducible assumption) | (intro x) | split
                | refine Keeps.lit rfl rfl rfl rfl rfl rfl rfl rfl ?_
                | refine Keeps.of_snd (by with_reducible assumption) ?_
                | refine Keeps.of_snd2 (by with_reducible assumption) ?_

theorem setBoxes_keeps {s : State} (h : Keeps kd km kc s0 s) (l : List Box) :
    Keeps kd km kc s0 (setBoxes l s) := by
  unfold setBoxes
  try dsimp only
  repeat' first | with_reducible assumption | with_reducible apply Keeps.foldl | with_reducible apply Keeps.elim
                | (intros; with_reducible assumption) | (intro x) | split
                | refine Keeps.lit rfl rfl rfl rfl rfl rfl rfl rfl ?_
                | refine Keeps.of_snd (by with_reducible assumption) ?_
                | refine Keeps.of_snd2 (by with_reducible assumption) ?_

theorem applyBox_keeps {s : State} (h : Keeps kd km kc s0 s) (b : List Byte) :
    Keeps kd km kc s0 (applyBox b s) := by
  unfold applyBox
  try dsimp only
  repeat' first | with_reducible assumption | with_reducible apply put_keeps | with_reducible apply inc_keeps
                | with_reducible apply recErr_keeps | with_reducible apply setBoxes_keeps
                | with_reducible apply Keeps.foldl | with_reducible apply Keeps.elim
                | (intros; with_reducible assumption) | (intro x) | split
                | refine Keeps.lit rfl rfl rfl rfl rfl rfl rfl rfl ?_
                | refine Keeps.of_snd (by with_reducible assumption) ?_
                | refine Keeps.of_snd2 (by with_reducible assumption) ?_

theorem boxIntakeEff_keeps {s : State} (h : Keeps kd km kc s0 s)  :
    Keeps kd km kc s0 (boxIntakeEff s) := by
  unfold boxIntakeEff
  try dsimp only
  repeat' first | with_reducible assumption | with_reducible apply put_keeps | with_reducible apply applyBox_keeps
                | with_reducible apply Keeps.foldl | with_reducible apply Keeps.elim
                | (intros; with_reducible assumption) | (intro x) | split
                | refine Keeps.lit rfl rfl rfl rfl rfl rfl rfl rfl ?_
                | refine Keeps.of_snd (by with_reducible assumption) ?_
                | refine Keeps.of_snd2 (by with_reducible assumption) ?_

theorem boxExpireEff_keeps {s : State} (h : Keeps kd km kc s0 s)  :
    Keeps kd km kc s0 (boxExpireEff s) := by
  unfold boxExpireEff
  try dsimp only
  repeat' first | with_reducible assumption | with_reducible apply put_keeps | with_reducible apply setBoxes_keeps
                | with_reducible apply Keeps.foldl | with_reducible apply Keeps.elim
                | (intros; with_reducible assumption) | (intro x) | split
                | refine Keeps.lit rfl rfl rfl rfl rfl rfl rfl rfl ?_
                | refine Keeps.of_snd (by with_reducible assumption) ?_
                | refine Keeps.of_snd2 (by with_reducible assumption) ?_

/-! ### Machine/Hdmi.lean -/

theorem setAvmute_keeps {s : State} (h : Keeps kd km kc s0 s)  :
    Keeps kd km kc s0 (setAvmute s) := by
  unfold setAvmute
  try dsimp only
  repeat' first | with_reducible assumption | with_reducible apply put_keeps | with_reducible apply inc_keeps
                | with_reducible apply Keeps.foldl | with_reducible apply Keeps.elim
                | (intros; with_reducible assumption) | (intro x) | split
                | refine Keeps.lit rfl rfl rfl rfl rfl rfl rfl rfl ?_
                | refine Keeps.of_snd (by with_reducible assumption) ?_
                | refine Keeps.of_snd2 (by with_reducible assumption) ?_

theorem htxLeave_keeps {s : State} (h : Keeps kd km kc s0 s) (st : Nat) :
    Keeps kd km kc s0 (htxLeave st s) := by
  unfold htxLeave
  try dsimp only
  repeat' first | with_reducible assumption | with_reducible apply puts_keeps | with_reducible apply Keeps.foldl
                | with_reducible apply Keeps.elim | (intros; with_reducible assumption) | (intro x) | split
                | refine Keeps.lit rfl rfl rfl rfl rfl rfl rfl rfl ?_
                | refine Keeps.of_snd (by with_reducible assumption) ?_
                | refine Keeps.of_snd2 (by with_reducible assumption) ?_

theorem htxProceed_keeps {s : State} (h : Keeps kd km kc s0 s)  :
    Keeps kd km kc s0 (htxProceed s) := by
  unfold htxProceed
  try dsimp only
  repeat' first | with_reducible assumption | with_reducible apply put_keeps | with_reducible apply Keeps.foldl
                | with_reducible apply Keeps.elim | (intros; with_reducible assumption) | (intro x) | split
                | refine Keeps.lit rfl rfl rfl rfl rfl rfl rfl rfl ?_
                | refine Keeps.of_snd (by with_reducible assumption) ?_
                | refine Keeps.of_snd2 (by with_reducible assumption) ?_

theorem blankHdcp_keeps {s : State} (h : Keeps kd km kc s0 s)  :
    Keeps kd km kc s0 (blankHdcp s) := by
  unfold blankHdcp
  try dsimp only
  repeat' first | with_reducible assumption | with_reducible apply put_keeps | with_reducible apply inc_keeps
                | with_reducible apply Keeps.foldl | with_reducible apply Keeps.elim
                | (intros; with_reducible assumption) | (intro x) | split
                | refine Keeps.lit rfl rfl rfl rfl rfl rfl rfl rfl ?_
                | refine Keeps.of_snd (by with_reducible assumption) ?_
                | refine Keeps.of_snd2 (by with_reducible assumption) ?_

theorem htxRun_keeps {s : State} (h : Keeps kd km kc s0 s) (r : Nat) :
    Keeps kd km kc s0 (htxRun r s) := by
  unfold htxRun
  try dsimp only
  repeat' first | with_reducible assumption | with_reducible apply puts_keeps | with_reducible apply showPclk_keeps
                | with_reducible apply setAvmute_keeps | with_reducible apply blankHdcp_keeps
                | with_reducible apply Keeps.foldl | with_reducible apply Keeps.elim
                | (intros; with_reducible assumption) | (intro x) | split
                | refine Keeps.lit rfl rfl rfl rfl rfl rfl rfl rfl ?_
                | refine Keeps.of_snd (by with_reducible assumption) ?_
                | refine Keeps.of_snd2 (by with_reducible assumption) ?_

theorem htxLinkUpEff_keeps {s : State} (h : Keeps kd km kc s0 s) (tvMax : Nat) (trained : List Nat) :
    Keeps kd km kc s0 (htxLinkUpEff tvMax trained s) := by
  unfold htxLinkUpEff
  try dsimp only
  repeat' first | with_reducible assumption | with_reducible apply put_keeps | with_reducible apply recErr_keeps
                | with_reducible apply htxLeave_keeps | with_reducible apply htxRun_keeps
                | with_reducible apply Keeps.foldl | with_reducible apply Keeps.elim
                | (intros; with_reducible assumption) | (intro x) | split
                | refine Keeps.lit rfl rfl rfl rfl rfl rfl rfl rfl ?_
                | refine Keeps.of_snd (by with_reducible assumption) ?_
                | refine Keeps.of_snd2 (by with_reducible assumption) ?_

theorem htxHpd_keeps {s : State} (h : Keeps kd km kc s0 s) (high : Bool) :
    Keeps kd km kc s0 (htxHpd high s) := by
  unfold htxHpd
  try dsimp only
  repeat' first | with_reducible assumption | with_reducible apply put_keeps | with_reducible apply htxLeave_keeps
                | with_reducible apply Keeps.foldl | with_reducible apply Keeps.elim
                | (intros; with_reducible assumption) | (intro x) | split
                | refine Keeps.lit rfl rfl rfl rfl rfl rfl rfl rfl ?_
                | refine Keeps.of_snd (by with_reducible assumption) ?_
                | refine Keeps.of_snd2 (by with_reducible assumption) ?_

theorem tvHpdChangeEff_keeps {s : State} (h : Keeps kd km kc s0 s) (high : Bool) :
    Keeps kd km kc s0 (tvHpdChangeEff high s) := by
  unfold tvHpdChangeEff
  try dsimp only
  repeat' first | with_reducible assumption | with_reducible apply earcHpd_keeps | with_reducible apply htxHpd_keeps
                | with_reducible apply Keeps.foldl | with_reducible apply Keeps.elim
                | (intros; with_reducible assumption) | (intro x) | split
                | refine Keeps.lit rfl rfl rfl rfl rfl rfl rfl rfl ?_
                | refine Keeps.of_snd (by with_reducible assumption) ?_
                | refine Keeps.of_snd2 (by with_reducible assumption) ?_

theorem hdcpAuthEff_keeps {s : State} (h : Keeps kd km kc s0 s) (side : HdcpSide) (ver : Nat) (devcnt : Nat) (type1ok : Bool) :
    Keeps kd km kc s0 (hdcpAuthEff side ver devcnt type1ok s) := by
  unfold hdcpAuthEff
  try dsimp only
  repeat' first | with_reducible assumption | with_reducible apply puts_keeps | with_reducible apply blankHdcp_keeps
                | with_reducible apply Keeps.foldl | with_reducible apply Keeps.elim
                | (intros; with_reducible assumption) | (intro x) | split
                | refine Keeps.lit rfl rfl rfl rfl rfl rfl rfl rfl ?_
                | refine Keeps.of_snd (by with_reducible assumption) ?_
                | refine Keeps.of_snd2 (by with_reducible assumption) ?_

theorem dropDownstream_keeps {s : State} (h : Keeps kd km kc s0 s)  :
    Keeps kd km kc s0 (dropDownstream s) := by
  unfold dropDownstream
  try dsimp only
  repeat' first | with_reducible assumption | with_reducible apply puts_keeps | with_reducible apply blankHdcp_keeps
                | with_reducible apply Keeps.foldl | with_reducible apply Keeps.elim
                | (intros; with_reducible assumption) | (intro x) | split
                | refine Keeps.lit rfl rfl rfl rfl rfl rfl rfl rfl ?_
                | refine Keeps.of_snd (by with_reducible assumption) ?_
                | refine Keeps.of_snd2 (by with_reducible assumption) ?_

theorem dropUpstream_keeps {s : State} (h : Keeps kd km kc s0 s)  :
    Keeps kd km kc s0 (dropUpstream s) := by
  unfold dropUpstream
  try dsimp only
  repeat' first | with_reducible assumption | with_reducible apply puts_keeps | with_reducible apply Keeps.foldl
                | with_reducible apply Keeps.elim | (intros; with_reducible assumption) | (intro x) | split
                | refine Keeps.lit rfl rfl rfl rfl rfl rfl rfl rfl ?_
                | refine Keeps.of_snd (by with_reducible assumption) ?_
                | refine Keeps.of_snd2 (by with_reducible assumption) ?_

theorem hdcpAuthLostEff_keeps {s : State} (h : Keeps kd km kc s0 s) (side : HdcpSide) :
    Keeps kd km kc s0 (hdcpAuthLostEff side s) := by
  unfold hdcpAuthLostEff
  try dsimp only
  repeat' first | with_reducible assumption | with_reducible apply dropDownstream_keeps
                | with_reducible apply dropUpstream_keeps | with_reducible apply Keeps.foldl
                | with_reducible apply Keeps.elim | (intros; with_reducible assumption) | (intro x) | split
                | refine Keeps.lit rfl rfl rfl rfl rfl rfl rfl rfl ?_
                | refine Keeps.of_snd (by with_reducible assumption) ?_
                | refine Keeps.of_snd2 (by with_reducible assumption) ?_

theorem writeHdcpctl_keeps {s : State} (h : Keeps kd km kc s0 s) (d : W32) :
    Keeps kd km kc s0 (writeHdcpctl d s) := by
  unfold writeHdcpctl
  try dsimp only
  repeat' first | with_reducible assumption | with_reducible apply store_keeps
                | with_reducible apply dropDownstream_keeps | with_reducible apply Keeps.foldl
                | with_reducible apply Keeps.elim | (intros; with_reducible assumption) | (intro x) | split
                | refine Keeps.lit rfl rfl rfl rfl rfl rfl rfl rfl ?_
                | refine Keeps.of_snd (by with_reducible assumption) ?_
                | refine Keeps.of_snd2 (by with_reducible assumption) ?_

theorem timingEvent_keeps {s : State} (h : Keeps kd km kc s0 s)  :
    Keeps kd km kc s0 (timingEvent s) := by
  unfold timingEvent
  try dsimp only
  repeat' first | with_reducible assumption | with_reducible apply setAvmute_keeps | with_reducible apply Keeps.foldl
                | with_reducible apply Keeps.elim | (intros; with_reducible assumption) | (intro x) | split
                | refine Keeps.lit rfl rfl rfl rfl rfl rfl rfl rfl ?_
                | refine Keeps.of_snd (by with_reducible assumption) ?_
                | refine Keeps.of_snd2 (by with_reducible assumption) ?_

theorem hrxLockEff_keeps {s : State} (h : Keeps kd km kc s0 s) (rate : Nat) :
    Keeps kd km kc s0 (hrxLockEff rate s) := by
  unfold hrxLockEff
  try dsimp only
  repeat' first | with_reducible assumption | with_reducible apply puts_keeps | with_reducible apply timingEvent_keeps
                | with_reducible apply Keeps.foldl | with_reducible apply Keeps.elim
                | (intros; with_reducible assumption) | (intro x) | split
                | refine Keeps.lit rfl rfl rfl rfl rfl rfl rfl rfl ?_
                | refine Keeps.of_snd (by with_reducible assumption) ?_
                | refine Keeps.of_snd2 (by with_reducible assumption) ?_

theorem hrxLose_keeps {s : State} (h : Keeps kd km kc s0 s) (st : Nat) :
    Keeps kd km kc s0 (hrxLose st s) := by
  unfold hrxLose
  try dsimp only
  repeat' first | with_reducible assumption | with_reducible apply put_keeps | with_reducible apply puts_keeps
                | with_reducible apply sourceStatus_keeps | with_reducible apply Keeps.foldl
                | with_reducible apply Keeps.elim | (intros; with_reducible assumption) | (intro x) | split
                | refine Keeps.lit rfl rfl rfl rfl rfl rfl rfl rfl ?_
                | refine Keeps.of_snd (by with_reducible assumption) ?_
                | refine Keeps.of_snd2 (by with_reducible assumption) ?_

theorem hrxLossEff_keeps {s : State} (h : Keeps kd km kc s0 s)  :
    Keeps kd km kc s0 (hrxLossEff s) := by
  unfold hrxLossEff
  try dsimp only
  repeat' first | with_reducible assumption | with_reducible apply put_keeps | with_reducible apply hrxLose_keeps
                | with_reducible apply Keeps.foldl | with_reducible apply Keeps.elim
                | (intros; with_reducible assumption) | (intro x) | split
                | refine Keeps.lit rfl rfl rfl rfl rfl rfl rfl rfl ?_
                | refine Keeps.of_snd (by with_reducible assumption) ?_
                | refine Keeps.of_snd2 (by with_reducible assumption) ?_

theorem storeRows_keeps {s : State} (h : Keeps true km kc s0 s) (addr : Nat) (pitch : Nat) (f : HdmiFrame) :
    Keeps true km kc s0 (storeRows addr pitch f s) := by
  unfold storeRows
  try dsimp only
  repeat' first | with_reducible assumption | with_reducible apply dramWrite_keeps
                | with_reducible apply repeatFor_keeps | with_reducible apply Keeps.foldl
                | with_reducible apply Keeps.elim | (intros; with_reducible assumption) | (intro x) | split
                | refine Keeps.lit rfl rfl rfl rfl rfl rfl rfl rfl ?_
                | refine Keeps.of_snd (by with_reducible assumption) ?_
                | refine Keeps.of_snd2 (by with_reducible assumption) ?_

theorem storeFrame_keeps {s : State} (h : Keeps true km kc s0 s) (f : HdmiFrame) :
    Keeps true km kc s0 (storeFrame f s) := by
  unfold storeFrame
  try dsimp only
  repeat' first | with_reducible assumption | with_reducible apply put_keeps | with_reducible apply recErr_keeps
                | with_reducible apply storeRows_keeps | with_reducible apply Keeps.foldl
                | with_reducible apply Keeps.elim | (intros; with_reducible assumption) | (intro x) | split
                | refine Keeps.lit rfl rfl rfl rfl rfl rfl rfl rfl ?_
                | refine Keeps.of_snd (by with_reducible assumption) ?_
                | refine Keeps.of_snd2 (by with_reducible assumption) ?_

theorem adoptTiming_keeps {s : State} (h : Keeps kd km kc s0 s)  :
    Keeps kd km kc s0 (adoptTiming s) := by
  unfold adoptTiming
  try dsimp only
  repeat' first | with_reducible assumption | with_reducible apply showPclk_keeps | with_reducible apply Keeps.foldl
                | with_reducible apply Keeps.elim | (intros; with_reducible assumption) | (intro x) | split
                | refine Keeps.lit rfl rfl rfl rfl rfl rfl rfl rfl ?_
                | refine Keeps.of_snd (by with_reducible assumption) ?_
                | refine Keeps.of_snd2 (by with_reducible assumption) ?_

theorem hrxFrameEff_keeps {s : State} (h : Keeps true km kc s0 s) (f : HdmiFrame) :
    Keeps true km kc s0 (hrxFrameEff f s) := by
  unfold hrxFrameEff
  try dsimp only
  repeat' first | with_reducible assumption | with_reducible apply put_keeps | with_reducible apply puts_keeps
                | with_reducible apply blankHdcp_keeps | with_reducible apply timingEvent_keeps
                | with_reducible apply storeFrame_keeps | with_reducible apply adoptTiming_keeps
                | with_reducible apply Keeps.foldl | with_reducible apply Keeps.elim
                | (intros; with_reducible assumption) | (intro x) | split
                | refine Keeps.lit rfl rfl rfl rfl rfl rfl rfl rfl ?_
                | refine Keeps.of_snd (by with_reducible assumption) ?_
                | refine Keeps.of_snd2 (by with_reducible assumption) ?_

theorem hpdPulseEff_keeps {s : State} (h : Keeps kd km kc s0 s)  :
    Keeps kd km kc s0 (hpdPulseEff s) := by
  unfold hpdPulseEff
  try dsimp only
  repeat' first | with_reducible assumption | with_reducible apply put_keeps | with_reducible apply Keeps.foldl
                | with_reducible apply Keeps.elim | (intros; with_reducible assumption) | (intro x) | split
                | refine Keeps.lit rfl rfl rfl rfl rfl rfl rfl rfl ?_
                | refine Keeps.of_snd (by with_reducible assumption) ?_
                | refine Keeps.of_snd2 (by with_reducible assumption) ?_

theorem writeHpd_keeps {s : State} (h : Keeps kd km kc s0 s) (d : W32) :
    Keeps kd km kc s0 (writeHpd d s) := by
  unfold writeHpd
  try dsimp only
  repeat' first | with_reducible assumption | with_reducible apply store_keeps
                | with_reducible apply hpdPulseEff_keeps | with_reducible apply Keeps.foldl
                | with_reducible apply Keeps.elim | (intros; with_reducible assumption) | (intro x) | split
                | refine Keeps.lit rfl rfl rfl rfl rfl rfl rfl rfl ?_
                | refine Keeps.of_snd (by with_reducible assumption) ?_
                | refine Keeps.of_snd2 (by with_reducible assumption) ?_

theorem hpdRestoreEff_keeps {s : State} (h : Keeps kd km kc s0 s)  :
    Keeps kd km kc s0 (hpdRestoreEff s) := by
  unfold hpdRestoreEff
  try dsimp only
  repeat' first | with_reducible assumption | with_reducible apply put_keeps | with_reducible apply Keeps.foldl
                | with_reducible apply Keeps.elim | (intros; with_reducible assumption) | (intro x) | split
                | refine Keeps.lit rfl rfl rfl rfl rfl rfl rfl rfl ?_
                | refine Keeps.of_snd (by with_reducible assumption) ?_
                | refine Keeps.of_snd2 (by with_reducible assumption) ?_

theorem hrxStop_keeps {s : State} (h : Keeps kd km kc s0 s)  :
    Keeps kd km kc s0 (hrxStop s) := by
  unfold hrxStop
  try dsimp only
  repeat' first | with_reducible assumption | with_reducible apply hrxLose_keeps | with_reducible apply Keeps.foldl
                | with_reducible apply Keeps.elim | (intros; with_reducible assumption) | (intro x) | split
                | refine Keeps.lit rfl rfl rfl rfl rfl rfl rfl rfl ?_
                | refine Keeps.of_snd (by with_reducible assumption) ?_
                | refine Keeps.of_snd2 (by with_reducible assumption) ?_

theorem writeHtxCfg_keeps {s : State} (h : Keeps kd km kc s0 s) (d : W32) :
    Keeps kd km kc s0 (writeHtxCfg d s) := by
  unfold writeHtxCfg
  try dsimp only
  repeat' first | with_reducible assumption | with_reducible apply storeAll_keeps
                | with_reducible apply timingEvent_keeps | with_reducible apply Keeps.foldl
                | with_reducible apply Keeps.elim | (intros; with_reducible assumption) | (intro x) | split
                | refine Keeps.lit rfl rfl rfl rfl rfl rfl rfl rfl ?_
                | refine Keeps.of_snd (by with_reducible assumption) ?_
                | refine Keeps.of_snd2 (by with_reducible assumption) ?_

theorem writeOutfmt_keeps {s : State} (h : Keeps kd km kc s0 s) (d : W32) :
    Keeps kd km kc s0 (writeOutfmt d s) := by
  unfold writeOutfmt
  try dsimp only
  repeat' first | with_reducible assumption | with_reducible apply storeAll_keeps | with_reducible apply setScr_keeps
                | with_reducible apply Keeps.foldl | with_reducible apply Keeps.elim
                | (intros; with_reducible assumption) | (intro x) | split
                | refine Keeps.lit rfl rfl rfl rfl rfl rfl rfl rfl ?_
                | refine Keeps.of_snd (by with_reducible assumption) ?_
                | refine Keeps.of_snd2 (by with_reducible assumption) ?_

theorem writeDdc_keeps {s : State} (h : Keeps kd km kc s0 s) (d : W32) :
    Keeps kd km kc s0 (writeDdc d s) := by
  unfold writeDdc
  try dsimp only
  repeat' first | with_reducible assumption | with_reducible apply puts_keeps | with_reducible apply store_keeps
                | with_reducible apply Keeps.foldl | with_reducible apply Keeps.elim
                | (intros; with_reducible assumption) | (intro x) | split
                | refine Keeps.lit rfl rfl rfl rfl rfl rfl rfl rfl ?_
                | refine Keeps.of_snd (by with_reducible assumption) ?_
                | refine Keeps.of_snd2 (by with_reducible assumption) ?_

theorem ddcReadEndEff_keeps {s : State} (h : Keeps kd km kc s0 s) (data : Option (List Byte)) :
    Keeps kd km kc s0 (ddcReadEndEff data s) := by
  unfold ddcReadEndEff
  try dsimp only
  repeat' first | with_reducible assumption | with_reducible apply put_keeps | with_reducible apply repeatFor_keeps
                | with_reducible apply recErr_keeps | with_reducible apply Keeps.foldl
                | with_reducible apply Keeps.elim | (intros; with_reducible assumption) | (intro x) | split
                | refine Keeps.lit rfl rfl rfl rfl rfl rfl rfl rfl ?_
                | refine Keeps.of_snd (by with_reducible assumption) ?_
                | refine Keeps.of_snd2 (by with_reducible assumption) ?_

theorem requestSwap_keeps {s : State} (h : Keeps kd km kc s0 s) (k : Nat) :
    Keeps kd km kc s0 (requestSwap k s) := by
  unfold requestSwap
  try dsimp only
  repeat' first | with_reducible assumption | with_reducible apply put_keeps | with_reducible apply Keeps.foldl
                | with_reducible apply Keeps.elim | (intros; with_reducible assumption) | (intro x) | split
                | refine Keeps.lit rfl rfl rfl rfl rfl rfl rfl rfl ?_
                | refine Keeps.of_snd (by with_reducible assumption) ?_
                | refine Keeps.of_snd2 (by with_reducible assumption) ?_

theorem writeSwap_keeps {s : State} (h : Keeps kd km kc s0 s) (d : W32) :
    Keeps kd km kc s0 (writeSwap d s) := by
  unfold writeSwap
  try dsimp only
  repeat' first | with_reducible assumption | with_reducible apply repeatFor_keeps
                | with_reducible apply requestSwap_keeps | with_reducible apply Keeps.foldl
                | with_reducible apply Keeps.elim | (intros; with_reducible assumption) | (intro x) | split
                | refine Keeps.lit rfl rfl rfl rfl rfl rfl rfl rfl ?_
                | refine Keeps.of_snd (by with_reducible assumption) ?_
                | refine Keeps.of_snd2 (by with_reducible assumption) ?_

theorem applySwap_keeps {s : State} (h : Keeps kd km kc s0 s) (k : Nat) :
    Keeps kd km kc s0 (applySwap k s) := by
  unfold applySwap
  try dsimp only
  repeat' first | with_reducible assumption | with_reducible apply puts_keeps | with_reducible apply Keeps.foldl
                | with_reducible apply Keeps.elim | (intros; with_reducible assumption) | (intro x) | split
                | refine Keeps.lit rfl rfl rfl rfl rfl rfl rfl rfl ?_
                | refine Keeps.of_snd (by with_reducible assumption) ?_
                | refine Keeps.of_snd2 (by with_reducible assumption) ?_

theorem composePlane_keeps {s : State} (h : Keeps kd km kc s0 s) (k : Nat) :
    Keeps kd km kc s0 (composePlane k s) := by
  unfold composePlane
  try dsimp only
  repeat' first | with_reducible assumption | with_reducible apply recErr_keeps | with_reducible apply readRows_keeps
                | with_reducible apply Keeps.foldl | with_reducible apply Keeps.elim
                | (intros; with_reducible assumption) | (intro x) | split
                | refine Keeps.lit rfl rfl rfl rfl rfl rfl rfl rfl ?_
                | refine Keeps.of_snd (by with_reducible assumption) ?_
                | refine Keeps.of_snd2 (by with_reducible assumption) ?_

theorem countBuffers_keeps {s : State} (h : Keeps kd km kc s0 s)  :
    Keeps kd km kc s0 (countBuffers s) := by
  unfold countBuffers
  try dsimp only
  repeat' first | with_reducible assumption | with_reducible apply put_keeps | with_reducible apply inc_keeps
                | with_reducible apply Keeps.foldl | with_reducible apply Keeps.elim
                | (intros; with_reducible assumption) | (intro x) | split
                | refine Keeps.lit rfl rfl rfl rfl rfl rfl rfl rfl ?_
                | refine Keeps.of_snd (by with_reducible assumption) ?_
                | refine Keeps.of_snd2 (by with_reducible assumption) ?_

theorem noteShown_keeps {s : State} (h : Keeps kd km kc s0 s)  :
    Keeps kd km kc s0 (noteShown s) := by
  unfold noteShown
  try dsimp only
  repeat' first | with_reducible assumption | with_reducible apply Keeps.foldl | with_reducible apply Keeps.elim
                | (intros; with_reducible assumption) | (intro x) | split
                | refine Keeps.lit rfl rfl rfl rfl rfl rfl rfl rfl ?_
                | refine Keeps.of_snd (by with_reducible assumption) ?_
                | refine Keeps.of_snd2 (by with_reducible assumption) ?_

theorem takeBuffer_keeps {s : State} (h : Keeps kd km kc s0 s)  :
    Keeps kd km kc s0 (takeBuffer s) := by
  unfold takeBuffer
  try dsimp only
  repeat' first | with_reducible assumption | with_reducible apply Keeps.foldl | with_reducible apply Keeps.elim
                | (intros; with_reducible assumption) | (intro x) | split
                | refine Keeps.lit rfl rfl rfl rfl rfl rfl rfl rfl ?_
                | refine Keeps.of_snd (by with_reducible assumption) ?_
                | refine Keeps.of_snd2 (by with_reducible assumption) ?_

theorem composePlane0_keeps {s : State} (h : Keeps kd km kc s0 s)  :
    Keeps kd km kc s0 (composePlane0 s) := by
  unfold composePlane0
  try dsimp only
  repeat' first | with_reducible assumption | with_reducible apply put_keeps | with_reducible apply takeBuffer_keeps
                | with_reducible apply Keeps.foldl | with_reducible apply Keeps.elim
                | (intros; with_reducible assumption) | (intro x) | split
                | refine Keeps.lit rfl rfl rfl rfl rfl rfl rfl rfl ?_
                | refine Keeps.of_snd (by with_reducible assumption) ?_
                | refine Keeps.of_snd2 (by with_reducible assumption) ?_

theorem composeFrame_keeps {s : State} (h : Keeps kd km kc s0 s)  :
    Keeps kd km kc s0 (composeFrame s) := by
  unfold composeFrame
  try dsimp only
  repeat' first | with_reducible assumption | with_reducible apply toothPclk_keeps
                | with_reducible apply setAvmute_keeps | with_reducible apply blankHdcp_keeps
                | with_reducible apply composePlane_keeps | with_reducible apply countBuffers_keeps
                | with_reducible apply noteShown_keeps | with_reducible apply composePlane0_keeps
                | with_reducible apply Keeps.foldl | with_reducible apply Keeps.elim
                | (intros; with_reducible assumption) | (intro x) | split
                | refine Keeps.lit rfl rfl rfl rfl rfl rfl rfl rfl ?_
                | refine Keeps.of_snd (by with_reducible assumption) ?_
                | refine Keeps.of_snd2 (by with_reducible assumption) ?_

theorem edgeTiming_keeps {s : State} (h : Keeps kd km kc s0 s)  :
    Keeps kd km kc s0 (edgeTiming s) := by
  unfold edgeTiming
  try dsimp only
  repeat' first | with_reducible assumption | with_reducible apply showPclk_keeps | with_reducible apply Keeps.foldl
                | with_reducible apply Keeps.elim | (intros; with_reducible assumption) | (intro x) | split
                | refine Keeps.lit rfl rfl rfl rfl rfl rfl rfl rfl ?_
                | refine Keeps.of_snd (by with_reducible assumption) ?_
                | refine Keeps.of_snd2 (by with_reducible assumption) ?_

theorem edgeAncillary_keeps {s : State} (h : Keeps kd km kc s0 s)  :
    Keeps kd km kc s0 (edgeAncillary s) := by
  unfold edgeAncillary
  try dsimp only
  repeat' first | with_reducible assumption | with_reducible apply Keeps.foldl | with_reducible apply Keeps.elim
                | (intros; with_reducible assumption) | (intro x) | split
                | refine Keeps.lit rfl rfl rfl rfl rfl rfl rfl rfl ?_
                | refine Keeps.of_snd (by with_reducible assumption) ?_
                | refine Keeps.of_snd2 (by with_reducible assumption) ?_

theorem outputFrameEdgeEff_keeps {s : State} (h : Keeps kd km kc s0 s)  :
    Keeps kd km kc s0 (outputFrameEdgeEff s) := by
  unfold outputFrameEdgeEff
  try dsimp only
  repeat' first | with_reducible assumption | with_reducible apply commitPoint_keeps
                | with_reducible apply applySwap_keeps | with_reducible apply composeFrame_keeps
                | with_reducible apply edgeTiming_keeps | with_reducible apply edgeAncillary_keeps
                | with_reducible apply Keeps.foldl | with_reducible apply Keeps.elim
                | (intros; with_reducible assumption) | (intro x) | split
                | refine Keeps.lit rfl rfl rfl rfl rfl rfl rfl rfl ?_
                | refine Keeps.of_snd (by with_reducible assumption) ?_
                | refine Keeps.of_snd2 (by with_reducible assumption) ?_

theorem avmuteClearEff_keeps {s : State} (h : Keeps kd km kc s0 s)  :
    Keeps kd km kc s0 (avmuteClearEff s) := by
  unfold avmuteClearEff
  try dsimp only
  repeat' first | with_reducible assumption | with_reducible apply Keeps.foldl | with_reducible apply Keeps.elim
                | (intros; with_reducible assumption) | (intro x) | split
                | refine Keeps.lit rfl rfl rfl rfl rfl rfl rfl rfl ?_
                | refine Keeps.of_snd (by with_reducible assumption) ?_
                | refine Keeps.of_snd2 (by with_reducible assumption) ?_

theorem compUnderflowEff_keeps {s : State} (h : Keeps kd km kc s0 s)  :
    Keeps kd km kc s0 (compUnderflowEff s) := by
  unfold compUnderflowEff
  try dsimp only
  repeat' first | with_reducible assumption | with_reducible apply put_keeps | with_reducible apply inc_keeps
                | with_reducible apply recErr_keeps | with_reducible apply setAvmute_keeps
                | with_reducible apply Keeps.foldl | with_reducible apply Keeps.elim
                | (intros; with_reducible assumption) | (intro x) | split
                | refine Keeps.lit rfl rfl rfl rfl rfl rfl rfl rfl ?_
                | refine Keeps.of_snd (by with_reducible assumption) ?_
                | refine Keeps.of_snd2 (by with_reducible assumption) ?_

theorem compStop_keeps {s : State} (h : Keeps kd km kc s0 s)  :
    Keeps kd km kc s0 (compStop s) := by
  unfold compStop
  try dsimp only
  repeat' first | with_reducible assumption | with_reducible apply setAvmute_keeps | with_reducible apply Keeps.foldl
                | with_reducible apply Keeps.elim | (intros; with_reducible assumption) | (intro x) | split
                | refine Keeps.lit rfl rfl rfl rfl rfl rfl rfl rfl ?_
                | refine Keeps.of_snd (by with_reducible assumption) ?_
                | refine Keeps.of_snd2 (by with_reducible assumption) ?_

/-! ### Machine/Spout.lean -/

theorem ptpTick_keeps {s : State} (h : Keeps kd km kc s0 s)  :
    Keeps kd km kc s0 (ptpTick s) := by
  unfold ptpTick
  try dsimp only
  repeat' first | with_reducible assumption | with_reducible apply Keeps.foldl | with_reducible apply Keeps.elim
                | (intros; with_reducible assumption) | (intro x) | split
                | refine Keeps.lit rfl rfl rfl rfl rfl rfl rfl rfl ?_
                | refine Keeps.of_snd (by with_reducible assumption) ?_
                | refine Keeps.of_snd2 (by with_reducible assumption) ?_

theorem ptpSampleEff_keeps {s : State} (h : Keeps kd km kc s0 s)  :
    Keeps kd km kc s0 (ptpSampleEff s) := by
  unfold ptpSampleEff
  try dsimp only
  repeat' first | with_reducible assumption | with_reducible apply put_keeps | with_reducible apply Keeps.foldl
                | with_reducible apply Keeps.elim | (intros; with_reducible assumption) | (intro x) | split
                | refine Keeps.lit rfl rfl rfl rfl rfl rfl rfl rfl ?_
                | refine Keeps.of_snd (by with_reducible assumption) ?_
                | refine Keeps.of_snd2 (by with_reducible assumption) ?_

theorem readTimel_keeps {s : State} (h : Keeps kd km kc s0 s)  :
    Keeps kd km kc s0 (readTimel s).2 := by
  unfold readTimel
  try dsimp only
  repeat' first | with_reducible assumption | with_reducible apply put_keeps | with_reducible apply put64_keeps
                | with_reducible apply Keeps.foldl | with_reducible apply Keeps.elim
                | (intros; with_reducible assumption) | (intro x) | split
                | refine Keeps.lit rfl rfl rfl rfl rfl rfl rfl rfl ?_
                | refine Keeps.of_snd (by with_reducible assumption) ?_
                | refine Keeps.of_snd2 (by with_reducible assumption) ?_

theorem refreshGates_keeps {s : State} (h : Keeps kd km kc s0 s)  :
    Keeps kd km kc s0 (refreshGates s) := by
  unfold refreshGates
  try dsimp only
  repeat' first | with_reducible assumption | with_reducible apply put_keeps | with_reducible apply inc_keeps
                | with_reducible apply puts_keeps | with_reducible apply Keeps.foldl | with_reducible apply Keeps.elim
                | (intros; with_reducible assumption) | (intro x) | split
                | refine Keeps.lit rfl rfl rfl rfl rfl rfl rfl rfl ?_
                | refine Keeps.of_snd (by with_reducible assumption) ?_
                | refine Keeps.of_snd2 (by with_reducible assumption) ?_

theorem spoutStart_keeps {s : State} (h : Keeps kd km kc s0 s)  :
    Keeps kd km kc s0 (spoutStart s) := by
  unfold spoutStart
  try dsimp only
  repeat' first | with_reducible assumption | with_reducible apply puts_keeps
                | with_reducible apply refreshGates_keeps | with_reducible apply Keeps.foldl
                | with_reducible apply Keeps.elim | (intros; with_reducible assumption) | (intro x) | split
                | refine Keeps.lit rfl rfl rfl rfl rfl rfl rfl rfl ?_
                | refine Keeps.of_snd (by with_reducible assumption) ?_
                | refine Keeps.of_snd2 (by with_reducible assumption) ?_

theorem flipList_keeps {s : State} (h : Keeps kd km kc s0 s)  :
    Keeps kd km kc s0 (flipList s) := by
  unfold flipList
  try dsimp only
  repeat' first | with_reducible assumption | with_reducible apply puts_keeps | with_reducible apply Keeps.foldl
                | with_reducible apply Keeps.elim | (intros; with_reducible assumption) | (intro x) | split
                | refine Keeps.lit rfl rfl rfl rfl rfl rfl rfl rfl ?_
                | refine Keeps.of_snd (by with_reducible assumption) ?_
                | refine Keeps.of_snd2 (by with_reducible assumption) ?_

theorem spoutStop_keeps {s : State} (h : Keeps kd km kc s0 s)  :
    Keeps kd km kc s0 (spoutStop s) := by
  unfold spoutStop
  try dsimp only
  repeat' first | with_reducible assumption | with_reducible apply puts_keeps
                | with_reducible apply refreshGates_keeps | with_reducible apply flipList_keeps
                | with_reducible apply Keeps.foldl | with_reducible apply Keeps.elim
                | (intros; with_reducible assumption) | (intro x) | split
                | refine Keeps.lit rfl rfl rfl rfl rfl rfl rfl rfl ?_
                | refine Keeps.of_snd (by with_reducible assumption) ?_
                | refine Keeps.of_snd2 (by with_reducible assumption) ?_

theorem gclBoundaryEff_keeps {s : State} (h : Keeps kd km kc s0 s)  :
    Keeps kd km kc s0 (gclBoundaryEff s) := by
  unfold gclBoundaryEff
  try dsimp only
  repeat' first | with_reducible assumption | with_reducible apply put_keeps | with_reducible apply refreshGates_keeps
                | with_reducible apply flipList_keeps | with_reducible apply Keeps.foldl
                | with_reducible apply Keeps.elim | (intros; with_reducible assumption) | (intro x) | split
                | refine Keeps.lit rfl rfl rfl rfl rfl rfl rfl rfl ?_
                | refine Keeps.of_snd (by with_reducible assumption) ?_
                | refine Keeps.of_snd2 (by with_reducible assumption) ?_

theorem gclEntryEff_keeps {s : State} (h : Keeps kd km kc s0 s)  :
    Keeps kd km kc s0 (gclEntryEff s) := by
  unfold gclEntryEff
  try dsimp only
  repeat' first | with_reducible assumption | with_reducible apply refreshGates_keeps
                | with_reducible apply Keeps.foldl | with_reducible apply Keeps.elim
                | (intros; with_reducible assumption) | (intro x) | split
                | refine Keeps.lit rfl rfl rfl rfl rfl rfl rfl rfl ?_
                | refine Keeps.of_snd (by with_reducible assumption) ?_
                | refine Keeps.of_snd2 (by with_reducible assumption) ?_

theorem swapGoEff_keeps {s : State} (h : Keeps kd km kc s0 s)  :
    Keeps kd km kc s0 (swapGoEff s) := by
  unfold swapGoEff
  try dsimp only
  repeat' first | with_reducible assumption | with_reducible apply puts_keeps | with_reducible apply flipList_keeps
                | with_reducible apply Keeps.foldl | with_reducible apply Keeps.elim
                | (intros; with_reducible assumption) | (intro x) | split
                | refine Keeps.lit rfl rfl rfl rfl rfl rfl rfl rfl ?_
                | refine Keeps.of_snd (by with_reducible assumption) ?_
                | refine Keeps.of_snd2 (by with_reducible assumption) ?_

theorem spoutStep_keeps {s : State} (h : Keeps kd km kc s0 s)  :
    Keeps kd km kc s0 (spoutStep s) := by
  unfold spoutStep
  try dsimp only
  repeat' first | with_reducible assumption | with_reducible apply refreshGates_keeps
                | with_reducible apply Keeps.foldl | with_reducible apply Keeps.elim
                | (intros; with_reducible assumption) | (intro x) | split
                | refine Keeps.lit rfl rfl rfl rfl rfl rfl rfl rfl ?_
                | refine Keeps.of_snd (by with_reducible assumption) ?_
                | refine Keeps.of_snd2 (by with_reducible assumption) ?_

theorem setTokens_keeps {s : State} (h : Keeps kd km kc s0 s) (c : Nat) (v : Nat) :
    Keeps kd km kc s0 (setTokens c v s) := by
  unfold setTokens
  try dsimp only
  repeat' first | with_reducible assumption | with_reducible apply Keeps.foldl | with_reducible apply Keeps.elim
                | (intros; with_reducible assumption) | (intro x) | split
                | refine Keeps.lit rfl rfl rfl rfl rfl rfl rfl rfl ?_
                | refine Keeps.of_snd (by with_reducible assumption) ?_
                | refine Keeps.of_snd2 (by with_reducible assumption) ?_

theorem writeShaper_keeps {s : State} (h : Keeps kd km kc s0 s) (c : Nat) (burst : Bool) (d : W32) :
    Keeps kd km kc s0 (writeShaper c burst d s) := by
  unfold writeShaper
  try dsimp only
  repeat' first | with_reducible assumption | with_reducible apply storeAll_keeps | with_reducible apply checked_keeps
                | with_reducible apply setTokens_keeps | with_reducible apply Keeps.foldl
                | with_reducible apply Keeps.elim | (intros; with_reducible assumption) | (intro x) | split
                | refine Keeps.lit rfl rfl rfl rfl rfl rfl rfl rfl ?_
                | refine Keeps.of_snd (by with_reducible assumption) ?_
                | refine Keeps.of_snd2 (by with_reducible assumption) ?_

theorem writeListSize_keeps {s : State} (h : Keeps kd km kc s0 s) (l : Nat) (f : Fld) (lo : Nat) (hi : Nat) (d : W32) :
    Keeps kd km kc s0 (writeListSize l f lo hi d s) := by
  unfold writeListSize
  try dsimp only
  repeat' first | with_reducible assumption | with_reducible apply store_keeps | with_reducible apply checked_keeps
                | with_reducible apply Keeps.foldl | with_reducible apply Keeps.elim
                | (intros; with_reducible assumption) | (intro x) | split
                | refine Keeps.lit rfl rfl rfl rfl rfl rfl rfl rfl ?_
                | refine Keeps.of_snd (by with_reducible assumption) ?_
                | refine Keeps.of_snd2 (by with_reducible assumption) ?_

theorem writeList_keeps {s : State} (h : Keeps kd km kc s0 s) (l : Nat) (fs : List Fld) (d : W32) :
    Keeps kd km kc s0 (writeList l fs d s) := by
  unfold writeList
  try dsimp only
  repeat' first | with_reducible assumption | with_reducible apply storeAll_keeps | with_reducible apply checked_keeps
                | with_reducible apply Keeps.foldl | with_reducible apply Keeps.elim
                | (intros; with_reducible assumption) | (intro x) | split
                | refine Keeps.lit rfl rfl rfl rfl rfl rfl rfl rfl ?_
                | refine Keeps.of_snd (by with_reducible assumption) ?_
                | refine Keeps.of_snd2 (by with_reducible assumption) ?_

/-! ### Machine/Gptp.lean -/

theorem stampNear_keeps {s : State} (h : Keeps kd km kc s0 s) (t : Int) :
    Keeps kd km kc s0 (stampNear t s).2 := by
  unfold stampNear
  try dsimp only
  repeat' first | with_reducible assumption | with_reducible apply fresh_keeps | with_reducible apply Keeps.foldl
                | with_reducible apply Keeps.elim | (intros; with_reducible assumption) | (intro x) | split
                | refine Keeps.lit rfl rfl rfl rfl rfl rfl rfl rfl ?_
                | refine Keeps.of_snd (by with_reducible assumption) ?_
                | refine Keeps.of_snd2 (by with_reducible assumption) ?_

theorem ptpStepEff_keeps {s : State} (h : Keeps kd km kc s0 s) (offset : Int) :
    Keeps kd km kc s0 (ptpStepEff offset s) := by
  unfold ptpStepEff
  try dsimp only
  repeat' first | with_reducible assumption | with_reducible apply put_keeps | with_reducible apply inc_keeps
                | with_reducible apply spoutStep_keeps | with_reducible apply Keeps.foldl
                | with_reducible apply Keeps.elim | (intros; with_reducible assumption) | (intro x) | split
                | refine Keeps.lit rfl rfl rfl rfl rfl rfl rfl rfl ?_
                | refine Keeps.of_snd (by with_reducible assumption) ?_
                | refine Keeps.of_snd2 (by with_reducible assumption) ?_

theorem steer_keeps {s : State} (h : Keeps kd km kc s0 s)  :
    Keeps kd km kc s0 (steer s) := by
  unfold steer
  try dsimp only
  repeat' first | with_reducible assumption | with_reducible apply fresh_keeps | with_reducible apply Keeps.foldl
                | with_reducible apply Keeps.elim | (intros; with_reducible assumption) | (intro x) | split
                | refine Keeps.lit rfl rfl rfl rfl rfl rfl rfl rfl ?_
                | refine Keeps.of_snd (by with_reducible assumption) ?_
                | refine Keeps.of_snd2 (by with_reducible assumption) ?_

theorem ptpState_keeps {s : State} (h : Keeps kd km kc s0 s) (n : Nat) :
    Keeps kd km kc s0 (ptpState n s) := by
  unfold ptpState
  try dsimp only
  repeat' first | with_reducible assumption | with_reducible apply puts_keeps | with_reducible apply refLoss_keeps
                | with_reducible apply steer_keeps | with_reducible apply Keeps.foldl
                | with_reducible apply Keeps.elim | (intros; with_reducible assumption) | (intro x) | split
                | refine Keeps.lit rfl rfl rfl rfl rfl rfl rfl rfl ?_
                | refine Keeps.of_snd (by with_reducible assumption) ?_
                | refine Keeps.of_snd2 (by with_reducible assumption) ?_

theorem ptpQuality_keeps {s : State} (h : Keeps kd km kc s0 s)  :
    Keeps kd km kc s0 (ptpQuality s) := by
  unfold ptpQuality
  try dsimp only
  repeat' first | with_reducible assumption | with_reducible apply qlUpdate_keeps | with_reducible apply rankAll_keeps
                | with_reducible apply Keeps.foldl | with_reducible apply Keeps.elim
                | (intros; with_reducible assumption) | (intro x) | split
                | refine Keeps.lit rfl rfl rfl rfl rfl rfl rfl rfl ?_
                | refine Keeps.of_snd (by with_reducible assumption) ?_
                | refine Keeps.of_snd2 (by with_reducible assumption) ?_

theorem ptpMaster_keeps {s : State} (h : Keeps kd km kc s0 s) (gm : Option (BitVec 64 × Nat × Nat)) :
    Keeps kd km kc s0 (ptpMaster gm s) := by
  unfold ptpMaster
  try dsimp only
  repeat' first | with_reducible assumption | with_reducible apply put_keeps | with_reducible apply puts_keeps
                | with_reducible apply put64_keeps | with_reducible apply ptpQuality_keeps
                | with_reducible apply Keeps.foldl | with_reducible apply Keeps.elim
                | (intros; with_reducible assumption) | (intro x) | split
                | refine Keeps.lit rfl rfl rfl rfl rfl rfl rfl rfl ?_
                | refine Keeps.of_snd (by with_reducible assumption) ?_
                | refine Keeps.of_snd2 (by with_reducible assumption) ?_

theorem queueGptp_keeps {s : State} (h : Keeps kd km kc s0 s) (b : List Byte) :
    Keeps kd km kc s0 (queueGptp b s) := by
  unfold queueGptp
  try dsimp only
  repeat' first | with_reducible assumption | with_reducible apply Keeps.foldl | with_reducible apply Keeps.elim
                | (intros; with_reducible assumption) | (intro x) | split
                | refine Keeps.lit rfl rfl rfl rfl rfl rfl rfl rfl ?_
                | refine Keeps.of_snd (by with_reducible assumption) ?_
                | refine Keeps.of_snd2 (by with_reducible assumption) ?_

theorem sendMessage_keeps {s : State} (h : Keeps kd km kc s0 s) (type : Nat) (flags : Nat) (log : Nat) (body : List Byte) :
    Keeps kd km kc s0 (sendMessage type flags log body s) := by
  unfold sendMessage
  try dsimp only
  repeat' first | with_reducible assumption | with_reducible apply queueGptp_keeps | with_reducible apply Keeps.foldl
                | with_reducible apply Keeps.elim | (intros; with_reducible assumption) | (intro x) | split
                | refine Keeps.lit rfl rfl rfl rfl rfl rfl rfl rfl ?_
                | refine Keeps.of_snd (by with_reducible assumption) ?_
                | refine Keeps.of_snd2 (by with_reducible assumption) ?_

theorem gptpSent_keeps {s : State} (h : Keeps kd km kc s0 s) (b : List Byte) :
    Keeps kd km kc s0 (gptpSent b s) := by
  unfold gptpSent
  try dsimp only
  repeat' first | with_reducible assumption | with_reducible apply stampNear_keeps
                | with_reducible apply queueGptp_keeps | with_reducible apply Keeps.foldl
                | with_reducible apply Keeps.elim | (intros; with_reducible assumption) | (intro x) | split
                | refine Keeps.lit rfl rfl rfl rfl rfl rfl rfl rfl ?_
                | refine Keeps.of_snd (by with_reducible assumption) ?_
                | refine Keeps.of_snd2 (by with_reducible assumption) ?_

theorem hearAnnounce_keeps {s : State} (h : Keeps kd km kc s0 s) (m : List Byte) :
    Keeps kd km kc s0 (hearAnnounce m s) := by
  unfold hearAnnounce
  try dsimp only
  repeat' first | with_reducible assumption | with_reducible apply ptpMaster_keeps | with_reducible apply Keeps.foldl
                | with_reducible apply Keeps.elim | (intros; with_reducible assumption) | (intro x) | split
                | refine Keeps.lit rfl rfl rfl rfl rfl rfl rfl rfl ?_
                | refine Keeps.of_snd (by with_reducible assumption) ?_
                | refine Keeps.of_snd2 (by with_reducible assumption) ?_

theorem hearSync_keeps {s : State} (h : Keeps kd km kc s0 s) (m : List Byte) (g : Nat) :
    Keeps kd km kc s0 (hearSync m g s) := by
  unfold hearSync
  try dsimp only
  repeat' first | with_reducible assumption | with_reducible apply Keeps.foldl | with_reducible apply Keeps.elim
                | (intros; with_reducible assumption) | (intro x) | split
                | refine Keeps.lit rfl rfl rfl rfl rfl rfl rfl rfl ?_
                | refine Keeps.of_snd (by with_reducible assumption) ?_
                | refine Keeps.of_snd2 (by with_reducible assumption) ?_

theorem hearFollowUp_keeps {s : State} (h : Keeps kd km kc s0 s) (m : List Byte) :
    Keeps kd km kc s0 (hearFollowUp m s) := by
  unfold hearFollowUp
  try dsimp only
  repeat' first | with_reducible assumption | with_reducible apply put_keeps | with_reducible apply ptpStepEff_keeps
                | with_reducible apply steer_keeps | with_reducible apply Keeps.foldl
                | with_reducible apply Keeps.elim | (intros; with_reducible assumption) | (intro x) | split
                | refine Keeps.lit rfl rfl rfl rfl rfl rfl rfl rfl ?_
                | refine Keeps.of_snd (by with_reducible assumption) ?_
                | refine Keeps.of_snd2 (by with_reducible assumption) ?_

theorem hearRequest_keeps {s : State} (h : Keeps kd km kc s0 s) (m : List Byte) (g : Nat) :
    Keeps kd km kc s0 (hearRequest m g s) := by
  unfold hearRequest
  try dsimp only
  repeat' first | with_reducible assumption | with_reducible apply queueGptp_keeps | with_reducible apply Keeps.foldl
                | with_reducible apply Keeps.elim | (intros; with_reducible assumption) | (intro x) | split
                | refine Keeps.lit rfl rfl rfl rfl rfl rfl rfl rfl ?_
                | refine Keeps.of_snd (by with_reducible assumption) ?_
                | refine Keeps.of_snd2 (by with_reducible assumption) ?_

theorem hearResponse_keeps {s : State} (h : Keeps kd km kc s0 s) (m : List Byte) (g : Nat) :
    Keeps kd km kc s0 (hearResponse m g s) := by
  unfold hearResponse
  try dsimp only
  repeat' first | with_reducible assumption | with_reducible apply Keeps.foldl | with_reducible apply Keeps.elim
                | (intros; with_reducible assumption) | (intro x) | split
                | refine Keeps.lit rfl rfl rfl rfl rfl rfl rfl rfl ?_
                | refine Keeps.of_snd (by with_reducible assumption) ?_
                | refine Keeps.of_snd2 (by with_reducible assumption) ?_

theorem hearResponseUp_keeps {s : State} (h : Keeps kd km kc s0 s) (m : List Byte) :
    Keeps kd km kc s0 (hearResponseUp m s) := by
  unfold hearResponseUp
  try dsimp only
  repeat' first | with_reducible assumption | with_reducible apply put_keeps | with_reducible apply Keeps.foldl
                | with_reducible apply Keeps.elim | (intros; with_reducible assumption) | (intro x) | split
                | refine Keeps.lit rfl rfl rfl rfl rfl rfl rfl rfl ?_
                | refine Keeps.of_snd (by with_reducible assumption) ?_
                | refine Keeps.of_snd2 (by with_reducible assumption) ?_

theorem gptpHear_keeps {s : State} (h : Keeps kd km kc s0 s) (b : List Byte) :
    Keeps kd km kc s0 (gptpHear b s) := by
  unfold gptpHear
  try dsimp only
  repeat' first | with_reducible assumption | with_reducible apply stampNear_keeps
                | with_reducible apply hearAnnounce_keeps | with_reducible apply hearSync_keeps
                | with_reducible apply hearFollowUp_keeps | with_reducible apply hearRequest_keeps
                | with_reducible apply hearResponse_keeps | with_reducible apply hearResponseUp_keeps
                | with_reducible apply Keeps.foldl | with_reducible apply Keeps.elim
                | (intros; with_reducible assumption) | (intro x) | split
                | refine Keeps.lit rfl rfl rfl rfl rfl rfl rfl rfl ?_
                | refine Keeps.of_snd (by with_reducible assumption) ?_
                | refine Keeps.of_snd2 (by with_reducible assumption) ?_

theorem dropMaster_keeps {s : State} (h : Keeps kd km kc s0 s)  :
    Keeps kd km kc s0 (dropMaster s) := by
  unfold dropMaster
  try dsimp only
  repeat' first | with_reducible assumption | with_reducible apply Keeps.foldl | with_reducible apply Keeps.elim
                | (intros; with_reducible assumption) | (intro x) | split
                | refine Keeps.lit rfl rfl rfl rfl rfl rfl rfl rfl ?_
                | refine Keeps.of_snd (by with_reducible assumption) ?_
                | refine Keeps.of_snd2 (by with_reducible assumption) ?_

theorem judgePort_keeps {s : State} (h : Keeps kd km kc s0 s)  :
    Keeps kd km kc s0 (judgePort s) := by
  unfold judgePort
  try dsimp only
  repeat' first | with_reducible assumption | with_reducible apply ptpState_keeps
                | with_reducible apply ptpMaster_keeps | with_reducible apply Keeps.foldl
                | with_reducible apply Keeps.elim | (intros; with_reducible assumption) | (intro x) | split
                | refine Keeps.lit rfl rfl rfl rfl rfl rfl rfl rfl ?_
                | refine Keeps.of_snd (by with_reducible assumption) ?_
                | refine Keeps.of_snd2 (by with_reducible assumption) ?_

theorem askDelay_keeps {s : State} (h : Keeps kd km kc s0 s)  :
    Keeps kd km kc s0 (askDelay s) := by
  unfold askDelay
  try dsimp only
  repeat' first | with_reducible assumption | with_reducible apply sendMessage_keeps
                | with_reducible apply Keeps.foldl | with_reducible apply Keeps.elim
                | (intros; with_reducible assumption) | (intro x) | split
                | refine Keeps.lit rfl rfl rfl rfl rfl rfl rfl rfl ?_
                | refine Keeps.of_snd (by with_reducible assumption) ?_
                | refine Keeps.of_snd2 (by with_reducible assumption) ?_

theorem sendDue_keeps {s : State} (h : Keeps kd km kc s0 s)  :
    Keeps kd km kc s0 (sendDue s) := by
  unfold sendDue
  try dsimp only
  repeat' first | with_reducible assumption | with_reducible apply sendMessage_keeps
                | with_reducible apply askDelay_keeps | with_reducible apply Keeps.foldl
                | with_reducible apply Keeps.elim | (intros; with_reducible assumption) | (intro x) | split
                | refine Keeps.lit rfl rfl rfl rfl rfl rfl rfl rfl ?_
                | refine Keeps.of_snd (by with_reducible assumption) ?_
                | refine Keeps.of_snd2 (by with_reducible assumption) ?_

theorem gptpMessageIntervalEff_keeps {s : State} (h : Keeps kd km kc s0 s)  :
    Keeps kd km kc s0 (gptpMessageIntervalEff s) := by
  unfold gptpMessageIntervalEff
  try dsimp only
  repeat' first | with_reducible assumption | with_reducible apply dropMaster_keeps
                | with_reducible apply judgePort_keeps | with_reducible apply sendDue_keeps
                | with_reducible apply Keeps.foldl | with_reducible apply Keeps.elim
                | (intros; with_reducible assumption) | (intro x) | split
                | refine Keeps.lit rfl rfl rfl rfl rfl rfl rfl rfl ?_
                | refine Keeps.of_snd (by with_reducible assumption) ?_
                | refine Keeps.of_snd2 (by with_reducible assumption) ?_

theorem ptpForget_keeps {s : State} (h : Keeps kd km kc s0 s)  :
    Keeps kd km kc s0 (ptpForget s) := by
  unfold ptpForget
  try dsimp only
  repeat' first | with_reducible assumption | with_reducible apply Keeps.foldl | with_reducible apply Keeps.elim
                | (intros; with_reducible assumption) | (intro x) | split
                | refine Keeps.lit rfl rfl rfl rfl rfl rfl rfl rfl ?_
                | refine Keeps.of_snd (by with_reducible assumption) ?_
                | refine Keeps.of_snd2 (by with_reducible assumption) ?_

theorem ptpCtl_keeps {s : State} (h : Keeps kd km kc s0 s) (d : W32) :
    Keeps kd km kc s0 (ptpCtl d s) := by
  unfold ptpCtl
  try dsimp only
  repeat' first | with_reducible assumption | with_reducible apply store_keeps | with_reducible apply ptpState_keeps
                | with_reducible apply ptpMaster_keeps | with_reducible apply ptpForget_keeps
                | with_reducible apply Keeps.foldl | with_reducible apply Keeps.elim
                | (intros; with_reducible assumption) | (intro x) | split
                | refine Keeps.lit rfl rfl rfl rfl rfl rfl rfl rfl ?_
                | refine Keeps.of_snd (by with_reducible assumption) ?_
                | refine Keeps.of_snd2 (by with_reducible assumption) ?_

theorem writePtpPcfg_keeps {s : State} (h : Keeps kd km kc s0 s) (d : W32) :
    Keeps kd km kc s0 (writePtpPcfg d s) := by
  unfold writePtpPcfg
  try dsimp only
  repeat' first | with_reducible assumption | with_reducible apply storeAll_keeps | with_reducible apply checked_keeps
                | with_reducible apply Keeps.foldl | with_reducible apply Keeps.elim
                | (intros; with_reducible assumption) | (intro x) | split
                | refine Keeps.lit rfl rfl rfl rfl rfl rfl rfl rfl ?_
                | refine Keeps.of_snd (by with_reducible assumption) ?_
                | refine Keeps.of_snd2 (by with_reducible assumption) ?_

/-! ### Machine/MediaPort.lean -/

theorem setQueue_keeps {s : State} (h : Keeps kd km kc s0 s) (c : Nat) (q : List TxFrame) :
    Keeps kd km kc s0 (setQueue c q s) := by
  unfold setQueue
  try dsimp only
  repeat' first | with_reducible assumption | with_reducible apply put_keeps | with_reducible apply Keeps.foldl
                | with_reducible apply Keeps.elim | (intros; with_reducible assumption) | (intro x) | split
                | refine Keeps.lit rfl rfl rfl rfl rfl rfl rfl rfl ?_
                | refine Keeps.of_snd (by with_reducible assumption) ?_
                | refine Keeps.of_snd2 (by with_reducible assumption) ?_

theorem enqueue_keeps {s : State} (h : Keeps kd km kc s0 s) (c : Nat) (f : TxFrame) :
    Keeps kd km kc s0 (enqueue c f s) := by
  unfold enqueue
  try dsimp only
  repeat' first | with_reducible assumption | with_reducible apply setQueue_keeps | with_reducible apply Keeps.foldl
                | with_reducible apply Keeps.elim | (intros; with_reducible assumption) | (intro x) | split
                | refine Keeps.lit rfl rfl rfl rfl rfl rfl rfl rfl ?_
                | refine Keeps.of_snd (by with_reducible assumption) ?_
                | refine Keeps.of_snd2 (by with_reducible assumption) ?_

theorem queueFull_keeps {s : State} (h : Keeps kd km kc s0 s)  :
    Keeps kd km kc s0 (queueFull s) := by
  unfold queueFull
  try dsimp only
  repeat' first | with_reducible assumption | with_reducible apply put_keeps | with_reducible apply Keeps.foldl
                | with_reducible apply Keeps.elim | (intros; with_reducible assumption) | (intro x) | split
                | refine Keeps.lit rfl rfl rfl rfl rfl rfl rfl rfl ?_
                | refine Keeps.of_snd (by with_reducible assumption) ?_
                | refine Keeps.of_snd2 (by with_reducible assumption) ?_

theorem emptyQueues_keeps {s : State} (h : Keeps kd km kc s0 s)  :
    Keeps kd km kc s0 (emptyQueues s) := by
  unfold emptyQueues
  try dsimp only
  repeat' first | with_reducible assumption | with_reducible apply repeatFor_keeps
                | with_reducible apply setQueue_keeps | with_reducible apply Keeps.foldl
                | with_reducible apply Keeps.elim | (intros; with_reducible assumption) | (intro x) | split
                | refine Keeps.lit rfl rfl rfl rfl rfl rfl rfl rfl ?_
                | refine Keeps.of_snd (by with_reducible assumption) ?_
                | refine Keeps.of_snd2 (by with_reducible assumption) ?_

theorem mptLinkUpEff_keeps {s : State} (h : Keeps kd km kc s0 s) (speed : Nat) :
    Keeps kd km kc s0 (mptLinkUpEff speed s) := by
  unfold mptLinkUpEff
  try dsimp only
  repeat' first | with_reducible assumption | with_reducible apply puts_keeps | with_reducible apply Keeps.foldl
                | with_reducible apply Keeps.elim | (intros; with_reducible assumption) | (intro x) | split
                | refine Keeps.lit rfl rfl rfl rfl rfl rfl rfl rfl ?_
                | refine Keeps.of_snd (by with_reducible assumption) ?_
                | refine Keeps.of_snd2 (by with_reducible assumption) ?_

theorem mptLinkDownEff_keeps {s : State} (h : Keeps kd km kc s0 s)  :
    Keeps kd km kc s0 (mptLinkDownEff s) := by
  unfold mptLinkDownEff
  try dsimp only
  repeat' first | with_reducible assumption | with_reducible apply puts_keeps | with_reducible apply ptpForget_keeps
                | with_reducible apply Keeps.foldl | with_reducible apply Keeps.elim
                | (intros; with_reducible assumption) | (intro x) | split
                | refine Keeps.lit rfl rfl rfl rfl rfl rfl rfl rfl ?_
                | refine Keeps.of_snd (by with_reducible assumption) ?_
                | refine Keeps.of_snd2 (by with_reducible assumption) ?_

theorem putOnLane_keeps {s : State} (h : Keeps kd km kc s0 s) (bs : List Byte) :
    Keeps kd km kc s0 (putOnLane bs s) := by
  unfold putOnLane
  try dsimp only
  repeat' first | with_reducible assumption | with_reducible apply inc_keeps | with_reducible apply Keeps.foldl
                | with_reducible apply Keeps.elim | (intros; with_reducible assumption) | (intro x) | split
                | refine Keeps.lit rfl rfl rfl rfl rfl rfl rfl rfl ?_
                | refine Keeps.of_snd (by with_reducible assumption) ?_
                | refine Keeps.of_snd2 (by with_reducible assumption) ?_

theorem stampEgress_keeps {s : State} (h : Keeps kd km kc s0 s) (i : Nat) :
    Keeps kd km kc s0 (stampEgress i s) := by
  unfold stampEgress
  try dsimp only
  repeat' first | with_reducible assumption | with_reducible apply put_keeps | with_reducible apply puts_keeps
                | with_reducible apply put64_keeps | with_reducible apply fireEdge_keeps
                | with_reducible apply stampNear_keeps | with_reducible apply Keeps.foldl
                | with_reducible apply Keeps.elim | (intros; with_reducible assumption) | (intro x) | split
                | refine Keeps.lit rfl rfl rfl rfl rfl rfl rfl rfl ?_
                | refine Keeps.of_snd (by with_reducible assumption) ?_
                | refine Keeps.of_snd2 (by with_reducible assumption) ?_

theorem sendClass_keeps {s : State} (h : Keeps kd km kc s0 s) (c : Nat) :
    Keeps kd km kc s0 (sendClass c s) := by
  unfold sendClass
  try dsimp only
  repeat' first | with_reducible assumption | with_reducible apply setTokens_keeps
                | with_reducible apply setQueue_keeps | with_reducible apply putOnLane_keeps
                | with_reducible apply stampEgress_keeps | with_reducible apply Keeps.foldl
                | with_reducible apply Keeps.elim | (intros; with_reducible assumption) | (intro x) | split
                | refine Keeps.lit rfl rfl rfl rfl rfl rfl rfl rfl ?_
                | refine Keeps.of_snd (by with_reducible assumption) ?_
                | refine Keeps.of_snd2 (by with_reducible assumption) ?_

theorem frameTransmitEff_keeps {s : State} (h : Keeps kd km kc s0 s)  :
    Keeps kd km kc s0 (frameTransmitEff s) := by
  unfold frameTransmitEff
  try dsimp only
  repeat' first | with_reducible assumption | with_reducible apply gptpSent_keeps
                | with_reducible apply putOnLane_keeps | with_reducible apply sendClass_keeps
                | with_reducible apply Keeps.foldl | with_reducible apply Keeps.elim
                | (intros; with_reducible assumption) | (intro x) | split
                | refine Keeps.lit rfl rfl rfl rfl rfl rfl rfl rfl ?_
                | refine Keeps.of_snd (by with_reducible assumption) ?_
                | refine Keeps.of_snd2 (by with_reducible assumption) ?_

theorem setStream_keeps {s : State} (h : Keeps kd km kc s0 s) (n : Nat) (x : StreamSt) :
    Keeps kd km kc s0 (setStream n x s) := by
  unfold setStream
  try dsimp only
  repeat' first | with_reducible assumption | with_reducible apply Keeps.foldl | with_reducible apply Keeps.elim
                | (intros; with_reducible assumption) | (intro x) | split
                | refine Keeps.lit rfl rfl rfl rfl rfl rfl rfl rfl ?_
                | refine Keeps.of_snd (by with_reducible assumption) ?_
                | refine Keeps.of_snd2 (by with_reducible assumption) ?_

theorem setStren_keeps {s : State} (h : Keeps kd km kc s0 s) (n : Nat) (b : Bool) :
    Keeps kd km kc s0 (setStren n b s) := by
  unfold setStren
  try dsimp only
  repeat' first | with_reducible assumption | with_reducible apply put_keeps | with_reducible apply Keeps.foldl
                | with_reducible apply Keeps.elim | (intros; with_reducible assumption) | (intro x) | split
                | refine Keeps.lit rfl rfl rfl rfl rfl rfl rfl rfl ?_
                | refine Keeps.of_snd (by with_reducible assumption) ?_
                | refine Keeps.of_snd2 (by with_reducible assumption) ?_

theorem streamEnableOp_keeps {s : State} (h : Keeps kd km kc s0 s) (n : Nat) :
    Keeps kd km kc s0 (streamEnableOp n s) := by
  unfold streamEnableOp
  try dsimp only
  repeat' first | with_reducible assumption | with_reducible apply put_keeps | with_reducible apply fresh_keeps
                | with_reducible apply checked_keeps | with_reducible apply setStream_keeps
                | with_reducible apply setStren_keeps | with_reducible apply Keeps.foldl
                | with_reducible apply Keeps.elim | (intros; with_reducible assumption) | (intro x) | split
                | refine Keeps.lit rfl rfl rfl rfl rfl rfl rfl rfl ?_
                | refine Keeps.of_snd (by with_reducible assumption) ?_
                | refine Keeps.of_snd2 (by with_reducible assumption) ?_

theorem streamDisableOp_keeps {s : State} (h : Keeps kd km kc s0 s) (n : Nat) :
    Keeps kd km kc s0 (streamDisableOp n s) := by
  unfold streamDisableOp
  try dsimp only
  repeat' first | with_reducible assumption | with_reducible apply setStream_keeps
                | with_reducible apply setStren_keeps | with_reducible apply Keeps.foldl
                | with_reducible apply Keeps.elim | (intros; with_reducible assumption) | (intro x) | split
                | refine Keeps.lit rfl rfl rfl rfl rfl rfl rfl rfl ?_
                | refine Keeps.of_snd (by with_reducible assumption) ?_
                | refine Keeps.of_snd2 (by with_reducible assumption) ?_

theorem writeStren_keeps {s : State} (h : Keeps kd km kc s0 s) (d : W32) :
    Keeps kd km kc s0 (writeStren d s) := by
  unfold writeStren
  try dsimp only
  repeat' first | with_reducible assumption | with_reducible apply repeatFor_keeps
                | with_reducible apply streamEnableOp_keeps | with_reducible apply streamDisableOp_keeps
                | with_reducible apply Keeps.foldl | with_reducible apply Keeps.elim
                | (intros; with_reducible assumption) | (intro x) | split
                | refine Keeps.lit rfl rfl rfl rfl rfl rfl rfl rfl ?_
                | refine Keeps.of_snd (by with_reducible assumption) ?_
                | refine Keeps.of_snd2 (by with_reducible assumption) ?_

theorem beginLayer_keeps {s : State} (h : Keeps kd km kc s0 s) (n : Nat) :
    Keeps kd km kc s0 (beginLayer n s) := by
  unfold beginLayer
  try dsimp only
  repeat' first | with_reducible assumption | with_reducible apply setStream_keeps | with_reducible apply Keeps.foldl
                | with_reducible apply Keeps.elim | (intros; with_reducible assumption) | (intro x) | split
                | refine Keeps.lit rfl rfl rfl rfl rfl rfl rfl rfl ?_
                | refine Keeps.of_snd (by with_reducible assumption) ?_
                | refine Keeps.of_snd2 (by with_reducible assumption) ?_

theorem queuePackets_keeps {s : State} (h : Keeps kd km kc s0 s) (n : Nat) :
    Keeps kd km kc s0 (queuePackets n s) := by
  unfold queuePackets
  try dsimp only
  repeat' first | with_reducible assumption | with_reducible apply put_keeps | with_reducible apply updFrame_keeps
                | with_reducible apply enqueue_keeps | with_reducible apply queueFull_keeps
                | with_reducible apply setStream_keeps | with_reducible apply Keeps.foldl
                | with_reducible apply Keeps.elim | (intros; with_reducible assumption) | (intro x) | split
                | refine Keeps.lit rfl rfl rfl rfl rfl rfl rfl rfl ?_
                | refine Keeps.of_snd (by with_reducible assumption) ?_
                | refine Keeps.of_snd2 (by with_reducible assumption) ?_

theorem layerPacketizeEff_keeps {s : State} (h : Keeps kd km kc s0 s) (n : Nat) :
    Keeps kd km kc s0 (layerPacketizeEff n s) := by
  unfold layerPacketizeEff
  try dsimp only
  repeat' first | with_reducible assumption | with_reducible apply beginLayer_keeps
                | with_reducible apply queuePackets_keeps | with_reducible apply Keeps.foldl
                | with_reducible apply Keeps.elim | (intros; with_reducible assumption) | (intro x) | split
                | refine Keeps.lit rfl rfl rfl rfl rfl rfl rfl rfl ?_
                | refine Keeps.of_snd (by with_reducible assumption) ?_
                | refine Keeps.of_snd2 (by with_reducible assumption) ?_

theorem aafPacketEff_keeps {s : State} (h : Keeps kd km kc s0 s) (n : Nat) :
    Keeps kd km kc s0 (aafPacketEff n s) := by
  unfold aafPacketEff
  try dsimp only
  repeat' first | with_reducible assumption | with_reducible apply put_keeps | with_reducible apply inc_keeps
                | with_reducible apply enqueue_keeps | with_reducible apply queueFull_keeps
                | with_reducible apply setStream_keeps | with_reducible apply Keeps.foldl
                | with_reducible apply Keeps.elim | (intros; with_reducible assumption) | (intro x) | split
                | refine Keeps.lit rfl rfl rfl rfl rfl rfl rfl rfl ?_
                | refine Keeps.of_snd (by with_reducible assumption) ?_
                | refine Keeps.of_snd2 (by with_reducible assumption) ?_

theorem skipBacklog_keeps {s : State} (h : Keeps kd km kc s0 s)  :
    Keeps kd km kc s0 (skipBacklog s) := by
  unfold skipBacklog
  try dsimp only
  repeat' first | with_reducible assumption | with_reducible apply repeatFor_keeps
                | with_reducible apply setStream_keeps | with_reducible apply Keeps.foldl
                | with_reducible apply Keeps.elim | (intros; with_reducible assumption) | (intro x) | split
                | refine Keeps.lit rfl rfl rfl rfl rfl rfl rfl rfl ?_
                | refine Keeps.of_snd (by with_reducible assumption) ?_
                | refine Keeps.of_snd2 (by with_reducible assumption) ?_

theorem writeTxtail_keeps {s : State} (h : Keeps kd km kc s0 s) (d : W32) :
    Keeps kd km kc s0 (writeTxtail d s) := by
  unfold writeTxtail
  try dsimp only
  repeat' first | with_reducible assumption | with_reducible apply put_keeps | with_reducible apply checked_keeps
                | with_reducible apply Keeps.foldl | with_reducible apply Keeps.elim
                | (intros; with_reducible assumption) | (intro x) | split
                | refine Keeps.lit rfl rfl rfl rfl rfl rfl rfl rfl ?_
                | refine Keeps.of_snd (by with_reducible assumption) ?_
                | refine Keeps.of_snd2 (by with_reducible assumption) ?_

theorem txDescriptorEff_keeps {s : State} (h : Keeps kd km kc s0 s)  :
    Keeps kd km kc s0 (txDescriptorEff s) := by
  unfold txDescriptorEff
  try dsimp only
  repeat' first | with_reducible assumption | with_reducible apply put_keeps | with_reducible apply recErr_keeps
                | with_reducible apply enqueue_keeps | with_reducible apply queueFull_keeps
                | with_reducible apply Keeps.foldl | with_reducible apply Keeps.elim
                | (intros; with_reducible assumption) | (intro x) | split
                | refine Keeps.lit rfl rfl rfl rfl rfl rfl rfl rfl ?_
                | refine Keeps.of_snd (by with_reducible assumption) ?_
                | refine Keeps.of_snd2 (by with_reducible assumption) ?_

theorem writeRing_keeps {s : State} (h : Keeps kd km kc s0 s) (en : Fld) (fs : List Fld) (cfg : Bool) (d : W32) :
    Keeps kd km kc s0 (writeRing en fs cfg d s) := by
  unfold writeRing
  try dsimp only
  repeat' first | with_reducible assumption | with_reducible apply put_keeps | with_reducible apply storeAll_keeps
                | with_reducible apply recErr_keeps | with_reducible apply Keeps.foldl
                | with_reducible apply Keeps.elim | (intros; with_reducible assumption) | (intro x) | split
                | refine Keeps.lit rfl rfl rfl rfl rfl rfl rfl rfl ?_
                | refine Keeps.of_snd (by with_reducible assumption) ?_
                | refine Keeps.of_snd2 (by with_reducible assumption) ?_

theorem yellowAct_keeps {s : State} (h : Keeps kd km kc s0 s) (p : Nat) :
    Keeps kd km kc s0 (yellowAct s p).2 := by
  unfold yellowAct
  try dsimp only
  repeat' first | with_reducible assumption | with_reducible apply Keeps.foldl | with_reducible apply Keeps.elim
                | (intros; with_reducible assumption) | (intro x) | split
                | refine Keeps.lit rfl rfl rfl rfl rfl rfl rfl rfl ?_
                | refine Keeps.of_snd (by with_reducible assumption) ?_
                | refine Keeps.of_snd2 (by with_reducible assumption) ?_

theorem judge_keeps {s : State} (h : Keeps kd km kc s0 s) (p : Nat) (b : List Byte) :
    Keeps kd km kc s0 (judge p b s).2 := by
  unfold judge
  try dsimp only
  repeat' first | with_reducible assumption | with_reducible apply put_keeps | with_reducible apply inc_keeps
                | with_reducible apply yellowAct_keeps | with_reducible apply Keeps.foldl
                | with_reducible apply Keeps.elim | (intros; with_reducible assumption) | (intro x) | split
                | refine Keeps.lit rfl rfl rfl rfl rfl rfl rfl rfl ?_
                | refine Keeps.of_snd (by with_reducible assumption) ?_
                | refine Keeps.of_snd2 (by with_reducible assumption) ?_

theorem strnCtl_keeps {s : State} (h : Keeps kd km kc s0 s) (d : W32) :
    Keeps kd km kc s0 (strnCtl d s) := by
  unfold strnCtl
  try dsimp only
  repeat' first | with_reducible assumption | with_reducible apply put_keeps | with_reducible apply store_keeps
                | with_reducible apply Keeps.foldl | with_reducible apply Keeps.elim
                | (intros; with_reducible assumption) | (intro x) | split
                | refine Keeps.lit rfl rfl rfl rfl rfl rfl rfl rfl ?_
                | refine Keeps.of_snd (by with_reducible assumption) ?_
                | refine Keeps.of_snd2 (by with_reducible assumption) ?_

theorem writeBurst_keeps {s : State} (h : Keeps kd km kc s0 s) (f : Fld) (d : W32) :
    Keeps kd km kc s0 (writeBurst f d s) := by
  unfold writeBurst
  try dsimp only
  repeat' first | with_reducible assumption | with_reducible apply store_keeps | with_reducible apply checked_keeps
                | with_reducible apply Keeps.foldl | with_reducible apply Keeps.elim
                | (intros; with_reducible assumption) | (intro x) | split
                | refine Keeps.lit rfl rfl rfl rfl rfl rfl rfl rfl ?_
                | refine Keeps.of_snd (by with_reducible assumption) ?_
                | refine Keeps.of_snd2 (by with_reducible assumption) ?_

theorem writePolicer_keeps {s : State} (h : Keeps kd km kc s0 s) (p : Nat) (d : W32) :
    Keeps kd km kc s0 (writePolicer p d s) := by
  unfold writePolicer
  try dsimp only
  repeat' first | with_reducible assumption | with_reducible apply storeAll_keeps | with_reducible apply checked_keeps
                | with_reducible apply Keeps.foldl | with_reducible apply Keeps.elim
                | (intros; with_reducible assumption) | (intro x) | split
                | refine Keeps.lit rfl rfl rfl rfl rfl rfl rfl rfl ?_
                | refine Keeps.of_snd (by with_reducible assumption) ?_
                | refine Keeps.of_snd2 (by with_reducible assumption) ?_

theorem rxWrite_keeps {s : State} (h : Keeps true km kc s0 s) (r : Nat) (pol : Nat) (yellow : Bool) (b : List Byte) :
    Keeps true km kc s0 (rxWrite r pol yellow b s) := by
  unfold rxWrite
  try dsimp only
  repeat' first | with_reducible assumption | with_reducible apply put_keeps | with_reducible apply inc_keeps
                | with_reducible apply dramWrite_keeps | with_reducible apply stampNear_keeps
                | with_reducible apply Keeps.foldl | with_reducible apply Keeps.elim
                | (intros; with_reducible assumption) | (intro x) | split
                | refine Keeps.lit rfl rfl rfl rfl rfl rfl rfl rfl ?_
                | refine Keeps.of_snd (by with_reducible assumption) ?_
                | refine Keeps.of_snd2 (by with_reducible assumption) ?_

theorem strain_keeps {s : State} (h : Keeps true km kc s0 s) (b : List Byte) : Keeps true km kc s0 (strain b s) := by
  unfold strain; split
  · generalize List.find? (polMatches s b) (List.range 64) = o
    cases o with
    | some p =>
      have hj : Keeps true km kc s0 (judge p b s).2 := judge_keeps h p b
      dsimp only; generalize judge p b s = r at hj ⊢
      obtain ⟨v, t⟩ := r
      cases v
      · exact hj
      · exact rxWrite_keeps hj _ _ _ _
      · exact rxWrite_keeps hj _ _ _ _
    | none =>
      have hi : Keeps true km kc s0 ((s.inc STRN.NOMATCHCNT_COUNT).put STRN.ISR_NOMATCH 1) := put_keeps (inc_keeps h _) _ _
      dsimp only; split
      · exact rxWrite_keeps hi _ _ _ _
      · exact hi
  · exact h

theorem takeGptp_keeps {s : State} (h : Keeps kd km kc s0 s) (b : List Byte) :
    Keeps kd km kc s0 (takeGptp b s) := by
  unfold takeGptp
  try dsimp only
  repeat' first | with_reducible assumption | with_reducible apply gptpHear_keeps | with_reducible apply Keeps.foldl
                | with_reducible apply Keeps.elim | (intros; with_reducible assumption) | (intro x) | split
                | refine Keeps.lit rfl rfl rfl rfl rfl rfl rfl rfl ?_
                | refine Keeps.of_snd (by with_reducible assumption) ?_
                | refine Keeps.of_snd2 (by with_reducible assumption) ?_

theorem rxFrameEff_keeps {s : State} (h : Keeps true km kc s0 s) (b : List Byte) (codeError : Bool) :
    Keeps true km kc s0 (rxFrameEff b codeError s) := by
  unfold rxFrameEff
  try dsimp only
  repeat' first | with_reducible assumption | with_reducible apply inc_keeps | with_reducible apply strain_keeps
                | with_reducible apply takeGptp_keeps | with_reducible apply Keeps.foldl
                | with_reducible apply Keeps.elim | (intros; with_reducible assumption) | (intro x) | split
                | refine Keeps.lit rfl rfl rfl rfl rfl rfl rfl rfl ?_
                | refine Keeps.of_snd (by with_reducible assumption) ?_
                | refine Keeps.of_snd2 (by with_reducible assumption) ?_

end Sys2Proof.Machine
end

