-- ==== Sys2Proof/Laws/KeepsStore.lean ====
section
/-! SUPPORT. What the operations of the store, updates, boot, local resets, interrupts and the access paths keep (`Keeps`),
one lemma for each. -/

namespace Sys2Proof.Machine

variable {kd km kc : Bool} {s0 t : State}

/-! ### Machine/Nvm.lean -/

theorem storeWhole_keeps {s : State} (h : Keeps kd true kc s0 s) (a : Nat) (bs : List Byte) :
    Keeps kd true kc s0 (storeWhole a bs s) := by
  unfold storeWhole
  try dsimp only
  repeat' first | with_reducible assumption | with_reducible apply mramWrite_keeps | with_reducible apply Keeps.foldl
                | with_reducible apply Keeps.elim | (intros; with_reducible assumption) | (intro x) | split
                | refine Keeps.lit rfl rfl rfl rfl rfl rfl rfl rfl ?_
                | refine Keeps.of_snd (by with_reducible assumption) ?_
                | refine Keeps.of_snd2 (by with_reducible assumption) ?_

theorem stopWrites_keeps {s : State} (h : Keeps kd km kc s0 s)  :
    Keeps kd km kc s0 (stopWrites s) := by
  unfold stopWrites
  try dsimp only
  repeat' first | with_reducible assumption | with_reducible apply Keeps.foldl | with_reducible apply Keeps.elim
                | (intros; with_reducible assumption) | (intro x) | split
                | refine Keeps.lit rfl rfl rfl rfl rfl rfl rfl rfl ?_
                | refine Keeps.of_snd (by with_reducible assumption) ?_
                | refine Keeps.of_snd2 (by with_reducible assumption) ?_

theorem tearLine_keeps {s : State} (h : Keeps kd true kc s0 s) (l : Nat) :
    Keeps kd true kc s0 (tearLine l s) := by
  unfold tearLine
  try dsimp only
  repeat' first | with_reducible assumption | with_reducible apply fresh_keeps | with_reducible apply storeWhole_keeps
                | with_reducible apply Keeps.foldl | with_reducible apply Keeps.elim
                | (intros; with_reducible assumption) | (intro x) | split
                | refine Keeps.lit rfl rfl rfl rfl rfl rfl rfl rfl ?_
                | refine Keeps.of_snd (by with_reducible assumption) ?_
                | refine Keeps.of_snd2 (by with_reducible assumption) ?_

theorem mramStore_keeps {s : State} (h : Keeps kd true kc s0 s) (a : Nat) (bs : List Byte) :
    Keeps kd true kc s0 (mramStore a bs s) := by
  unfold mramStore
  try dsimp only
  repeat' first | with_reducible assumption | with_reducible apply storeWhole_keeps
                | with_reducible apply stopWrites_keeps | with_reducible apply tearLine_keeps
                | with_reducible apply Keeps.foldl | with_reducible apply Keeps.elim
                | (intros; with_reducible assumption) | (intro x) | split
                | refine Keeps.lit rfl rfl rfl rfl rfl rfl rfl rfl ?_
                | refine Keeps.of_snd (by with_reducible assumption) ?_
                | refine Keeps.of_snd2 (by with_reducible assumption) ?_

theorem meetStore_keeps {s : State} (h : Keeps kd km kc s0 s) (e : StoreEnv) :
    Keeps kd km kc s0 (State.meetStore e s) := by
  unfold State.meetStore
  try dsimp only
  repeat' first | with_reducible assumption | with_reducible apply Keeps.foldl | with_reducible apply Keeps.elim
                | (intros; with_reducible assumption) | (intro x) | split
                | refine Keeps.lit rfl rfl rfl rfl rfl rfl rfl rfl ?_
                | refine Keeps.of_snd (by with_reducible assumption) ?_
                | refine Keeps.of_snd2 (by with_reducible assumption) ?_

theorem meetLines_keeps {s : State} (h : Keeps kd km kc s0 s) (e : StoreEnv) :
    Keeps kd km kc s0 (State.meetLines e s) := by
  unfold State.meetLines
  try dsimp only
  repeat' first | with_reducible assumption | with_reducible apply meetStore_keeps | with_reducible apply Keeps.foldl
                | with_reducible apply Keeps.elim | (intros; with_reducible assumption) | (intro x) | split
                | refine Keeps.lit rfl rfl rfl rfl rfl rfl rfl rfl ?_
                | refine Keeps.of_snd (by with_reducible assumption) ?_
                | refine Keeps.of_snd2 (by with_reducible assumption) ?_

theorem cutEffect_keeps {s : State} (h : Keeps true km true s0 s) (w : CutBy) :
    Keeps true km true s0 (cutEffect w s) := by
  unfold cutEffect
  try dsimp only
  repeat' first | with_reducible assumption | with_reducible apply poreset_keeps
                | with_reducible apply vddAonLowEff_keeps | with_reducible apply pinReset_keeps
                | with_reducible apply chipReset_keeps | with_reducible apply serviceReset_keeps
                | with_reducible apply Keeps.foldl | with_reducible apply Keeps.elim
                | (intros; with_reducible assumption) | (intro x) | split
                | refine Keeps.lit rfl rfl rfl rfl rfl rfl rfl rfl ?_
                | refine Keeps.of_snd (by with_reducible assumption) ?_
                | refine Keeps.of_snd2 (by with_reducible assumption) ?_

theorem withStore_keeps {f : State → State} {s : State} (hf : ∀ t, Keeps true km true s0 t → Keeps true km true s0 (f t))
    (h : Keeps true km true s0 s) (e : StoreEnv) : Keeps true km true s0 (withStore e f s) := by
  have hu := (hf _ (meetStore_keeps h e)).upd (t := { f (s.meetStore e) with
    nvm := { (f (s.meetStore e)).nvm with left := none, torn := false } }) rfl rfl rfl rfl rfl rfl rfl rfl
  exact ite_keeps (.elim hu fun c => cutEffect_keeps hu _) hu

theorem noteHeader_keeps {s : State} (h : Keeps kd km kc s0 s)  :
    Keeps kd km kc s0 (noteHeader s) := by
  unfold noteHeader
  try dsimp only
  repeat' first | with_reducible assumption | with_reducible apply noteReads_keeps | with_reducible apply Keeps.foldl
                | with_reducible apply Keeps.elim | (intros; with_reducible assumption) | (intro x) | split
                | refine Keeps.lit rfl rfl rfl rfl rfl rfl rfl rfl ?_
                | refine Keeps.of_snd (by with_reducible assumption) ?_
                | refine Keeps.of_snd2 (by with_reducible assumption) ?_

theorem noteImage_keeps {s : State} (h : Keeps kd km kc s0 s) (slot : Nat) :
    Keeps kd km kc s0 (noteImage slot s) := by
  unfold noteImage
  try dsimp only
  repeat' first | with_reducible assumption | with_reducible apply noteReads_keeps | with_reducible apply Keeps.foldl
                | with_reducible apply Keeps.elim | (intros; with_reducible assumption) | (intro x) | split
                | refine Keeps.lit rfl rfl rfl rfl rfl rfl rfl rfl ?_
                | refine Keeps.of_snd (by with_reducible assumption) ?_
                | refine Keeps.of_snd2 (by with_reducible assumption) ?_

theorem writeBoot_keeps {s : State} (h : Keeps kd true kc s0 s) (f : Nat → BootRec) :
    Keeps kd true kc s0 (writeBoot f s) := by
  unfold writeBoot
  try dsimp only
  repeat' first | with_reducible assumption | with_reducible apply mramStore_keeps | with_reducible apply Keeps.foldl
                | with_reducible apply Keeps.elim | (intros; with_reducible assumption) | (intro x) | split
                | refine Keeps.lit rfl rfl rfl rfl rfl rfl rfl rfl ?_
                | refine Keeps.of_snd (by with_reducible assumption) ?_
                | refine Keeps.of_snd2 (by with_reducible assumption) ?_

theorem revertTo_keeps {s : State} (h : Keeps kd true kc s0 s) (slot : Nat) (b : BootRec) :
    Keeps kd true kc s0 (revertTo slot b s) := by
  unfold revertTo
  try dsimp only
  repeat' first | with_reducible assumption | with_reducible apply writeBoot_keeps | with_reducible apply Keeps.foldl
                | with_reducible apply Keeps.elim | (intros; with_reducible assumption) | (intro x) | split
                | refine Keeps.lit rfl rfl rfl rfl rfl rfl rfl rfl ?_
                | refine Keeps.of_snd (by with_reducible assumption) ?_
                | refine Keeps.of_snd2 (by with_reducible assumption) ?_

theorem noteCopies_keeps {s : State} (h : Keeps kd km kc s0 s)  :
    Keeps kd km kc s0 (noteCopies s) := by
  unfold noteCopies
  try dsimp only
  repeat' first | with_reducible assumption | with_reducible apply noteReads_keeps | with_reducible apply Keeps.foldl
                | with_reducible apply Keeps.elim | (intros; with_reducible assumption) | (intro x) | split
                | refine Keeps.lit rfl rfl rfl rfl rfl rfl rfl rfl ?_
                | refine Keeps.of_snd (by with_reducible assumption) ?_
                | refine Keeps.of_snd2 (by with_reducible assumption) ?_

theorem showSlots_keeps {s : State} (h : Keeps kd km kc s0 s)  :
    Keeps kd km kc s0 (showSlots s) := by
  unfold showSlots
  try dsimp only
  repeat' first | with_reducible assumption | with_reducible apply puts_keeps | with_reducible apply noteReads_keeps
                | with_reducible apply noteCopies_keeps | with_reducible apply Keeps.foldl
                | with_reducible apply Keeps.elim | (intros; with_reducible assumption) | (intro x) | split
                | refine Keeps.lit rfl rfl rfl rfl rfl rfl rfl rfl ?_
                | refine Keeps.of_snd (by with_reducible assumption) ?_
                | refine Keeps.of_snd2 (by with_reducible assumption) ?_

theorem showImage_keeps {s : State} (h : Keeps kd km kc s0 s) (slot : Nat) :
    Keeps kd km kc s0 (showImage slot s) := by
  unfold showImage
  try dsimp only
  repeat' first | with_reducible assumption | with_reducible apply puts_keeps | with_reducible apply noteReads_keeps
                | with_reducible apply Keeps.foldl | with_reducible apply Keeps.elim
                | (intros; with_reducible assumption) | (intro x) | split
                | refine Keeps.lit rfl rfl rfl rfl rfl rfl rfl rfl ?_
                | refine Keeps.of_snd (by with_reducible assumption) ?_
                | refine Keeps.of_snd2 (by with_reducible assumption) ?_

theorem versionAnswer_keeps {s : State} (h : Keeps kd km kc s0 s)  :
    Keeps kd km kc s0 (versionAnswer s).2 := by
  unfold versionAnswer
  try dsimp only
  repeat' first | with_reducible assumption | with_reducible apply noteHeader_keeps | with_reducible apply Keeps.foldl
                | with_reducible apply Keeps.elim | (intros; with_reducible assumption) | (intro x) | split
                | refine Keeps.lit rfl rfl rfl rfl rfl rfl rfl rfl ?_
                | refine Keeps.of_snd (by with_reducible assumption) ?_
                | refine Keeps.of_snd2 (by with_reducible assumption) ?_

theorem setBoot_keeps {s : State} (h : Keeps kd km kc s0 s) (code : Nat) (detail : Nat) :
    Keeps kd km kc s0 (setBoot code detail s) := by
  unfold setBoot
  try dsimp only
  repeat' first | with_reducible assumption | with_reducible apply puts_keeps | with_reducible apply Keeps.foldl
                | with_reducible apply Keeps.elim | (intros; with_reducible assumption) | (intro x) | split
                | refine Keeps.lit rfl rfl rfl rfl rfl rfl rfl rfl ?_
                | refine Keeps.of_snd (by with_reducible assumption) ?_
                | refine Keeps.of_snd2 (by with_reducible assumption) ?_

theorem bootRecover_keeps {s : State} (h : Keeps kd km kc s0 s) (code : Nat) (detail : Nat) :
    Keeps kd km kc s0 (bootRecover code detail s) := by
  unfold bootRecover
  try dsimp only
  repeat' first | with_reducible assumption | with_reducible apply puts_keeps | with_reducible apply setBoot_keeps
                | with_reducible apply Keeps.foldl | with_reducible apply Keeps.elim
                | (intros; with_reducible assumption) | (intro x) | split
                | refine Keeps.lit rfl rfl rfl rfl rfl rfl rfl rfl ?_
                | refine Keeps.of_snd (by with_reducible assumption) ?_
                | refine Keeps.of_snd2 (by with_reducible assumption) ?_

theorem bootVerify_keeps {s : State} (h : Keeps kd km kc s0 s) (slot : Nat) (second : Bool) :
    Keeps kd km kc s0 (bootVerify slot second s) := by
  unfold bootVerify
  try dsimp only
  repeat' first | with_reducible assumption | with_reducible apply setBoot_keeps | with_reducible apply Keeps.foldl
                | with_reducible apply Keeps.elim | (intros; with_reducible assumption) | (intro x) | split
                | refine Keeps.lit rfl rfl rfl rfl rfl rfl rfl rfl ?_
                | refine Keeps.of_snd (by with_reducible assumption) ?_
                | refine Keeps.of_snd2 (by with_reducible assumption) ?_

theorem chooseSlot_keeps {s : State} (h : Keeps kd true kc s0 s) (b : BootRec) :
    Keeps kd true kc s0 (chooseSlot b s) := by
  unfold chooseSlot
  try dsimp only
  repeat' first | with_reducible assumption | with_reducible apply writeBoot_keeps
                | with_reducible apply revertTo_keeps | with_reducible apply bootVerify_keeps
                | with_reducible apply Keeps.foldl | with_reducible apply Keeps.elim
                | (intros; with_reducible assumption) | (intro x) | split
                | refine Keeps.lit rfl rfl rfl rfl rfl rfl rfl rfl ?_
                | refine Keeps.of_snd (by with_reducible assumption) ?_
                | refine Keeps.of_snd2 (by with_reducible assumption) ?_

theorem bootRecordSelectEff_keeps {s : State} (h : Keeps kd true kc s0 s)  :
    Keeps kd true kc s0 (bootRecordSelectEff s) := by
  unfold bootRecordSelectEff
  try dsimp only
  repeat' first | with_reducible assumption | with_reducible apply noteReads_keeps
                | with_reducible apply noteCopies_keeps | with_reducible apply bootRecover_keeps
                | with_reducible apply chooseSlot_keeps | with_reducible apply Keeps.foldl
                | with_reducible apply Keeps.elim | (intros; with_reducible assumption) | (intro x) | split
                | refine Keeps.lit rfl rfl rfl rfl rfl rfl rfl rfl ?_
                | refine Keeps.of_snd (by with_reducible assumption) ?_
                | refine Keeps.of_snd2 (by with_reducible assumption) ?_

theorem utiliorStart_keeps {s : State} (h : Keeps kd true kc s0 s) (factoryOk : Bool) :
    Keeps kd true kc s0 (utiliorStart factoryOk s) := by
  unfold utiliorStart
  try dsimp only
  repeat' first | with_reducible assumption | with_reducible apply noteReads_keeps
                | with_reducible apply revertTo_keeps | with_reducible apply noteCopies_keeps
                | with_reducible apply setBoot_keeps | with_reducible apply Keeps.foldl
                | with_reducible apply Keeps.elim | (intros; with_reducible assumption) | (intro x) | split
                | refine Keeps.lit rfl rfl rfl rfl rfl rfl rfl rfl ?_
                | refine Keeps.of_snd (by with_reducible assumption) ?_
                | refine Keeps.of_snd2 (by with_reducible assumption) ?_

theorem bootVerifyDoneEff_keeps {s : State} (h : Keeps kd true kc s0 s) (factoryOk : Bool) :
    Keeps kd true kc s0 (bootVerifyDoneEff factoryOk s) := by
  unfold bootVerifyDoneEff
  try dsimp only
  repeat' first | with_reducible assumption | with_reducible apply noteImage_keeps
                | with_reducible apply bootRecover_keeps | with_reducible apply bootVerify_keeps
                | with_reducible apply utiliorStart_keeps | with_reducible apply Keeps.foldl
                | with_reducible apply Keeps.elim | (intros; with_reducible assumption) | (intro x) | split
                | refine Keeps.lit rfl rfl rfl rfl rfl rfl rfl rfl ?_
                | refine Keeps.of_snd (by with_reducible assumption) ?_
                | refine Keeps.of_snd2 (by with_reducible assumption) ?_

/-! ### Machine/Journal.lean -/

theorem noteJournal_keeps {s : State} (h : Keeps kd km kc s0 s)  :
    Keeps kd km kc s0 (noteJournal s) := by
  unfold noteJournal
  try dsimp only
  repeat' first | with_reducible assumption | with_reducible apply noteReads_keeps | with_reducible apply Keeps.foldl
                | with_reducible apply Keeps.elim | (intros; with_reducible assumption) | (intro x) | split
                | refine Keeps.lit rfl rfl rfl rfl rfl rfl rfl rfl ?_
                | refine Keeps.of_snd (by with_reducible assumption) ?_
                | refine Keeps.of_snd2 (by with_reducible assumption) ?_

theorem showJournal_keeps {s : State} (h : Keeps kd km kc s0 s) (head : Nat) :
    Keeps kd km kc s0 (showJournal head s) := by
  unfold showJournal
  try dsimp only
  repeat' first | with_reducible assumption | with_reducible apply put_keeps | with_reducible apply puts_keeps
                | with_reducible apply Keeps.foldl | with_reducible apply Keeps.elim
                | (intros; with_reducible assumption) | (intro x) | split
                | refine Keeps.lit rfl rfl rfl rfl rfl rfl rfl rfl ?_
                | refine Keeps.of_snd (by with_reducible assumption) ?_
                | refine Keeps.of_snd2 (by with_reducible assumption) ?_

theorem openSeg_keeps {s : State} (h : Keeps kd true kc s0 s) (g : Nat) :
    Keeps kd true kc s0 (openSeg g s) := by
  unfold openSeg
  try dsimp only
  repeat' first | with_reducible assumption | with_reducible apply mramStore_keeps | with_reducible apply Keeps.foldl
                | with_reducible apply Keeps.elim | (intros; with_reducible assumption) | (intro x) | split
                | refine Keeps.lit rfl rfl rfl rfl rfl rfl rfl rfl ?_
                | refine Keeps.of_snd (by with_reducible assumption) ?_
                | refine Keeps.of_snd2 (by with_reducible assumption) ?_

theorem makeRoom_keeps {s t : State} {n l : Nat} (e : makeRoom l s = some (n, t)) (h : Keeps kd true kc s0 s) :
    Keeps kd true kc s0 t := by
  unfold makeRoom at e
  dsimp only at e
  generalize (if s.get UPD.STS_STATE = 5 ∧ some (headLine s) = Option.map (fun x => x.cline) (newerCopy s) then
    headLine s + 1 else headLine s) = x at e
  split at e
  · cases e; exact h
  · split at e
    · cases e; exact h
    · cases e; exact openSeg_keeps h _
    · cases e

theorem putRec_keeps {s : State} (h : Keeps kd true kc s0 s) (line : Nat) (typ : Nat) (schema : Nat) (key : Nat) (vlen : Nat) (value : List Byte) :
    Keeps kd true kc s0 (putRec line typ schema key vlen value s) := by
  unfold putRec
  try dsimp only
  repeat' first | with_reducible assumption | with_reducible apply mramStore_keeps | with_reducible apply Keeps.foldl
                | with_reducible apply Keeps.elim | (intros; with_reducible assumption) | (intro x) | split
                | refine Keeps.lit rfl rfl rfl rfl rfl rfl rfl rfl ?_
                | refine Keeps.of_snd (by with_reducible assumption) ?_
                | refine Keeps.of_snd2 (by with_reducible assumption) ?_

theorem pushRec_keeps {s t : State} {typ schema key : Nat} {value : List Byte} (e : pushRec typ schema key value s = some t)
    (h : Keeps kd true kc s0 s) : Keeps kd true kc s0 t := by
  unfold pushRec at e
  dsimp only at e
  cases hr : makeRoom (linesOf typ value) s with
  | none => rw [hr] at e; cases e
  | some p => obtain ⟨l, u⟩ := p; rw [hr] at e; cases e; exact put_keeps (putRec_keeps (makeRoom_keeps hr h) _ _ _ _ _ _) _ _

theorem pushAll_keeps {rs : List JRec} {s t : State}
    (e : rs.foldl (fun t r => t.bind (pushRec 1 r.schema r.key r.value)) (some s) = some t) (h : Keeps kd true kc s0 s) :
    Keeps kd true kc s0 t := by
  induction rs generalizing s with
  | nil => cases e; exact h
  | cons r rs ih =>
    rw [List.foldl_cons, Option.bind_some] at e
    cases hp : pushRec 1 r.schema r.key r.value s with
    | some u => rw [hp] at e; exact ih e (pushRec_keeps hp h)
    | none =>
      rw [hp] at e
      have hn : rs.foldl (fun t r => t.bind (pushRec 1 r.schema r.key r.value)) none = none := by
        clear e ih; induction rs <;> simp_all
      rw [hn] at e; cases e
theorem compactSeg_keeps {s : State} (h : Keeps kd true kc s0 s) (g : Nat) : Keeps kd true kc s0 (compactSeg g s) := by
  unfold compactSeg
  dsimp only
  split
  · exact showJournal_keeps (mramStore_keeps (pushAll_keeps ‹_› h) _ _) _
  · exact h

theorem compactAll_keeps {s : State} (h : Keeps kd true kc s0 s) (n : Nat) : Keeps kd true kc s0 (compactAll n s) := by
  induction n generalizing s with
  | zero => exact h
  | succ n ih =>
    unfold compactAll
    split
    · exact h
    · split
      · exact ih (compactSeg_keeps h _)
      · exact h

theorem keepFree_keeps {s : State} (h : Keeps kd true kc s0 s) (lines : Nat) :
    Keeps kd true kc s0 (keepFree lines s) := by
  unfold keepFree
  try dsimp only
  repeat' first | with_reducible assumption | with_reducible apply compactAll_keeps | with_reducible apply Keeps.foldl
                | with_reducible apply Keeps.elim | (intros; with_reducible assumption) | (intro x) | split
                | refine Keeps.lit rfl rfl rfl rfl rfl rfl rfl rfl ?_
                | refine Keeps.of_snd (by with_reducible assumption) ?_
                | refine Keeps.of_snd2 (by with_reducible assumption) ?_

theorem appendRec_keeps {s : State} (h : Keeps kd true kc s0 s) (typ schema key : Nat) (value : List Byte) :
    Keeps kd true kc s0 (appendRec typ schema key value s) := by
  unfold appendRec
  cases e : pushRec typ schema key value (keepFree (linesOf typ value) s) with
  | some t => exact pushRec_keeps e (keepFree_keeps h _)
  | none => exact h

theorem appendSetting_keeps {s : State} (h : Keeps kd true kc s0 s) (key : Nat) (v : Option (List Byte)) :
    Keeps kd true kc s0 (appendSetting key v s) := by
  unfold appendSetting
  try dsimp only
  repeat' first | with_reducible assumption | with_reducible apply appendRec_keeps | with_reducible apply Keeps.foldl
                | with_reducible apply Keeps.elim | (intros; with_reducible assumption) | (intro x) | split
                | refine Keeps.lit rfl rfl rfl rfl rfl rfl rfl rfl ?_
                | refine Keeps.of_snd (by with_reducible assumption) ?_
                | refine Keeps.of_snd2 (by with_reducible assumption) ?_

theorem noteDefaults_keeps {s : State} (h : Keeps kd km kc s0 s)  :
    Keeps kd km kc s0 (noteDefaults s) := by
  unfold noteDefaults
  try dsimp only
  repeat' first | with_reducible assumption | with_reducible apply noteReads_keeps | with_reducible apply Keeps.foldl
                | with_reducible apply Keeps.elim | (intros; with_reducible assumption) | (intro x) | split
                | refine Keeps.lit rfl rfl rfl rfl rfl rfl rfl rfl ?_
                | refine Keeps.of_snd (by with_reducible assumption) ?_
                | refine Keeps.of_snd2 (by with_reducible assumption) ?_

theorem noteSettings_keeps {s : State} (h : Keeps kd km kc s0 s)  :
    Keeps kd km kc s0 (noteSettings s) := by
  unfold noteSettings
  try dsimp only
  repeat' first | with_reducible assumption | with_reducible apply answer_keeps
                | with_reducible apply noteHeader_keeps | with_reducible apply noteJournal_keeps
                | with_reducible apply Keeps.foldl | with_reducible apply Keeps.elim
                | (intros; with_reducible assumption) | (intro x) | split
                | refine Keeps.lit rfl rfl rfl rfl rfl rfl rfl rfl ?_
                | refine Keeps.of_snd (by with_reducible assumption) ?_
                | refine Keeps.of_snd2 (by with_reducible assumption) ?_

theorem setReadAnswer_keeps {s : State} (h : Keeps kd km kc s0 s)  :
    Keeps kd km kc s0 (setReadAnswer s).2 := by
  unfold setReadAnswer
  try dsimp only
  repeat' first | with_reducible assumption | with_reducible apply noteDefaults_keeps
                | with_reducible apply noteSettings_keeps | with_reducible apply Keeps.foldl
                | with_reducible apply Keeps.elim | (intros; with_reducible assumption) | (intro x) | split
                | refine Keeps.lit rfl rfl rfl rfl rfl rfl rfl rfl ?_
                | refine Keeps.of_snd (by with_reducible assumption) ?_
                | refine Keeps.of_snd2 (by with_reducible assumption) ?_

theorem refuseSetting_keeps {s : State} (h : Keeps kd km kc s0 s)  :
    Keeps kd km kc s0 (refuseSetting s).2 := by
  unfold refuseSetting
  try dsimp only
  repeat' first | with_reducible assumption | with_reducible apply store_keeps | with_reducible apply recErr_keeps
                | with_reducible apply Keeps.foldl | with_reducible apply Keeps.elim
                | (intros; with_reducible assumption) | (intro x) | split
                | refine Keeps.lit rfl rfl rfl rfl rfl rfl rfl rfl ?_
                | refine Keeps.of_snd (by with_reducible assumption) ?_
                | refine Keeps.of_snd2 (by with_reducible assumption) ?_

theorem stageSetting_keeps {s : State} (h : Keeps kd km kc s0 s) (key : Nat) (v : Option (List Byte)) :
    Keeps kd km kc s0 (stageSetting key v s).2 := by
  unfold stageSetting
  try dsimp only
  repeat' first | with_reducible assumption | with_reducible apply put_keeps
                | with_reducible apply refuseSetting_keeps | with_reducible apply Keeps.foldl
                | with_reducible apply Keeps.elim | (intros; with_reducible assumption) | (intro x) | split
                | refine Keeps.lit rfl rfl rfl rfl rfl rfl rfl rfl ?_
                | refine Keeps.of_snd (by with_reducible assumption) ?_
                | refine Keeps.of_snd2 (by with_reducible assumption) ?_

theorem unstage_keeps {s : State} (h : Keeps kd km kc s0 s) (key : Nat) :
    Keeps kd km kc s0 (unstage key s) := by
  unfold unstage
  try dsimp only
  repeat' first | with_reducible assumption | with_reducible apply when_keeps | with_reducible apply Keeps.foldl
                | with_reducible apply Keeps.elim | (intros; with_reducible assumption) | (intro x) | split
                | refine Keeps.lit rfl rfl rfl rfl rfl rfl rfl rfl ?_
                | refine Keeps.of_snd (by with_reducible assumption) ?_
                | refine Keeps.of_snd2 (by with_reducible assumption) ?_

theorem settingChanged_keeps {s : State} (h : Keeps kd true kc s0 s) (key : Nat) (v : Option (List Byte)) :
    Keeps kd true kc s0 (settingChanged key v s).2 := by
  unfold settingChanged
  try dsimp only
  repeat' first | with_reducible assumption | with_reducible apply put_keeps | with_reducible apply showJournal_keeps
                | with_reducible apply appendSetting_keeps | with_reducible apply refuseSetting_keeps
                | with_reducible apply stageSetting_keeps | with_reducible apply unstage_keeps
                | with_reducible apply Keeps.foldl | with_reducible apply Keeps.elim
                | (intros; with_reducible assumption) | (intro x) | split
                | refine Keeps.lit rfl rfl rfl rfl rfl rfl rfl rfl ?_
                | refine Keeps.of_snd (by with_reducible assumption) ?_
                | refine Keeps.of_snd2 (by with_reducible assumption) ?_

theorem changeSetting_keeps {s : State} (h : Keeps kd true kc s0 s) (key : Nat) (v : Option (List Byte)) :
    Keeps kd true kc s0 (changeSetting key v s).2 := by
  unfold changeSetting
  try dsimp only
  repeat' first | with_reducible assumption | with_reducible apply noteSettings_keeps
                | with_reducible apply settingChanged_keeps | with_reducible apply Keeps.foldl
                | with_reducible apply Keeps.elim | (intros; with_reducible assumption) | (intro x) | split
                | refine Keeps.lit rfl rfl rfl rfl rfl rfl rfl rfl ?_
                | refine Keeps.of_snd (by with_reducible assumption) ?_
                | refine Keeps.of_snd2 (by with_reducible assumption) ?_

theorem setWriteAnswer_keeps {s : State} (h : Keeps kd true kc s0 s)  :
    Keeps kd true kc s0 (setWriteAnswer s).2 := by
  unfold setWriteAnswer
  try dsimp only
  repeat' first | with_reducible assumption | with_reducible apply answer_keeps
                | with_reducible apply changeSetting_keeps | with_reducible apply Keeps.foldl
                | with_reducible apply Keeps.elim | (intros; with_reducible assumption) | (intro x) | split
                | refine Keeps.lit rfl rfl rfl rfl rfl rfl rfl rfl ?_
                | refine Keeps.of_snd (by with_reducible assumption) ?_
                | refine Keeps.of_snd2 (by with_reducible assumption) ?_

theorem setDeleteAnswer_keeps {s : State} (h : Keeps kd true kc s0 s)  :
    Keeps kd true kc s0 (setDeleteAnswer s).2 := by
  unfold setDeleteAnswer
  try dsimp only
  repeat' first | with_reducible assumption | with_reducible apply changeSetting_keeps
                | with_reducible apply Keeps.foldl | with_reducible apply Keeps.elim
                | (intros; with_reducible assumption) | (intro x) | split
                | refine Keeps.lit rfl rfl rfl rfl rfl rfl rfl rfl ?_
                | refine Keeps.of_snd (by with_reducible assumption) ?_
                | refine Keeps.of_snd2 (by with_reducible assumption) ?_

theorem setResetAnswer_keeps {s : State} (h : Keeps kd true kc s0 s)  :
    Keeps kd true kc s0 (setResetAnswer s).2 := by
  unfold setResetAnswer
  try dsimp only
  repeat' first | with_reducible assumption | with_reducible apply put_keeps | with_reducible apply puts_keeps
                | with_reducible apply showJournal_keeps | refine makeRoom_keeps (by with_reducible assumption) ?_
                | with_reducible apply putRec_keeps | with_reducible apply noteSettings_keeps
                | with_reducible apply refuseSetting_keeps | with_reducible apply Keeps.foldl
                | with_reducible apply Keeps.elim | (intros; with_reducible assumption) | (intro x) | split
                | refine Keeps.lit rfl rfl rfl rfl rfl rfl rfl rfl ?_
                | refine Keeps.of_snd (by with_reducible assumption) ?_
                | refine Keeps.of_snd2 (by with_reducible assumption) ?_

theorem journalCompactionEff_keeps {s : State} (h : Keeps kd true kc s0 s)  :
    Keeps kd true kc s0 (journalCompactionEff s) := by
  unfold journalCompactionEff
  try dsimp only
  repeat' first | with_reducible assumption | with_reducible apply noteJournal_keeps
                | with_reducible apply compactSeg_keeps | with_reducible apply Keeps.foldl
                | with_reducible apply Keeps.elim | (intros; with_reducible assumption) | (intro x) | split
                | refine Keeps.lit rfl rfl rfl rfl rfl rfl rfl rfl ?_
                | refine Keeps.of_snd (by with_reducible assumption) ?_
                | refine Keeps.of_snd2 (by with_reducible assumption) ?_

theorem raiseSvn_keeps {s : State} (h : Keeps kd km kc s0 s) (n : Nat) : Keeps kd km kc s0 (raiseSvn n s) := by
  unfold raiseSvn; split
  · exact h
  split
  · exact stopWrites_keeps h
  · exact ⟨h.pending, h.keyHash, Nat.le_trans h.svn (Nat.le_max_left _ _), h.dramWf, h.mramWf, h.regs, h.act, h.dram, h.mram, h.mtime⟩

theorem finishConfirm_keeps {s : State} (h : Keeps kd true kc s0 s) (b : BootRec) :
    Keeps kd true kc s0 (finishConfirm b s) := by
  unfold finishConfirm
  try dsimp only
  repeat' first | with_reducible assumption | with_reducible apply writeBoot_keeps
                | with_reducible apply noteCopies_keeps | with_reducible apply raiseSvn_keeps
                | with_reducible apply Keeps.foldl | with_reducible apply Keeps.elim
                | (intros; with_reducible assumption) | (intro x) | split
                | refine Keeps.lit rfl rfl rfl rfl rfl rfl rfl rfl ?_
                | refine Keeps.of_snd (by with_reducible assumption) ?_
                | refine Keeps.of_snd2 (by with_reducible assumption) ?_

theorem resumeConfirm_keeps {s : State} (h : Keeps kd true kc s0 s)  :
    Keeps kd true kc s0 (resumeConfirm s) := by
  unfold resumeConfirm
  try dsimp only
  repeat' first | with_reducible assumption | with_reducible apply finishConfirm_keeps
                | with_reducible apply Keeps.foldl | with_reducible apply Keeps.elim
                | (intros; with_reducible assumption) | (intro x) | split
                | refine Keeps.lit rfl rfl rfl rfl rfl rfl rfl rfl ?_
                | refine Keeps.of_snd (by with_reducible assumption) ?_
                | refine Keeps.of_snd2 (by with_reducible assumption) ?_

theorem writeMigrated_keeps {s : State} (h : Keeps kd true kc s0 s)  :
    Keeps kd true kc s0 (writeMigrated s) := by
  unfold writeMigrated
  try dsimp only
  repeat' first | with_reducible assumption | with_reducible apply appendSetting_keeps
                | with_reducible apply Keeps.foldl | with_reducible apply Keeps.elim
                | (intros; with_reducible assumption) | (intro x) | split
                | refine Keeps.lit rfl rfl rfl rfl rfl rfl rfl rfl ?_
                | refine Keeps.of_snd (by with_reducible assumption) ?_
                | refine Keeps.of_snd2 (by with_reducible assumption) ?_

theorem findHead_keeps {s : State} (h : Keeps kd km kc s0 s)  :
    Keeps kd km kc s0 (findHead s) := by
  unfold findHead
  try dsimp only
  repeat' first | with_reducible assumption | with_reducible apply put_keeps | with_reducible apply Keeps.foldl
                | with_reducible apply Keeps.elim | (intros; with_reducible assumption) | (intro x) | split
                | refine Keeps.lit rfl rfl rfl rfl rfl rfl rfl rfl ?_
                | refine Keeps.of_snd (by with_reducible assumption) ?_
                | refine Keeps.of_snd2 (by with_reducible assumption) ?_

theorem scanStates_keeps {s : State} (h : Keeps kd km kc s0 s)  :
    Keeps kd km kc s0 (scanStates s) := by
  unfold scanStates
  try dsimp only
  repeat' first | with_reducible assumption | with_reducible apply put_keeps | with_reducible apply puts_keeps
                | with_reducible apply showSlots_keeps | with_reducible apply showImage_keeps
                | with_reducible apply Keeps.foldl | with_reducible apply Keeps.elim
                | (intros; with_reducible assumption) | (intro x) | split
                | refine Keeps.lit rfl rfl rfl rfl rfl rfl rfl rfl ?_
                | refine Keeps.of_snd (by with_reducible assumption) ?_
                | refine Keeps.of_snd2 (by with_reducible assumption) ?_

theorem journalScanEff_keeps {s : State} (h : Keeps kd true kc s0 s)  :
    Keeps kd true kc s0 (journalScanEff s) := by
  unfold journalScanEff
  try dsimp only
  repeat' first | with_reducible assumption | with_reducible apply setBoot_keeps
                | with_reducible apply showJournal_keeps | with_reducible apply noteSettings_keeps
                | with_reducible apply resumeConfirm_keeps | with_reducible apply writeMigrated_keeps
                | with_reducible apply findHead_keeps | with_reducible apply scanStates_keeps
                | with_reducible apply Keeps.foldl | with_reducible apply Keeps.elim
                | (intros; with_reducible assumption) | (intro x) | split
                | refine Keeps.lit rfl rfl rfl rfl rfl rfl rfl rfl ?_
                | refine Keeps.of_snd (by with_reducible assumption) ?_
                | refine Keeps.of_snd2 (by with_reducible assumption) ?_

/-! ### Machine/Update.lean -/

theorem updGate_keeps {f : State → State} {s : State} (hf : ∀ t, Keeps kd km kc s0 t → Keeps kd km kc s0 (f t))
    (h : Keeps kd km kc s0 s) (op : Nat) : Keeps kd km kc s0 (updGate op f s) := by
  unfold updGate; split
  · exact hf _ h
  · exact recErr_keeps (put_keeps h _ _) _ _

theorem updDone_keeps {s : State} (h : Keeps kd km kc s0 s) (st : Nat) :
    Keeps kd km kc s0 (updDone st s) := by
  unfold updDone
  try dsimp only
  repeat' first | with_reducible assumption | with_reducible apply puts_keeps | with_reducible apply Keeps.foldl
                | with_reducible apply Keeps.elim | (intros; with_reducible assumption) | (intro x) | split
                | refine Keeps.lit rfl rfl rfl rfl rfl rfl rfl rfl ?_
                | refine Keeps.of_snd (by with_reducible assumption) ?_
                | refine Keeps.of_snd2 (by with_reducible assumption) ?_

theorem startWork_keeps {s : State} (h : Keeps kd km kc s0 s) (op : Nat) (cut : Option StoreCut) :
    Keeps kd km kc s0 (startWork op cut s) := by
  unfold startWork
  try dsimp only
  repeat' first | with_reducible assumption | with_reducible apply puts_keeps | with_reducible apply Keeps.foldl
                | with_reducible apply Keeps.elim | (intros; with_reducible assumption) | (intro x) | split
                | refine Keeps.lit rfl rfl rfl rfl rfl rfl rfl rfl ?_
                | refine Keeps.of_snd (by with_reducible assumption) ?_
                | refine Keeps.of_snd2 (by with_reducible assumption) ?_

theorem updStartAct_keeps {s : State} (h : Keeps kd true kc s0 s) : Keeps kd true kc s0 (updStartAct s) := by
  have h1 := mramStore_keeps (mramStore_keeps h (tagAddr (startTarget s)) (List.replicate 64 0)) (slotBase (startTarget s))
    (List.replicate 64 0)
  unfold updStartAct
  generalize List.replicate 64 (0 : Byte) = z at h1 ⊢
  refine showSlots_keeps (updDone_keeps (puts_keeps ?_ _) _)
  exact Keeps.lit rfl rfl rfl rfl rfl rfl rfl rfl (setFifo_keeps h1 _ _)

theorem updStartEff_keeps {s : State} (h : Keeps kd true kc s0 s)  :
    Keeps kd true kc s0 (updStartEff s) := by
  unfold updStartEff
  try dsimp only
  repeat' first | with_reducible assumption | with_reducible apply updGate_keeps
                | with_reducible apply updStartAct_keeps | with_reducible apply Keeps.foldl
                | with_reducible apply Keeps.elim | (intros; with_reducible assumption) | (intro x) | split
                | refine Keeps.lit rfl rfl rfl rfl rfl rfl rfl rfl ?_
                | refine Keeps.of_snd (by with_reducible assumption) ?_
                | refine Keeps.of_snd2 (by with_reducible assumption) ?_

theorem updAbortEff_keeps {s : State} (h : Keeps kd true kc s0 s)  :
    Keeps kd true kc s0 (updAbortEff s) := by
  unfold updAbortEff
  try dsimp only
  repeat' first | with_reducible assumption | with_reducible apply put_keeps | with_reducible apply mramStore_keeps
                | with_reducible apply showSlots_keeps | with_reducible apply updGate_keeps
                | with_reducible apply Keeps.foldl | with_reducible apply Keeps.elim
                | (intros; with_reducible assumption) | (intro x) | split
                | refine Keeps.lit rfl rfl rfl rfl rfl rfl rfl rfl ?_
                | refine Keeps.of_snd (by with_reducible assumption) ?_
                | refine Keeps.of_snd2 (by with_reducible assumption) ?_

theorem updVerifyEff_keeps {s : State} (h : Keeps kd km kc s0 s)  :
    Keeps kd km kc s0 (updVerifyEff s) := by
  unfold updVerifyEff
  try dsimp only
  repeat' first | with_reducible assumption | with_reducible apply puts_keeps | with_reducible apply updGate_keeps
                | with_reducible apply Keeps.foldl | with_reducible apply Keeps.elim
                | (intros; with_reducible assumption) | (intro x) | split
                | refine Keeps.lit rfl rfl rfl rfl rfl rfl rfl rfl ?_
                | refine Keeps.of_snd (by with_reducible assumption) ?_
                | refine Keeps.of_snd2 (by with_reducible assumption) ?_

theorem recoveryCopies_keeps {s : State} (h : Keeps kd true kc s0 s)  :
    Keeps kd true kc s0 (recoveryCopies s) := by
  unfold recoveryCopies
  try dsimp only
  repeat' first | with_reducible assumption | with_reducible apply mramStore_keeps
                | with_reducible apply noteCopies_keeps | with_reducible apply Keeps.foldl
                | with_reducible apply Keeps.elim | (intros; with_reducible assumption) | (intro x) | split
                | refine Keeps.lit rfl rfl rfl rfl rfl rfl rfl rfl ?_
                | refine Keeps.of_snd (by with_reducible assumption) ?_
                | refine Keeps.of_snd2 (by with_reducible assumption) ?_

theorem armHead_keeps {s : State} (h : Keeps kd true kc s0 s)  :
    Keeps kd true kc s0 (armHead s) := by
  unfold armHead
  try dsimp only
  repeat' first | with_reducible assumption | with_reducible apply put_keeps
                | refine makeRoom_keeps (by with_reducible assumption) ?_ | with_reducible apply Keeps.foldl
                | with_reducible apply Keeps.elim | (intros; with_reducible assumption) | (intro x) | split
                | refine Keeps.lit rfl rfl rfl rfl rfl rfl rfl rfl ?_
                | refine Keeps.of_snd (by with_reducible assumption) ?_
                | refine Keeps.of_snd2 (by with_reducible assumption) ?_

theorem armCopy_keeps {s : State} (h : Keeps kd true kc s0 s)  :
    Keeps kd true kc s0 (armCopy s) := by
  unfold armCopy
  try dsimp only
  repeat' first | with_reducible assumption | with_reducible apply writeBoot_keeps
                | with_reducible apply noteCopies_keeps | with_reducible apply noteJournal_keeps
                | with_reducible apply showJournal_keeps | with_reducible apply armHead_keeps
                | with_reducible apply Keeps.foldl | with_reducible apply Keeps.elim
                | (intros; with_reducible assumption) | (intro x) | split
                | refine Keeps.lit rfl rfl rfl rfl rfl rfl rfl rfl ?_
                | refine Keeps.of_snd (by with_reducible assumption) ?_
                | refine Keeps.of_snd2 (by with_reducible assumption) ?_

theorem updArmEff_keeps {s : State} (h : Keeps kd km kc s0 s) (cut : Option StoreCut) :
    Keeps kd km kc s0 (updArmEff cut s) := by
  unfold updArmEff
  try dsimp only
  repeat' first | with_reducible assumption | with_reducible apply updGate_keeps
                | with_reducible apply startWork_keeps | with_reducible apply Keeps.foldl
                | with_reducible apply Keeps.elim | (intros; with_reducible assumption) | (intro x) | split
                | refine Keeps.lit rfl rfl rfl rfl rfl rfl rfl rfl ?_
                | refine Keeps.of_snd (by with_reducible assumption) ?_
                | refine Keeps.of_snd2 (by with_reducible assumption) ?_

theorem armDone_keeps {s : State} (h : Keeps kd true kc s0 s)  :
    Keeps kd true kc s0 (armDone s) := by
  unfold armDone
  try dsimp only
  repeat' first | with_reducible assumption | with_reducible apply showSlots_keeps
                | with_reducible apply updDone_keeps | with_reducible apply recoveryCopies_keeps
                | with_reducible apply armCopy_keeps | with_reducible apply Keeps.foldl
                | with_reducible apply Keeps.elim | (intros; with_reducible assumption) | (intro x) | split
                | refine Keeps.lit rfl rfl rfl rfl rfl rfl rfl rfl ?_
                | refine Keeps.of_snd (by with_reducible assumption) ?_
                | refine Keeps.of_snd2 (by with_reducible assumption) ?_

theorem confirmRecords_keeps {s : State} (h : Keeps kd true kc s0 s) (b : BootRec) :
    Keeps kd true kc s0 (confirmRecords b s) := by
  unfold confirmRecords
  try dsimp only
  repeat' first | with_reducible assumption | with_reducible apply put_keeps | with_reducible apply putRec_keeps
                | with_reducible apply appendSetting_keeps | with_reducible apply noteSettings_keeps
                | with_reducible apply Keeps.foldl | with_reducible apply Keeps.elim
                | (intros; with_reducible assumption) | (intro x) | split
                | refine Keeps.lit rfl rfl rfl rfl rfl rfl rfl rfl ?_
                | refine Keeps.of_snd (by with_reducible assumption) ?_
                | refine Keeps.of_snd2 (by with_reducible assumption) ?_

theorem confirmDone_keeps {s : State} (h : Keeps kd true kc s0 s)  :
    Keeps kd true kc s0 (confirmDone s) := by
  unfold confirmDone
  try dsimp only
  repeat' first | with_reducible assumption | with_reducible apply put_keeps | with_reducible apply showSlots_keeps
                | with_reducible apply showJournal_keeps | with_reducible apply finishConfirm_keeps
                | with_reducible apply updDone_keeps | with_reducible apply confirmRecords_keeps
                | with_reducible apply Keeps.foldl | with_reducible apply Keeps.elim
                | (intros; with_reducible assumption) | (intro x) | split
                | refine Keeps.lit rfl rfl rfl rfl rfl rfl rfl rfl ?_
                | refine Keeps.of_snd (by with_reducible assumption) ?_
                | refine Keeps.of_snd2 (by with_reducible assumption) ?_

theorem updConfirmEff_keeps {s : State} (h : Keeps kd km kc s0 s) (cut : Option StoreCut) :
    Keeps kd km kc s0 (updConfirmEff cut s) := by
  unfold updConfirmEff
  try dsimp only
  repeat' first | with_reducible assumption | with_reducible apply updGate_keeps
                | with_reducible apply startWork_keeps | with_reducible apply Keeps.foldl
                | with_reducible apply Keeps.elim | (intros; with_reducible assumption) | (intro x) | split
                | refine Keeps.lit rfl rfl rfl rfl rfl rfl rfl rfl ?_
                | refine Keeps.of_snd (by with_reducible assumption) ?_
                | refine Keeps.of_snd2 (by with_reducible assumption) ?_

theorem revertDone_keeps {s : State} (h : Keeps kd true kc s0 s)  :
    Keeps kd true kc s0 (revertDone s) := by
  unfold revertDone
  try dsimp only
  repeat' first | with_reducible assumption | with_reducible apply revertTo_keeps
                | with_reducible apply noteCopies_keeps | with_reducible apply showSlots_keeps
                | with_reducible apply updDone_keeps | with_reducible apply Keeps.foldl
                | with_reducible apply Keeps.elim | (intros; with_reducible assumption) | (intro x) | split
                | refine Keeps.lit rfl rfl rfl rfl rfl rfl rfl rfl ?_
                | refine Keeps.of_snd (by with_reducible assumption) ?_
                | refine Keeps.of_snd2 (by with_reducible assumption) ?_

theorem updRevertEff_keeps {s : State} (h : Keeps kd km kc s0 s) (cut : Option StoreCut) :
    Keeps kd km kc s0 (updRevertEff cut s) := by
  unfold updRevertEff
  try dsimp only
  repeat' first | with_reducible assumption | with_reducible apply updGate_keeps
                | with_reducible apply startWork_keeps | with_reducible apply Keeps.foldl
                | with_reducible apply Keeps.elim | (intros; with_reducible assumption) | (intro x) | split
                | refine Keeps.lit rfl rfl rfl rfl rfl rfl rfl rfl ?_
                | refine Keeps.of_snd (by with_reducible assumption) ?_
                | refine Keeps.of_snd2 (by with_reducible assumption) ?_

theorem workDone_keeps {s : State} (h : Keeps kd true kc s0 s) (op : Nat) :
    Keeps kd true kc s0 (workDone op s) := by
  unfold workDone
  try dsimp only
  repeat' first | with_reducible assumption | with_reducible apply puts_keeps | with_reducible apply armDone_keeps
                | with_reducible apply confirmDone_keeps | with_reducible apply revertDone_keeps
                | with_reducible apply Keeps.foldl | with_reducible apply Keeps.elim
                | (intros; with_reducible assumption) | (intro x) | split
                | refine Keeps.lit rfl rfl rfl rfl rfl rfl rfl rfl ?_
                | refine Keeps.of_snd (by with_reducible assumption) ?_
                | refine Keeps.of_snd2 (by with_reducible assumption) ?_

theorem finishWork_keeps {s : State} (h : Keeps true true true s0 s)  :
    Keeps true true true s0 (finishWork s) := by
  unfold finishWork
  try dsimp only
  repeat' first | with_reducible assumption | with_reducible apply withStore_keeps
                | with_reducible apply workDone_keeps | with_reducible apply Keeps.foldl
                | with_reducible apply Keeps.elim | (intros; with_reducible assumption) | (intro x) | split
                | refine Keeps.lit rfl rfl rfl rfl rfl rfl rfl rfl ?_
                | refine Keeps.of_snd (by with_reducible assumption) ?_
                | refine Keeps.of_snd2 (by with_reducible assumption) ?_

theorem writeUpdCmd_keeps {s : State} (h : Keeps kd true kc s0 s) (d : W32) :
    Keeps kd true kc s0 (writeUpdCmd d s) := by
  unfold writeUpdCmd
  try dsimp only
  repeat' first | with_reducible assumption | with_reducible apply recErr_keeps | with_reducible apply updGate_keeps
                | with_reducible apply updStartEff_keeps | with_reducible apply updAbortEff_keeps
                | with_reducible apply updVerifyEff_keeps | with_reducible apply updArmEff_keeps
                | with_reducible apply updConfirmEff_keeps | with_reducible apply updRevertEff_keeps
                | with_reducible apply Keeps.foldl | with_reducible apply Keeps.elim
                | (intros; with_reducible assumption) | (intro x) | split
                | refine Keeps.lit rfl rfl rfl rfl rfl rfl rfl rfl ?_
                | refine Keeps.of_snd (by with_reducible assumption) ?_
                | refine Keeps.of_snd2 (by with_reducible assumption) ?_

theorem discardChunk_keeps {s : State} (h : Keeps kd km kc s0 s)  :
    Keeps kd km kc s0 (discardChunk s) := by
  unfold discardChunk
  try dsimp only
  repeat' first | with_reducible assumption | with_reducible apply put_keeps | with_reducible apply recErr_keeps
                | with_reducible apply Keeps.foldl | with_reducible apply Keeps.elim
                | (intros; with_reducible assumption) | (intro x) | split
                | refine Keeps.lit rfl rfl rfl rfl rfl rfl rfl rfl ?_
                | refine Keeps.of_snd (by with_reducible assumption) ?_
                | refine Keeps.of_snd2 (by with_reducible assumption) ?_

theorem imageDone_keeps {s : State} (h : Keeps kd true kc s0 s)  :
    Keeps kd true kc s0 (imageDone s) := by
  unfold imageDone
  try dsimp only
  repeat' first | with_reducible assumption | with_reducible apply puts_keeps | with_reducible apply mramStore_keeps
                | with_reducible apply showSlots_keeps | with_reducible apply showImage_keeps
                | with_reducible apply Keeps.foldl | with_reducible apply Keeps.elim
                | (intros; with_reducible assumption) | (intro x) | split
                | refine Keeps.lit rfl rfl rfl rfl rfl rfl rfl rfl ?_
                | refine Keeps.of_snd (by with_reducible assumption) ?_
                | refine Keeps.of_snd2 (by with_reducible assumption) ?_

theorem writeChunk_keeps {s : State} (h : Keeps kd true kc s0 s) (bs : List Byte) :
    Keeps kd true kc s0 (writeChunk bs s) := by
  unfold writeChunk
  try dsimp only
  repeat' first | with_reducible assumption | with_reducible apply put_keeps | with_reducible apply mramStore_keeps
                | with_reducible apply imageDone_keeps | with_reducible apply Keeps.foldl
                | with_reducible apply Keeps.elim | (intros; with_reducible assumption) | (intro x) | split
                | refine Keeps.lit rfl rfl rfl rfl rfl rfl rfl rfl ?_
                | refine Keeps.of_snd (by with_reducible assumption) ?_
                | refine Keeps.of_snd2 (by with_reducible assumption) ?_

theorem badHeader_keeps {s : State} (h : Keeps kd km kc s0 s) (code : Nat) :
    Keeps kd km kc s0 (badHeader code s) := by
  unfold badHeader
  try dsimp only
  repeat' first | with_reducible assumption | with_reducible apply puts_keeps | with_reducible apply Keeps.foldl
                | with_reducible apply Keeps.elim | (intros; with_reducible assumption) | (intro x) | split
                | refine Keeps.lit rfl rfl rfl rfl rfl rfl rfl rfl ?_
                | refine Keeps.of_snd (by with_reducible assumption) ?_
                | refine Keeps.of_snd2 (by with_reducible assumption) ?_

theorem judgeHeader_keeps {s : State} (h : Keeps kd km kc s0 s) (h : List Byte) :
    Keeps kd km kc s0 (judgeHeader h s) := by
  unfold judgeHeader
  try dsimp only
  repeat' first | with_reducible assumption | with_reducible apply put_keeps | with_reducible apply badHeader_keeps
                | with_reducible apply Keeps.foldl | with_reducible apply Keeps.elim
                | (intros; with_reducible assumption) | (intro x) | split
                | refine Keeps.lit rfl rfl rfl rfl rfl rfl rfl rfl ?_
                | refine Keeps.of_snd (by with_reducible assumption) ?_
                | refine Keeps.of_snd2 (by with_reducible assumption) ?_

theorem acceptChunk_keeps {s : State} (h : Keeps kd true kc s0 s) (bs : List Byte) :
    Keeps kd true kc s0 (acceptChunk bs s) := by
  unfold acceptChunk
  try dsimp only
  repeat' first | with_reducible assumption | with_reducible apply discardChunk_keeps
                | with_reducible apply writeChunk_keeps | with_reducible apply judgeHeader_keeps
                | with_reducible apply Keeps.foldl | with_reducible apply Keeps.elim
                | (intros; with_reducible assumption) | (intro x) | split
                | refine Keeps.lit rfl rfl rfl rfl rfl rfl rfl rfl ?_
                | refine Keeps.of_snd (by with_reducible assumption) ?_
                | refine Keeps.of_snd2 (by with_reducible assumption) ?_

theorem judgeArriving_keeps {s : State} (h : Keeps kd km kc s0 s)  :
    Keeps kd km kc s0 (judgeArriving s) := by
  unfold judgeArriving
  try dsimp only
  repeat' first | with_reducible assumption | with_reducible apply judgeHeader_keeps
                | with_reducible apply Keeps.foldl | with_reducible apply Keeps.elim
                | (intros; with_reducible assumption) | (intro x) | split
                | refine Keeps.lit rfl rfl rfl rfl rfl rfl rfl rfl ?_
                | refine Keeps.of_snd (by with_reducible assumption) ?_
                | refine Keeps.of_snd2 (by with_reducible assumption) ?_

theorem takeChunk_keeps {s : State} (h : Keeps kd true kc s0 s) (p : Packet) :
    Keeps kd true kc s0 (takeChunk p s) := by
  unfold takeChunk
  try dsimp only
  repeat' first | with_reducible assumption | with_reducible apply put_keeps | with_reducible apply recErr_keeps
                | with_reducible apply discardChunk_keeps | with_reducible apply acceptChunk_keeps
                | with_reducible apply Keeps.foldl | with_reducible apply Keeps.elim
                | (intros; with_reducible assumption) | (intro x) | split
                | refine Keeps.lit rfl rfl rfl rfl rfl rfl rfl rfl ?_
                | refine Keeps.of_snd (by with_reducible assumption) ?_
                | refine Keeps.of_snd2 (by with_reducible assumption) ?_

theorem updChunkEff_keeps {s : State} (h : Keeps kd true kc s0 s)  :
    Keeps kd true kc s0 (updChunkEff s) := by
  unfold updChunkEff
  try dsimp only
  repeat' first | with_reducible assumption | with_reducible apply setFifo_keeps
                | with_reducible apply judgeArriving_keeps | with_reducible apply takeChunk_keeps
                | with_reducible apply Keeps.foldl | with_reducible apply Keeps.elim
                | (intros; with_reducible assumption) | (intro x) | split
                | refine Keeps.lit rfl rfl rfl rfl rfl rfl rfl rfl ?_
                | refine Keeps.of_snd (by with_reducible assumption) ?_
                | refine Keeps.of_snd2 (by with_reducible assumption) ?_

theorem verifyEndEff_keeps {s : State} (h : Keeps kd km kc s0 s)  :
    Keeps kd km kc s0 (verifyEndEff s) := by
  unfold verifyEndEff
  try dsimp only
  repeat' first | with_reducible assumption | with_reducible apply put_keeps | with_reducible apply puts_keeps
                | with_reducible apply recErr_keeps | with_reducible apply noteImage_keeps
                | with_reducible apply updDone_keeps | with_reducible apply Keeps.foldl
                | with_reducible apply Keeps.elim | (intros; with_reducible assumption) | (intro x) | split
                | refine Keeps.lit rfl rfl rfl rfl rfl rfl rfl rfl ?_
                | refine Keeps.of_snd (by with_reducible assumption) ?_
                | refine Keeps.of_snd2 (by with_reducible assumption) ?_

theorem serveSetting_keeps {f : State → (Nat × List Nat) × State} {s : State}
    (hf : ∀ t, Keeps true true true s0 t → Keeps true true true s0 (f t).2) (h : Keeps true true true s0 s)
    (e : StoreEnv) (cmd : Nat) : Keeps true true true s0 (serveSetting e cmd f s) :=
  withStore_keeps (fun _ ht => serveMbx_keeps hf ht cmd) (finishWork_keeps h) e

/-! ### Machine/Grants.lean -/

theorem bindStrip_keeps {s : State} (h : Keeps kd km kc s0 s) (n : Nat) :
    Keeps kd km kc s0 (bindStrip n s) := by
  unfold bindStrip
  try dsimp only
  repeat' first | with_reducible assumption | with_reducible apply inc_keeps | with_reducible apply setCell_keeps
                | with_reducible apply Keeps.foldl | with_reducible apply Keeps.elim
                | (intros; with_reducible assumption) | (intro x) | split
                | refine Keeps.lit rfl rfl rfl rfl rfl rfl rfl rfl ?_
                | refine Keeps.of_snd (by with_reducible assumption) ?_
                | refine Keeps.of_snd2 (by with_reducible assumption) ?_

theorem onGrant_keeps {s : State} (h : Keeps kd km kc s0 s) (id : Nat) :
    Keeps kd km kc s0 (onGrant id s) := by
  unfold onGrant
  try dsimp only
  repeat' first | with_reducible assumption | with_reducible apply put_keeps | with_reducible apply htxProceed_keeps
                | with_reducible apply Keeps.foldl | with_reducible apply Keeps.elim
                | (intros; with_reducible assumption) | (intro x) | split
                | refine Keeps.lit rfl rfl rfl rfl rfl rfl rfl rfl ?_
                | refine Keeps.of_snd (by with_reducible assumption) ?_
                | refine Keeps.of_snd2 (by with_reducible assumption) ?_

theorem beginWork_keeps {s : State} (h : Keeps kd km kc s0 s) (id : Nat) :
    Keeps kd km kc s0 (beginWork id s) := by
  unfold beginWork
  try dsimp only
  repeat' first | with_reducible assumption | with_reducible apply onGrant_keeps | with_reducible apply Keeps.foldl
                | with_reducible apply Keeps.elim | (intros; with_reducible assumption) | (intro x) | split
                | refine Keeps.lit rfl rfl rfl rfl rfl rfl rfl rfl ?_
                | refine Keeps.of_snd (by with_reducible assumption) ?_
                | refine Keeps.of_snd2 (by with_reducible assumption) ?_

theorem grantStarts_keeps {s : State} (h : Keeps kd km kc s0 s)  :
    Keeps kd km kc s0 (grantStarts s) := by
  unfold grantStarts
  try dsimp only
  repeat' first | with_reducible assumption | with_reducible apply beginWork_keeps | with_reducible apply Keeps.foldl
                | with_reducible apply Keeps.elim | (intros; with_reducible assumption) | (intro x) | split
                | refine Keeps.lit rfl rfl rfl rfl rfl rfl rfl rfl ?_
                | refine Keeps.of_snd (by with_reducible assumption) ?_
                | refine Keeps.of_snd2 (by with_reducible assumption) ?_

theorem dmcGranted_keeps {s : State} (h : Keeps kd km kc s0 s) (id : Nat) :
    Keeps kd km kc s0 (dmcGranted id s) := by
  unfold dmcGranted
  try dsimp only
  repeat' first | with_reducible assumption | with_reducible apply dmcResume_keeps | with_reducible apply Keeps.foldl
                | with_reducible apply Keeps.elim | (intros; with_reducible assumption) | (intro x) | split
                | refine Keeps.lit rfl rfl rfl rfl rfl rfl rfl rfl ?_
                | refine Keeps.of_snd (by with_reducible assumption) ?_
                | refine Keeps.of_snd2 (by with_reducible assumption) ?_

theorem caddyGrantEff_keeps {s : State} (h : Keeps kd km kc s0 s)  :
    Keeps kd km kc s0 (caddyGrantEff s) := by
  unfold caddyGrantEff
  try dsimp only
  repeat' first | with_reducible assumption | with_reducible apply grantReq_keeps
                | with_reducible apply bindStrip_keeps | with_reducible apply grantStarts_keeps
                | with_reducible apply dmcGranted_keeps | with_reducible apply Keeps.foldl
                | with_reducible apply Keeps.elim | (intros; with_reducible assumption) | (intro x) | split
                | refine Keeps.lit rfl rfl rfl rfl rfl rfl rfl rfl ?_
                | refine Keeps.of_snd (by with_reducible assumption) ?_
                | refine Keeps.of_snd2 (by with_reducible assumption) ?_

theorem askStanding_keeps {s : State} (h : Keeps kd km kc s0 s) (id : Nat) (e : Fld) (st : Fld) :
    Keeps kd km kc s0 (askStanding id e st s) := by
  unfold askStanding
  try dsimp only
  repeat' first | with_reducible assumption | with_reducible apply puts_keeps
                | with_reducible apply standingRequest_keeps | with_reducible apply Keeps.foldl
                | with_reducible apply Keeps.elim | (intros; with_reducible assumption) | (intro x) | split
                | refine Keeps.lit rfl rfl rfl rfl rfl rfl rfl rfl ?_
                | refine Keeps.of_snd (by with_reducible assumption) ?_
                | refine Keeps.of_snd2 (by with_reducible assumption) ?_

theorem standingEnable_keeps {s : State} (h : Keeps kd km kc s0 s) (id : Nat) :
    Keeps kd km kc s0 (standingEnable id s) := by
  unfold standingEnable
  try dsimp only
  repeat' first | with_reducible assumption | with_reducible apply checked_keeps
                | with_reducible apply htxProceed_keeps | with_reducible apply skipBacklog_keeps
                | with_reducible apply askStanding_keeps | with_reducible apply Keeps.foldl
                | with_reducible apply Keeps.elim | (intros; with_reducible assumption) | (intro x) | split
                | refine Keeps.lit rfl rfl rfl rfl rfl rfl rfl rfl ?_
                | refine Keeps.of_snd (by with_reducible assumption) ?_
                | refine Keeps.of_snd2 (by with_reducible assumption) ?_

theorem ispStop_keeps {s : State} (h : Keeps kd km kc s0 s)  :
    Keeps kd km kc s0 (ispStop s) := by
  unfold ispStop
  try dsimp only
  repeat' first | with_reducible assumption | with_reducible apply put_keeps | with_reducible apply repeatFor_keeps
                | with_reducible apply abandonOutput_keeps | with_reducible apply Keeps.foldl
                | with_reducible apply Keeps.elim | (intros; with_reducible assumption) | (intro x) | split
                | refine Keeps.lit rfl rfl rfl rfl rfl rfl rfl rfl ?_
                | refine Keeps.of_snd (by with_reducible assumption) ?_
                | refine Keeps.of_snd2 (by with_reducible assumption) ?_

theorem stopBlock_keeps {s : State} (h : Keeps kd km kc s0 s) (id : Nat) :
    Keeps kd km kc s0 (stopBlock id s) := by
  unfold stopBlock
  try dsimp only
  repeat' first | with_reducible assumption | with_reducible apply put_keeps | with_reducible apply htxLeave_keeps
                | with_reducible apply hrxStop_keeps | with_reducible apply compStop_keeps
                | with_reducible apply ptpForget_keeps | with_reducible apply emptyQueues_keeps
                | with_reducible apply ispStop_keeps | with_reducible apply Keeps.foldl
                | with_reducible apply Keeps.elim | (intros; with_reducible assumption) | (intro x) | split
                | refine Keeps.lit rfl rfl rfl rfl rfl rfl rfl rfl ?_
                | refine Keeps.of_snd (by with_reducible assumption) ?_
                | refine Keeps.of_snd2 (by with_reducible assumption) ?_

theorem standingDisable_keeps {s : State} (h : Keeps kd km kc s0 s) (id : Nat) :
    Keeps kd km kc s0 (standingDisable id s) := by
  unfold standingDisable
  try dsimp only
  repeat' first | with_reducible assumption | with_reducible apply puts_keeps
                | with_reducible apply stopConsumer_keeps | with_reducible apply stopBlock_keeps
                | with_reducible apply Keeps.foldl | with_reducible apply Keeps.elim
                | (intros; with_reducible assumption) | (intro x) | split
                | refine Keeps.lit rfl rfl rfl rfl rfl rfl rfl rfl ?_
                | refine Keeps.of_snd (by with_reducible assumption) ?_
                | refine Keeps.of_snd2 (by with_reducible assumption) ?_

theorem dmcInit_keeps {s : State} (h : Keeps kd km kc s0 s) (n : Nat) :
    Keeps kd km kc s0 (dmcInit n s) := by
  unfold dmcInit
  try dsimp only
  repeat' first | with_reducible assumption | with_reducible apply standingRequest_keeps
                | with_reducible apply Keeps.foldl | with_reducible apply Keeps.elim
                | (intros; with_reducible assumption) | (intro x) | split
                | refine Keeps.lit rfl rfl rfl rfl rfl rfl rfl rfl ?_
                | refine Keeps.of_snd (by with_reducible assumption) ?_
                | refine Keeps.of_snd2 (by with_reducible assumption) ?_

/-! ### Machine/Clocks.lean -/

theorem rstcmdServiceEff_keeps {s : State} (h : Keeps true km true s0 s) (expiry : Bool) :
    Keeps true km true s0 (rstcmdServiceEff expiry s) := by
  unfold rstcmdServiceEff
  try dsimp only
  repeat' first | with_reducible assumption | with_reducible apply when_keeps | with_reducible apply chipReset_keeps
                | with_reducible apply serviceReset_keeps | with_reducible apply Keeps.foldl
                | with_reducible apply Keeps.elim | (intros; with_reducible assumption) | (intro x) | split
                | refine Keeps.lit rfl rfl rfl rfl rfl rfl rfl rfl ?_
                | refine Keeps.of_snd (by with_reducible assumption) ?_
                | refine Keeps.of_snd2 (by with_reducible assumption) ?_

theorem rstcmdChipEff_keeps {s : State} (h : Keeps true km true s0 s)  :
    Keeps true km true s0 (rstcmdChipEff s) := by
  unfold rstcmdChipEff
  try dsimp only
  repeat' first | with_reducible assumption | with_reducible apply unsupported_keeps
                | with_reducible apply chipReset_keeps | with_reducible apply Keeps.foldl
                | with_reducible apply Keeps.elim | (intros; with_reducible assumption) | (intro x) | split
                | refine Keeps.lit rfl rfl rfl rfl rfl rfl rfl rfl ?_
                | refine Keeps.of_snd (by with_reducible assumption) ?_
                | refine Keeps.of_snd2 (by with_reducible assumption) ?_

theorem xoOkEff_keeps {s : State} (h : Keeps kd km kc s0 s) (mv : Nat) :
    Keeps kd km kc s0 (xoOkEff mv s) := by
  unfold xoOkEff
  try dsimp only
  repeat' first | with_reducible assumption | with_reducible apply Keeps.foldl | with_reducible apply Keeps.elim
                | (intros; with_reducible assumption) | (intro x) | split
                | refine Keeps.lit rfl rfl rfl rfl rfl rfl rfl rfl ?_
                | refine Keeps.of_snd (by with_reducible assumption) ?_
                | refine Keeps.of_snd2 (by with_reducible assumption) ?_

theorem xolowEff_keeps {s : State} (h : Keeps kd km kc s0 s) (mv : Nat) :
    Keeps kd km kc s0 (xolowEff mv s) := by
  unfold xolowEff
  try dsimp only
  repeat' first | with_reducible assumption | with_reducible apply put_keeps | with_reducible apply Keeps.foldl
                | with_reducible apply Keeps.elim | (intros; with_reducible assumption) | (intro x) | split
                | refine Keeps.lit rfl rfl rfl rfl rfl rfl rfl rfl ?_
                | refine Keeps.of_snd (by with_reducible assumption) ?_
                | refine Keeps.of_snd2 (by with_reducible assumption) ?_

theorem pllLockEff_keeps {s : State} (h : Keeps kd km true s0 s) (vrail : Nat) :
    Keeps kd km true s0 (pllLockEff vrail s) := by
  unfold pllLockEff; split
  · refine softStart_keeps ?_ _ _
    exact ⟨h.pending, h.keyHash, h.svn, h.dramWf, h.mramWf, h.regs, h.act, h.dram, h.mram, nofun⟩
  · exact h

theorem railLossOp_keeps {s : State} (h : Keeps true km true s0 s) (r : Rail) :
    Keeps true km true s0 (railLossOp r s) := by
  unfold railLossOp
  try dsimp only
  repeat' first | with_reducible assumption | with_reducible apply poreset_keeps | with_reducible apply Keeps.foldl
                | with_reducible apply Keeps.elim | (intros; with_reducible assumption) | (intro x) | split
                | refine Keeps.lit rfl rfl rfl rfl rfl rfl rfl rfl ?_
                | refine Keeps.of_snd (by with_reducible assumption) ?_
                | refine Keeps.of_snd2 (by with_reducible assumption) ?_

theorem railDown_keeps {s : State} (h : Keeps kd km kc s0 s) (r : Rail) :
    Keeps kd km kc s0 (railDown r s) := by
  unfold railDown
  try dsimp only
  repeat' first | with_reducible assumption | with_reducible apply Keeps.foldl | with_reducible apply Keeps.elim
                | (intros; with_reducible assumption) | (intro x) | split
                | refine Keeps.lit rfl rfl rfl rfl rfl rfl rfl rfl ?_
                | refine Keeps.of_snd (by with_reducible assumption) ?_
                | refine Keeps.of_snd2 (by with_reducible assumption) ?_

theorem railLossEff_keeps {s : State} (h : Keeps true km true s0 s) (r : Rail) :
    Keeps true km true s0 (railLossEff r s) := by
  unfold railLossEff
  try dsimp only
  repeat' first | with_reducible assumption | with_reducible apply railLossOp_keeps
                | with_reducible apply railDown_keeps | with_reducible apply Keeps.foldl
                | with_reducible apply Keeps.elim | (intros; with_reducible assumption) | (intro x) | split
                | refine Keeps.lit rfl rfl rfl rfl rfl rfl rfl rfl ?_
                | refine Keeps.of_snd (by with_reducible assumption) ?_
                | refine Keeps.of_snd2 (by with_reducible assumption) ?_

theorem releaseCore_keeps {s : State} (h : Keeps kd km kc s0 s)  :
    Keeps kd km kc s0 (releaseCore s) := by
  unfold releaseCore
  try dsimp only
  repeat' first | with_reducible assumption | with_reducible apply puts_keeps | with_reducible apply sampleAll_keeps
                | with_reducible apply Keeps.foldl | with_reducible apply Keeps.elim
                | (intros; with_reducible assumption) | (intro x) | split
                | refine Keeps.lit rfl rfl rfl rfl rfl rfl rfl rfl ?_
                | refine Keeps.of_snd (by with_reducible assumption) ?_
                | refine Keeps.of_snd2 (by with_reducible assumption) ?_

theorem coreReleaseEff_keeps {s : State} (h : Keeps kd km kc s0 s)  :
    Keeps kd km kc s0 (coreReleaseEff s) := by
  unfold coreReleaseEff
  try dsimp only
  repeat' first | with_reducible assumption | with_reducible apply releaseCore_keeps
                | with_reducible apply Keeps.foldl | with_reducible apply Keeps.elim
                | (intros; with_reducible assumption) | (intro x) | split
                | refine Keeps.lit rfl rfl rfl rfl rfl rfl rfl rfl ?_
                | refine Keeps.of_snd (by with_reducible assumption) ?_
                | refine Keeps.of_snd2 (by with_reducible assumption) ?_

theorem serviceHoldEndEff_keeps {s : State} (h : Keeps kd km kc s0 s)  :
    Keeps kd km kc s0 (serviceHoldEndEff s) := by
  unfold serviceHoldEndEff
  try dsimp only
  repeat' first | with_reducible assumption | with_reducible apply coreReleaseEff_keeps
                | with_reducible apply Keeps.foldl | with_reducible apply Keeps.elim
                | (intros; with_reducible assumption) | (intro x) | split
                | refine Keeps.lit rfl rfl rfl rfl rfl rfl rfl rfl ?_
                | refine Keeps.of_snd (by with_reducible assumption) ?_
                | refine Keeps.of_snd2 (by with_reducible assumption) ?_

theorem wdogRestart_keeps {s : State} (h : Keeps kd km kc s0 s)  :
    Keeps kd km kc s0 (wdogRestart s) := by
  unfold wdogRestart
  try dsimp only
  repeat' first | with_reducible assumption | with_reducible apply Keeps.foldl | with_reducible apply Keeps.elim
                | (intros; with_reducible assumption) | (intro x) | split
                | refine Keeps.lit rfl rfl rfl rfl rfl rfl rfl rfl ?_
                | refine Keeps.of_snd (by with_reducible assumption) ?_
                | refine Keeps.of_snd2 (by with_reducible assumption) ?_

theorem wdogKickOp_keeps {s : State} (h : Keeps kd km kc s0 s) (d : W32) :
    Keeps kd km kc s0 (wdogKickOp d s) := by
  unfold wdogKickOp
  try dsimp only
  repeat' first | with_reducible assumption | with_reducible apply recErr_keeps
                | with_reducible apply wdogRestart_keeps | with_reducible apply Keeps.foldl
                | with_reducible apply Keeps.elim | (intros; with_reducible assumption) | (intro x) | split
                | refine Keeps.lit rfl rfl rfl rfl rfl rfl rfl rfl ?_
                | refine Keeps.of_snd (by with_reducible assumption) ?_
                | refine Keeps.of_snd2 (by with_reducible assumption) ?_

theorem wdogCtlOp_keeps {s : State} (h : Keeps kd km kc s0 s) (d : W32) :
    Keeps kd km kc s0 (wdogCtlOp d s) := by
  unfold wdogCtlOp
  try dsimp only
  repeat' first | with_reducible assumption | with_reducible apply storeAll_keeps
                | with_reducible apply wdogRestart_keeps | with_reducible apply Keeps.foldl
                | with_reducible apply Keeps.elim | (intros; with_reducible assumption) | (intro x) | split
                | refine Keeps.lit rfl rfl rfl rfl rfl rfl rfl rfl ?_
                | refine Keeps.of_snd (by with_reducible assumption) ?_
                | refine Keeps.of_snd2 (by with_reducible assumption) ?_

theorem wdogExpiryEff_keeps {s : State} (h : Keeps true km true s0 s)  :
    Keeps true km true s0 (wdogExpiryEff s) := by
  unfold wdogExpiryEff
  try dsimp only
  repeat' first | with_reducible assumption | with_reducible apply unsupported_keeps
                | with_reducible apply chipReset_keeps | with_reducible apply serviceReset_keeps
                | with_reducible apply Keeps.foldl | with_reducible apply Keeps.elim
                | (intros; with_reducible assumption) | (intro x) | split
                | refine Keeps.lit rfl rfl rfl rfl rfl rfl rfl rfl ?_
                | refine Keeps.of_snd (by with_reducible assumption) ?_
                | refine Keeps.of_snd2 (by with_reducible assumption) ?_

theorem divAccept_keeps {s : State} (h : Keeps kd km kc s0 s) (d : W32) :
    Keeps kd km kc s0 (divAccept d s) := by
  unfold divAccept
  try dsimp only
  repeat' first | with_reducible assumption | with_reducible apply puts_keeps | with_reducible apply storeAll_keeps
                | with_reducible apply unsupported_keeps | with_reducible apply Keeps.foldl
                | with_reducible apply Keeps.elim | (intros; with_reducible assumption) | (intro x) | split
                | refine Keeps.lit rfl rfl rfl rfl rfl rfl rfl rfl ?_
                | refine Keeps.of_snd (by with_reducible assumption) ?_
                | refine Keeps.of_snd2 (by with_reducible assumption) ?_

theorem writeDiv_keeps {s : State} (h : Keeps kd km kc s0 s) (d : W32) :
    Keeps kd km kc s0 (writeDiv d s) := by
  unfold writeDiv
  try dsimp only
  repeat' first | with_reducible assumption | with_reducible apply checked_keeps
                | with_reducible apply divAccept_keeps | with_reducible apply Keeps.foldl
                | with_reducible apply Keeps.elim | (intros; with_reducible assumption) | (intro x) | split
                | refine Keeps.lit rfl rfl rfl rfl rfl rfl rfl rfl ?_
                | refine Keeps.of_snd (by with_reducible assumption) ?_
                | refine Keeps.of_snd2 (by with_reducible assumption) ?_

theorem divdoneEff_keeps {s : State} (h : Keeps kd km kc s0 s)  :
    Keeps kd km kc s0 (divdoneEff s) := by
  unfold divdoneEff
  try dsimp only
  repeat' first | with_reducible assumption | with_reducible apply puts_keeps | with_reducible apply Keeps.foldl
                | with_reducible apply Keeps.elim | (intros; with_reducible assumption) | (intro x) | split
                | refine Keeps.lit rfl rfl rfl rfl rfl rfl rfl rfl ?_
                | refine Keeps.of_snd (by with_reducible assumption) ?_
                | refine Keeps.of_snd2 (by with_reducible assumption) ?_

/-! ### Machine/Boot.lean -/

theorem configDmc_keeps {s : State} (h : Keeps kd km kc s0 s) (rate : Nat) (dens : Nat) (tmg0 : W32) (tmg1 : W32) (n : Nat) :
    Keeps kd km kc s0 (configDmc rate dens tmg0 tmg1 n s) := by
  unfold configDmc
  try dsimp only
  repeat' first | with_reducible assumption | with_reducible apply puts_keeps | with_reducible apply storeAll_keeps
                | with_reducible apply applyTmg_keeps | with_reducible apply Keeps.foldl
                | with_reducible apply Keeps.elim | (intros; with_reducible assumption) | (intro x) | split
                | refine Keeps.lit rfl rfl rfl rfl rfl rfl rfl rfl ?_
                | refine Keeps.of_snd (by with_reducible assumption) ?_
                | refine Keeps.of_snd2 (by with_reducible assumption) ?_

theorem trainedDmc_keeps {s : State} (h : Keeps kd km kc s0 s) (n : Nat) (c : TrainChan) :
    Keeps kd km kc s0 (trainedDmc n c s) := by
  unfold trainedDmc
  try dsimp only
  repeat' first | with_reducible assumption | with_reducible apply inc_keeps | with_reducible apply setDmc_keeps
                | with_reducible apply standingRequest_keeps | with_reducible apply setDmcState_keeps
                | with_reducible apply tempCompare_keeps | with_reducible apply noRefreshOwed_keeps
                | with_reducible apply storeTraining_keeps | with_reducible apply Keeps.foldl
                | with_reducible apply Keeps.elim | (intros; with_reducible assumption) | (intro x) | split
                | refine Keeps.lit rfl rfl rfl rfl rfl rfl rfl rfl ?_
                | refine Keeps.of_snd (by with_reducible assumption) ?_
                | refine Keeps.of_snd2 (by with_reducible assumption) ?_

theorem cellsLoading_keeps {s : State} (h : Keeps kd km kc s0 s)  :
    Keeps kd km kc s0 (cellsLoading s) := by
  unfold cellsLoading
  try dsimp only
  repeat' first | with_reducible assumption | with_reducible apply puts_keeps | with_reducible apply Keeps.foldl
                | with_reducible apply Keeps.elim | (intros; with_reducible assumption) | (intro x) | split
                | refine Keeps.lit rfl rfl rfl rfl rfl rfl rfl rfl ?_
                | refine Keeps.of_snd (by with_reducible assumption) ?_
                | refine Keeps.of_snd2 (by with_reducible assumption) ?_

theorem dramTrainingDoneEff_keeps {s : State} (h : Keeps kd km kc s0 s) (rate : Nat) (dens : Nat) (tmg0 : W32) (tmg1 : W32) (chans : List TrainChan) :
    Keeps kd km kc s0 (dramTrainingDoneEff rate dens tmg0 tmg1 chans s) := by
  unfold dramTrainingDoneEff
  try dsimp only
  repeat' first | with_reducible assumption | with_reducible apply repeatFor_keeps
                | with_reducible apply setDmcState_keeps | with_reducible apply setBoot_keeps
                | with_reducible apply configDmc_keeps | with_reducible apply trainedDmc_keeps
                | with_reducible apply cellsLoading_keeps | with_reducible apply Keeps.foldl
                | with_reducible apply Keeps.elim | (intros; with_reducible assumption) | (intro x) | split
                | refine Keeps.lit rfl rfl rfl rfl rfl rfl rfl rfl ?_
                | refine Keeps.of_snd (by with_reducible assumption) ?_
                | refine Keeps.of_snd2 (by with_reducible assumption) ?_

theorem loadCells_keeps {s : State} (h : Keeps kd km kc s0 s) (upsets : List (Fin 8 × Fin 8192 × CsWord)) :
    Keeps kd km kc s0 (loadCells upsets s) := by
  unfold loadCells
  try dsimp only
  repeat' first | with_reducible assumption | with_reducible apply loadStore_keeps | with_reducible apply Keeps.foldl
                | with_reducible apply Keeps.elim | (intros; with_reducible assumption) | (intro x) | split
                | refine Keeps.lit rfl rfl rfl rfl rfl rfl rfl rfl ?_
                | refine Keeps.of_snd (by with_reducible assumption) ?_
                | refine Keeps.of_snd2 (by with_reducible assumption) ?_

theorem microcodeLoadDoneEff_keeps {s : State} (h : Keeps kd km kc s0 s) (upsets : List (Fin 8 × Fin 8192 × CsWord)) :
    Keeps kd km kc s0 (microcodeLoadDoneEff upsets s) := by
  unfold microcodeLoadDoneEff
  try dsimp only
  repeat' first | with_reducible assumption | with_reducible apply noteReads_keeps
                | with_reducible apply setBoot_keeps | with_reducible apply wdogRestart_keeps
                | with_reducible apply loadCells_keeps | with_reducible apply Keeps.foldl
                | with_reducible apply Keeps.elim | (intros; with_reducible assumption) | (intro x) | split
                | refine Keeps.lit rfl rfl rfl rfl rfl rfl rfl rfl ?_
                | refine Keeps.of_snd (by with_reducible assumption) ?_
                | refine Keeps.of_snd2 (by with_reducible assumption) ?_

/-! ### Machine/Local.lean -/

theorem resetFifo_keeps {s : State} (h : Keeps kd km kc s0 s) (n : Nat) :
    Keeps kd km kc s0 (resetFifo n s) := by
  unfold resetFifo
  try dsimp only
  repeat' first | with_reducible assumption | with_reducible apply setFifo_keeps | with_reducible apply updFrame_keeps
                | with_reducible apply Keeps.foldl | with_reducible apply Keeps.elim
                | (intros; with_reducible assumption) | (intro x) | split
                | refine Keeps.lit rfl rfl rfl rfl rfl rfl rfl rfl ?_
                | refine Keeps.of_snd (by with_reducible assumption) ?_
                | refine Keeps.of_snd2 (by with_reducible assumption) ?_

theorem resetMpt_keeps {s : State} (h : Keeps kd km kc s0 s)  :
    Keeps kd km kc s0 (resetMpt s) := by
  unfold resetMpt
  try dsimp only
  repeat' first | with_reducible assumption | with_reducible apply repeatFor_keeps
                | with_reducible apply stopConsumer_keeps | with_reducible apply streamDisableOp_keeps
                | with_reducible apply stopBlock_keeps | with_reducible apply Keeps.foldl
                | with_reducible apply Keeps.elim | (intros; with_reducible assumption) | (intro x) | split
                | refine Keeps.lit rfl rfl rfl rfl rfl rfl rfl rfl ?_
                | refine Keeps.of_snd (by with_reducible assumption) ?_
                | refine Keeps.of_snd2 (by with_reducible assumption) ?_

theorem resetBlock_keeps {s : State} (h : Keeps kd km kc s0 s) (p : Page) :
    Keeps kd km kc s0 (resetBlock p s) := by
  unfold resetBlock
  try dsimp only
  repeat' first | with_reducible assumption | with_reducible apply store_keeps | with_reducible apply setCsi_keeps
                | with_reducible apply stopConsumer_keeps | with_reducible apply csiDisableOp_keeps
                | with_reducible apply stopBlock_keeps | with_reducible apply resetFifo_keeps
                | with_reducible apply resetMpt_keeps | with_reducible apply Keeps.foldl
                | with_reducible apply Keeps.elim | (intros; with_reducible assumption) | (intro x) | split
                | refine Keeps.lit rfl rfl rfl rfl rfl rfl rfl rfl ?_
                | refine Keeps.of_snd (by with_reducible assumption) ?_
                | refine Keeps.of_snd2 (by with_reducible assumption) ?_

theorem localResetOp_keeps {s : State} (h : Keeps true km kc s0 s) (p : Page) :
    Keeps true km kc s0 (localResetOp p s) := by
  unfold localResetOp
  try dsimp only
  repeat' first | with_reducible assumption | with_reducible apply enterReset_keeps
                | with_reducible apply cellResetEff_keeps | with_reducible apply resetBlock_keeps
                | with_reducible apply Keeps.foldl | with_reducible apply Keeps.elim
                | (intros; with_reducible assumption) | (intro x) | split
                | refine Keeps.lit rfl rfl rfl rfl rfl rfl rfl rfl ?_
                | refine Keeps.of_snd (by with_reducible assumption) ?_
                | refine Keeps.of_snd2 (by with_reducible assumption) ?_

theorem localResetDoneEff_keeps {s : State} (h : Keeps kd km kc s0 s) (p : Page) :
    Keeps kd km kc s0 (localResetDoneEff p s) := by
  unfold localResetDoneEff
  try dsimp only
  repeat' first | with_reducible assumption | with_reducible apply leaveReset_keeps | with_reducible apply Keeps.foldl
                | with_reducible apply Keeps.elim | (intros; with_reducible assumption) | (intro x) | split
                | refine Keeps.lit rfl rfl rfl rfl rfl rfl rfl rfl ?_
                | refine Keeps.of_snd (by with_reducible assumption) ?_
                | refine Keeps.of_snd2 (by with_reducible assumption) ?_

theorem kaCtlOp_keeps {s : State} (h : Keeps kd km kc s0 s) (p : Page) (d : W32) :
    Keeps kd km kc s0 (kaCtlOp p d s) := by
  unfold kaCtlOp
  try dsimp only
  repeat' first | with_reducible assumption | with_reducible apply put_keeps | with_reducible apply aportCtl_keeps
                | with_reducible apply earcCtl_keeps | with_reducible apply timCtl_keeps
                | with_reducible apply Keeps.foldl | with_reducible apply Keeps.elim
                | (intros; with_reducible assumption) | (intro x) | split
                | refine Keeps.lit rfl rfl rfl rfl rfl rfl rfl rfl ?_
                | refine Keeps.of_snd (by with_reducible assumption) ?_
                | refine Keeps.of_snd2 (by with_reducible assumption) ?_

theorem writeEfirst_keeps {s : State} (h : Keeps kd km kc s0 s) (p : Page) (d : W32) :
    Keeps kd km kc s0 (writeEfirst p d s) := by
  unfold writeEfirst
  try dsimp only
  repeat' first | with_reducible assumption | with_reducible apply clearErr_keeps | with_reducible apply Keeps.foldl
                | with_reducible apply Keeps.elim | (intros; with_reducible assumption) | (intro x) | split
                | refine Keeps.lit rfl rfl rfl rfl rfl rfl rfl rfl ?_
                | refine Keeps.of_snd (by with_reducible assumption) ?_
                | refine Keeps.of_snd2 (by with_reducible assumption) ?_

/-! ### Machine/Intc.lean -/

theorem intcSourceAssertEff_keeps {s : State} (h : Keeps kd km kc s0 s) (src : Nat) :
    Keeps kd km kc s0 (intcSourceAssertEff src s) := by
  unfold intcSourceAssertEff
  try dsimp only
  repeat' first | with_reducible assumption | with_reducible apply seeLine_keeps
                | with_reducible apply assertSource_keeps | with_reducible apply Keeps.foldl
                | with_reducible apply Keeps.elim | (intros; with_reducible assumption) | (intro x) | split
                | refine Keeps.lit rfl rfl rfl rfl rfl rfl rfl rfl ?_
                | refine Keeps.of_snd (by with_reducible assumption) ?_
                | refine Keeps.of_snd2 (by with_reducible assumption) ?_

theorem setpendOp_keeps {s : State} (h : Keeps kd km kc s0 s) (k : Nat) (d : W32) :
    Keeps kd km kc s0 (setpendOp k d s) := by
  unfold setpendOp
  try dsimp only
  repeat' first | with_reducible assumption | with_reducible apply assertSource_keeps
                | with_reducible apply Keeps.foldl | with_reducible apply Keeps.elim
                | (intros; with_reducible assumption) | (intro x) | split
                | refine Keeps.lit rfl rfl rfl rfl rfl rfl rfl rfl ?_
                | refine Keeps.of_snd (by with_reducible assumption) ?_
                | refine Keeps.of_snd2 (by with_reducible assumption) ?_

theorem clrpendOp_keeps {s : State} (h : Keeps kd km kc s0 s) (k : Nat) (d : W32) :
    Keeps kd km kc s0 (clrpendOp k d s) := by
  unfold clrpendOp
  try dsimp only
  repeat' first | with_reducible assumption | with_reducible apply put_keeps | with_reducible apply Keeps.foldl
                | with_reducible apply Keeps.elim | (intros; with_reducible assumption) | (intro x) | split
                | refine Keeps.lit rfl rfl rfl rfl rfl rfl rfl rfl ?_
                | refine Keeps.of_snd (by with_reducible assumption) ?_
                | refine Keeps.of_snd2 (by with_reducible assumption) ?_

theorem deliverTo_keeps {s : State} (h : Keeps kd km kc s0 s) (tgt : Nat) (src : Nat) :
    Keeps kd km kc s0 (deliverTo tgt src s) := by
  unfold deliverTo
  try dsimp only
  repeat' first | with_reducible assumption | with_reducible apply puts_keeps | with_reducible apply Keeps.foldl
                | with_reducible apply Keeps.elim | (intros; with_reducible assumption) | (intro x) | split
                | refine Keeps.lit rfl rfl rfl rfl rfl rfl rfl rfl ?_
                | refine Keeps.of_snd (by with_reducible assumption) ?_
                | refine Keeps.of_snd2 (by with_reducible assumption) ?_

theorem intcDeliverEff_keeps {s : State} (h : Keeps kd km kc s0 s) (tgt : Nat) :
    Keeps kd km kc s0 (intcDeliverEff tgt s) := by
  unfold intcDeliverEff
  try dsimp only
  repeat' first | with_reducible assumption | with_reducible apply deliverTo_keeps | with_reducible apply Keeps.foldl
                | with_reducible apply Keeps.elim | (intros; with_reducible assumption) | (intro x) | split
                | refine Keeps.lit rfl rfl rfl rfl rfl rfl rfl rfl ?_
                | refine Keeps.of_snd (by with_reducible assumption) ?_
                | refine Keeps.of_snd2 (by with_reducible assumption) ?_

theorem writeEoi_keeps {s : State} (h : Keeps kd km kc s0 s) (d : W32) :
    Keeps kd km kc s0 (writeEoi d s) := by
  unfold writeEoi
  try dsimp only
  repeat' first | with_reducible assumption | with_reducible apply put_keeps | with_reducible apply recErr_keeps
                | with_reducible apply sampleSource_keeps | with_reducible apply Keeps.foldl
                | with_reducible apply Keeps.elim | (intros; with_reducible assumption) | (intro x) | split
                | refine Keeps.lit rfl rfl rfl rfl rfl rfl rfl rfl ?_
                | refine Keeps.of_snd (by with_reducible assumption) ?_
                | refine Keeps.of_snd2 (by with_reducible assumption) ?_

/-! ### Machine/Bus.lean -/

theorem writeRstcmd_keeps {s : State} (h : Keeps true km true s0 s) (d : W32) :
    Keeps true km true s0 (writeRstcmd d s) := by
  unfold writeRstcmd
  try dsimp only
  repeat' first | with_reducible assumption | with_reducible apply recErr_keeps
                | with_reducible apply rstcmdServiceEff_keeps | with_reducible apply rstcmdChipEff_keeps
                | with_reducible apply Keeps.foldl | with_reducible apply Keeps.elim
                | (intros; with_reducible assumption) | (intro x) | split
                | refine Keeps.lit rfl rfl rfl rfl rfl rfl rfl rfl ?_
                | refine Keeps.of_snd (by with_reducible assumption) ?_
                | refine Keeps.of_snd2 (by with_reducible assumption) ?_

theorem writeSys_keeps {s : State} (h : Keeps true km true s0 s) (o : Nat) (d : W32) :
    Keeps true km true s0 (writeSys o d s) := by
  unfold writeSys
  try dsimp only
  repeat' first | with_reducible assumption | with_reducible apply plainWrite_keeps
                | with_reducible apply writeGrpcmt_keeps | with_reducible apply writeGrppt_keeps
                | with_reducible apply wdogKickOp_keeps | with_reducible apply wdogCtlOp_keeps
                | with_reducible apply writeRstcmd_keeps | with_reducible apply Keeps.foldl
                | with_reducible apply Keeps.elim | (intros; with_reducible assumption) | (intro x) | split
                | refine Keeps.lit rfl rfl rfl rfl rfl rfl rfl rfl ?_
                | refine Keeps.of_snd (by with_reducible assumption) ?_
                | refine Keeps.of_snd2 (by with_reducible assumption) ?_

theorem writeTim_keeps {s : State} (h : Keeps kd km kc s0 s) (o : Nat) (d : W32) :
    Keeps kd km kc s0 (writeTim o d s) := by
  unfold writeTim
  try dsimp only
  repeat' first | with_reducible assumption | with_reducible apply plainWrite_keeps
                | with_reducible apply writeRefcfg_keeps | with_reducible apply writeDpll_keeps
                | with_reducible apply writeHold_keeps | with_reducible apply writeAud_keeps
                | with_reducible apply writeRealign_keeps | with_reducible apply outenWriteEff_keeps
                | with_reducible apply Keeps.foldl | with_reducible apply Keeps.elim
                | (intros; with_reducible assumption) | (intro x) | split
                | refine Keeps.lit rfl rfl rfl rfl rfl rfl rfl rfl ?_
                | refine Keeps.of_snd (by with_reducible assumption) ?_
                | refine Keeps.of_snd2 (by with_reducible assumption) ?_

theorem writePrs_keeps {s : State} (h : Keeps kd km kc s0 s) (o : Nat) (d : W32) :
    Keeps kd km kc s0 (writePrs o d s) := by
  unfold writePrs
  try dsimp only
  repeat' first | with_reducible assumption | with_reducible apply plainWrite_keeps
                | with_reducible apply writePrsCfg_keeps | with_reducible apply writePeriod_keeps
                | with_reducible apply writeWindow_keeps | with_reducible apply writeEvcs_keeps
                | with_reducible apply writeSlot_keeps | with_reducible apply Keeps.foldl
                | with_reducible apply Keeps.elim | (intros; with_reducible assumption) | (intro x) | split
                | refine Keeps.lit rfl rfl rfl rfl rfl rfl rfl rfl ?_
                | refine Keeps.of_snd (by with_reducible assumption) ?_
                | refine Keeps.of_snd2 (by with_reducible assumption) ?_

theorem writeCaddy_keeps {s : State} (h : Keeps kd km kc s0 s) (o : Nat) (d : W32) :
    Keeps kd km kc s0 (writeCaddy o d s) := by
  unfold writeCaddy
  try dsimp only
  repeat' first | with_reducible assumption | with_reducible apply plainWrite_keeps
                | with_reducible apply writeBudget_keeps | with_reducible apply writeReserve_keeps
                | with_reducible apply writeBrake_keeps | with_reducible apply writeDerate_keeps
                | with_reducible apply Keeps.foldl | with_reducible apply Keeps.elim
                | (intros; with_reducible assumption) | (intro x) | split
                | refine Keeps.lit rfl rfl rfl rfl rfl rfl rfl rfl ?_
                | refine Keeps.of_snd (by with_reducible assumption) ?_
                | refine Keeps.of_snd2 (by with_reducible assumption) ?_

theorem writeReg_keeps {s : State} (h : Keeps kd km kc s0 s) (o : Nat) (d : W32) :
    Keeps kd km kc s0 (writeReg o d s) := by
  unfold writeReg
  try dsimp only
  repeat' first | with_reducible assumption | with_reducible apply plainWrite_keeps
                | with_reducible apply writeVset_keeps | with_reducible apply writeTlim_keeps
                | with_reducible apply writeDt_keeps | with_reducible apply writePhth_keeps
                | with_reducible apply writePhctl_keeps | with_reducible apply writeTon_keeps
                | with_reducible apply writeOl_keeps | with_reducible apply writeMode_keeps
                | with_reducible apply writeFstat_keeps | with_reducible apply Keeps.foldl
                | with_reducible apply Keeps.elim | (intros; with_reducible assumption) | (intro x) | split
                | refine Keeps.lit rfl rfl rfl rfl rfl rfl rfl rfl ?_
                | refine Keeps.of_snd (by with_reducible assumption) ?_
                | refine Keeps.of_snd2 (by with_reducible assumption) ?_

theorem writeIntc_keeps {s : State} (h : Keeps kd km kc s0 s) (o : Nat) (d : W32) :
    Keeps kd km kc s0 (writeIntc o d s) := by
  unfold writeIntc
  try dsimp only
  repeat' first | with_reducible assumption | with_reducible apply recErr_keeps
                | with_reducible apply plainWrite_keeps | with_reducible apply setpendOp_keeps
                | with_reducible apply clrpendOp_keeps | with_reducible apply writeEoi_keeps
                | with_reducible apply Keeps.foldl | with_reducible apply Keeps.elim
                | (intros; with_reducible assumption) | (intro x) | split
                | refine Keeps.lit rfl rfl rfl rfl rfl rfl rfl rfl ?_
                | refine Keeps.of_snd (by with_reducible assumption) ?_
                | refine Keeps.of_snd2 (by with_reducible assumption) ?_

theorem writeMbx_keeps {s : State} (h : Keeps kd km kc s0 s) (o : Nat) (d : W32) :
    Keeps kd km kc s0 (writeMbx o d s) := by
  unfold writeMbx
  try dsimp only
  repeat' first | with_reducible assumption | with_reducible apply plainWrite_keeps
                | with_reducible apply writeReq_keeps | with_reducible apply writeMbctl_keeps
                | with_reducible apply Keeps.foldl | with_reducible apply Keeps.elim
                | (intros; with_reducible assumption) | (intro x) | split
                | refine Keeps.lit rfl rfl rfl rfl rfl rfl rfl rfl ?_
                | refine Keeps.of_snd (by with_reducible assumption) ?_
                | refine Keeps.of_snd2 (by with_reducible assumption) ?_

theorem writeRingReg_keeps {s : State} (h : Keeps kd km kc s0 s) (r : Nat) (o : Nat) (full : Nat) (d : W32) :
    Keeps kd km kc s0 (writeRingReg r o full d s) := by
  unfold writeRingReg
  try dsimp only
  repeat' first | with_reducible assumption | with_reducible apply plainWrite_keeps
                | with_reducible apply writeSqtail_keeps | with_reducible apply writeCqtail_keeps
                | with_reducible apply writeRingBase_keeps | with_reducible apply writeRcfg_keeps
                | with_reducible apply writeKeyreq_keeps | with_reducible apply Keeps.foldl
                | with_reducible apply Keeps.elim | (intros; with_reducible assumption) | (intro x) | split
                | refine Keeps.lit rfl rfl rfl rfl rfl rfl rfl rfl ?_
                | refine Keeps.of_snd (by with_reducible assumption) ?_
                | refine Keeps.of_snd2 (by with_reducible assumption) ?_

theorem writeCsch_keeps {s : State} (h : Keeps kd km kc s0 s) (o : Nat) (d : W32) :
    Keeps kd km kc s0 (writeCsch o d s) := by
  unfold writeCsch
  try dsimp only
  repeat' first | with_reducible assumption | with_reducible apply plainWrite_keeps
                | with_reducible apply writeRingReg_keeps | with_reducible apply Keeps.foldl
                | with_reducible apply Keeps.elim | (intros; with_reducible assumption) | (intro x) | split
                | refine Keeps.lit rfl rfl rfl rfl rfl rfl rfl rfl ?_
                | refine Keeps.of_snd (by with_reducible assumption) ?_
                | refine Keeps.of_snd2 (by with_reducible assumption) ?_

theorem writeCsiReg_keeps {s : State} (h : Keeps kd km kc s0 s) (n : Fin 3) (o : Nat) (d : W32) :
    Keeps kd km kc s0 (writeCsiReg n o d s) := by
  unfold writeCsiReg
  try dsimp only
  repeat' first | with_reducible assumption | with_reducible apply plainWrite_keeps
                | with_reducible apply writeCsi_keeps | with_reducible apply Keeps.foldl
                | with_reducible apply Keeps.elim | (intros; with_reducible assumption) | (intro x) | split
                | refine Keeps.lit rfl rfl rfl rfl rfl rfl rfl rfl ?_
                | refine Keeps.of_snd (by with_reducible assumption) ?_
                | refine Keeps.of_snd2 (by with_reducible assumption) ?_

theorem writeVisrReg_keeps {s : State} (h : Keeps kd km kc s0 s) (o : Nat) (d : W32) :
    Keeps kd km kc s0 (writeVisrReg o d s) := by
  unfold writeVisrReg
  try dsimp only
  repeat' first | with_reducible assumption | with_reducible apply plainWrite_keeps
                | with_reducible apply writeRqtail_keeps | with_reducible apply writeVisr_keeps
                | with_reducible apply Keeps.foldl | with_reducible apply Keeps.elim
                | (intros; with_reducible assumption) | (intro x) | split
                | refine Keeps.lit rfl rfl rfl rfl rfl rfl rfl rfl ?_
                | refine Keeps.of_snd (by with_reducible assumption) ?_
                | refine Keeps.of_snd2 (by with_reducible assumption) ?_

theorem writeDmc_keeps {s : State} (h : Keeps kd km kc s0 s) (n : Fin 4) (o : Nat) (d : W32) :
    Keeps kd km kc s0 (writeDmc n o d s) := by
  unfold writeDmc
  try dsimp only
  repeat' first | with_reducible assumption | with_reducible apply plainWrite_keeps
                | with_reducible apply writeTrain_keeps | with_reducible apply srRequestEff_keeps
                | with_reducible apply srExitRequestEff_keeps | with_reducible apply writeTmg_keeps
                | with_reducible apply writeMrrd_keeps | with_reducible apply Keeps.foldl
                | with_reducible apply Keeps.elim | (intros; with_reducible assumption) | (intro x) | split
                | refine Keeps.lit rfl rfl rfl rfl rfl rfl rfl rfl ?_
                | refine Keeps.of_snd (by with_reducible assumption) ?_
                | refine Keeps.of_snd2 (by with_reducible assumption) ?_

theorem writeDqos_keeps {s : State} (h : Keeps kd km kc s0 s) (o : Nat) (d : W32) :
    Keeps kd km kc s0 (writeDqos o d s) := by
  unfold writeDqos
  try dsimp only
  repeat' first | with_reducible assumption | with_reducible apply plainWrite_keeps
                | with_reducible apply writeMark_keeps | with_reducible apply writeLat_keeps
                | with_reducible apply writeDqPcfg_keeps | with_reducible apply Keeps.foldl
                | with_reducible apply Keeps.elim | (intros; with_reducible assumption) | (intro x) | split
                | refine Keeps.lit rfl rfl rfl rfl rfl rfl rfl rfl ?_
                | refine Keeps.of_snd (by with_reducible assumption) ?_
                | refine Keeps.of_snd2 (by with_reducible assumption) ?_

theorem writeRxReg_keeps {s : State} (h : Keeps kd km kc s0 s) (r : Nat) (o : Nat) (full : Nat) (d : W32) :
    Keeps kd km kc s0 (writeRxReg r o full d s) := by
  unfold writeRxReg
  try dsimp only
  repeat' first | with_reducible assumption | with_reducible apply plainWrite_keeps
                | with_reducible apply writeRing_keeps | with_reducible apply Keeps.foldl
                | with_reducible apply Keeps.elim | (intros; with_reducible assumption) | (intro x) | split
                | refine Keeps.lit rfl rfl rfl rfl rfl rfl rfl rfl ?_
                | refine Keeps.of_snd (by with_reducible assumption) ?_
                | refine Keeps.of_snd2 (by with_reducible assumption) ?_

theorem writeMpt_keeps {s : State} (h : Keeps kd km kc s0 s) (o : Nat) (d : W32) :
    Keeps kd km kc s0 (writeMpt o d s) := by
  unfold writeMpt
  try dsimp only
  repeat' first | with_reducible assumption | with_reducible apply plainWrite_keeps
                | with_reducible apply writeStren_keeps | with_reducible apply writeTxtail_keeps
                | with_reducible apply writeRing_keeps | with_reducible apply writeRxReg_keeps
                | with_reducible apply Keeps.foldl | with_reducible apply Keeps.elim
                | (intros; with_reducible assumption) | (intro x) | split
                | refine Keeps.lit rfl rfl rfl rfl rfl rfl rfl rfl ?_
                | refine Keeps.of_snd (by with_reducible assumption) ?_
                | refine Keeps.of_snd2 (by with_reducible assumption) ?_

theorem writeListReg_keeps {s : State} (h : Keeps kd km kc s0 s) (l : Nat) (o : Nat) (full : Nat) (d : W32) :
    Keeps kd km kc s0 (writeListReg l o full d s) := by
  unfold writeListReg
  try dsimp only
  repeat' first | with_reducible assumption | with_reducible apply writeListSize_keeps
                | with_reducible apply writeList_keeps | with_reducible apply Keeps.foldl
                | with_reducible apply Keeps.elim | (intros; with_reducible assumption) | (intro x) | split
                | refine Keeps.lit rfl rfl rfl rfl rfl rfl rfl rfl ?_
                | refine Keeps.of_snd (by with_reducible assumption) ?_
                | refine Keeps.of_snd2 (by with_reducible assumption) ?_

theorem writeSpout_keeps {s : State} (h : Keeps kd km kc s0 s) (o : Nat) (d : W32) :
    Keeps kd km kc s0 (writeSpout o d s) := by
  unfold writeSpout
  try dsimp only
  repeat' first | with_reducible assumption | with_reducible apply plainWrite_keeps
                | with_reducible apply swapGoEff_keeps | with_reducible apply writeShaper_keeps
                | with_reducible apply writeList_keeps | with_reducible apply writeListReg_keeps
                | with_reducible apply Keeps.foldl | with_reducible apply Keeps.elim
                | (intros; with_reducible assumption) | (intro x) | split
                | refine Keeps.lit rfl rfl rfl rfl rfl rfl rfl rfl ?_
                | refine Keeps.of_snd (by with_reducible assumption) ?_
                | refine Keeps.of_snd2 (by with_reducible assumption) ?_

theorem writeStrn_keeps {s : State} (h : Keeps kd km kc s0 s) (o : Nat) (d : W32) :
    Keeps kd km kc s0 (writeStrn o d s) := by
  unfold writeStrn
  try dsimp only
  repeat' first | with_reducible assumption | with_reducible apply plainWrite_keeps
                | with_reducible apply writeBurst_keeps | with_reducible apply writePolicer_keeps
                | with_reducible apply Keeps.foldl | with_reducible apply Keeps.elim
                | (intros; with_reducible assumption) | (intro x) | split
                | refine Keeps.lit rfl rfl rfl rfl rfl rfl rfl rfl ?_
                | refine Keeps.of_snd (by with_reducible assumption) ?_
                | refine Keeps.of_snd2 (by with_reducible assumption) ?_

theorem writeHtx_keeps {s : State} (h : Keeps kd km kc s0 s) (o : Nat) (d : W32) :
    Keeps kd km kc s0 (writeHtx o d s) := by
  unfold writeHtx
  try dsimp only
  repeat' first | with_reducible assumption | with_reducible apply plainWrite_keeps
                | with_reducible apply writeHdcpctl_keeps | with_reducible apply writeHtxCfg_keeps
                | with_reducible apply writeOutfmt_keeps | with_reducible apply writeDdc_keeps
                | with_reducible apply Keeps.foldl | with_reducible apply Keeps.elim
                | (intros; with_reducible assumption) | (intro x) | split
                | refine Keeps.lit rfl rfl rfl rfl rfl rfl rfl rfl ?_
                | refine Keeps.of_snd (by with_reducible assumption) ?_
                | refine Keeps.of_snd2 (by with_reducible assumption) ?_

theorem writeAport_keeps {s : State} (h : Keeps kd km kc s0 s) (o : Nat) (d : W32) :
    Keeps kd km kc s0 (writeAport o d s) := by
  unfold writeAport
  try dsimp only
  repeat' first | with_reducible assumption | with_reducible apply plainWrite_keeps
                | with_reducible apply writeMute_keeps | with_reducible apply writePcfg_keeps
                | with_reducible apply writePen_keeps | with_reducible apply Keeps.foldl
                | with_reducible apply Keeps.elim | (intros; with_reducible assumption) | (intro x) | split
                | refine Keeps.lit rfl rfl rfl rfl rfl rfl rfl rfl ?_
                | refine Keeps.of_snd (by with_reducible assumption) ?_
                | refine Keeps.of_snd2 (by with_reducible assumption) ?_

theorem writeBfifo_keeps {s : State} (h : Keeps kd km kc s0 s) (n : Fin 16) (o : Nat) (d : W32) :
    Keeps kd km kc s0 (writeBfifo n o d s) := by
  unfold writeBfifo
  try dsimp only
  repeat' first | with_reducible assumption | with_reducible apply plainWrite_keeps
                | with_reducible apply fifoWrite_keeps | with_reducible apply fifoCfg_keeps
                | with_reducible apply Keeps.foldl | with_reducible apply Keeps.elim
                | (intros; with_reducible assumption) | (intro x) | split
                | refine Keeps.lit rfl rfl rfl rfl rfl rfl rfl rfl ?_
                | refine Keeps.of_snd (by with_reducible assumption) ?_
                | refine Keeps.of_snd2 (by with_reducible assumption) ?_

theorem writeBody_keeps {s : State} (h : Keeps true true true s0 s) (p : Page) (o : Nat) (d : W32) :
    Keeps true true true s0 (writeBody p o d s) := by
  unfold writeBody
  try dsimp only
  repeat' first | with_reducible assumption | with_reducible apply store_keeps | with_reducible apply plainWrite_keeps
                | with_reducible apply capctlUpdEff_keeps | with_reducible apply writeHpd_keeps
                | with_reducible apply writeSwap_keeps | with_reducible apply writePtpPcfg_keeps
                | with_reducible apply writeUpdCmd_keeps | with_reducible apply writeDiv_keeps
                | with_reducible apply writeSys_keeps | with_reducible apply writeTim_keeps
                | with_reducible apply writePrs_keeps | with_reducible apply writeCaddy_keeps
                | with_reducible apply writeReg_keeps | with_reducible apply writeIntc_keeps
                | with_reducible apply writeMbx_keeps | with_reducible apply writeCsch_keeps
                | with_reducible apply writeCsiReg_keeps | with_reducible apply writeVisrReg_keeps
                | with_reducible apply writeDmc_keeps | with_reducible apply writeDqos_keeps
                | with_reducible apply writeMpt_keeps | with_reducible apply writeSpout_keeps
                | with_reducible apply writeStrn_keeps | with_reducible apply writeHtx_keeps
                | with_reducible apply writeAport_keeps | with_reducible apply writeBfifo_keeps
                | with_reducible apply Keeps.foldl | with_reducible apply Keeps.elim
                | (intros; with_reducible assumption) | (intro x) | split
                | refine Keeps.lit rfl rfl rfl rfl rfl rfl rfl rfl ?_
                | refine Keeps.of_snd (by with_reducible assumption) ?_
                | refine Keeps.of_snd2 (by with_reducible assumption) ?_

theorem enWithState_keeps {s : State} (h : Keeps kd km kc s0 s) (e : Fld) (st : Fld) (d : W32) :
    Keeps kd km kc s0 (enWithState e st d s) := by
  unfold enWithState
  try dsimp only
  repeat' first | with_reducible assumption | with_reducible apply put_keeps | with_reducible apply Keeps.foldl
                | with_reducible apply Keeps.elim | (intros; with_reducible assumption) | (intro x) | split
                | refine Keeps.lit rfl rfl rfl rfl rfl rfl rfl rfl ?_
                | refine Keeps.of_snd (by with_reducible assumption) ?_
                | refine Keeps.of_snd2 (by with_reducible assumption) ?_

theorem standingCtl_keeps {s : State} (h : Keeps kd km kc s0 s) (id : Nat) (en : Bool) :
    Keeps kd km kc s0 (standingCtl id en s) := by
  unfold standingCtl
  try dsimp only
  repeat' first | with_reducible assumption | with_reducible apply standingEnable_keeps
                | with_reducible apply standingDisable_keeps | with_reducible apply Keeps.foldl
                | with_reducible apply Keeps.elim | (intros; with_reducible assumption) | (intro x) | split
                | refine Keeps.lit rfl rfl rfl rfl rfl rfl rfl rfl ?_
                | refine Keeps.of_snd (by with_reducible assumption) ?_
                | refine Keeps.of_snd2 (by with_reducible assumption) ?_

theorem writeCtl_keeps {s : State} (h : Keeps true km kc s0 s) (p : Page) (d : W32) :
    Keeps true km kc s0 (writeCtl p d s) := by
  unfold writeCtl
  try dsimp only
  repeat' first | with_reducible assumption | with_reducible apply store_keeps
                | with_reducible apply fifoEnableOp_keeps | with_reducible apply fifoDisableOp_keeps
                | with_reducible apply prsStart_keeps | with_reducible apply prsStop_keeps
                | with_reducible apply csiEnableOp_keeps | with_reducible apply csiDisableOp_keeps
                | with_reducible apply spoutStart_keeps | with_reducible apply spoutStop_keeps
                | with_reducible apply ptpCtl_keeps | with_reducible apply strnCtl_keeps
                | with_reducible apply localResetOp_keeps | with_reducible apply kaCtlOp_keeps
                | with_reducible apply enWithState_keeps | with_reducible apply standingCtl_keeps
                | with_reducible apply Keeps.foldl | with_reducible apply Keeps.elim
                | (intros; with_reducible assumption) | (intro x) | split
                | refine Keeps.lit rfl rfl rfl rfl rfl rfl rfl rfl ?_
                | refine Keeps.of_snd (by with_reducible assumption) ?_
                | refine Keeps.of_snd2 (by with_reducible assumption) ?_

theorem writePage_keeps {s : State} (h : Keeps true true true s0 s) (p : Page) (o : Nat) (d : W32) :
    Keeps true true true s0 (writePage p o d s) := by
  unfold writePage
  try dsimp only
  repeat' first | with_reducible assumption | with_reducible apply lowerLines_keeps
                | with_reducible apply plainWrite_keeps | with_reducible apply shadowCommitEff_keeps
                | with_reducible apply writeEfirst_keeps | with_reducible apply writeBody_keeps
                | with_reducible apply writeCtl_keeps | with_reducible apply Keeps.foldl
                | with_reducible apply Keeps.elim | (intros; with_reducible assumption) | (intro x) | split
                | refine Keeps.lit rfl rfl rfl rfl rfl rfl rfl rfl ?_
                | refine Keeps.of_snd (by with_reducible assumption) ?_
                | refine Keeps.of_snd2 (by with_reducible assumption) ?_

theorem busWrite_keeps {s : State} (h : Keeps true true true s0 s) (a : Nat) (d : W32) :
    Keeps true true true s0 (busWrite a d s) := by
  unfold busWrite
  try dsimp only
  repeat' first | with_reducible assumption | with_reducible apply recErr_keeps | with_reducible apply onPage_keeps
                | with_reducible apply unsupported_keeps | with_reducible apply writePage_keeps
                | with_reducible apply Keeps.foldl | with_reducible apply Keeps.elim
                | (intros; with_reducible assumption) | (intro x) | split
                | refine Keeps.lit rfl rfl rfl rfl rfl rfl rfl rfl ?_
                | refine Keeps.of_snd (by with_reducible assumption) ?_
                | refine Keeps.of_snd2 (by with_reducible assumption) ?_

theorem readGpio_keeps {s : State} (h : Keeps kd km kc s0 s)  :
    Keeps kd km kc s0 (readGpio s).2 := by
  unfold readGpio
  try dsimp only
  repeat' first | with_reducible assumption | with_reducible apply Keeps.foldl | with_reducible apply Keeps.elim
                | (intros; with_reducible assumption) | (intro x) | split
                | refine Keeps.lit rfl rfl rfl rfl rfl rfl rfl rfl ?_
                | refine Keeps.of_snd (by with_reducible assumption) ?_
                | refine Keeps.of_snd2 (by with_reducible assumption) ?_

theorem readPage_keeps {s : State} (h : Keeps kd km kc s0 s) (p : Page) (o : Nat) :
    Keeps kd km kc s0 (readPage p o s).2 := by
  unfold readPage
  try dsimp only
  repeat' first | with_reducible assumption | with_reducible apply store_keeps | with_reducible apply readMtimel_keeps
                | with_reducible apply readRdata_keeps | with_reducible apply readTcnt_keeps
                | with_reducible apply readFstampl_keeps | with_reducible apply readTimel_keeps
                | with_reducible apply readGpio_keeps | with_reducible apply Keeps.foldl
                | with_reducible apply Keeps.elim | (intros; with_reducible assumption) | (intro x) | split
                | refine Keeps.lit rfl rfl rfl rfl rfl rfl rfl rfl ?_
                | refine Keeps.of_snd (by with_reducible assumption) ?_
                | refine Keeps.of_snd2 (by with_reducible assumption) ?_

theorem readHeld_keeps {s : State} (h : Keeps kd km kc s0 s) (p : Page) (o : Nat) :
    Keeps kd km kc s0 (readHeld p o s).2 := by
  unfold readHeld
  try dsimp only
  repeat' first | with_reducible assumption | with_reducible apply Keeps.foldl | with_reducible apply Keeps.elim
                | (intros; with_reducible assumption) | (intro x) | split
                | refine Keeps.lit rfl rfl rfl rfl rfl rfl rfl rfl ?_
                | refine Keeps.of_snd (by with_reducible assumption) ?_
                | refine Keeps.of_snd2 (by with_reducible assumption) ?_

theorem busRead_keeps {s : State} (h : Keeps true km kc s0 s) (a : Nat) :
    Keeps true km kc s0 (busRead a s).2 := by
  unfold busRead
  try dsimp only
  repeat' first | with_reducible assumption | with_reducible apply recErr_keeps
                | with_reducible apply readOnPage_keeps | with_reducible apply readWindow_keeps
                | with_reducible apply readPage_keeps | with_reducible apply readHeld_keeps
                | with_reducible apply Keeps.foldl | with_reducible apply Keeps.elim
                | (intros; with_reducible assumption) | (intro x) | split
                | refine Keeps.lit rfl rfl rfl rfl rfl rfl rfl rfl ?_
                | refine Keeps.of_snd (by with_reducible assumption) ?_
                | refine Keeps.of_snd2 (by with_reducible assumption) ?_

theorem partialWriteEff_keeps {s : State} (h : Keeps true true true s0 s) (a : Nat) (be : BitVec 4) (d : W32) :
    Keeps true true true s0 (partialWriteEff a be d s) := by
  unfold partialWriteEff
  try dsimp only
  repeat' first | with_reducible assumption | with_reducible apply recErr_keeps | with_reducible apply onPage_keeps
                | with_reducible apply busWrite_keeps | with_reducible apply Keeps.foldl
                | with_reducible apply Keeps.elim | (intros; with_reducible assumption) | (intro x) | split
                | refine Keeps.lit rfl rfl rfl rfl rfl rfl rfl rfl ?_
                | refine Keeps.of_snd (by with_reducible assumption) ?_
                | refine Keeps.of_snd2 (by with_reducible assumption) ?_

theorem undecodedAccessEff_keeps {s : State} (h : Keeps kd km kc s0 s) (a : Nat) (write : Bool) :
    Keeps kd km kc s0 (undecodedAccessEff a write s) := by
  unfold undecodedAccessEff
  try dsimp only
  repeat' first | with_reducible assumption | with_reducible apply recErr_keeps | with_reducible apply answer_keeps
                | with_reducible apply Keeps.foldl | with_reducible apply Keeps.elim
                | (intros; with_reducible assumption) | (intro x) | split
                | refine Keeps.lit rfl rfl rfl rfl rfl rfl rfl rfl ?_
                | refine Keeps.of_snd (by with_reducible assumption) ?_
                | refine Keeps.of_snd2 (by with_reducible assumption) ?_

theorem longRequestEff_keeps {s : State} (h : Keeps kd km kc s0 s) (write : Bool) :
    Keeps kd km kc s0 (longRequestEff write s) := by
  unfold longRequestEff
  try dsimp only
  repeat' first | with_reducible assumption | with_reducible apply recErr_keeps | with_reducible apply Keeps.foldl
                | with_reducible apply Keeps.elim | (intros; with_reducible assumption) | (intro x) | split
                | refine Keeps.lit rfl rfl rfl rfl rfl rfl rfl rfl ?_
                | refine Keeps.of_snd (by with_reducible assumption) ?_
                | refine Keeps.of_snd2 (by with_reducible assumption) ?_

theorem bar2Store_keeps {s : State} (h : Keeps true km kc s0 s) (a : Nat) (l : List (Byte × Bool)) :
    Keeps true km kc s0 (bar2Store a l s) := by
  induction l generalizing s a with
  | nil => exact h
  | cons p l ih =>
    refine ih ?_ _; split
    · exact dramWrite_keeps h _ _
    · exact h

theorem contextWritten_keeps {s : State} (h : Keeps kd km kc s0 s) (a : Nat) (n : Nat) :
    Keeps kd km kc s0 (contextWritten a n s) := by
  unfold contextWritten
  try dsimp only
  repeat' first | with_reducible assumption | with_reducible apply setRing_keeps
                | with_reducible apply repeatFor_keeps | with_reducible apply Keeps.foldl
                | with_reducible apply Keeps.elim | (intros; with_reducible assumption) | (intro x) | split
                | refine Keeps.lit rfl rfl rfl rfl rfl rfl rfl rfl ?_
                | refine Keeps.of_snd (by with_reducible assumption) ?_
                | refine Keeps.of_snd2 (by with_reducible assumption) ?_

theorem bar2Perform_keeps {s : State} (h : Keeps true km kc s0 s) (a : Nat) (op : Bar2Op) :
    Keeps true km kc s0 (bar2Perform a op s) := by
  unfold bar2Perform
  try dsimp only
  repeat' first | with_reducible assumption | with_reducible apply bar2Store_keeps
                | with_reducible apply contextWritten_keeps | with_reducible apply Keeps.foldl
                | with_reducible apply Keeps.elim | (intros; with_reducible assumption) | (intro x) | split
                | refine Keeps.lit rfl rfl rfl rfl rfl rfl rfl rfl ?_
                | refine Keeps.of_snd (by with_reducible assumption) ?_
                | refine Keeps.of_snd2 (by with_reducible assumption) ?_

theorem bar2AccessEff_keeps {s : State} (h : Keeps true km kc s0 s) (off : Nat) (op : Bar2Op) :
    Keeps true km kc s0 (bar2AccessEff off op s) := by
  unfold bar2AccessEff
  try dsimp only
  repeat' first | with_reducible assumption | with_reducible apply recErrs_keeps | with_reducible apply linkWait_keeps
                | with_reducible apply bar2Perform_keeps | with_reducible apply Keeps.foldl
                | with_reducible apply Keeps.elim | (intros; with_reducible assumption) | (intro x) | split
                | refine Keeps.lit rfl rfl rfl rfl rfl rfl rfl rfl ?_
                | refine Keeps.of_snd (by with_reducible assumption) ?_
                | refine Keeps.of_snd2 (by with_reducible assumption) ?_

theorem spiSend_keeps {s : State} (h : Keeps kd km kc s0 s) (bs : List Byte) :
    Keeps kd km kc s0 (spiSend bs s) := by
  unfold spiSend
  try dsimp only
  repeat' first | with_reducible assumption | with_reducible apply Keeps.foldl | with_reducible apply Keeps.elim
                | (intros; with_reducible assumption) | (intro x) | split
                | refine Keeps.lit rfl rfl rfl rfl rfl rfl rfl rfl ?_
                | refine Keeps.of_snd (by with_reducible assumption) ?_
                | refine Keeps.of_snd2 (by with_reducible assumption) ?_

theorem spiReadEff_keeps {s : State} (h : Keeps true km kc s0 s) (a : Nat) (cut : Bool) :
    Keeps true km kc s0 (spiReadEff a cut s) := by
  unfold spiReadEff
  try dsimp only
  repeat' first | with_reducible assumption | with_reducible apply busRead_keeps | with_reducible apply spiSend_keeps
                | with_reducible apply Keeps.foldl | with_reducible apply Keeps.elim
                | (intros; with_reducible assumption) | (intro x) | split
                | refine Keeps.lit rfl rfl rfl rfl rfl rfl rfl rfl ?_
                | refine Keeps.of_snd (by with_reducible assumption) ?_
                | refine Keeps.of_snd2 (by with_reducible assumption) ?_

theorem spiWriteEff_keeps {s : State} (h : Keeps true true true s0 s) (a : Nat) (d : W32) (cut : Bool) :
    Keeps true true true s0 (spiWriteEff a d cut s) := by
  unfold spiWriteEff
  try dsimp only
  repeat' first | with_reducible assumption | with_reducible apply recErr_keeps | with_reducible apply busWrite_keeps
                | with_reducible apply spiSend_keeps | with_reducible apply Keeps.foldl
                | with_reducible apply Keeps.elim | (intros; with_reducible assumption) | (intro x) | split
                | refine Keeps.lit rfl rfl rfl rfl rfl rfl rfl rfl ?_
                | refine Keeps.of_snd (by with_reducible assumption) ?_
                | refine Keeps.of_snd2 (by with_reducible assumption) ?_

theorem spiBad_keeps {s : State} (h : Keeps kd km kc s0 s) (after : List Byte) (cut : Bool) :
    Keeps kd km kc s0 (spiBad after cut s) := by
  unfold spiBad
  try dsimp only
  repeat' first | with_reducible assumption | with_reducible apply recErr_keeps | with_reducible apply spiSend_keeps
                | with_reducible apply Keeps.foldl | with_reducible apply Keeps.elim
                | (intros; with_reducible assumption) | (intro x) | split
                | refine Keeps.lit rfl rfl rfl rfl rfl rfl rfl rfl ?_
                | refine Keeps.of_snd (by with_reducible assumption) ?_
                | refine Keeps.of_snd2 (by with_reducible assumption) ?_

theorem spiReadFrameEff_keeps {s : State} (h : Keeps true true true s0 s) (cmd : Byte) (a : Nat) (cut : Bool) :
    Keeps true true true s0 (spiReadFrameEff cmd a cut s) := by
  unfold spiReadFrameEff
  try dsimp only
  repeat' first | with_reducible assumption | with_reducible apply spiReadEff_keeps
                | with_reducible apply spiWriteEff_keeps | with_reducible apply spiBad_keeps
                | with_reducible apply Keeps.foldl | with_reducible apply Keeps.elim
                | (intros; with_reducible assumption) | (intro x) | split
                | refine Keeps.lit rfl rfl rfl rfl rfl rfl rfl rfl ?_
                | refine Keeps.of_snd (by with_reducible assumption) ?_
                | refine Keeps.of_snd2 (by with_reducible assumption) ?_

theorem spiWriteFrameEff_keeps {s : State} (h : Keeps true true true s0 s) (cmd : Byte) (a : Nat) (d : W32) (cut : Bool) :
    Keeps true true true s0 (spiWriteFrameEff cmd a d cut s) := by
  unfold spiWriteFrameEff
  try dsimp only
  repeat' first | with_reducible assumption | with_reducible apply when_keeps | with_reducible apply spiReadEff_keeps
                | with_reducible apply spiWriteEff_keeps | with_reducible apply spiBad_keeps
                | with_reducible apply Keeps.foldl | with_reducible apply Keeps.elim
                | (intros; with_reducible assumption) | (intro x) | split
                | refine Keeps.lit rfl rfl rfl rfl rfl rfl rfl rfl ?_
                | refine Keeps.of_snd (by with_reducible assumption) ?_
                | refine Keeps.of_snd2 (by with_reducible assumption) ?_

end Sys2Proof.Machine
end

