-- ==== Sys2Proof/Laws/KeepsExec.lean ====
section
/-! SUPPORT. What each command's meaning keeps (`Keeps`): DRAM unless it is one of `writesDram`, the MRAM unless it is
one of `writesMram`, the media clock unless it is one of `movesMtime`. -/

namespace Sys2Proof.Machine

variable {s t : State}

/-- The gate of an access that may carry the CHIP command. -/
theorem onBus_keeps {kd km kc : Bool} {c : Bool} {f : State → State} (h : onBus c f s = .next t)
    (hf : Keeps kd km kc s (f s)) : Keeps kd km kc s t := by
  unfold onBus at h; split at h
  · refine always_keeps h ?_; split
    · exact hf
    · exact .refl ..
  · exact onCore_keeps h hf

/-- The gate of an access of the link. -/
theorem linkBus_keeps {kd km kc : Bool} {b : Bool} {c : Instr} {f : State → State} (h : linkBus b c f s = .next t)
    (hf : ∀ u, Keeps kd km kc s u → Keeps kd km kc s (f u)) : Keeps kd km kc s t := by
  refine onBus_keeps h ?_; split
  · exact hf _ (.refl ..)
  · exact onLink_keeps hf (.refl ..) _

theorem execRegisterWrite_keeps (addr : BitVec 24) (d : W32) (h : execRegisterWrite addr d s = .next t) :
    Keeps true true true s t :=
  linkBus_keeps h (fun _ h0 => busWrite_keeps h0 ..)

theorem execUndecodedAccess_keeps (addr : BitVec 24) (write : Bool) (h : execUndecodedAccess addr write s = .next t) :
    Keeps false false false s t :=
  onCore_keeps h (onLink_keeps (fun _ h0 => undecodedAccessEff_keeps h0 ..) (.refl ..) _)

theorem execLongBar0Request_keeps (addr : BitVec 24) (write : Bool) (h : execLongBar0Request addr write s = .next t) :
    Keeps false false false s t :=
  onCore_keeps h (onLink_keeps (fun _ h0 => longRequestEff_keeps h0 ..) (.refl ..) _)

theorem execPartialWrite_keeps (addr : BitVec 24) (be : BitVec 4) (d : W32) (h : execPartialWrite addr be d s = .next t) :
    Keeps true true true s t :=
  linkBus_keeps h (fun _ h0 => partialWriteEff_keeps h0 ..)

theorem execEfirstClear_keeps (p : Page) (d : W32) (h : execEfirstClear p d s = .next t) :
    Keeps false false false s t :=
  onCore_keeps h (onLink_keeps (fun _ h0 => onPage_keeps (fun _ h => writeEfirst_keeps h ..) h0 _) (.refl ..) _)

theorem execShadowCommit_keeps (p : Page) (d : W32) (h : execShadowCommit p d s = .next t) :
    Keeps false false false s t :=
  onCore_keeps h (onLink_keeps (fun _ h0 => onPage_keeps (fun _ h => shadowCommitEff_keeps h ..) h0 _) (.refl ..) _)

theorem execGroupRelease_keeps (d : W32) (h : execGroupRelease d s = .next t) :
    Keeps false false false s t :=
  onCore_keeps h (onLink_keeps (fun _ h0 => writeGrpcmt_keeps h0 ..) (.refl ..) _)

theorem execIntcSourceAssert_keeps (src : Fin 256) (h : execIntcSourceAssert src s = .next t) :
    Keeps false false false s t :=
  onCore_keeps h (intcSourceAssertEff_keeps (.refl ..) ..)

theorem execSetpend_keeps (k : Fin 8) (d : W32) (h : execSetpend k d s = .next t) :
    Keeps false false false s t :=
  onCore_keeps h (onLink_keeps (fun _ h0 => setpendOp_keeps h0 ..) (.refl ..) _)

theorem execClrpend_keeps (k : Fin 8) (d : W32) (h : execClrpend k d s = .next t) :
    Keeps false false false s t :=
  onCore_keeps h (onLink_keeps (fun _ h0 => clrpendOp_keeps h0 ..) (.refl ..) _)

theorem execIntcDeliver_keeps (tgt : Fin 35) (h : execIntcDeliver tgt s = .next t) :
    Keeps false false false s t :=
  onCore_keeps h (intcDeliverEff_keeps (.refl ..) ..)

theorem execEoi_keeps (d : W32) (h : execEoi d s = .next t) :
    Keeps false false false s t :=
  onCore_keeps h (onLink_keeps (fun _ h0 => writeEoi_keeps h0 ..) (.refl ..) _)

theorem execRstcmdService_keeps (key : BitVec 16) (expiry : Bool) (h : execRstcmdService key expiry s = .next t) :
    Keeps true false true s t := by
  unfold execRstcmdService at h; split at h
  · exact onKa_keeps h (onLink_keeps (fun _ h0 => rstcmdServiceEff_keeps h0 _) (.refl ..) _)
  · exact onCore_keeps h (onLink_keeps (fun _ h0 => recErr_keeps h0 ..) (.refl ..) _)

theorem execRstcmdChip_keeps (key : BitVec 16) (expiry : Bool) (h : execRstcmdChip key expiry s = .next t) :
    Keeps true false true s t := by
  unfold execRstcmdChip at h; split at h
  · exact always_keeps h (rstcmdChipEff_keeps (.refl ..))
  · exact onCore_keeps h (onLink_keeps (fun _ h0 => recErr_keeps h0 ..) (.refl ..) _)

theorem execVddAonLow_keeps (h : execVddAonLow s = .next t) :
    Keeps true false true s t :=
  always_keeps h (vddAonLowEff_keeps (.refl ..) ..)

theorem execPoresetRelease_keeps (h : execPoresetRelease s = .next t) :
    Keeps false false false s t := by
  refine always_keeps h ?_
  have h0 := Keeps.refl false false false s
  try dsimp only
  repeat' first | with_reducible assumption | (intro x) | split | refine Keeps.lit rfl rfl rfl rfl rfl rfl rfl rfl ?_

theorem execXoLoss_keeps (h : execXoLoss s = .next t) :
    Keeps true false true s t := by
  refine always_keeps h ?_
  have h0 := Keeps.refl true false true s
  try dsimp only
  repeat' first | with_reducible assumption | with_reducible apply poreset_keeps | (intro x) | split | refine Keeps.lit rfl rfl rfl rfl rfl rfl rfl rfl ?_

theorem execPllLockLoss_keeps (h : execPllLockLoss s = .next t) :
    Keeps true false true s t := by
  refine always_keeps h ?_
  have h0 := Keeps.refl true false true s
  try dsimp only
  repeat' first | with_reducible assumption | with_reducible apply poreset_keeps | (intro x) | split | refine Keeps.lit rfl rfl rfl rfl rfl rfl rfl rfl ?_

theorem execResetNLow_keeps (h : execResetNLow s = .next t) :
    Keeps true false true s t := by
  refine always_keeps h ?_
  have h0 := Keeps.refl true false true s
  try dsimp only
  repeat' first | with_reducible assumption | with_reducible apply pinReset_keeps | (intro x) | split | refine Keeps.lit rfl rfl rfl rfl rfl rfl rfl rfl ?_

theorem execResetNRise_keeps (h : execResetNRise s = .next t) :
    Keeps false false false s t := by
  refine always_keeps h ?_
  have h0 := Keeps.refl false false false s
  try dsimp only
  repeat' first | with_reducible assumption | (intro x) | split | refine Keeps.lit rfl rfl rfl rfl rfl rfl rfl rfl ?_

theorem execChipHoldEnd_keeps (h : execChipHoldEnd s = .next t) :
    Keeps false false false s t := by
  refine always_keeps h ?_
  have h0 := Keeps.refl false false false s
  try dsimp only
  repeat' first | with_reducible assumption | (intro x) | split | refine Keeps.lit rfl rfl rfl rfl rfl rfl rfl rfl ?_

theorem execServiceHoldEnd_keeps (h : execServiceHoldEnd s = .next t) :
    Keeps false false false s t :=
  onKa_keeps h (serviceHoldEndEff_keeps (.refl ..) ..)

theorem execCellReset_keeps (n : Fin 8) (h : execCellReset n s = .next t) :
    Keeps true false false s t :=
  onCore_keeps h (onLink_keeps (fun _ h0 => onPage_keeps (fun _ h => cellResetEff_keeps h ..) h0 _) (.refl ..) _)

theorem execCellReloadDone_keeps (n : Fin 8) (upsets : List (Fin 8192 × CsWord)) (h : execCellReloadDone n upsets s = .next t) :
    Keeps false false false s t :=
  onCore_keeps h (cellReloadDoneEff_keeps (.refl ..) ..)

theorem execLocalReset_keeps (p : Page) (h : execLocalReset p s = .next t) :
    Keeps true false false s t :=
  onCore_keeps h (onLink_keeps (fun _ h0 => onPage_keeps (fun _ h => localResetOp_keeps h ..) h0 _) (.refl ..) _)

theorem execLocalResetDone_keeps (p : Page) (h : execLocalResetDone p s = .next t) :
    Keeps false false false s t :=
  onCore_keeps h (localResetDoneEff_keeps (.refl ..) ..)

theorem execKaCtlWrite_keeps (p : Page) (d : W32) (h : execKaCtlWrite p d s = .next t) :
    Keeps false false false s t :=
  onCore_keeps h (onLink_keeps (fun _ h0 => onPage_keeps (fun _ h => kaCtlOp_keeps h ..) h0 _) (.refl ..) _)

theorem execWdogKick_keeps (d : W32) (h : execWdogKick d s = .next t) :
    Keeps false false false s t :=
  onCore_keeps h (onLink_keeps (fun _ h0 => wdogKickOp_keeps h0 ..) (.refl ..) _)

theorem execWdogCtlWrite_keeps (d : W32) (h : execWdogCtlWrite d s = .next t) :
    Keeps false false false s t :=
  onCore_keeps h (onLink_keeps (fun _ h0 => wdogCtlOp_keeps h0 ..) (.refl ..) _)

theorem execWdogExpiry_keeps (h : execWdogExpiry s = .next t) :
    Keeps true false true s t := by
  unfold execWdogExpiry at h; split at h
  · exact always_keeps h (wdogExpiryEff_keeps (.refl ..))
  · exact onKa_keeps h (wdogExpiryEff_keeps (.refl ..))

theorem execClkDivWrite_keeps (d : W32) (h : execClkDivWrite d s = .next t) :
    Keeps false false false s t :=
  onCore_keeps h (onLink_keeps (fun _ h0 => writeDiv_keeps h0 ..) (.refl ..) _)

theorem execDivdone_keeps (h : execDivdone s = .next t) :
    Keeps false false false s t :=
  onCore_keeps h (divdoneEff_keeps (.refl ..) ..)

theorem execXoOk_keeps (mv : Nat) (h : execXoOk mv s = .next t) :
    Keeps false false false s t :=
  always_keeps h (xoOkEff_keeps (.refl ..) ..)

theorem execXolow_keeps (mv : Nat) (h : execXolow mv s = .next t) :
    Keeps false false false s t :=
  onCore_keeps h (xolowEff_keeps (.refl ..) ..)

theorem execPllLock_keeps (vrail : Nat) (h : execPllLock vrail s = .next t) :
    Keeps false false true s t :=
  always_keeps h (pllLockEff_keeps (.refl ..) ..)

theorem execCoreRelease_keeps (h : execCoreRelease s = .next t) :
    Keeps false false false s t :=
  onKa_keeps h (coreReleaseEff_keeps (.refl ..) ..)

theorem execBootRecordSelect_keeps (e : StoreEnv) (h : execBootRecordSelect e s = .next t) :
    Keeps true true true s t :=
  onCore_keeps h (withStore_keeps (fun _ h => bootRecordSelectEff_keeps h ..) (.refl ..) _)

theorem execBootVerifyDone_keeps (e : StoreEnv) (factoryOk : Bool) (h : execBootVerifyDone e factoryOk s = .next t) :
    Keeps true true true s t :=
  onCore_keeps h (withStore_keeps (fun _ h => bootVerifyDoneEff_keeps h ..) (.refl ..) _)

theorem execJournalScan_keeps (e : StoreEnv) (h : execJournalScan e s = .next t) :
    Keeps true true true s t :=
  onCore_keeps h (withStore_keeps (fun _ h => journalScanEff_keeps h ..) (.refl ..) _)

theorem execDramTrainingDone_keeps (rate dens : Nat) (tmg0 tmg1 : W32) (chans : List TrainChan) (h : execDramTrainingDone rate dens tmg0 tmg1 chans s = .next t) :
    Keeps false false false s t :=
  onCore_keeps h (dramTrainingDoneEff_keeps (.refl ..) ..)

theorem execMicrocodeLoadDone_keeps (upsets : List (Fin 8 × Fin 8192 × CsWord)) (h : execMicrocodeLoadDone upsets s = .next t) :
    Keeps false false false s t :=
  onCore_keeps h (microcodeLoadDoneEff_keeps (.refl ..) ..)

theorem execLinkUp_keeps (width speed : Nat) (host : CfgSpace) (l1 : Bool) (h : execLinkUp width speed host l1 s = .next t) :
    Keeps false false false s t :=
  onCore_keeps h (linkUpEff_keeps (.refl ..) ..)

theorem execLinkDown_keeps (h : execLinkDown s = .next t) :
    Keeps false false false s t := by
  refine onCore_keeps h ?_
  have h0 := Keeps.refl false false false s
  try dsimp only
  repeat' first | with_reducible assumption | with_reducible apply put_keeps | with_reducible apply linkLost_keeps | (intro x) | split | refine Keeps.lit rfl rfl rfl rfl rfl rfl rfl rfl ?_

theorem execPerstNLow_keeps (h : execPerstNLow s = .next t) :
    Keeps false false false s t :=
  always_keeps h (perstNLowEff_keeps (.refl ..) ..)

theorem execRailLoss_keeps (r : Rail) (h : execRailLoss r s = .next t) :
    Keeps true false true s t :=
  always_keeps h (railLossEff_keeps (.refl ..) ..)

theorem execOnPulseStart_keeps (sub : Fin 49) (vdie : Nat) (sw : Int) (h : execOnPulseStart sub vdie sw s = .next t) :
    Keeps false false false s t :=
  onKa_keeps h (onPulseStartEff_keeps (.refl ..) ..)

theorem execPulseEnd_keeps (ph : Fin 4) (sub : Fin 49) (sw : Int) (h : execPulseEnd ph sub sw s = .next t) :
    Keeps false false false s t :=
  onKa_keeps h (pulseEndEff_keeps (.refl ..) ..)

theorem execRegSample_keeps (vout : Nat) (isns : List Nat) (vin : Nat) (h : execRegSample vout isns vin s = .next t) :
    Keeps false false false s t :=
  onKa_keeps h (regSampleEff_keeps (.refl ..) ..)

theorem execFfNotice_keeps (h : execFfNotice s = .next t) :
    Keeps false false false s t :=
  onKa_keeps h (ffNoticeEff_keeps (.refl ..) ..)

theorem execFfRampStart_keeps (h : execFfRampStart s = .next t) :
    Keeps false false false s t :=
  onKa_keeps h (ffRampStartEff_keeps (.refl ..) ..)

theorem execFfHoldEnd_keeps (h : execFfHoldEnd s = .next t) :
    Keeps false false false s t :=
  onKa_keeps h (ffHoldEndEff_keeps (.refl ..) ..)

theorem execPhaseShed_keeps (h : execPhaseShed s = .next t) :
    Keeps false false false s t :=
  onKa_keeps h (phaseShedEff_keeps (.refl ..) ..)

theorem execPhctlWrite_keeps (d : W32) (h : execPhctlWrite d s = .next t) :
    Keeps false false false s t :=
  onCore_keeps h (onLink_keeps (fun _ h0 => onPage_keeps (fun _ h => writePhctl_keeps h ..) h0 _) (.refl ..) _)

theorem execTonWrite_keeps (sub : Fin 49) (d : W32) (h : execTonWrite sub d s = .next t) :
    Keeps false false false s t :=
  onCore_keeps h (onLink_keeps (fun _ h0 => onPage_keeps (fun _ h => writeTon_keeps h ..) h0 _) (.refl ..) _)

theorem execOlWrite_keeps (sub : Fin 49) (d : W32) (h : execOlWrite sub d s = .next t) :
    Keeps false false false s t :=
  onCore_keeps h (onLink_keeps (fun _ h0 => onPage_keeps (fun _ h => writeOl_keeps h ..) h0 _) (.refl ..) _)

theorem execModeOpenSet_keeps (d : W32) (h : execModeOpenSet d s = .next t) :
    Keeps false false false s t :=
  onCore_keeps h (onLink_keeps (fun _ h0 => onPage_keeps (fun _ h => writeMode_keeps h ..) h0 _) (.refl ..) _)

theorem execModeOpenClear_keeps (d : W32) (h : execModeOpenClear d s = .next t) :
    Keeps false false false s t :=
  onCore_keeps h (onLink_keeps (fun _ h0 => onPage_keeps (fun _ h => writeMode_keeps h ..) h0 _) (.refl ..) _)

theorem execOpenLoopPulse_keeps (sub : Fin 49) (sw : Int) (h : execOpenLoopPulse sub sw s = .next t) :
    Keeps false false false s t :=
  onKa_keeps h (openLoopPulseEff_keeps (.refl ..) ..)

theorem execRegTrip_keeps (c : TripSense) (h : execRegTrip c s = .next t) :
    Keeps true false false s t :=
  onKa_keeps h (regTripEff_keeps (.refl ..) ..)

theorem execUnderVoltage_keeps (h : execUnderVoltage s = .next t) :
    Keeps false false false s t :=
  onKa_keeps h (underVoltageEff_keeps (.refl ..) ..)

theorem execTripRetry_keeps (vrail : Nat) (h : execTripRetry vrail s = .next t) :
    Keeps false false false s t :=
  onKa_keeps h (tripRetryEff_keeps (.refl ..) ..)

theorem execTripcntClear_keeps (h : execTripcntClear s = .next t) :
    Keeps false false false s t :=
  onKa_keeps h (tripcntClearEff_keeps (.refl ..) ..)

theorem execPowerGood_keeps (h : execPowerGood s = .next t) :
    Keeps false false false s t :=
  onKa_keeps h (powerGoodEff_keeps (.refl ..) ..)

theorem execConsumerEnable_keeps (c : Fin 17) (h : execConsumerEnable c s = .next t) :
    Keeps false false false s t := by
  refine onCore_keeps h ?_
  have h0 := Keeps.refl false false false s
  try dsimp only
  repeat' first | with_reducible assumption | with_reducible apply onLink_keeps | with_reducible apply onPage_keeps | with_reducible apply standingEnable_keeps | with_reducible apply dmcInit_keeps | (intro x) | split | refine Keeps.lit rfl rfl rfl rfl rfl rfl rfl rfl ?_

theorem execConsumerDisable_keeps (c : Fin 17) (h : execConsumerDisable c s = .next t) :
    Keeps false false false s t := by
  refine onCore_keeps h ?_
  have h0 := Keeps.refl false false false s
  try dsimp only
  repeat' first | with_reducible assumption | with_reducible apply onLink_keeps | with_reducible apply onPage_keeps | with_reducible apply standingDisable_keeps | (intro x) | split | refine Keeps.lit rfl rfl rfl rfl rfl rfl rfl rfl ?_

theorem execCaddyGrant_keeps (h : execCaddyGrant s = .next t) :
    Keeps false false false s t :=
  onKa_keeps h (caddyGrantEff_keeps (.refl ..) ..)

theorem execCaddyReturn_keeps (c : Fin 17) (h : execCaddyReturn c s = .next t) :
    Keeps false false false s t :=
  onKa_keeps h (caddyReturnOp_keeps (.refl ..) ..)

theorem execRequestAged_keeps (c : Fin 17) (h : execRequestAged c s = .next t) :
    Keeps false false false s t :=
  onKa_keeps h (requestAgedEff_keeps (.refl ..) ..)

theorem execBrakeEngage_keeps (h : execBrakeEngage s = .next t) :
    Keeps false false false s t :=
  onKa_keeps h (brakeEngageEff_keeps (.refl ..) ..)

theorem execBrake2_keeps (h : execBrake2 s = .next t) :
    Keeps false false false s t :=
  onKa_keeps h (brake2Eff_keeps (.refl ..) ..)

theorem execBrakeStepBack_keeps (h : execBrakeStepBack s = .next t) :
    Keeps false false false s t :=
  onKa_keeps h (brakeStepBackEff_keeps (.refl ..) ..)

theorem execTempUpdate_keeps (v : Byte) (h : execTempUpdate v s = .next t) :
    Keeps false false false s t :=
  onKa_keeps h (tempUpdateEff_keeps (.refl ..) ..)

theorem execMonitorUpdate_keeps (ms : List RefMeas) (h : execMonitorUpdate ms s = .next t) :
    Keeps false false false s t :=
  onKa_keeps h (monitorUpdateEff_keeps (.refl ..) ..)

theorem execPpsPulse_keeps (off : Int) (h : execPpsPulse off s = .next t) :
    Keeps false false false s t :=
  onKa_keeps h (ppsPulseEff_keeps (.refl ..) ..)

theorem execLossOfSignal_keeps (r : Fin 6) (h : execLossOfSignal r s = .next t) :
    Keeps false false false s t :=
  onKa_keeps h (refLoss_keeps (.refl ..) ..)

theorem execRefcfgWrite_keeps (r : Fin 6) (d : W32) (h : execRefcfgWrite r d s = .next t) :
    Keeps false false false s t :=
  onCore_keeps h (onLink_keeps (fun _ h0 => onPage_keeps (fun _ h => writeRefcfg_keeps h ..) h0 _) (.refl ..) _)

theorem execRefRateChange_keeps (r : Fin 6) (h : execRefRateChange r s = .next t) :
    Keeps false false false s t :=
  onKa_keeps h (refRateChangeEff_keeps (.refl ..) ..)

theorem execDpllUpdate_keeps (h : execDpllUpdate s = .next t) :
    Keeps false false false s t :=
  onKa_keeps h (dpllUpdateEff_keeps (.refl ..) ..)

theorem execDomainLocked_keeps (d : TimDom) (h : execDomainLocked d s = .next t) :
    Keeps false false false s t :=
  onKa_keeps h (domainLockedEff_keeps (.refl ..) ..)

theorem execOutenWrite_keeps (d : W32) (h : execOutenWrite d s = .next t) :
    Keeps false false false s t :=
  onCore_keeps h (onLink_keeps (fun _ h0 => onPage_keeps (fun _ h => outenWriteEff_keeps h ..) h0 _) (.refl ..) _)

theorem execAudWrite_keeps (d : W32) (h : execAudWrite d s = .next t) :
    Keeps false false false s t :=
  onCore_keeps h (onLink_keeps (fun _ h0 => onPage_keeps (fun _ h => writeAud_keeps h ..) h0 _) (.refl ..) _)

theorem execRealignAud_keeps (h : execRealignAud s = .next t) :
    Keeps false false false s t :=
  onCore_keeps h (onLink_keeps (fun _ h0 => onPage_keeps (fun _ h => realign_keeps h ..) h0 _) (.refl ..) _)

theorem execRealignVid_keeps (h : execRealignVid s = .next t) :
    Keeps false false false s t :=
  onCore_keeps h (onLink_keeps (fun _ h0 => onPage_keeps (fun _ h => realign_keeps h ..) h0 _) (.refl ..) _)

theorem execRealignApply_keeps (d : TimDom) (h : execRealignApply d s = .next t) :
    Keeps false false false s t :=
  onKa_keeps h (realignApplyEff_keeps (.refl ..) ..)

theorem execMtimelRead_keeps (h : execMtimelRead s = .next t) :
    Keeps false false false s t :=
  onCore_keeps h (onLink_keeps (fun _ h0 => answer_keeps (readOnPage_keeps (fun _ h => readMtimel_keeps h ..) h0 _)) (.refl ..) _)

theorem execFramePulse_keeps (src : Fin 2) (falling : Bool) (stamp : Nat) (h : execFramePulse src falling stamp s = .next t) :
    Keeps false false false s t :=
  onCore_keeps h (framePulseEff_keeps (.refl ..) ..)

theorem execTooth_keeps (h : execTooth s = .next t) :
    Keeps false false false s t :=
  onCore_keeps h (toothEff_keeps (.refl ..) ..)

theorem execToothMissed_keeps (h : execToothMissed s = .next t) :
    Keeps false false false s t :=
  onCore_keeps h (toothMissedEff_keeps (.refl ..) ..)

theorem execPrsCfgWrite_keeps (d : W32) (h : execPrsCfgWrite d s = .next t) :
    Keeps false false false s t :=
  onCore_keeps h (onLink_keeps (fun _ h0 => onPage_keeps (fun _ h => writePrsCfg_keeps h ..) h0 _) (.refl ..) _)

theorem execPrsEnable_keeps (h : execPrsEnable s = .next t) :
    Keeps false false false s t :=
  onCore_keeps h (onLink_keeps (fun _ h0 => onPage_keeps (fun _ h => prsStart_keeps h ..) h0 _) (.refl ..) _)

theorem execPrsDisable_keeps (h : execPrsDisable s = .next t) :
    Keeps false false false s t :=
  onCore_keeps h (onLink_keeps (fun _ h0 => onPage_keeps (fun _ h => prsStop_keeps h ..) h0 _) (.refl ..) _)

theorem execEventArm_keeps (k : Fin 64) (h : execEventArm k s = .next t) :
    Keeps false false false s t :=
  onCore_keeps h (onLink_keeps (fun _ h0 => onPage_keeps (fun _ h => armSlot_keeps h ..) h0 _) (.refl ..) _)

theorem execEventCancel_keeps (k : Fin 64) (h : execEventCancel k s = .next t) :
    Keeps false false false s t :=
  onCore_keeps h (onLink_keeps (fun _ h0 => onPage_keeps (fun _ h => cancelSlot_keeps h ..) h0 _) (.refl ..) _)

theorem execEventFire_keeps (k : Fin 64) (h : execEventFire k s = .next t) :
    Keeps false false false s t :=
  onCore_keeps h (eventFireEff_keeps (.refl ..) ..)

theorem execTcntRead_keeps (h : execTcntRead s = .next t) :
    Keeps false false false s t :=
  onCore_keeps h (onLink_keeps (fun _ h0 => answer_keeps (readOnPage_keeps (fun _ h => readTcnt_keeps h ..) h0 _)) (.refl ..) _)

theorem execActionSwap_keeps (k : Fin 4) (h : execActionSwap k s = .next t) :
    Keeps false false false s t :=
  onCore_keeps h (takeAct_keeps (fun _ h => requestSwap_keeps h ..) (.refl ..) _)

theorem execActionStart_keeps (r : Fin 8) (h : execActionStart r s = .next t) :
    Keeps false false false s t :=
  onCore_keeps h (takeAct_keeps (fun _ h => startAction_keeps h ..) (.refl ..) _)

theorem execActionKeyRequest_keeps (r : Fin 8) (h : execActionKeyRequest r s = .next t) :
    Keeps false false false s t :=
  onCore_keeps h (takeAct_keeps (fun _ h => put_keeps h ..) (.refl ..) _)

theorem execActionMute_keeps (k : Fin 4) (h : execActionMute k s = .next t) :
    Keeps false false false s t :=
  onCore_keeps h (takeAct_keeps (fun _ h => portCommand_keeps h ..) (.refl ..) _)

theorem execActionUnmute_keeps (k : Fin 4) (h : execActionUnmute k s = .next t) :
    Keeps false false false s t :=
  onCore_keeps h (takeAct_keeps (fun _ h => portCommand_keeps h ..) (.refl ..) _)

theorem execActionGpio_keeps (n : Fin 16) (arg : Byte) (h : execActionGpio n arg s = .next t) :
    Keeps false false false s t :=
  onCore_keeps h (takeAct_keeps (fun _ h => gpioAct_keeps h ..) (.refl ..) _)

theorem execBar2Access_keeps (off : BitVec 30) (op : Bar2Op) (h : execBar2Access off op s = .next t) :
    Keeps true false false s t :=
  onCore_keeps h (bar2AccessEff_keeps (.refl ..) ..)

theorem execSpiReadFrame_keeps (cmd : Byte) (addr : BitVec 24) (cut : Bool) (h : execSpiReadFrame cmd addr cut s = .next t) :
    Keeps true true true s t :=
  onCore_keeps h (spiReadFrameEff_keeps (.refl ..) ..)

theorem execSpiWriteFrame_keeps (cmd : Byte) (addr : BitVec 24) (d : W32) (cut : Bool) (h : execSpiWriteFrame cmd addr d cut s = .next t) :
    Keeps true true true s t :=
  onBus_keeps h (spiWriteFrameEff_keeps (.refl ..) ..)

theorem execBfifoData_keeps (n : Fin 16) (w : W32) (h : execBfifoData n w s = .next t) :
    Keeps false false false s t :=
  onCore_keeps h (onLink_keeps (fun _ h0 => onPage_keeps (fun _ h => fifoWrite_keeps h ..) h0 _) (.refl ..) _)

theorem execBfifoDataEnd_keeps (n : Fin 16) (w : W32) (h : execBfifoDataEnd n w s = .next t) :
    Keeps false false false s t :=
  onCore_keeps h (onLink_keeps (fun _ h0 => onPage_keeps (fun _ h => fifoWrite_keeps h ..) h0 _) (.refl ..) _)

theorem execBfifoPop_keeps (n : Fin 16) (h : execBfifoPop n s = .next t) :
    Keeps false false false s t :=
  onCore_keeps h (onLink_keeps (fun _ h0 => answer_keeps (readOnPage_keeps (fun _ h => readRdata_keeps h ..) h0 _)) (.refl ..) _)

theorem execBfifoEnable_keeps (n : Fin 16) (h : execBfifoEnable n s = .next t) :
    Keeps false false false s t :=
  onCore_keeps h (onLink_keeps (fun _ h0 => onPage_keeps (fun _ h => fifoEnableOp_keeps h ..) h0 _) (.refl ..) _)

theorem execBfifoCfgWrite_keeps (n : Fin 16) (d : W32) (h : execBfifoCfgWrite n d s = .next t) :
    Keeps false false false s t :=
  onCore_keeps h (onLink_keeps (fun _ h0 => onPage_keeps (fun _ h => fifoCfg_keeps h ..) h0 _) (.refl ..) _)

theorem execBfifoAgentTake_keeps (n : Fin 16) (h : execBfifoAgentTake n s = .next t) :
    Keeps false false false s t := by
  refine onCore_keeps h ?_
  have h0 := Keeps.refl false false false s
  try dsimp only
  repeat' first | with_reducible assumption | with_reducible apply bfifoAgentTakeEff_keeps | with_reducible apply judgeArriving_keeps | (intro x) | split | refine Keeps.lit rfl rfl rfl rfl rfl rfl rfl rfl ?_

theorem execBfifoAgentPut_keeps (n : Fin 16) (h : execBfifoAgentPut n s = .next t) :
    Keeps false false false s t :=
  onCore_keeps h (bfifoAgentPutEff_keeps (.refl ..) ..)

theorem execMbxRing_keeps (h : execMbxRing s = .next t) :
    Keeps false false false s t :=
  onCore_keeps h (onLink_keeps (fun _ h0 => onPage_keeps (fun _ h => mbxRingEff_keeps h ..) h0 _) (.refl ..) _)

theorem execMbxBusy_keeps (h : execMbxBusy s = .next t) :
    Keeps false false false s t :=
  onCore_keeps h (mbxBusyEff_keeps (.refl ..) ..)

theorem execMbxDone_keeps (h : execMbxDone s = .next t) :
    Keeps false false false s t :=
  onCore_keeps h (mbxDoneEff_keeps (.refl ..) ..)

theorem execMbxAck_keeps (h : execMbxAck s = .next t) :
    Keeps false false false s t :=
  onCore_keeps h (onLink_keeps (fun _ h0 => onPage_keeps (fun _ h => mbxAckEff_keeps h ..) h0 _) (.refl ..) _)

theorem execVersion_keeps (h : execVersion s = .next t) :
    Keeps false false false s t :=
  onCore_keeps h (serveMbx_keeps (fun _ h => versionAnswer_keeps h ..) (.refl ..) _)

theorem execEcho_keeps (h : execEcho s = .next t) :
    Keeps false false false s t :=
  onCore_keeps h (serveMbx_keeps (fun _ h => echoAnswer_keeps h ..) (.refl ..) _)

theorem execSetRead_keeps (e : StoreEnv) (h : execSetRead e s = .next t) :
    Keeps true true true s t :=
  onCore_keeps h (serveSetting_keeps (fun _ h => setReadAnswer_keeps h ..) (.refl ..) _ _)

theorem execSetWrite_keeps (e : StoreEnv) (h : execSetWrite e s = .next t) :
    Keeps true true true s t :=
  onCore_keeps h (serveSetting_keeps (fun _ h => setWriteAnswer_keeps h ..) (.refl ..) _ _)

theorem execSetDelete_keeps (e : StoreEnv) (h : execSetDelete e s = .next t) :
    Keeps true true true s t :=
  onCore_keeps h (serveSetting_keeps (fun _ h => setDeleteAnswer_keeps h ..) (.refl ..) _ _)

theorem execSetReset_keeps (e : StoreEnv) (h : execSetReset e s = .next t) :
    Keeps true true true s t :=
  onCore_keeps h (serveSetting_keeps (fun _ h => setResetAnswer_keeps h ..) (.refl ..) _ _)

theorem execTrainGo_keeps (n : Fin 4) (d : W32) (h : execTrainGo n d s = .next t) :
    Keeps false false false s t :=
  onCore_keeps h (onLink_keeps (fun _ h0 => onPage_keeps (fun _ h => writeTrain_keeps h ..) h0 _) (.refl ..) _)

theorem execRetrainStart_keeps (n : Fin 4) (h : execRetrainStart n s = .next t) :
    Keeps false false false s t :=
  onCore_keeps h (retrainStartEff_keeps (.refl ..) ..)

theorem execRetrainEnd_keeps (n : Fin 4) (lanes : List TrainLane) (h : execRetrainEnd n lanes s = .next t) :
    Keeps false false false s t :=
  onCore_keeps h (retrainEndEff_keeps (.refl ..) ..)

theorem execMr4Poll_keeps (n : Fin 4) (report : Fin 6) (h : execMr4Poll n report s = .next t) :
    Keeps false false false s t :=
  onCore_keeps h (mr4PollEff_keeps (.refl ..) ..)

theorem execPerBankRefresh_keeps (n : Fin 4) (postpone : Bool) (h : execPerBankRefresh n postpone s = .next t) :
    Keeps false false false s t :=
  onCore_keeps h (perBankRefreshEff_keeps (.refl ..) ..)

theorem execSrRequest_keeps (n : Fin 4) (h : execSrRequest n s = .next t) :
    Keeps false false false s t :=
  onCore_keeps h (onLink_keeps (fun _ h0 => onPage_keeps (fun _ h => srRequestEff_keeps h ..) h0 _) (.refl ..) _)

theorem execSrEntry_keeps (n : Fin 4) (h : execSrEntry n s = .next t) :
    Keeps false false false s t :=
  onCore_keeps h (srEntryEff_keeps (.refl ..) ..)

theorem execSrExitRequest_keeps (n : Fin 4) (h : execSrExitRequest n s = .next t) :
    Keeps false false false s t :=
  onCore_keeps h (onLink_keeps (fun _ h0 => onPage_keeps (fun _ h => srExitRequestEff_keeps h ..) h0 _) (.refl ..) _)

theorem execTmgWrite_keeps (n : Fin 4) (second : Bool) (d : W32) (h : execTmgWrite n second d s = .next t) :
    Keeps false false false s t :=
  onCore_keeps h (onLink_keeps (fun _ h0 => onPage_keeps (fun _ h => writeTmg_keeps h ..) h0 _) (.refl ..) _)

theorem execMrrd_keeps (n : Fin 4) (d : W32) (value : Byte) (h : execMrrd n d value s = .next t) :
    Keeps false false false s t :=
  onCore_keeps h (onLink_keeps (fun _ h0 => onPage_keeps (fun _ h => writeMrrd_keeps h ..) h0 _) (.refl ..) _)

theorem execDqosSlot_keeps (ch : Fin 4) (arr : List (Fin 12 × BitVec 33)) (h : execDqosSlot ch arr s = .next t) :
    Keeps false false false s t :=
  onCore_keeps h (dqosSlotEff_keeps (.refl ..) ..)

theorem execSaturation_keeps (ch : Fin 4) (h : execSaturation ch s = .next t) :
    Keeps false false false s t :=
  onCore_keeps h (saturationEff_keeps (.refl ..) ..)

theorem execSqtailWrite_keeps (r : Fin 8) (d : W32) (h : execSqtailWrite r d s = .next t) :
    Keeps false false false s t :=
  onCore_keeps h (onLink_keeps (fun _ h0 => onPage_keeps (fun _ h => writeSqtail_keeps h ..) h0 _) (.refl ..) _)

theorem execDescriptorFetch_keeps (r : Fin 8) (info : PicInfo) (h : execDescriptorFetch r info s = .next t) :
    Keeps false false false s t :=
  onCore_keeps h (descriptorFetchEff_keeps (.refl ..) ..)

theorem execCqtailWrite_keeps (r : Fin 8) (d : W32) (h : execCqtailWrite r d s = .next t) :
    Keeps false false false s t :=
  onCore_keeps h (onLink_keeps (fun _ h0 => onPage_keeps (fun _ h => writeCqtail_keeps h ..) h0 _) (.refl ..) _)

theorem execCompletionRecord_keeps (r : Fin 8) (h : execCompletionRecord r s = .next t) :
    Keeps true false false s t :=
  onCore_keeps h (completionRecordEff_keeps (.refl ..) ..)

theorem execRingEnable_keeps (r : Fin 8) (d : W32) (h : execRingEnable r d s = .next t) :
    Keeps false false false s t :=
  onCore_keeps h (onLink_keeps (fun _ h0 => onPage_keeps (fun _ h => writeRcfg_keeps h ..) h0 _) (.refl ..) _)

theorem execRingDisable_keeps (r : Fin 8) (d : W32) (h : execRingDisable r d s = .next t) :
    Keeps false false false s t :=
  onCore_keeps h (onLink_keeps (fun _ h0 => onPage_keeps (fun _ h => writeRcfg_keeps h ..) h0 _) (.refl ..) _)

theorem execStripDispatch_keeps (rows : Nat) (parsed : List (Fin 8)) (h : execStripDispatch rows parsed s = .next t) :
    Keeps false false false s t :=
  onCore_keeps h (stripDispatchEff_keeps (.refl ..) ..)

theorem execStripStart_keeps (n : Fin 8) (h : execStripStart n s = .next t) :
    Keeps true false false s t :=
  onCore_keeps h (stripStartEff_keeps (.refl ..) ..)

theorem execStripEnd_keeps (n : Fin 8) (run : List Cycle) (res : StripResult) (h : execStripEnd n run res s = .next t) :
    Keeps true false false s t :=
  onCore_keeps h (stripEndEff_keeps (.refl ..) ..)

theorem execLayerBfifoCopy_keeps (r : Fin 8) (h : execLayerBfifoCopy r s = .next t) :
    Keeps false false false s t :=
  onCore_keeps h (layerBfifoCopyEff_keeps (.refl ..) ..)

theorem execKeyreqWrite_keeps (r : Fin 8) (d : W32) (h : execKeyreqWrite r d s = .next t) :
    Keeps false false false s t :=
  onCore_keeps h (onLink_keeps (fun _ h0 => onPage_keeps (fun _ h => writeKeyreq_keeps h ..) h0 _) (.refl ..) _)

theorem execBitstreamStage_keeps (r : Fin 8) (info : PicInfo) (h : execBitstreamStage r info s = .next t) :
    Keeps true false false s t :=
  onCore_keeps h (bitstreamStageEff_keeps (.refl ..) ..)

theorem execCellFault_keeps (n : Fin 8) (run : List Cycle) (datapath : Bool) (h : execCellFault n run datapath s = .next t) :
    Keeps true false false s t :=
  onCore_keeps h (cellFaultEff_keeps (.refl ..) ..)

theorem execStripWatchdog_keeps (n : Fin 8) (h : execStripWatchdog n s = .next t) :
    Keeps true false false s t :=
  onCore_keeps h (stripWatchdogEff_keeps (.refl ..) ..)

theorem execScrub_keeps (n : Fin 8) (m : CsWord) (h : execScrub n m s = .next t) :
    Keeps true false false s t :=
  onCore_keeps h (scrubEff_keeps (.refl ..) ..)

theorem execCsWriteback_keeps (n : Fin 8) (stuck : CsWord) (h : execCsWriteback n stuck s = .next t) :
    Keeps true false false s t :=
  onCore_keeps h (csWritebackEff_keeps (.refl ..) ..)

theorem execWindowRead_keeps (n : Fin 8) (off : BitVec 17) (m : CsWord) (h : execWindowRead n off m s = .next t) :
    Keeps true false false s t :=
  onCore_keeps h (onLink_keeps (fun _ h0 => answer_keeps (readWindow_keeps h0 ..)) (.refl ..) _)

theorem execCsiEnable_keeps (n : Fin 3) (h : execCsiEnable n s = .next t) :
    Keeps false false false s t :=
  onCore_keeps h (onLink_keeps (fun _ h0 => onPage_keeps (fun _ h => csiEnableOp_keeps h ..) h0 _) (.refl ..) _)

theorem execCsiFrameStart_keeps (n : Fin 3) (h : CsiHead) (h : execCsiFrameStart n h s = .next t) :
    Keeps false false false s t :=
  onCore_keeps h (csiFrameStartEff_keeps (.refl ..) ..)

theorem execCsiLongPacket_keeps (n : Fin 3) (h : CsiHead) (dt : BitVec 6) (k : CsiLine) (px : List Nat) (h : execCsiLongPacket n h dt k px s = .next t) :
    Keeps true false false s t :=
  onCore_keeps h (csiLongPacketEff_keeps (.refl ..) ..)

theorem execCsiFrameEnd_keeps (n : Fin 3) (h : CsiHead) (h : execCsiFrameEnd n h s = .next t) :
    Keeps false false false s t :=
  onCore_keeps h (csiFrameEndEff_keeps (.refl ..) ..)

theorem execCsiLoss_keeps (n : Fin 3) (h : execCsiLoss n s = .next t) :
    Keeps true false false s t :=
  onCore_keeps h (csiLossEff_keeps (.refl ..) ..)

theorem execFstamplRead_keeps (n : Fin 3) (h : execFstamplRead n s = .next t) :
    Keeps false false false s t :=
  onCore_keeps h (onLink_keeps (fun _ h0 => answer_keeps (readOnPage_keeps (fun _ h => readFstampl_keeps h ..) h0 _)) (.refl ..) _)

theorem execIspFrameBoundary_keeps (p : Fin 3) (h : execIspFrameBoundary p s = .next t) :
    Keeps false false false s t :=
  onCore_keeps h (ispFrameBoundaryEff_keeps (.refl ..) ..)

theorem execPassEnd_keeps (h : execPassEnd s = .next t) :
    Keeps false false false s t :=
  onCore_keeps h (passEndEff_keeps (.refl ..) ..)

theorem execOutputPublish_keeps (o : IspOut) (firstRow : Nat) (h : execOutputPublish o firstRow s = .next t) :
    Keeps true false false s t :=
  onCore_keeps h (outputPublishEff_keeps (.refl ..) ..)

theorem execOutputAbandon_keeps (o : IspOut) (h : execOutputAbandon o s = .next t) :
    Keeps false false false s t :=
  onCore_keeps h (outputAbandonEff_keeps (.refl ..) ..)

theorem execRqtailWrite_keeps (d : W32) (h : execRqtailWrite d s = .next t) :
    Keeps false false false s t :=
  onCore_keeps h (onLink_keeps (fun _ h0 => onPage_keeps (fun _ h => writeRqtail_keeps h ..) h0 _) (.refl ..) _)

theorem execBoxIntake_keeps (h : execBoxIntake s = .next t) :
    Keeps false false false s t :=
  onCore_keeps h (boxIntakeEff_keeps (.refl ..) ..)

theorem execBoxExpire_keeps (h : execBoxExpire s = .next t) :
    Keeps false false false s t :=
  onCore_keeps h (boxExpireEff_keeps (.refl ..) ..)

theorem execHrxLock_keeps (rate : Fin 6) (h : execHrxLock rate s = .next t) :
    Keeps false false false s t :=
  onCore_keeps h (hrxLockEff_keeps (.refl ..) ..)

theorem execHrxLoss_keeps (h : execHrxLoss s = .next t) :
    Keeps false false false s t :=
  onCore_keeps h (hrxLossEff_keeps (.refl ..) ..)

theorem execHrxFrame_keeps (f : HdmiFrame) (h : execHrxFrame f s = .next t) :
    Keeps true false false s t :=
  onCore_keeps h (hrxFrameEff_keeps (.refl ..) ..)

theorem execHpdPulse_keeps (h : execHpdPulse s = .next t) :
    Keeps false false false s t :=
  onCore_keeps h (onLink_keeps (fun _ h0 => onPage_keeps (fun _ h => hpdPulseEff_keeps h ..) h0 _) (.refl ..) _)

theorem execHpdRestore_keeps (h : execHpdRestore s = .next t) :
    Keeps false false false s t :=
  onCore_keeps h (hpdRestoreEff_keeps (.refl ..) ..)

theorem execHdcpAuth_keeps (side : HdcpSide) (ver devcnt : Nat) (type1ok : Bool) (h : execHdcpAuth side ver devcnt type1ok s = .next t) :
    Keeps false false false s t :=
  onCore_keeps h (hdcpAuthEff_keeps (.refl ..) ..)

theorem execTvHpdChange_keeps (high : Bool) (h : execTvHpdChange high s = .next t) :
    Keeps false false false s t :=
  always_keeps h (tvHpdChangeEff_keeps (.refl ..) ..)

theorem execHtxLinkUp_keeps (tvMax : Fin 6) (trained : List (Fin 6)) (h : execHtxLinkUp tvMax trained s = .next t) :
    Keeps false false false s t := by
  refine onCore_keeps h ?_
  have h0 := Keeps.refl false false false s
  try dsimp only
  repeat' first | with_reducible assumption | with_reducible apply htxLinkUpEff_keeps | (intro x) | split | refine Keeps.lit rfl rfl rfl rfl rfl rfl rfl rfl ?_

theorem execOutputFrameEdge_keeps (h : execOutputFrameEdge s = .next t) :
    Keeps false false false s t :=
  onCore_keeps h (outputFrameEdgeEff_keeps (.refl ..) ..)

theorem execAvmuteClear_keeps (h : execAvmuteClear s = .next t) :
    Keeps false false false s t :=
  onCore_keeps h (avmuteClearEff_keeps (.refl ..) ..)

theorem execCompUnderflow_keeps (h : execCompUnderflow s = .next t) :
    Keeps false false false s t :=
  onCore_keeps h (compUnderflowEff_keeps (.refl ..) ..)

theorem execSwapWrite_keeps (d : W32) (h : execSwapWrite d s = .next t) :
    Keeps false false false s t :=
  onCore_keeps h (onLink_keeps (fun _ h0 => onPage_keeps (fun _ h => writeSwap_keeps h ..) h0 _) (.refl ..) _)

theorem execEarcLink_keeps (h : execEarcLink s = .next t) :
    Keeps false false false s t :=
  onKa_keeps h (earcLinkEff_keeps (.refl ..) ..)

theorem execEarcStream_keeps (h : execEarcStream s = .next t) :
    Keeps false false false s t :=
  onKa_keeps h (earcStreamEff_keeps (.refl ..) ..)

theorem execHeartbeatLost_keeps (h : execHeartbeatLost s = .next t) :
    Keeps false false false s t :=
  onKa_keeps h (heartbeatLostEff_keeps (.refl ..) ..)

theorem execCapctlUpd_keeps (h : execCapctlUpd s = .next t) :
    Keeps false false false s t :=
  onCore_keeps h (onLink_keeps (fun _ h0 => onPage_keeps (fun _ h => capctlUpdEff_keeps h ..) h0 _) (.refl ..) _)

theorem execEarcChannelStatus_keeps (cs : List W32) (fmt : Byte) (h : execEarcChannelStatus cs fmt s = .next t) :
    Keeps false false false s t :=
  onKa_keeps h (earcChannelStatusEff_keeps (.refl ..) ..)

theorem execMute_keeps (k : Fin 4) (h : execMute k s = .next t) :
    Keeps false false false s t :=
  onCore_keeps h (onLink_keeps (fun _ h0 => onPage_keeps (fun _ h => writeMuteBit_keeps h ..) h0 _) (.refl ..) _)

theorem execUnmute_keeps (k : Fin 4) (h : execUnmute k s = .next t) :
    Keeps false false false s t :=
  onCore_keeps h (onLink_keeps (fun _ h0 => onPage_keeps (fun _ h => writeMuteBit_keeps h ..) h0 _) (.refl ..) _)

theorem execSourceChange_keeps (earc : Bool) (status : Byte) (h : execSourceChange earc status s = .next t) :
    Keeps false false false s t :=
  onKa_keeps h (sourceChangeEff_keeps (.refl ..) ..)

theorem execSourceResume_keeps (earc : Bool) (h : execSourceResume earc s = .next t) :
    Keeps false false false s t :=
  onKa_keeps h (sourceResumeEff_keeps (.refl ..) ..)

theorem execMptLinkUp_keeps (speed : Fin 4) (h : execMptLinkUp speed s = .next t) :
    Keeps false false false s t :=
  onCore_keeps h (mptLinkUpEff_keeps (.refl ..) ..)

theorem execMptLinkDown_keeps (h : execMptLinkDown s = .next t) :
    Keeps false false false s t :=
  onCore_keeps h (mptLinkDownEff_keeps (.refl ..) ..)

theorem execRxFrame_keeps (b : List Byte) (codeError : Bool) (h : execRxFrame b codeError s = .next t) :
    Keeps true false false s t :=
  onCore_keeps h (rxFrameEff_keeps (.refl ..) ..)

theorem execPtpSample_keeps (h : execPtpSample s = .next t) :
    Keeps false false false s t :=
  onCore_keeps h (ptpSampleEff_keeps (.refl ..) ..)

theorem execPtpStep_keeps (offset : Int) (h : execPtpStep offset s = .next t) :
    Keeps false false false s t :=
  onCore_keeps h (ptpStepEff_keeps (.refl ..) ..)

theorem execTimelRead_keeps (h : execTimelRead s = .next t) :
    Keeps false false false s t :=
  onCore_keeps h (onLink_keeps (fun _ h0 => answer_keeps (readOnPage_keeps (fun _ h => readTimel_keeps h ..) h0 _)) (.refl ..) _)

theorem execStreamEnable_keeps (n : Fin 16) (h : execStreamEnable n s = .next t) :
    Keeps false false false s t :=
  onCore_keeps h (onLink_keeps (fun _ h0 => onPage_keeps (fun _ h => streamEnableOp_keeps h ..) h0 _) (.refl ..) _)

theorem execStreamDisable_keeps (n : Fin 16) (h : execStreamDisable n s = .next t) :
    Keeps false false false s t :=
  onCore_keeps h (onLink_keeps (fun _ h0 => onPage_keeps (fun _ h => streamDisableOp_keeps h ..) h0 _) (.refl ..) _)

theorem execLayerPacketize_keeps (n : Fin 16) (h : execLayerPacketize n s = .next t) :
    Keeps false false false s t :=
  onCore_keeps h (layerPacketizeEff_keeps (.refl ..) ..)

theorem execAafPacket_keeps (n : Fin 16) (h : execAafPacket n s = .next t) :
    Keeps false false false s t :=
  onCore_keeps h (aafPacketEff_keeps (.refl ..) ..)

theorem execTxtailWrite_keeps (d : W32) (h : execTxtailWrite d s = .next t) :
    Keeps false false false s t :=
  onCore_keeps h (onLink_keeps (fun _ h0 => onPage_keeps (fun _ h => writeTxtail_keeps h ..) h0 _) (.refl ..) _)

theorem execTxDescriptor_keeps (h : execTxDescriptor s = .next t) :
    Keeps false false false s t :=
  onCore_keeps h (txDescriptorEff_keeps (.refl ..) ..)

theorem execFrameTransmit_keeps (h : execFrameTransmit s = .next t) :
    Keeps false false false s t :=
  onCore_keeps h (frameTransmitEff_keeps (.refl ..) ..)

theorem execSpoutEnable_keeps (h : execSpoutEnable s = .next t) :
    Keeps false false false s t :=
  onCore_keeps h (onLink_keeps (fun _ h0 => onPage_keeps (fun _ h => spoutStart_keeps h ..) h0 _) (.refl ..) _)

theorem execGclBoundary_keeps (h : execGclBoundary s = .next t) :
    Keeps false false false s t :=
  onCore_keeps h (gclBoundaryEff_keeps (.refl ..) ..)

theorem execGclEntry_keeps (h : execGclEntry s = .next t) :
    Keeps false false false s t :=
  onCore_keeps h (gclEntryEff_keeps (.refl ..) ..)

theorem execSwapGo_keeps (h : execSwapGo s = .next t) :
    Keeps false false false s t :=
  onCore_keeps h (onLink_keeps (fun _ h0 => onPage_keeps (fun _ h => swapGoEff_keeps h ..) h0 _) (.refl ..) _)

theorem execShaperWrite_keeps (c : Fin 8) (burst : Bool) (d : W32) (h : execShaperWrite c burst d s = .next t) :
    Keeps false false false s t :=
  onCore_keeps h (onLink_keeps (fun _ h0 => onPage_keeps (fun _ h => writeShaper_keeps h ..) h0 _) (.refl ..) _)

theorem execUpdStart_keeps (e : StoreEnv) (h : execUpdStart e s = .next t) :
    Keeps true true true s t :=
  onCore_keeps h (onLink_keeps (fun _ h0 => onPage_keeps (fun _ h => withStore_keeps (fun _ h => updStartEff_keeps h ..) h _) h0 _) (.refl ..) _)

theorem execUpdChunk_keeps (e : StoreEnv) (h : execUpdChunk e s = .next t) :
    Keeps true true true s t :=
  onCore_keeps h (withStore_keeps (fun _ h => updChunkEff_keeps h ..) (.refl ..) _)

theorem execUpdVerify_keeps (h : execUpdVerify s = .next t) :
    Keeps false false false s t :=
  onCore_keeps h (onLink_keeps (fun _ h0 => onPage_keeps (fun _ h => updVerifyEff_keeps h ..) h0 _) (.refl ..) _)

theorem execVerifyEnd_keeps (e : StoreEnv) (h : execVerifyEnd e s = .next t) :
    Keeps false false false s t :=
  onCore_keeps h (verifyEndEff_keeps (meetLines_keeps (.refl ..) _))

theorem execUpdArm_keeps (e : StoreEnv) (h : execUpdArm e s = .next t) :
    Keeps false false false s t :=
  onCore_keeps h (onLink_keeps (fun _ h0 => onPage_keeps (fun _ h => updArmEff_keeps (meetLines_keeps h _) _) h0 _) (.refl ..) _)

theorem execUpdConfirm_keeps (e : StoreEnv) (h : execUpdConfirm e s = .next t) :
    Keeps false false false s t :=
  onCore_keeps h (onLink_keeps (fun _ h0 => onPage_keeps (fun _ h => updConfirmEff_keeps (meetLines_keeps h _) _) h0 _) (.refl ..) _)

theorem execUpdRevert_keeps (e : StoreEnv) (h : execUpdRevert e s = .next t) :
    Keeps false false false s t :=
  onCore_keeps h (onLink_keeps (fun _ h0 => onPage_keeps (fun _ h => updRevertEff_keeps (meetLines_keeps h _) _) h0 _) (.refl ..) _)

theorem execUpdAbort_keeps (e : StoreEnv) (h : execUpdAbort e s = .next t) :
    Keeps true true true s t :=
  onCore_keeps h (onLink_keeps (fun _ h0 => onPage_keeps (fun _ h => withStore_keeps (fun _ h => updAbortEff_keeps h ..) h _) h0 _) (.refl ..) _)

theorem execJournalCompaction_keeps (e : StoreEnv) (h : execJournalCompaction e s = .next t) :
    Keeps true true true s t :=
  onCore_keeps h (withStore_keeps (fun _ h => journalCompactionEff_keeps h ..) (.refl ..) _)

theorem execPortFsEdge_keeps (k : Fin 4) (xs : List W32) (h : execPortFsEdge k xs s = .next t) :
    Keeps false false false s t :=
  onKa_keeps h (portFsEdgeEff_keeps (.refl ..) ..)

theorem execSetPointRampEnd_keeps (h : execSetPointRampEnd s = .next t) :
    Keeps false false false s t :=
  onKa_keeps h (setPointRampEndEff_keeps (.refl ..) ..)

theorem execHdcpAuthLost_keeps (side : HdcpSide) (h : execHdcpAuthLost side s = .next t) :
    Keeps false false false s t :=
  onCore_keeps h (hdcpAuthLostEff_keeps (.refl ..) ..)

theorem execPerstNRise_keeps (h : execPerstNRise s = .next t) :
    Keeps false false false s t :=
  always_keeps h (perstNRiseEff_keeps (.refl ..) ..)

theorem execGptpMessageInterval_keeps (h : execGptpMessageInterval s = .next t) :
    Keeps false false false s t :=
  onCore_keeps h (gptpMessageIntervalEff_keeps (.refl ..) ..)

theorem execDdcReadEnd_keeps (data : Option (List Byte)) (h : execDdcReadEnd data s = .next t) :
    Keeps false false false s t :=
  onCore_keeps h (ddcReadEndEff_keeps (.refl ..) ..)

/-! ### Every command, and the tick -/

/-- Whatever a command is, it keeps the queue, the fuses, the canonical form of both memories and the order of the register
files. -/
theorem exec_keeps {c : Instr} (h : exec c s = .next t) : Keeps true true true s t := by
  cases c
  case registerWrite => exact (execRegisterWrite_keeps _ _ h).lift
  case undecodedAccess => exact (execUndecodedAccess_keeps _ _ h).lift
  case longBar0Request => exact (execLongBar0Request_keeps _ _ h).lift
  case partialWrite => exact (execPartialWrite_keeps _ _ _ h).lift
  case efirstClear => exact (execEfirstClear_keeps _ _ h).lift
  case shadowCommit => exact (execShadowCommit_keeps _ _ h).lift
  case groupRelease => exact (execGroupRelease_keeps _ h).lift
  case intcSourceAssert => exact (execIntcSourceAssert_keeps _ h).lift
  case setpend => exact (execSetpend_keeps _ _ h).lift
  case clrpend => exact (execClrpend_keeps _ _ h).lift
  case intcDeliver => exact (execIntcDeliver_keeps _ h).lift
  case eoi => exact (execEoi_keeps _ h).lift
  case rstcmdService => exact (execRstcmdService_keeps _ _ h).lift
  case rstcmdChip => exact (execRstcmdChip_keeps _ _ h).lift
  case vddAonLow => exact (execVddAonLow_keeps h).lift
  case poresetRelease => exact (execPoresetRelease_keeps h).lift
  case xoLoss => exact (execXoLoss_keeps h).lift
  case pllLockLoss => exact (execPllLockLoss_keeps h).lift
  case resetNLow => exact (execResetNLow_keeps h).lift
  case resetNRise => exact (execResetNRise_keeps h).lift
  case chipHoldEnd => exact (execChipHoldEnd_keeps h).lift
  case serviceHoldEnd => exact (execServiceHoldEnd_keeps h).lift
  case cellReset => exact (execCellReset_keeps _ h).lift
  case cellReloadDone => exact (execCellReloadDone_keeps _ _ h).lift
  case localReset => exact (execLocalReset_keeps _ h).lift
  case localResetDone => exact (execLocalResetDone_keeps _ h).lift
  case kaCtlWrite => exact (execKaCtlWrite_keeps _ _ h).lift
  case wdogKick => exact (execWdogKick_keeps _ h).lift
  case wdogCtlWrite => exact (execWdogCtlWrite_keeps _ h).lift
  case wdogExpiry => exact (execWdogExpiry_keeps h).lift
  case clkDivWrite => exact (execClkDivWrite_keeps _ h).lift
  case divdone => exact (execDivdone_keeps h).lift
  case xoOk => exact (execXoOk_keeps _ h).lift
  case xolow => exact (execXolow_keeps _ h).lift
  case pllLock => exact (execPllLock_keeps _ h).lift
  case coreRelease => exact (execCoreRelease_keeps h).lift
  case bootRecordSelect => exact (execBootRecordSelect_keeps _ h).lift
  case bootVerifyDone => exact (execBootVerifyDone_keeps _ _ h).lift
  case journalScan => exact (execJournalScan_keeps _ h).lift
  case dramTrainingDone => exact (execDramTrainingDone_keeps _ _ _ _ _ h).lift
  case microcodeLoadDone => exact (execMicrocodeLoadDone_keeps _ h).lift
  case linkUp => exact (execLinkUp_keeps _ _ _ _ h).lift
  case linkDown => exact (execLinkDown_keeps h).lift
  case perstNLow => exact (execPerstNLow_keeps h).lift
  case railLoss => exact (execRailLoss_keeps _ h).lift
  case onPulseStart => exact (execOnPulseStart_keeps _ _ _ h).lift
  case pulseEnd => exact (execPulseEnd_keeps _ _ _ h).lift
  case regSample => exact (execRegSample_keeps _ _ _ h).lift
  case ffNotice => exact (execFfNotice_keeps h).lift
  case ffRampStart => exact (execFfRampStart_keeps h).lift
  case ffHoldEnd => exact (execFfHoldEnd_keeps h).lift
  case phaseShed => exact (execPhaseShed_keeps h).lift
  case phctlWrite => exact (execPhctlWrite_keeps _ h).lift
  case tonWrite => exact (execTonWrite_keeps _ _ h).lift
  case olWrite => exact (execOlWrite_keeps _ _ h).lift
  case modeOpenSet => exact (execModeOpenSet_keeps _ h).lift
  case modeOpenClear => exact (execModeOpenClear_keeps _ h).lift
  case openLoopPulse => exact (execOpenLoopPulse_keeps _ _ h).lift
  case regTrip => exact (execRegTrip_keeps _ h).lift
  case underVoltage => exact (execUnderVoltage_keeps h).lift
  case tripRetry => exact (execTripRetry_keeps _ h).lift
  case tripcntClear => exact (execTripcntClear_keeps h).lift
  case powerGood => exact (execPowerGood_keeps h).lift
  case consumerEnable => exact (execConsumerEnable_keeps _ h).lift
  case consumerDisable => exact (execConsumerDisable_keeps _ h).lift
  case caddyGrant => exact (execCaddyGrant_keeps h).lift
  case caddyReturn => exact (execCaddyReturn_keeps _ h).lift
  case requestAged => exact (execRequestAged_keeps _ h).lift
  case brakeEngage => exact (execBrakeEngage_keeps h).lift
  case brake2 => exact (execBrake2_keeps h).lift
  case brakeStepBack => exact (execBrakeStepBack_keeps h).lift
  case tempUpdate => exact (execTempUpdate_keeps _ h).lift
  case monitorUpdate => exact (execMonitorUpdate_keeps _ h).lift
  case ppsPulse => exact (execPpsPulse_keeps _ h).lift
  case lossOfSignal => exact (execLossOfSignal_keeps _ h).lift
  case refcfgWrite => exact (execRefcfgWrite_keeps _ _ h).lift
  case refRateChange => exact (execRefRateChange_keeps _ h).lift
  case dpllUpdate => exact (execDpllUpdate_keeps h).lift
  case domainLocked => exact (execDomainLocked_keeps _ h).lift
  case outenWrite => exact (execOutenWrite_keeps _ h).lift
  case audWrite => exact (execAudWrite_keeps _ h).lift
  case realignAud => exact (execRealignAud_keeps h).lift
  case realignVid => exact (execRealignVid_keeps h).lift
  case realignApply => exact (execRealignApply_keeps _ h).lift
  case mtimelRead => exact (execMtimelRead_keeps h).lift
  case framePulse => exact (execFramePulse_keeps _ _ _ h).lift
  case tooth => exact (execTooth_keeps h).lift
  case toothMissed => exact (execToothMissed_keeps h).lift
  case prsCfgWrite => exact (execPrsCfgWrite_keeps _ h).lift
  case prsEnable => exact (execPrsEnable_keeps h).lift
  case prsDisable => exact (execPrsDisable_keeps h).lift
  case eventArm => exact (execEventArm_keeps _ h).lift
  case eventCancel => exact (execEventCancel_keeps _ h).lift
  case eventFire => exact (execEventFire_keeps _ h).lift
  case tcntRead => exact (execTcntRead_keeps h).lift
  case actionSwap => exact (execActionSwap_keeps _ h).lift
  case actionStart => exact (execActionStart_keeps _ h).lift
  case actionKeyRequest => exact (execActionKeyRequest_keeps _ h).lift
  case actionMute => exact (execActionMute_keeps _ h).lift
  case actionUnmute => exact (execActionUnmute_keeps _ h).lift
  case actionGpio => exact (execActionGpio_keeps _ _ h).lift
  case bar2Access => exact (execBar2Access_keeps _ _ h).lift
  case spiReadFrame => exact (execSpiReadFrame_keeps _ _ _ h).lift
  case spiWriteFrame => exact (execSpiWriteFrame_keeps _ _ _ _ h).lift
  case bfifoData => exact (execBfifoData_keeps _ _ h).lift
  case bfifoDataEnd => exact (execBfifoDataEnd_keeps _ _ h).lift
  case bfifoPop => exact (execBfifoPop_keeps _ h).lift
  case bfifoEnable => exact (execBfifoEnable_keeps _ h).lift
  case bfifoCfgWrite => exact (execBfifoCfgWrite_keeps _ _ h).lift
  case bfifoAgentTake => exact (execBfifoAgentTake_keeps _ h).lift
  case bfifoAgentPut => exact (execBfifoAgentPut_keeps _ h).lift
  case mbxRing => exact (execMbxRing_keeps h).lift
  case mbxBusy => exact (execMbxBusy_keeps h).lift
  case mbxDone => exact (execMbxDone_keeps h).lift
  case mbxAck => exact (execMbxAck_keeps h).lift
  case version => exact (execVersion_keeps h).lift
  case echo => exact (execEcho_keeps h).lift
  case setRead => exact (execSetRead_keeps _ h).lift
  case setWrite => exact (execSetWrite_keeps _ h).lift
  case setDelete => exact (execSetDelete_keeps _ h).lift
  case setReset => exact (execSetReset_keeps _ h).lift
  case trainGo => exact (execTrainGo_keeps _ _ h).lift
  case retrainStart => exact (execRetrainStart_keeps _ h).lift
  case retrainEnd => exact (execRetrainEnd_keeps _ _ h).lift
  case mr4Poll => exact (execMr4Poll_keeps _ _ h).lift
  case perBankRefresh => exact (execPerBankRefresh_keeps _ _ h).lift
  case srRequest => exact (execSrRequest_keeps _ h).lift
  case srEntry => exact (execSrEntry_keeps _ h).lift
  case srExitRequest => exact (execSrExitRequest_keeps _ h).lift
  case tmgWrite => exact (execTmgWrite_keeps _ _ _ h).lift
  case mrrd => exact (execMrrd_keeps _ _ _ h).lift
  case dqosSlot => exact (execDqosSlot_keeps _ _ h).lift
  case saturation => exact (execSaturation_keeps _ h).lift
  case sqtailWrite => exact (execSqtailWrite_keeps _ _ h).lift
  case descriptorFetch => exact (execDescriptorFetch_keeps _ _ h).lift
  case cqtailWrite => exact (execCqtailWrite_keeps _ _ h).lift
  case completionRecord => exact (execCompletionRecord_keeps _ h).lift
  case ringEnable => exact (execRingEnable_keeps _ _ h).lift
  case ringDisable => exact (execRingDisable_keeps _ _ h).lift
  case stripDispatch => exact (execStripDispatch_keeps _ _ h).lift
  case stripStart => exact (execStripStart_keeps _ h).lift
  case stripEnd => exact (execStripEnd_keeps _ _ _ h).lift
  case layerBfifoCopy => exact (execLayerBfifoCopy_keeps _ h).lift
  case keyreqWrite => exact (execKeyreqWrite_keeps _ _ h).lift
  case bitstreamStage => exact (execBitstreamStage_keeps _ _ h).lift
  case cellFault => exact (execCellFault_keeps _ _ _ h).lift
  case stripWatchdog => exact (execStripWatchdog_keeps _ h).lift
  case scrub => exact (execScrub_keeps _ _ h).lift
  case csWriteback => exact (execCsWriteback_keeps _ _ h).lift
  case windowRead => exact (execWindowRead_keeps _ _ _ h).lift
  case csiEnable => exact (execCsiEnable_keeps _ h).lift
  case csiFrameStart => exact (execCsiFrameStart_keeps _ _ h).lift
  case csiLongPacket => exact (execCsiLongPacket_keeps _ _ _ _ _ h).lift
  case csiFrameEnd => exact (execCsiFrameEnd_keeps _ _ h).lift
  case csiLoss => exact (execCsiLoss_keeps _ h).lift
  case fstamplRead => exact (execFstamplRead_keeps _ h).lift
  case ispFrameBoundary => exact (execIspFrameBoundary_keeps _ h).lift
  case passEnd => exact (execPassEnd_keeps h).lift
  case outputPublish => exact (execOutputPublish_keeps _ _ h).lift
  case outputAbandon => exact (execOutputAbandon_keeps _ h).lift
  case rqtailWrite => exact (execRqtailWrite_keeps _ h).lift
  case boxIntake => exact (execBoxIntake_keeps h).lift
  case boxExpire => exact (execBoxExpire_keeps h).lift
  case hrxLock => exact (execHrxLock_keeps _ h).lift
  case hrxLoss => exact (execHrxLoss_keeps h).lift
  case hrxFrame => exact (execHrxFrame_keeps _ h).lift
  case hpdPulse => exact (execHpdPulse_keeps h).lift
  case hpdRestore => exact (execHpdRestore_keeps h).lift
  case hdcpAuth => exact (execHdcpAuth_keeps _ _ _ _ h).lift
  case tvHpdChange => exact (execTvHpdChange_keeps _ h).lift
  case htxLinkUp => exact (execHtxLinkUp_keeps _ _ h).lift
  case outputFrameEdge => exact (execOutputFrameEdge_keeps h).lift
  case avmuteClear => exact (execAvmuteClear_keeps h).lift
  case compUnderflow => exact (execCompUnderflow_keeps h).lift
  case swapWrite => exact (execSwapWrite_keeps _ h).lift
  case earcLink => exact (execEarcLink_keeps h).lift
  case earcStream => exact (execEarcStream_keeps h).lift
  case heartbeatLost => exact (execHeartbeatLost_keeps h).lift
  case capctlUpd => exact (execCapctlUpd_keeps h).lift
  case earcChannelStatus => exact (execEarcChannelStatus_keeps _ _ h).lift
  case mute => exact (execMute_keeps _ h).lift
  case unmute => exact (execUnmute_keeps _ h).lift
  case sourceChange => exact (execSourceChange_keeps _ _ h).lift
  case sourceResume => exact (execSourceResume_keeps _ h).lift
  case mptLinkUp => exact (execMptLinkUp_keeps _ h).lift
  case mptLinkDown => exact (execMptLinkDown_keeps h).lift
  case rxFrame => exact (execRxFrame_keeps _ _ h).lift
  case ptpSample => exact (execPtpSample_keeps h).lift
  case ptpStep => exact (execPtpStep_keeps _ h).lift
  case timelRead => exact (execTimelRead_keeps h).lift
  case streamEnable => exact (execStreamEnable_keeps _ h).lift
  case streamDisable => exact (execStreamDisable_keeps _ h).lift
  case layerPacketize => exact (execLayerPacketize_keeps _ h).lift
  case aafPacket => exact (execAafPacket_keeps _ h).lift
  case txtailWrite => exact (execTxtailWrite_keeps _ h).lift
  case txDescriptor => exact (execTxDescriptor_keeps h).lift
  case frameTransmit => exact (execFrameTransmit_keeps h).lift
  case spoutEnable => exact (execSpoutEnable_keeps h).lift
  case gclBoundary => exact (execGclBoundary_keeps h).lift
  case gclEntry => exact (execGclEntry_keeps h).lift
  case swapGo => exact (execSwapGo_keeps h).lift
  case shaperWrite => exact (execShaperWrite_keeps _ _ _ h).lift
  case updStart => exact (execUpdStart_keeps _ h).lift
  case updChunk => exact (execUpdChunk_keeps _ h).lift
  case updVerify => exact (execUpdVerify_keeps h).lift
  case verifyEnd => exact (execVerifyEnd_keeps _ h).lift
  case updArm => exact (execUpdArm_keeps _ h).lift
  case updConfirm => exact (execUpdConfirm_keeps _ h).lift
  case updRevert => exact (execUpdRevert_keeps _ h).lift
  case updAbort => exact (execUpdAbort_keeps _ h).lift
  case journalCompaction => exact (execJournalCompaction_keeps _ h).lift
  case portFsEdge => exact (execPortFsEdge_keeps _ _ h).lift
  case setPointRampEnd => exact (execSetPointRampEnd_keeps h).lift
  case hdcpAuthLost => exact (execHdcpAuthLost_keeps _ h).lift
  case perstNRise => exact (execPerstNRise_keeps h).lift
  case gptpMessageInterval => exact (execGptpMessageInterval_keeps h).lift
  case ddcReadEnd => exact (execDdcReadEnd_keeps _ h).lift

theorem linkPerform_keeps {s0 : State} (h : Keeps true true true s0 s) (r : LinkReq) (rest : List LinkReq) :
    Keeps true true true s0 (linkPerform r rest s) := by
  unfold linkPerform; split
  · exact bar2Perform_keeps (Keeps.lit rfl rfl rfl rfl rfl rfl rfl rfl h :
      Keeps true true true s0 { s with hif := { s.hif with waits := rest } }) _ _
  · split
    · rename_i e
      have hu := (Keeps.lit rfl rfl rfl rfl rfl rfl rfl rfl h :
        Keeps true true true s0 { s with hif := { s.hif with waits := rest, turn := true } }).trans (exec_keeps e)
      exact Keeps.lit rfl rfl rfl rfl rfl rfl rfl rfl hu
    all_goals exact h

theorem linkTick_keeps {s0 : State} (h : Keeps true true true s0 s) : Keeps true true true s0 (linkTick s) := by
  unfold linkTick; split
  · exact h
  · exact ite_keeps h (linkPerform_keeps h _ _)

theorem bootTick_keeps {kd km kc : Bool} {s0 : State} (h : Keeps kd km kc s0 s) : Keeps kd km kc s0 (bootTick s) :=
  ite_keeps (setBoot_keeps h _ _) (ite_keeps (setBoot_keeps h _ _) (ite_keeps (setBoot_keeps h _ _) h))

theorem clockTick_keeps {kd km : Bool} {s0 : State} (h : Keeps kd km true s0 s) : Keeps kd km true s0 (clockTick s) :=
  Keeps.setMtime h _

/-- A tick keeps what every command keeps. -/
theorem tick_keeps {s0 : State} (h : Keeps true true true s0 s) : Keeps true true true s0 (tick s) := by
  unfold tick
  try dsimp only
  repeat' first | with_reducible assumption | with_reducible apply realignApplyEff_keeps
                | with_reducible apply timTick_keeps | with_reducible apply regTick_keeps
                | with_reducible apply dmcTick_keeps | with_reducible apply avmuteClearEff_keeps
                | with_reducible apply ptpTick_keeps | with_reducible apply finishWork_keeps
                | with_reducible apply grantStarts_keeps | with_reducible apply linkTick_keeps
                | with_reducible apply bootTick_keeps | with_reducible apply clockTick_keeps | split

end Sys2Proof.Machine
end

