-- ==== Sys2Proof/Tests/Slice0.lean ====
section
/-! SUPPORT. Tests: ill-formed commands refused; worked cases of the manual; and for each statement of
Certificates/Slice0 a state and operands that meet the hypotheses of each of its clauses together. -/

/-- The host has enabled MSI-X. -/
def Sys2Proof.Machine.State.msi (s : Sys2Proof.Machine.State) : Sys2Proof.Machine.State := { s with hif := { s.hif with cfg := { msixEn := true } } }

namespace Sys2Proof.Tests

open Sys2Proof Sys2Proof.Machine

set_option maxRecDepth 20000
set_option linter.unusedVariables false

/-! ### Small states -/

/-- A machine that runs: PLL locked, core up, boot finished (R93). -/
def up : State :=
  ({ State.reset with sys := { State.reset.sys with xoOk := true, pll := true, coreUp := true, seq := 0 } }).put
    SYS.BOOT_STATUS_CODE 0x10

/-- The core as it is released at boot (R90): everything but the later steps of boot. -/
def booting (code : Nat) : State := up.put SYS.BOOT_STATUS_CODE code

/-- A boot record whose copy 0 is valid: slot B active, no trial. -/
def rec0 : BootRec := { seq := 7, active := 1, trial := false, rvt := false, tries := 0, actId := 0, cline := 0 }

def recorded : State := (booting 2).mramWrite (copyAddr 0) (bootLine rec0)

/-- A ring with one encode descriptor whose FLAGS are given: one 64 × 64 layer, context at 0x4000, surfaces at 0x2000. -/
def encDesc (flags : Byte) : State :=
  let entry : List Byte := [0, 0, 0, 0, 0, 0, 0, 0, 0, 0, 0, 0, 0, 0, 0, 0, 64, 0, 64, 0, 0, 0, 0, 0, 2, 0, 0, 0, 0, 0, 0, 0]
  ((((up.puts [(CSCH.RSTS_STATE 5, 1), (CSCH.RCFG_SIZE 5, 4), (CSCH.RCFG_DEPTH 5, 1), (CSCH.SQTAIL_I 5, 1), (CSCH.SQBASEL_A 5, 0x1000),
    (CSCH.SURFBASEL_A, 0x2000), (CSCH.SURFCNT_COUNT, 4)]).dramWrite 0x1000 [1, 0, flags, 1]).dramWrite 0x1018 [0, 0x40]).dramWrite 0x2000
    (entry ++ entry ++ entry ++ entry)).dramWrite 0x4004 [1] |>.dramWrite 0x421C [1, 0, 2, 0, 3, 0]

/-- An encode frame of ring 5 that has started, with one strip, and its deadline. -/
def frame7 (deadline : Nat) : Frame :=
  { num := 7, ring := 5, slot := 0, fid := 99, op := 1, nlayer := 0, deadline, started := true, want := true,
    strips := [{ first := 0, count := 64, samples := 4194304 }] }

/-- A 64 × 64 picture without units that is kept and shown. -/
def pic0 : PicInfo := ⟨[⟨64, 64, true, true, true, none, false⟩], [], [], [], [], 0, 0, 8, true⟩

/-- A decode frame of a 64 × 128 picture in two strips that touch, both on cells. -/
def twoStrips : Frame :=
  { frame7 7 with op := 2, dispatched := true, info := some ⟨[⟨64, 128, false, false, true, none, false⟩], [⟨0, 4096, [0], []⟩, ⟨0, 4096, [1], []⟩], [], [], [], 0, 0, 8, true⟩
                  strips := [{ first := 0, count := 1, samples := 4194304, st := 1, areas := [0] }, { first := 1, count := 1, samples := 4194304, st := 1, areas := [1] }] }

/-- Cells 2 and 3 idle in the pool, with one strip to dispatch. -/
def ready (deadline : Nat) : State :=
  { up.puts [(CSCH.CTL_EN, 1), (CSCH.CELLMASK_POOL, 0x0C), (CELL.STS_STATE 2, 0), (CELL.STS_STATE 3, 0)] with
    csch := { nextNum := 8, frames := [frame7 deadline] }, cells := [(2, { loaded := true }), (3, { loaded := true })] }

/-- Cell 3 idle, its scrubber at word 8191, which holds `w`. -/
def ecc3 (w : CsWord) : State :=
  { up.puts [(CELL.CSCFG_SCRUB_EN 3, 1), (CELL.STS_STATE 3, 0), (CELL.CSSTS_NEXTADDR 3, 8191)] with
    cells := [(3, { loaded := true, store := withWord [] 8191 w, latch := 0xAAAAAAAA55555555 })] }

/-- The in-line frame of port 1 has started; VIS takes port 1 at 64 × 64; `l` is DRAM. -/
def visOk (l : List (Nat × Byte)) : State :=
  let t := up.puts [(ISP.STS_STATE, 2), (CSI.SIZE_WIDTH 1, 64), (CSI.SIZE_HEIGHT 1, 64)]
  let a : List (Fld × Nat) := [(ISP.OUTSRC_VIS, 1), (ISP.OUTSRC_DISP, 3), (ISP.OUTSRC_CODE, 3), (ISP.PSETL_A 1, 0x5000), (ISP.SIZE_W 2, 64), (ISP.SIZE_H 2, 64),
    (ISP.CROP1_W 2, 64), (ISP.CROP1_H 2, 64), (ISP.VCFG_PITCH, 64)]
  { a.foldl (fun t e => t.putA e.1 e.2) t with csis := [(1, { start := true, stamp := 77 })], dram := l }

/-- VISR with an entry of box 9 at RQHEAD, 15 of 16, whose FLAGS are given, and the boxes it holds. -/
def boxes (flags : Byte) (l : List Box) : State :=
  { (up.puts [(VISR.CTL_EN, 1), (VISR.RQCFG_SIZE, 4), (VISR.RQHEAD_I, 15), (VISR.RQBASEL_A, 0x1000)]).dramWrite 0x11F5 [9, 0, flags] with
    visr := { boxes := l } }

/-- Port 2 of APORT runs, with a ramp of 64 frames, and is in a given state. -/
def fsPort (p : ApPort) : State :=
  { up.puts [(APORT.CTL_EN, 1), (APORT.PEN_K, 4), (APORT.PCFG_RAMP 2, 64)] with mtime := 7, aport := { up.aport with ports := [(2, p)] } }

/-- Policer 3 of Strainer takes every frame in mode 1; its bucket holds `n` bytes. -/
def polUp (n : Nat) : State :=
  let t := up.puts [(MPT.STS_STATE, 3), (STRN.CTL_EN, 1)]
  { ((t.putA (STRN.MATCH_EN 3) 1).putA (STRN.PCFG_MODE 3) 1) with strn := { buckets := [(3, { tc := n * 786432 })] } }

/-- A KIND 2 stream entry: class 6, an untagged header, SEQINIT 0x00FF, port 2, SPP 6. -/
def aafEntry : List Byte := [2, 6, 14, 0, 0, 0, 255, 0, 0, 0, 0, 0, 0, 0, 0, 0, 0, 0, 0, 0, 0, 0, 0, 0, 2, 6]

/-- Stream 3 runs on it, with a class queue; port 2 has six frames that it has not used. -/
def aafUp (q : List TxFrame) : State :=
  { up.puts [(MPT.CTL_EN, 1), (MPT.STREN_N, 8), (MPT.SEQ_N 3, 255), (APORT.CTL_EN, 1), (APORT.PEN_K, 4), (APORT.PCFG_DIR 2, 1)] with
    mpt := { up.mpt with streams := [(3, { entry := aafEntry ++ List.replicate 102 0, used := 100 })], queues := if q = [] then [] else [(6, q)] }
    aport := { up.aport with ports := [(2, { count := 106 })] } }

/-- A frame whose one layer waits for stream 3. -/
def rtpFrame : Frame :=
  { frame7 7 with nlayer := 1, endT := some 9, layers := [⟨0x4000, 100, 2, 3⟩], bytes := [5], mptDue := [0] }

/-- Stream 3 runs as KIND 1 over IPv4 in class 6. -/
def rtpUp (q : List TxFrame) : State :=
  { (up.puts [(MPT.CTL_EN, 1), (MPT.STREN_N, 8), (MPT.SEQ_N 3, 0xFFFF)]).dramWrite 0x4002 [1, 0x65, 7] with
    csch := { nextNum := 8, frames := [rtpFrame] }
    mpt := { up.mpt with streams := [(3, { entry := [1, 6, 42, 96, 0xDC, 5] ++ List.replicate 62 0 ++ [8, 0, 0x45, 0, 0, 0, 0, 0, 0, 0, 64, 17] ++ List.replicate 48 0 })]
                         queues := if q = [] then [] else [(6, q)] } }

/-- The mailbox holds a request that Utilior works on. -/
def setReq (req0 req1 : Nat) : State := up.puts [(MBX.STS_STATE, 2), (MBX.REQ_W 0, req0), (MBX.REQ_W 1, req1)]

/-- A journal of one segment with one record: key 7 is set; the head follows it. -/
def settled (s : State) : State :=
  let t := ((s.mramWrite (jAddr 0) (crcLine (leBytes 4 0x5347534A ++ leBytes 4 1))).mramWrite (jAddr 1) (recLine 1 1 1 0 7 3 [1, 2, 3])).put STORE.JSTS_HEAD 2
  { t with nvm := { t.nvm with nextSeq := 2 } }

/-- UPD receives an image of 512 bytes into slot B: `r` bytes have come, and a packet with more is there. -/
def chunkUp (r : Nat) (d : List Byte) : State :=
  { up.puts [(UPD.STS_STATE, 1), (UPD.RCVD_N, r)] with
    fifos := [(15, { taken := [{ typ := 0x40, bytes := leBytes 4 r ++ d }] })]
    nvm := { up.nvm with target := 1, head := [0x45, 0x56, 0x46, 0x58, 1, 0, 0, 0, 0, 2, 0, 0] ++ List.replicate 52 0 } }

/-- A training that passes for one byte lane, and one that fails. -/
def goodLane (n : Nat) : TrainLane := ⟨true, List.replicate n (List.replicate 20 true), List.replicate n (List.replicate 20 true), 9⟩

def goodChan : TrainChan := ⟨true, true, [goodLane 16, goodLane 16], 21⟩


/-- Time 5, and no lead of granted starts. -/
def now0 : State := { up.put CADDY.FFLEAD_TICKS 0 with mtime := 5 }

/-- UPD runs a command's boot-record and journal writes. -/
def working (s : State) (op : Nat) (cut : Option StoreCut) : State :=
  let t := s.puts [(UPD.STS_BUSY, 1), (STORE.STS_STATE, 1)]
  { t with nvm := { t.nvm with work := some (op, cut) } }

/-- A journal of 45 segments, of which segment 44 is the oldest; and with a live record in that one. -/
def segs45 : State := (List.range 45).foldl (fun t k => t.mramWrite (jAddr (1024 * k)) (crcLine (leBytes 4 0x5347534A ++ leBytes 4 (46 - k)))) up

def segs45live : State :=
  let t := (segs45.mramWrite (jAddr 45057) (recLine 1 1 1 0 7 3 [1, 2, 3])).put STORE.JSTS_HEAD 1
  { t with nvm := { t.nvm with nextSeq := 2 } }

/-- The in-line frame of port 1 has started; CODE takes port 1 at 64 × 64, linked to ring 5, whose frame `f` names surface 1. -/
def linkUp (f : Frame) : State :=
  let t := encDesc 0
  let a : List (Fld × Nat) := [(ISP.OUTSRC_CODE, 1), (ISP.OUTSRC_DISP, 3), (ISP.OUTSRC_VIS, 3), (ISP.CCFG_LINK, 1), (ISP.CCFG_RING, 5), (ISP.CCFG_FMT, 2),
    (ISP.PSETL_A 1, 0x6000), (ISP.SIZE_W 1, 64), (ISP.SIZE_H 1, 64), (ISP.CROP1_W 1, 64), (ISP.CROP1_H 1, 64)]
  let t := a.foldl (fun t e => t.putA e.1 e.2) (t.puts [(ISP.STS_STATE, 2), (CSI.SIZE_WIDTH 1, 64), (CSI.SIZE_HEIGHT 1, 64)])
  { t with csis := [(1, { start := true, stamp := 77 })], csch := { frames := [{ frame7 9 with num := 3, ring := 4, linked := true }, f] } }

/-! ### Ill-formed commands are refused, one for each check -/

theorem wf_refuses_unaligned_addresses :
    (Instr.registerWrite 0x1002 0).wf = false ∧ (Instr.undecodedAccess 0x900001 true).wf = false ∧
      (Instr.longBar0Request 3 true).wf = false ∧ (Instr.partialWrite 0x1002 7 0).wf = false ∧
      (Instr.windowRead 0 2 0).wf = false := by decide
theorem wf_refuses_a_whole_partial_write : (Instr.partialWrite 0x1000 15 0).wf = false := by decide
theorem wf_refuses_resets_of_pages_without_one :
    (Instr.localReset .sys).wf = false ∧ (Instr.localResetDone (.dmc 0)).wf = false ∧ (Instr.kaCtlWrite .prs 0).wf = false := by decide
theorem wf_refuses_training_reports :
    (Instr.dramTrainingDone 4 0 0 0 (List.replicate 4 goodChan)).wf = false ∧
      (Instr.dramTrainingDone 3 3 0 0 (List.replicate 4 goodChan)).wf = false ∧
      (Instr.dramTrainingDone 3 2 0 0 []).wf = false ∧
      (Instr.dramTrainingDone 3 2 0 0 (List.replicate 4 ⟨true, true, [goodLane 1, goodLane 16], 0⟩)).wf = false ∧
      (Instr.retrainEnd 0 [goodLane 1]).wf = false ∧ (Instr.retrainEnd 0 [goodLane 1, goodLane 2]).wf = false := by decide
theorem wf_refuses_links :
    (Instr.linkUp 3 1 {} false).wf = false ∧ (Instr.linkUp 1 0 {} false).wf = false ∧ (Instr.linkUp 2 4 {} true).wf = false := by decide
theorem wf_refuses_samples :
    (Instr.regSample 65536 [0, 0, 0, 0] 0).wf = false ∧ (Instr.regSample 0 [0, 0, 0] 0).wf = false ∧
      (Instr.regSample 0 [0, 0, 0, 0] 65536).wf = false := by decide
theorem wf_refuses_measurements :
    (Instr.monitorUpdate []).wf = false ∧ (Instr.monitorUpdate (List.replicate 6 ⟨true, 32768, 0⟩)).wf = false ∧
      (Instr.monitorUpdate (List.replicate 6 ⟨true, 0, 3⟩)).wf = false := by decide

theorem wf_refuses_bar2_runs :
    (Instr.bar2Access 0 (.read 0)).wf = false ∧ (Instr.bar2Access 0 (.read 4097)).wf = false ∧
      (Instr.bar2Access 0x3FFFFFFF (.read 2)).wf = false ∧ (Instr.bar2Access 0 (.write [])).wf = false ∧
      (Instr.bar2Access 0x3FFFFFFF (.write [(0, true), (0, true)])).wf = false := by decide
theorem wf_refuses_wide_pixels : (Instr.csiLongPacket 0 ⟨0, false, false⟩ 0x2D .good [16384]).wf = false := by decide
theorem wf_refuses_pictures :
    (Instr.descriptorFetch 0 { pic0 with pics := [] }).wf = false ∧
      (Instr.bitstreamStage 0 { pic0 with pics := [⟨64, 65536, true, true, true, none, false⟩] }).wf = false ∧
      (Instr.bitstreamStage 0 { pic0 with profile := 3 }).wf = false ∧
      (Instr.bitstreamStage 0 { pic0 with units := [⟨1, 4096, [0], []⟩] }).wf = false ∧
      (Instr.bitstreamStage 0 { pic0 with units := [⟨0, 4096, [0], [0]⟩] }).wf = false := by decide
theorem wf_refuses_strip_results : (Instr.stripEnd 0 [] ⟨[], [], [], [], 1, [], [], 0⟩).wf = false := by decide
theorem wf_refuses_first_rows : (Instr.outputPublish .disp (2 ^ 24)).wf = false := by decide
theorem wf_refuses_hdmi_frames :
    (Instr.hrxFrame ⟨1, 2, 5, 6, 7, true, false, 0, 2, [[1, 2], [3, 4], [5]]⟩).wf = false ∧
      (Instr.hrxFrame ⟨1, 1, 65536, 6, 7, true, false, 0, 0, [[1], [2], [3]]⟩).wf = false ∧
      (Instr.hrxFrame ⟨1, 1, 5, 6, 7, true, false, 0, 0, [[256], [2], [3]]⟩).wf = false := by decide
theorem wf_refuses_hdcp_versions : (Instr.hdcpAuth .upstream 3 0 true).wf = false ∧ (Instr.hdcpAuth .upstream 0 256 true).wf = false := by decide
theorem wf_refuses_long_port_frames : (Instr.portFsEdge 0 (List.replicate 17 0)).wf = false := by decide
theorem wf_refuses_lines_of_the_store :
    (Instr.setRead { weak := [4, 4] }).wf = false ∧ (Instr.updStart { weak := [4], bad := [4] }).wf = false ∧
      (Instr.journalScan { bad := [0x40000] }).wf = false ∧ (Instr.updArm { weak := [0x40000] }).wf = false := by decide
theorem wf_refuses_short_channel_status : (Instr.earcChannelStatus [0] 0).wf = false := by decide
theorem wf_refuses_runts : (Instr.rxFrame [0, 0, 0, 0] false).wf = false := by decide
theorem wf_refuses_short_edid_blocks : (Instr.ddcReadEnd (some [0])).wf = false := by decide
theorem wf_accepts :
    (Instr.registerWrite 0x1004 0).wf = true ∧ (Instr.linkUp 2 3 {} false).wf = true ∧ (Instr.bar2Access 0 (.read 4096)).wf = true ∧
      (Instr.dramTrainingDone 3 2 0 0 (List.replicate 4 goodChan)).wf = true ∧
      (Instr.hrxFrame ⟨1, 2, 5, 6, 7, true, false, 0, 2, [[1, 2], [3], [5]]⟩).wf = true ∧
      (Instr.setRead { weak := [5], bad := [4], cut := some ⟨0, true, .supply⟩ }).wf = true := by decide

/-! ### Worked cases of the manual, one command or one formula each -/

/-- The state after a command; the state itself where the command stops. -/
def after (i : Instr) (s : State) : State := match exec i s with
  | .next t => t
  | _ => s

/-- REG regulates at 0.800 V from 12.0 V with a load of `n` units of 50 mA (Table REG-6). -/
def regAt (n : Nat) : State :=
  { up.puts [(REG.STS_STATE, 2), (REG.STS_NPH, 1), (REG.VIN_MV, 12000), (REG.IMEAS_TOTAL, n)] with
    reg := { up.reg with ramp := 800000 * uvUnit } }

-- 04, worked case: 6 A gives 0.797 V and 399 periods; 18 A without a boost 0.791 V and 396 periods.
theorem test_on_time_at_6A : vTgt2 (regAt 120) = 1594000 ∧ (loopOnTime 0 (regAt 120)).1 = 399 := by decide
theorem test_on_time_at_18A : vTgt2 (regAt 360) = 1582000 ∧ (loopOnTime 0 (regAt 360)).1 = 396 := by decide
-- The 12 mV boost of a 12 A notice, complete: 0.809 V at 6 A; at 18 A 402 periods.
theorem test_boosted_on_time :
    let b : Boost := { goal := 12000 * uvUnit, cur := 12000 * uvUnit, start := 0, hold := 0, phase := 1 }
    vTgt2 { regAt 120 with reg := { (regAt 120).reg with boosts := [b] } } = 1618000 ∧
      (loopOnTime 0 { regAt 360 with reg := { (regAt 360).reg with boosts := [b] } }).1 = 402 := by decide
theorem test_notice_boost : (boostOf 240 0 (regAt 120)).goal = 12000 * uvUnit := by decide
-- 05, worked case: at 112 °C 68 units of derating leave 532 of 600.
theorem test_derating_at_112C : (after (.tempUpdate 112) up).get CADDY.AVAIL_EFF = 532 := by decide
theorem test_temperature_in_range : (after (.tempUpdate 95) up).get CADDY.AVAIL_EFF = 600 := by decide
-- 03, worked case of the dividers: 0x3018_100C keeps the ratio rules; ISP = 8 with FAB = 24 breaks the second.
theorem test_divider_rules : divRatio 0x3018100C = true ∧ divRatio 0x3018080C = false := by decide
-- A DIV write with a field below its minimum is ignored (R83).
theorem test_divider_minimum :
    (after (.clkDivWrite 0x180C0805) up).get CLK.DIV_CELL = up.get CLK.DIV_CELL ∧
      (after (.clkDivWrite 0x180C0805) up).get (HDR.EFIRST_SRC Page.clk.base) = 0x100 := by decide
-- R88: an expiry with ACTION 0 after a watchdog SERVICE reset without a kick resets the chip.
theorem test_watchdog_escalates :
    (after .wdogExpiry { up.puts [(SYS.WDOG_CTL_EN, 1), (SYS.WDOG_CTL_TIMEOUT, 5)] with
      mtime := 98304 * 10, sys := { up.sys with wdSvc := true } }).get SYS.RSTCAUSE_WDCHIP = 1 := by decide
-- R66, Table SYS-13: a keyed CHIP reset leaves one cause; a wrong key only records 0x0102.
theorem test_chip_reset_cause : (after (.rstcmdChip 0xC3A5 false) up).get SYS.RSTCAUSE_CHIP = 1 := by decide
theorem test_chip_reset_wrong_key : (after (.rstcmdChip 0x5A3C false) up).get (HDR.EFIRST_SRC Page.sys.base) = 0x102 := by decide

/-- PRS follows a source: tooth 100 is expected at `b` ticks, with a settled period of 1 638 400 (Table PRS-4). -/
def train (b now : Nat) : State :=
  { up.puts [(PRS.CTL_EN, 1), (PRS.STS_STATE, 2), (PRS.TCNT_COUNT, 99)] with
    mtime := now, prs := { up.prs with per := 1638400 * 16, p := b * 16, win := 8192, hasTooth := true, last := (b - 1638400) * 16 } }

-- 07, worked case: a pulse 3000 ticks early brings per to 1 638 376.5625 and tooth 101 to 1 638 001.5625 after tooth 100.
theorem test_early_pulse_moves_the_flywheel :
    let s := after (.framePulse 0 false 9997000) (train 10000000 9997000)
    s.prs.per = 26214025 ∧ s.prs.p = (10000000 + 1638001) * 16 + 9 ∧ s.prs.due = some (10000000 * 16) := by decide
-- A pulse outside the window is noise (R171).
theorem test_noise_is_counted :
    (after (.framePulse 0 false 9900000) (train 10000000 9900000)).prs.per = 1638400 * 16 ∧
      (after (.framePulse 0 false 9900000) (train 10000000 9900000)).prs.p = 160000000 := by decide

-- 08, worked case: 45 words with one end mark read as COUNT 0x0008_002D; RDATA_END before the last word of a packet is 3.
theorem test_fifo_count :
    showPage (.bfifo 3) 0x54 { up.put (BFIFO.CFG_DIR 3) 1 with
      fifos := [(3, { items := List.replicate 43 (0, false) ++ [(0, true), (0, false)] })] } = 0x0008002D := by decide
theorem test_fifo_end_mark :
    rdataEnd { up.puts [(BFIFO.CFG_DIR 3, 1), (BFIFO.CTL_EN 3, 1)] with fifos := [(3, { items := [(7, true)] })] } 3 = 3 := by decide
theorem test_fifo_pop :
    (after (.bfifoPop 3) { up.puts [(BFIFO.CFG_DIR 3, 1), (BFIFO.CTL_EN 3, 1)] with
      fifos := [(3, { items := [(0x010000AB, false), (1, true)] })] }).out.rdata = some 0x010000AB := by decide

-- 10 and 11, worked cases: estimates, minimum estimates, the drop test at 3 497 096 ticks with one cell.
theorem test_estimates :
    estimate (up.put CLK.DIVSTS_CELL 8) 1 (1024 * 983040) = 517816 ∧ estimate (up.put CLK.DIVSTS_CELL 8) 1 (1024 * 430080) = 226545 ∧ estMin up 1 517816 = 414253 ∧ estMin up 1 226545 = 181236 ∧
      gapTicks up = 204 := by decide
theorem test_estimates_of_a_call : estimate up 1 (1024 * 1175040) = 464214 ∧ estimate up 1 (1024 * 514080) = 203094 := by decide
-- 13, worked case: the check code of a word with data bits 117 and 105 is 0x0C; with bit 105 lost it is correctable there.
theorem test_check_code : eccEncode (2 ^ 117 + 2 ^ 105) = BitVec.ofNat 128 (0x0C * 2 ^ 120 + 2 ^ 117 + 2 ^ 105) := by decide
theorem test_lost_bit_is_found :
    eccSyndrome (BitVec.ofNat 128 (0x0C * 2 ^ 120 + 2 ^ 117)) = (0x71, true) ∧ eccBit 0x71 = 105 ∧
      eccResult (BitVec.ofNat 128 (0x0C * 2 ^ 120 + 2 ^ 117)) = 1 := by decide
theorem test_window_read_of_an_upset_word :
    let s : State := { up.put (CELL.STS_STATE 2) 0 with cells := [(2, { loaded := true, store := withWord [] 0x123 (BitVec.ofNat 128 (0x0C * 2 ^ 120 + 2 ^ 117)) })] }
    showPage (.cell 2) 0x60 (after (.windowRead 2 0x1230 0) s) = 0xAF100123 ∧
      (after (.windowRead 2 0x1230 0) s).get (CELL.CSERR_CADDR 2) = 0x123 := by decide

-- 15, worked case: 4400 × 2250 with PERIOD 0x0190_0000 is a 594 MHz pixel clock.
theorem test_pixel_clock :
    let s : State := { up.puts [(HTX.CFG_MODE, 1), (HTX.HTIM_HTOT, 4400), (HTX.VTIM_VTOT, 2250)] with prs := { up.prs with per := 0x1900000 } }
    (pixelClock s).1 = 594000000 * (pixelClock s).2 := by decide
-- 17, worked case, step 6: the trial boot writes SEQ 43 with TRIES 1 over the older copy.
theorem test_trial_boot_counts_a_try :
    let b : BootRec := { seq := 42, active := 1, trial := true, rvt := false, tries := 0, actId := 42, cline := 0x1A40 }
    let s := ((booting 2).mramWrite (copyAddr 0) (bootLine { b with seq := 41, active := 0, trial := false })).mramWrite (copyAddr 1) (bootLine b)
    bootCopy (after (.bootRecordSelect {}) s) 0 = some { b with seq := 43, tries := 1 } ∧
      (after (.bootRecordSelect {}) s).sys.bootSlot = 1 := by decide
-- The fourth boot of a trial reverts (Table UPD-5): the other slot, with RVT.
theorem test_trial_reverts :
    let b : BootRec := { seq := 45, active := 1, trial := true, rvt := false, tries := 3, actId := 42, cline := 0x1A40 }
    let s := (booting 2).mramWrite (copyAddr 1) (bootLine b)
    bootCopy (after (.bootRecordSelect {}) s) 0 = some { b with seq := 46, active := 0, trial := false, rvt := true } ∧
      (after (.bootRecordSelect {}) s).sys.bootSlot = 0 := by decide
-- The CRC of the standards, on the nine digits: 0xCBF4_3926.
theorem test_crc32 : crc32 [0x31, 0x32, 0x33, 0x34, 0x35, 0x36, 0x37, 0x38, 0x39] = 0xCBF43926 := by decide
-- R366: serial order wraps.
theorem test_serial_order : serialGreater 0 0xFFFFFFFF = true ∧ serialGreater 0xFFFFFFFF 0 = false := by decide

-- R154: MTIMEL latches the high word.
theorem test_mtime_latch :
    (after .mtimelRead { up with mtime := 0x300000007 }).out.rdata = some 7 ∧
      (after .mtimelRead { up with mtime := 0x300000007 }).get TIM.MTIMEH_HIGH = 3 := by decide
-- 06, worked case: REF_EARC at +200.02 ppm goes from ALARM to HARDWAIT, at +100.02 ppm from QUALIFIED to ALARM.
theorem test_hard_limit :
    (judgeRef 1 20002 1 (up.put (TIM.RSTAT_STATE 1) 3)).get (TIM.RSTAT_STATE 1) = 4 ∧
      (judgeRef 1 10002 1 (up.put (TIM.RSTAT_STATE 1) 2)).get (TIM.RSTAT_STATE 1) = 3 := by decide
-- R56: an EOI ends service; a level source still asserted is pending again.
theorem test_eoi_samples_again :
    (after (.eoi 0) (up.puts [(HDR.ISR_ERR 0, 1), (SYS.IER, 1), (INTC.INSVC 0, 1)])).get (INTC.PEND 0) = 1 := by decide
theorem test_eoi_not_in_service : (after (.eoi 7) up).get (HDR.EFIRST_SRC Page.intc.base) = 0x100 := by decide
-- Table HIF-4: a DRAM word written over BAR2 is read back; bytes not enabled stay.
theorem test_bar2_write :
    (after (.bar2Access 0x100 (.write [(1, true), (2, false), (3, true)])) (up.puts [(DMC.STS_STATE 0, 1), (DMC.STS_STATE 1, 1),
      (DMC.STS_STATE 2, 1), (DMC.STS_STATE 3, 1)])).dramRead 0x100 3 = [1, 0, 3] := by decide
-- R44: COMMIT with GRP 0 at IMMEDIATE copies at once and stamps.
theorem test_commit_stamps :
    (after (.shadowCommit .comp 1) { up with mtime := 77 }).get (HDR.STAMP Page.comp.base) = 77 := by decide
-- The command queue: a step takes the front command and leaves the rest.
theorem test_step_takes_the_front :
    (match step { up with pending := [.xolow 190, .divdone] } with
      | .next t => t.pending == [.divdone] && t.get CLK.ISR_XOLOW == 1
      | _ => false) = true := by decide
theorem test_empty_queue_ticks :
    (match step { up with mtime := 41 } with
      | .next t => t.mtime == 42
      | _ => false) = true := by decide

/-! ### The hypotheses of the statements are met -/

theorem stepRunsTheFrontCommand_met :
  ∃ (i : Instr) (rest : List Instr) (s : State),
    s.pending = i :: rest :=
  ⟨.mtimelRead, [.tooth], { State.reset with pending := [.mtimelRead, .tooth] }, by decide⟩

theorem emptyQueuePassesOneTick_met :
  (∃ (s : State),
    s.pending = [] ∧ s.sys.pll = true ∧ s.nvm.work = none ∧ s.hif.waits = []) ∧
  (∃ (s : State),
    s.pending = [] ∧ s.sys.pll = true ∧ s.sys.coreUp = true ∧ s.nvm.work = none ∧ s.hif.waits = [] ∧
    (s.get SYS.BOOT_STATUS_CODE = 1 ∨ s.get SYS.BOOT_STATUS_CODE = 5)) ∧
  (∃ (s : State),
    s.pending = [] ∧ s.sys.pll = true ∧ s.sys.coreUp = true ∧ s.nvm.work = none ∧ s.hif.waits = [] ∧
    (s.get SYS.BOOT_STATUS_CODE = 1 ∨ s.get SYS.BOOT_STATUS_CODE = 5)) ∧
  (∃ (s : State),
    s.pending = [] ∧ s.sys.pll = true ∧ s.sys.coreUp = true ∧ s.nvm.work = none ∧ s.hif.waits = [] ∧
    s.get SYS.BOOT_STATUS_CODE = 4) ∧
  (∃ (s : State),
    s.pending = [] ∧ s.sys.pll = true ∧ s.sys.coreUp = true ∧ s.nvm.work = some (4, none) ∧ s.hif.waits = []) ∧
  (∃ (s : State),
    s.pending = [] ∧ s.sys.pll = false) :=
  ⟨⟨up, by decide⟩,
   ⟨booting 1, by decide⟩,
   ⟨booting 5, by decide⟩,
   ⟨{ booting 4 with sys := { up.sys with factoryBad := true } }, by decide⟩,
   ⟨{ up.puts [(UPD.STS_BUSY, 1), (UPD.STS_STATE, 6)] with nvm := { up.nvm with work := some (4, none) } }, by decide⟩,
   ⟨State.reset, by decide⟩⟩

theorem resetLeavesTheResetValues_met :
  (∃ (i : Nat),
    True) ∧
  (∃ (p : Page),
    True) :=
  ⟨⟨15, by decide⟩,
   ⟨.csi 2, by decide⟩⟩

theorem everyStepKeepsTheCanonicalForm_met :
  ∃ (s t : State),
    s.storesOk ∧ s.regsOk ∧ step s = .next t :=
  ⟨{ up with pending := [.mtimelRead] }, { up with out := { up.out with rdata := some 0 } }, by decide, by decide, rfl⟩

theorem commandsStopOnlyWhenUnsupported_met :
  (∃ (i : Instr) (s : State),
    s.supported) ∧
  (∃ (i : Instr) (s : State) (f : Fault),
    exec i s = .fault f) ∧
  (∃ (i : Instr) (s : State) (r : Refusal),
    True) :=
  ⟨⟨.coreRelease, State.reset, by decide⟩,
   ⟨.xolow 190, { up with sys := { up.sys with unsup := .core } }, .unsupportedCondition, rfl⟩,
   ⟨.tooth, up, .notModelled "", by decide⟩⟩

theorem commandsLeaveTheQueue_met :
  ∃ (i : Instr) (s t : State),
    exec i s = .next t :=
  ⟨.coreRelease, { State.reset with pending := [.tooth] }, { State.reset with pending := [.tooth] }, rfl⟩

theorem mramChangesOnlyByItsCommands_met :
  ∃ (i : Instr) (s t : State),
    exec i s = .next t ∧ (writesMram i = false) :=
  ⟨.coreRelease, State.reset, State.reset, rfl, by decide⟩

theorem dramChangesOnlyByItsCommands_met :
  ∃ (i : Instr) (s t : State) (a : Nat),
    exec i s = .next t ∧ writesDram i = false :=
  ⟨.coreRelease, State.reset, State.reset, 64, rfl, by decide⟩

theorem mtimeMovesOnlyInWideResets_met :
  ∃ (i : Instr) (s t : State),
    exec i s = .next t ∧ movesMtime i = false :=
  ⟨.coreRelease, State.reset, State.reset, rfl, by decide⟩

theorem badRequestsRecordAndChangeNothingElse_met :
  (∃ (s : State) (a : BitVec 24) (w : Bool),
    s.live ∧ target a.toNat = .nothing ∧ writeWaits s = false) ∧
  (∃ (s : State) (a : BitVec 24) (w : Bool),
    s.live ∧ target a.toNat = .nothing ∧ writeWaits s = false) ∧
  (∃ (s : State) (a : BitVec 24) (w : Bool),
    s.live ∧ writeWaits s = false) ∧
  (∃ (s : State) (a : BitVec 24) (be : BitVec 4) (d : W32) (p : Page) (o : Nat),
    s.live ∧ target a.toNat = .page p o ∧ s.answers p ∧ be ≠ 15) ∧
  (∃ (s : State) (a : BitVec 24) (d : W32),
    writeWaits s = false) :=
  ⟨⟨up, 0xB000, false, by decide⟩,
   ⟨up.put (HDR.EFIRST_VALID 0) 1, 0x900000, true, by decide⟩,
   ⟨up, 0, false, by decide⟩,
   ⟨up, 0x54048, 7, 0, .comp, 0x48, by decide⟩,
   ⟨up, 0x54048, 3, by decide⟩⟩

theorem efirstClearEmptiesTheLatch_met :
  (∃ (s : State) (p : Page) (d : W32),
    s.live ∧ s.answers p ∧ natBit d.toNat 31 = true) ∧
  (∃ (s : State) (p : Page) (d : W32),
    s.live ∧ s.answers p ∧ natBit d.toNat 31 = false) ∧
  (∃ (s t : State) (p : Page) (d : W32) (code : Nat),
    s.live ∧ s.answers p ∧ natBit d.toNat 31 = true ∧ code < 2 ^ 16 ∧ exec (.efirstClear p d) s = .next t) :=
  ⟨⟨up.puts [(HDR.EFIRST_VALID 0x43000, 1), (HDR.EFIRST_SRC 0x43000, 0x0102), (HDR.EOVF 0x43000, 1)], .ptp, 0x80000000, by decide⟩,
   ⟨up, .ptp, 0x7FFFFFFF, by decide⟩,
   ⟨up.puts [(HDR.EFIRST_VALID 0x43000, 1), (HDR.EFIRST_SRC 0x43000, 0x0102), (HDR.EOVF 0x43000, 1)], up.puts [(HDR.EFIRST_VALID 0x43000, 0), (HDR.EFIRST_SRC 0x43000, 0), (HDR.EOVF 0x43000, 0)], .ptp, 0x80000000, 0x0101, by decide, by decide, by decide, by decide, rfl⟩⟩

theorem registerWriteFollowsTheAccessCodes_met :
  (∃ (s : State) (a : BitVec 24) (d : W32) (p : Page) (o : Nat),
    s.live ∧ target a.toNat = .page p o ∧ p ∈ [Page.store, .hif, .tcf, .isp] ∧ 0x40 ≤ o ∧ s.answers p) ∧
  (∃ (s : State) (a : BitVec 24) (d : W32) (p : Page) (o : Nat),
    s.live ∧ target a.toNat = .page p o ∧ p ∈ [Page.store, .hif, .tcf, .isp] ∧ 0x40 ≤ o ∧ s.answers p) ∧
  (∃ (s : State) (a : BitVec 24) (d : W32) (p : Page) (o : Nat),
    s.live ∧ target a.toNat = .page p o ∧ reached p s = false ∧ writeWaits s = false) ∧
  (∃ (s : State) (a : BitVec 24) (d : W32) (p : Page) (o : Nat),
    s.live ∧ target a.toNat = .page p o ∧ reached p s = true ∧ s.held p = true ∧ writeWaits s = false) ∧
  (∃ (s : State) (a : BitVec 24) (d : W32),
    s.live ∧ target a.toNat = .nothing ∧ writeWaits s = false) ∧
  (∃ (s : State) (d : W32),
    s.live ∧ s.answers .caddy ∧ s.get (HDR.EFIRST_VALID 0x4000) = 0 ∧
    s.get CADDY.BRAKE_LIMIT < (CADDY.BUDGET_AMT).ofData d ∧ 640 < (CADDY.BUDGET_AMT).ofData d) ∧
  (∃ (s : State) (d : W32) (v : Nat),
    s.live ∧ s.answers .prs ∧ v = bitsOf d 0 28 ∧
    (¬(0x180000 ≤ v ∧ v ≤ 0xF000000 ∧ 16 ≤ s.get PRS.WINDOW_WIN ∧ s.get PRS.WINDOW_WIN * 64 ≤ v)) ∧
    v = bitsOf d 0 24 ∧
    (¬(0x180000 ≤ s.get PRS.PERIOD_P16 ∧ s.get PRS.PERIOD_P16 ≤ 0xF000000 ∧ 16 ≤ v ∧ v * 64 ≤ s.get PRS.PERIOD_P16))) ∧
  (∃ (s : State) (d : W32) (v : Nat),
    s.live ∧ s.answers .prs ∧ v = bitsOf d 0 28 ∧
    (¬(0x180000 ≤ v ∧ v ≤ 0xF000000 ∧ 16 ≤ s.get PRS.WINDOW_WIN ∧ s.get PRS.WINDOW_WIN * 64 ≤ v))) ∧
  (∃ (s : State) (d : W32) (v : Nat),
    s.live ∧ s.answers .prs ∧ v = bitsOf d 0 28 ∧ 0x180000 ≤ v ∧ v ≤ 0xF000000 ∧ 16 ≤ s.get PRS.WINDOW_WIN ∧
    s.get PRS.WINDOW_WIN * 64 ≤ v ∧ v = bitsOf d 0 24 ∧
    (¬(0x180000 ≤ s.get PRS.PERIOD_P16 ∧ s.get PRS.PERIOD_P16 ≤ 0xF000000 ∧ 16 ≤ v ∧ v * 64 ≤ s.get PRS.PERIOD_P16))) ∧
  (∃ (s : State) (d : W32) (v : Nat),
    s.live ∧ s.answers .prs ∧ v = bitsOf d 0 28 ∧
    (¬(0x180000 ≤ v ∧ v ≤ 0xF000000 ∧ 16 ≤ s.get PRS.WINDOW_WIN ∧ s.get PRS.WINDOW_WIN * 64 ≤ v)) ∧
    v = bitsOf d 0 24 ∧
    (¬(0x180000 ≤ s.get PRS.PERIOD_P16 ∧ s.get PRS.PERIOD_P16 ≤ 0xF000000 ∧ 16 ≤ v ∧ v * 64 ≤ s.get PRS.PERIOD_P16))) ∧
  (∃ (s : State) (d : W32) (v : Nat),
    s.live ∧ s.answers .prs ∧ v = bitsOf d 0 28 ∧
    (¬(0x180000 ≤ v ∧ v ≤ 0xF000000 ∧ 16 ≤ s.get PRS.WINDOW_WIN ∧ s.get PRS.WINDOW_WIN * 64 ≤ v)) ∧
    v = bitsOf d 0 24 ∧ 0x180000 ≤ s.get PRS.PERIOD_P16 ∧ s.get PRS.PERIOD_P16 ≤ 0xF000000 ∧ 16 ≤ v ∧
    v * 64 ≤ s.get PRS.PERIOD_P16) ∧
  (∃ (s : State) (d : W32) (v : Nat),
    s.live ∧ s.answers .prs ∧ v = bitsOf d 0 28 ∧
    (¬(0x180000 ≤ v ∧ v ≤ 0xF000000 ∧ 16 ≤ s.get PRS.WINDOW_WIN ∧ s.get PRS.WINDOW_WIN * 64 ≤ v)) ∧
    v = bitsOf d 0 24 ∧
    (¬(0x180000 ≤ s.get PRS.PERIOD_P16 ∧ s.get PRS.PERIOD_P16 ≤ 0xF000000 ∧ 16 ≤ v ∧ v * 64 ≤ s.get PRS.PERIOD_P16))) ∧
  (∃ (s : State) (d : W32) (k : Fin 64) (o : Fin 3),
    s.live ∧ s.answers .prs ∧ s.get (PRS.EVCS_STATE k) = 1) ∧
  (∃ (s : State) (d : W32) (k : Fin 64) (o : Fin 3),
    s.live ∧ s.answers .prs ∧ s.get (PRS.EVCS_STATE k) = 1) ∧
  (∃ (s : State) (d : W32),
    s.live ∧ s.answers .tim ∧ (4 < bitsOf d 0 4 ∨ 4 < bitsOf d 4 4) ∧ (bitsOf d 0 8 = 0 ∨ 60 < bitsOf d 0 8)) ∧
  (∃ (s : State) (d : W32),
    s.live ∧ s.answers .tim ∧ (4 < bitsOf d 0 4 ∨ 4 < bitsOf d 4 4) ∧ (bitsOf d 0 8 = 0 ∨ 60 < bitsOf d 0 8)) ∧
  (∃ (s : State) (d : W32),
    s.live ∧ s.answers .tim ∧ (bitsOf d 0 8 = 0 ∨ 60 < bitsOf d 0 8)) ∧
  (∃ (s : State) (d : W32),
    s.live ∧ s.answers .caddy ∧ (bitsOf d 0 10 < 20 ∨ 640 < bitsOf d 0 10) ∧
    bitsOf d 0 10 ≤ s.get CADDY.BRAKE_LIMIT ∧
    (bitsOf d 0 10 < s.getA CADDY.BUDGET_AMT ∨ bitsOf d 0 10 < s.get CADDY.BUDGET_AMT)) ∧
  (∃ (s : State) (d : W32),
    s.live ∧ s.answers .caddy ∧ s.get CADDY.BRAKE_LIMIT < bitsOf d 0 10 ∧ bitsOf d 0 10 ≤ 640 ∧ 20 ≤ bitsOf d 0 10 ∧
    (s.get CADDY.BUDGET_AMT ≤ bitsOf d 0 10)) ∧
  (∃ (s : State) (d : W32),
    s.live ∧ s.answers .caddy ∧ (s.get CADDY.BUDGET_AMT ≤ bitsOf d 0 10)) ∧
  (∃ (s : State) (d : W32),
    s.live ∧ s.answers .caddy ∧ (bitsOf d 0 10 < s.getA CADDY.BUDGET_AMT ∨ bitsOf d 0 10 < s.get CADDY.BUDGET_AMT)) ∧
  (∃ (s : State) (d : W32) (p : Fin 12),
    s.live ∧ s.answers .dqos ∧
    (48 < (((List.range 12).filter (· != p.val)).map fun q => s.get (DQOS.PCFG_GUAR q)).sum + (DQOS.PCFG_GUAR p).ofData d) ∧
    (¬(1 ≤ DQOS.MARK_M1.ofData d ∧ DQOS.MARK_M1.ofData d < DQOS.MARK_M2.ofData d ∧ DQOS.MARK_M2.ofData d < DQOS.MARK_M3.ofData d ∧ DQOS.MARK_M3.ofData d ≤ 99))) ∧
  (∃ (s : State) (d : W32) (p : Fin 12),
    s.live ∧ s.answers .dqos ∧ ((DQOS.LAT_NS p).ofData d = 0) ∧
    (¬(1 ≤ DQOS.MARK_M1.ofData d ∧ DQOS.MARK_M1.ofData d < DQOS.MARK_M2.ofData d ∧ DQOS.MARK_M2.ofData d < DQOS.MARK_M3.ofData d ∧ DQOS.MARK_M3.ofData d ≤ 99))) ∧
  (∃ (s : State) (d : W32) (i : Fin 16) (k : Fin 4) (slots width : Nat),
    s.live ∧ writeWaits s = false ∧ slots = (APORT.PCFG_SLOTS k).ofData d ∧
    (width = if (APORT.PCFG_WIDTH k).ofData d = 1 then 32 else 16) ∧ s.answers .mbx ∧ s.get MBX.STS_STATE ≠ 0 ∧
    s.answers .aport ∧
    (49152000 < slots * width * portHz s ((APORT.PCFG_FSSEL k).ofData d) ∨ (48000 < portHz s ((APORT.PCFG_FSSEL k).ofData d) ∧ 8 < slots) ∨ ((APORT.PCFG_FMT k).ofData d < 2 ∧ slots ≠ 2)) ∧
    s.answers .upd ∧ bitsOf d 16 16 ≠ 0x7E55) ∧
  (∃ (s : State) (d : W32) (i : Fin 16) (k : Fin 4) (slots width : Nat),
    s.live ∧ writeWaits s = false ∧ slots = (APORT.PCFG_SLOTS k).ofData d ∧
    (width = if (APORT.PCFG_WIDTH k).ofData d = 1 then 32 else 16) ∧ s.answers .aport ∧
    (49152000 < slots * width * portHz s ((APORT.PCFG_FSSEL k).ofData d) ∨ (48000 < portHz s ((APORT.PCFG_FSSEL k).ofData d) ∧ 8 < slots) ∨ ((APORT.PCFG_FMT k).ofData d < 2 ∧ slots ≠ 2)) ∧
    s.answers .upd ∧ bitsOf d 16 16 ≠ 0x7E55) ∧
  (∃ (s : State) (d : W32) (p : Fin 64),
    s.live ∧ s.answers .strn ∧ (d.toNat < 1522)) ∧
  (∃ (s : State) (d : W32) (p : Fin 64),
    s.live ∧ s.answers .strn ∧ bitsOf d 30 2 = 2 ∧ s.get (STRN.PIR_KBPS p) < s.get (STRN.CIR_KBPS p)) ∧
  (∃ (s : State) (d : W32) (l : Fin 2) (i : Fin 256),
    s.live ∧ s.answers .spout ∧ s.get SPOUT.STS_ACT ≠ l ∧ s.get SPOUT.SWAP_GO = 0) ∧
  (∃ (s : State) (d : W32) (l : Fin 2) (i : Fin 256),
    s.live ∧ s.answers .spout ∧ (s.get SPOUT.STS_ACT = l ∨ s.get SPOUT.SWAP_GO = 1)) ∧
  (∃ (s : State) (d : W32) (l : Fin 2) (i : Fin 256),
    s.live ∧ s.answers .spout ∧ (s.get SPOUT.STS_ACT = l ∨ s.get SPOUT.SWAP_GO = 1)) :=
  ⟨⟨up, 0x24040, 0xFFFFFFFF, .isp, 0x40, by decide⟩,
   ⟨up, 0x9050, 0xFFFFFFFF, .hif, 0x50, by decide⟩,
   ⟨up.put SYS.BOOT_STATUS_CODE 0xE2, 0x24040, 1, .isp, 0x40, by decide⟩,
   ⟨{ up with sys := { up.sys with inReset := [0x24000] } }, 0x24040, 1, .isp, 0x40, by decide⟩,
   ⟨up, 0xB000, 1, by decide⟩,
   ⟨up.put CADDY.BRAKE_LIMIT 640, 641, by decide⟩,
   ⟨up, 0x17FFFF, 0x17FFFF, by decide⟩,
   ⟨up, 0xF000001, 0xF000001, by decide⟩,
   ⟨up, 0x180000, 0x180000, by decide⟩,
   ⟨up, 15, 15, by decide⟩,
   ⟨up, 0x64000, 0x64000, by decide⟩,
   ⟨up, 0x64001, 0x64001, by decide⟩,
   ⟨up.put (PRS.EVCS_STATE 63) 1, 7, 63, 2, by decide⟩,
   ⟨up.put (PRS.EVCS_STATE 0) 1, 7, 0, 0, by decide⟩,
   ⟨up, 0x50, by decide⟩,
   ⟨up, 61, by decide⟩,
   ⟨up, 0x100, by decide⟩,
   ⟨up, 19, by decide⟩,
   ⟨up.put CADDY.BRAKE_LIMIT 600, 601, by decide⟩,
   ⟨up, 600, by decide⟩,
   ⟨up.put CADDY.BUDGET_AMT 610, 609, by decide⟩,
   ⟨up.puts [(DQOS.PCFG_GUAR 0, 40)], 0x3F, 11, by decide⟩,
   ⟨up, 0, 0, by decide⟩,
   ⟨up.put MBX.STS_STATE 3, 0x02101200, 15, 3, 16, 32, by decide⟩,
   ⟨up, 0x7E540001, 0, 0, 20, 16, by decide⟩,
   ⟨up, 1521, 63, by decide⟩,
   ⟨up.put (STRN.CIR_KBPS 0) 1, 0x80000000, 0, by decide⟩,
   ⟨up, 9999, 1, 255, by decide⟩,
   ⟨up.put SPOUT.SWAP_GO 1, 0x989681, 1, 0, by decide⟩,
   ⟨up, 20000, 0, 3, by decide⟩⟩

theorem registerWriteIsTheRegistersOwnCommand_met :
  (∃ (s : State) (a : BitVec 24) (d : W32) (p : Page),
    target a.toNat = .page p 0x10 ∧ writeWaits s = false) ∧
  (∃ (s : State) (a : BitVec 24) (d : W32) (p : Page),
    target a.toNat = .page p 0x20 ∧ writeWaits s = false) ∧
  (∃ (s : State) (d : W32),
    s.answers .sys) ∧
  (∃ (s : State) (d : W32),
    s.answers .intc) ∧
  (∃ (s : State) (d : W32) (k : Fin 8),
    s.answers .intc) ∧
  (∃ (s : State) (d : W32),
    writeWaits s = false) ∧
  (∃ (s : State) (d : W32),
    s.live ∧ s.answers .sys ∧ s.answers .clk ∧ (SYS.RSTCMD_KIND.ofData d = 1)) ∧
  (∃ (s : State) (d : W32),
    s.live ∧ s.answers .sys ∧ s.answers .clk ∧ (SYS.RSTCMD_KIND.ofData d = 2)) ∧
  (∃ (s : State) (d : W32),
    s.live ∧ s.answers .sys ∧ s.answers .clk ∧ (SYS.RSTCMD_KIND.ofData d = 2)) ∧
  (∃ (s : State) (d : W32),
    s.live ∧ s.answers .sys ∧ s.answers .clk ∧ (SYS.RSTCMD_KIND.ofData d = 1)) ∧
  (∃ (s : State) (d : W32) (r : Fin 6),
    writeWaits s = false ∧ (bitsOf d 0 2 = 1)) ∧
  (∃ (s : State) (d : W32) (r : Fin 6),
    writeWaits s = false ∧ (bitsOf d 0 2 = 2)) ∧
  (∃ (s : State) (d : W32),
    writeWaits s = false) ∧
  (∃ (s : State) (d : W32) (r : Fin 8),
    writeWaits s = false) ∧
  (∃ (s : State) (d : W32) (c : Fin 8),
    writeWaits s = false ∧ (natBit d.toNat 0 = true)) ∧
  (∃ (s : State) (d : W32) (n : Fin 16),
    writeWaits s = false ∧ (bitsOf d 0 2 = 1)) ∧
  (∃ (s : State) (d : W32) (k : Fin 64),
    writeWaits s = false ∧ (bitsOf d 0 2 = 1)) ∧
  (∃ (s : State) (d : W32) (k : Fin 64),
    writeWaits s = false ∧ (bitsOf d 0 2 = 2)) ∧
  (∃ (s : State) (d : W32) (k : Fin 64),
    writeWaits s = false ∧ (bitsOf d 0 2 = 0)) ∧
  (∃ (s : State) (d : W32),
    s.live ∧ writeWaits s = false ∧ s.nvm.left = none ∧ s.nvm.torn = false ∧ bitsOf d 16 16 = 0x7E55 ∧
    (bitsOf d 0 4 = 1)) ∧
  (∃ (s : State) (d : W32),
    s.live ∧ writeWaits s = false ∧ s.nvm.left = none ∧ s.nvm.torn = false ∧ bitsOf d 16 16 = 0x7E55 ∧
    (bitsOf d 0 4 = 2)) ∧
  (∃ (s : State) (d : W32),
    s.live ∧ writeWaits s = false ∧ s.nvm.left = none ∧ s.nvm.torn = false ∧ bitsOf d 16 16 = 0x7E55 ∧
    (bitsOf d 0 4 = 6)) ∧
  (∃ (s : State) (d : W32),
    s.live ∧ writeWaits s = false ∧ s.nvm.left = none ∧ s.nvm.torn = false ∧ bitsOf d 16 16 = 0x7E55 ∧
    (bitsOf d 0 4 = 3)) ∧
  (∃ (s : State) (d : W32),
    s.live ∧ writeWaits s = false ∧ s.nvm.left = none ∧ s.nvm.torn = false ∧ bitsOf d 16 16 = 0x7E55 ∧
    (bitsOf d 0 4 = 4)) ∧
  (∃ (s : State) (d : W32),
    s.live ∧ writeWaits s = false ∧ s.nvm.left = none ∧ s.nvm.torn = false ∧ bitsOf d 16 16 = 0x7E55 ∧
    (bitsOf d 0 4 = 5)) ∧
  (∃ (s : State) (d : W32) (n : Fin 4),
    writeWaits s = false ∧ (natBit d.toNat 0 = true)) ∧
  (∃ (s : State) (d : W32) (n : Fin 4),
    writeWaits s = false ∧ (natBit d.toNat 0 = false)) ∧
  (∃ (s : State) (a : BitVec 24) (d : W32) (p : Page),
    target a.toNat = .page p 0x8 ∧ writeWaits s = false ∧ (bitsOf d 0 2 = 1)) ∧
  (∃ (s : State) (a : BitVec 24) (d : W32) (p : Page),
    target a.toNat = .page p 0x8 ∧ writeWaits s = false ∧ (bitsOf d 0 2 = 1)) ∧
  (∃ (s : State) (a : BitVec 24) (d : W32) (p : Page),
    target a.toNat = .page p 0x8 ∧ writeWaits s = false ∧ (bitsOf d 0 2 = 0)) ∧
  (∃ (s : State) (a : BitVec 24) (d : W32) (p : Page),
    target a.toNat = .page p 0x8 ∧ writeWaits s = false ∧ p.hasLrst = true ∧ natBit d.toNat 1 = true) ∧
  (∃ (s : State) (a : BitVec 24) (d : W32) (p : Page),
    target a.toNat = .page p 0x8 ∧ writeWaits s = false ∧ (p ∈ [Page.tim, .caddy, .reg, .earc, .aport]) ∧
    (bitsOf d 0 2 = 1)) :=
  ⟨⟨up, 0x43010, 0x80000000, .ptp, by decide⟩,
   ⟨up, 0x24020, 1, .isp, by decide⟩,
   ⟨up, 4, by decide⟩,
   ⟨up, 4, by decide⟩,
   ⟨up, 4, 7, by decide⟩,
   ⟨up, 1, by decide⟩,
   ⟨up, 0x5A3C0001, by decide⟩,
   ⟨up, 0xC3A50002, by decide⟩,
   ⟨up, 0x5A3C0002, by decide⟩,
   ⟨up, 0x00640011, by decide⟩,
   ⟨up, 0x11010001, 4, by decide⟩,
   ⟨up, 2, 0, by decide⟩,
   ⟨up, 0x00400200, by decide⟩,
   ⟨up.puts [(CSCH.RCFG_SIZE 5, 4)], 3, 5, by decide⟩,
   ⟨up, 1601, 7, by decide⟩,
   ⟨up.put (BFIFO.CTL_EN 3) 1, 0x101, 3, by decide⟩,
   ⟨up.puts [(PRS.STS_STATE, 4), (PRS.EVTL_V 63, 9), (PRS.EVACT_ACTION 63, 7)], 1, 63, by decide⟩,
   ⟨up.puts [(PRS.STS_STATE, 4), (PRS.EVCS_STATE 2, 1), (MBX.STS_STATE, 3)], 2, 2, by decide⟩,
   ⟨up.puts [(PRS.STS_STATE, 4), (PRS.CTL_EN, 1)], 0, 0, by decide⟩,
   ⟨up, 0x7E550001, by decide⟩,
   ⟨up.put UPD.STS_STATE 2, 0x7E550002, by decide⟩,
   ⟨up.put UPD.STS_STATE 2, 0x7E550006, by decide⟩,
   ⟨up, 0x7E550003, by decide⟩,
   ⟨up, 0x7E550004, by decide⟩,
   ⟨up, 0x7E550005, by decide⟩,
   ⟨up.put (DMC.STS_STATE 3) 2, 1, 3, by decide⟩,
   ⟨up.put (DMC.STS_STATE 1) 2, 2, 1, by decide⟩,
   ⟨up, 0x24008, 1, .isp, by decide⟩,
   ⟨up, 0x22008, 1, .csi 2, by decide⟩,
   ⟨up, 0x40008, 0, .mpt, by decide⟩,
   ⟨up.put (CELL.STS_STATE 7) 1, 0x17008, 2, .cell 7, by decide⟩,
   ⟨up.put APORT.STS_KEPT 1, 0x53008, 1, .aport, by decide⟩⟩

theorem shadowCommitRequestsOrApplies_met :
  (∃ (s : State) (p : Page) (d : W32),
    s.live ∧ s.answers p ∧ p.hasShadow = true ∧ s.get (HDR.PENDING p.base) = 0 ∧ natBit d.toNat 0 = true ∧
    bitsOf d 8 3 = 0 ∧ p.allows (bitsOf d 4 4) = true ∧ bitsOf d 4 4 ≠ 0) ∧
  (∃ (s : State) (p : Page) (d : W32),
    s.live ∧ s.regsOk ∧ s.answers p ∧ p.hasShadow = true ∧ p ∉ [Page.tim, .caddy, .reg, .strn] ∧
    s.get (HDR.PENDING p.base) = 0 ∧ natBit d.toNat 0 = true ∧ bitsOf d 8 3 = 0 ∧ bitsOf d 4 4 = 0) ∧
  (∃ (s : State) (p : Page) (d : W32),
    s.live ∧ s.regsOk ∧ s.answers p ∧ p ∈ [Page.tim, .caddy, .reg, .strn] ∧ s.get (HDR.PENDING p.base) = 0 ∧
    natBit d.toNat 0 = true ∧ bitsOf d 8 3 = 0 ∧ bitsOf d 4 4 = 0) ∧
  (∃ (s : State) (p : Page) (d : W32),
    s.live ∧ s.regsOk ∧ s.answers p ∧ p ∈ [Page.tim, .caddy, .reg, .strn] ∧ s.get (HDR.PENDING p.base) = 0 ∧
    natBit d.toNat 0 = true ∧ bitsOf d 8 3 = 0 ∧ bitsOf d 4 4 = 0 ∧ (p = .caddy)) ∧
  (∃ (s : State) (p : Page) (d : W32),
    s.live ∧ s.regsOk ∧ s.answers p ∧ p ∈ [Page.tim, .caddy, .reg, .strn] ∧ s.get (HDR.PENDING p.base) = 0 ∧
    natBit d.toNat 0 = true ∧ bitsOf d 8 3 = 0 ∧ bitsOf d 4 4 = 0) ∧
  (∃ (s : State) (p : Page) (d : W32),
    s.live ∧ s.regsOk ∧ s.answers p ∧ p ∈ [Page.tim, .caddy, .reg, .strn] ∧ s.get (HDR.PENDING p.base) = 0 ∧
    natBit d.toNat 0 = true ∧ bitsOf d 8 3 = 0 ∧ bitsOf d 4 4 = 0 ∧ (p = .strn)) ∧
  (∃ (s : State) (p : Page) (d : W32),
    s.live ∧ s.answers p ∧ p.hasShadow = true ∧ s.get (HDR.PENDING p.base) = 1 ∧ p.allows (bitsOf d 4 4) = true) ∧
  (∃ (s : State) (p : Page) (d : W32),
    s.live ∧ s.answers p ∧ p.hasShadow = true ∧ s.get (HDR.PENDING p.base) = 0 ∧ natBit d.toNat 0 = true ∧
    bitsOf d 8 3 ≠ 0 ∧ p.allows (bitsOf d 4 4) = true) ∧
  (∃ (s : State) (p : Page) (d : W32),
    s.live ∧ s.answers p ∧ p.hasShadow = true ∧ s.get (HDR.PENDING p.base) = 0 ∧ natBit d.toNat 0 = true ∧
    bitsOf d 8 3 = 0 ∧ p.allows (bitsOf d 4 4) = false ∧ s.get (HDR.POINT p.base) ≠ 0) :=
  ⟨⟨up, .isp, 0x31, by decide⟩,
   ⟨(up.put (ISP.CROP0_X 2) 7), .isp, 1, by decide⟩,
   ⟨{ up.puts [(TIM.SELA_PRIO, 0x321), (TIM.CTL_EN, 1)] with mtime := 77 }, .tim, 1, by decide⟩,
   ⟨up.puts [(CADDY.BUDGET_AMT, 600), (CADDY.AVAIL_EFF, 900)], .caddy, 1, by decide⟩,
   ⟨up.puts [(REG.STS_STATE, 2), (REG.VSET_CODE, 700)], .reg, 1, by decide⟩,
   ⟨{ up.puts [(STRN.PCFG_MODE 63, 1), (STRN.CBS_BYTES 63, 9000)] with mtime := 5, strn := { buckets := [(62, { tc := 3 })] } }, .strn, 1, by decide⟩,
   ⟨{ up.puts [(HDR.PENDING 0x2000, 1), (HDR.POINT 0x2000, 3)] with sys := { up.sys with points := [(0x2000, 3)] } }, .tim, 1, by decide⟩,
   ⟨up, .isp, 0x731, by decide⟩,
   ⟨up.put (HDR.POINT 0x24000) 1, .isp, 0x21, by decide⟩⟩

theorem groupReleaseReachesItsIdleMembers_met :
  (∃ (s : State) (d : W32) (g : Nat) (p : Page),
    s.live ∧ 1 ≤ g ∧ g ≤ 7 ∧ d.toNat = 2 ^ g ∧ groupPending s g = false ∧ groupPoint s g = 3 ∧
    writeWaits s = false ∧ p.hasShadow = true ∧ s.held p = false ∧ s.get (HDR.GRP p.base) = g ∧ p.allows 3 = true ∧
    s.get (HDR.PENDING p.base) = 0) ∧
  (∃ (s : State) (d : W32) (g : Nat) (p : Page),
    s.live ∧ 1 ≤ g ∧ g ≤ 7 ∧ d.toNat = 2 ^ g ∧ groupPending s g = false ∧ groupPoint s g = 3 ∧
    writeWaits s = false ∧ p.hasShadow = true ∧ s.held p = false ∧ s.get (HDR.GRP p.base) = g ∧ p.allows 3 = false) ∧
  (∃ (s : State) (d : W32) (g : Nat) (p : Page),
    s.live ∧ 1 ≤ g ∧ g ≤ 7 ∧ d.toNat = 2 ^ g ∧ groupPending s g = false ∧ groupPoint s g = 3 ∧
    writeWaits s = false ∧ (s.get (HDR.GRP p.base) ≠ g)) ∧
  (∃ (s : State) (d : W32) (g : Nat) (p : Page),
    s.live ∧ s.regsOk ∧ 1 ≤ g ∧ g ≤ 7 ∧ d.toNat = 2 ^ g ∧ groupPending s g = false ∧ groupPoint s g = 0 ∧
    writeWaits s = false) ∧
  (∃ (s : State) (d : W32) (g : Nat) (p : Page),
    s.live ∧ s.regsOk ∧ 1 ≤ g ∧ g ≤ 7 ∧ d.toNat = 2 ^ g ∧ groupPending s g = false ∧ groupPoint s g = 0 ∧
    writeWaits s = false) ∧
  (∃ (s : State) (d : W32) (g : Nat) (p : Page),
    s.live ∧ s.regsOk ∧ 1 ≤ g ∧ g ≤ 7 ∧ d.toNat = 2 ^ g ∧ groupPending s g = false ∧ groupPoint s g = 0 ∧
    writeWaits s = false) ∧
  (∃ (s : State) (d : W32) (g : Nat),
    s.live ∧ 1 ≤ g ∧ g ≤ 7 ∧ d.toNat = 2 ^ g ∧ groupPending s g = true ∧ writeWaits s = false) :=
  ⟨⟨up.puts [(HDR.GRP 0x24000, 7), (SYS.GRPPT_PT7, 3)], 0x80, 7, .isp, by decide⟩,
   ⟨up.puts [(HDR.GRP 0x18000, 1), (SYS.GRPPT_PT1, 3)], 2, 1, .csch, by decide⟩,
   ⟨up.puts [(HDR.GRP 0x24000, 7), (SYS.GRPPT_PT7, 3)], 0x80, 7, .comp, by decide⟩,
   ⟨up.puts [(HDR.GRP 0x24000, 7), (ISP.CROP0_X 2, 7)], 0x80, 7, .isp, by decide⟩,
   ⟨up.puts [(HDR.GRP 0x4000, 2), (CADDY.BUDGET_AMT, 500)], 4, 2, .caddy, by decide⟩,
   ⟨up.puts [(HDR.GRP 0x24000, 7), (ISP.CROP0_X 2, 7)], 0x80, 7, .comp, by decide⟩,
   ⟨{ up with sys := { up.sys with members := [(0x24000, 7)] } }, 0x80, 7, by decide⟩⟩

theorem sourceAssertionSetsPend_met :
  (∃ (s : State) (i : Fin 256),
    s.live ∧ isEdge i = true ∧ i.val ∈ s.intc.edges) ∧
  (∃ (s : State) (i : Fin 256),
    s.live ∧ isEdge i = false ∧ levelLine s i = true ∧ i.val ∉ s.intc.seen ∧ s.bit (INTC.INSVC i) = false) ∧
  (∃ (s : State) (i : Fin 256),
    s.live ∧ isEdge i = false ∧ levelLine s i = true ∧ i.val ∉ s.intc.seen ∧ s.bit (INTC.INSVC i) = true) ∧
  (∃ (s : State) (i : Fin 256),
    s.live ∧ sourceDue s i = false) :=
  ⟨⟨{ up with intc := { up.intc with edges := [3, 64] } }, 64, by decide⟩,
   ⟨up.puts [(HDR.ISR_ERR 0, 1), (SYS.IER, 1)], 0, by decide⟩,
   ⟨up.puts [(HDR.ISR_ERR 0, 1), (SYS.IER, 1), (INTC.INSVC 0, 1)], 0, by decide⟩,
   ⟨up, 255, by decide⟩⟩

theorem setpendAndClrpendActOnTheNamedSources_met :
  (∃ (s : State) (k : Fin 8) (d : W32),
    s.live ∧ writeWaits s = false) ∧
  (∃ (s : State) (k : Fin 8) (d : W32),
    s.live ∧ writeWaits s = false) :=
  ⟨⟨up.put (INTC.INSVC 33) 1, 1, 0x80000003, by decide⟩,
   ⟨up.put (INTC.PEND 255) 1, 7, 0x80000003, by decide⟩⟩

theorem deliveryTakesTheLowestEligibleSource_met :
  (∃ (s : State) (g : Fin 35) (i : Fin 256),
    s.live ∧ eligibleOn s g i = true ∧ (∀ j < i.val, eligibleOn s g j = false) ∧
    (g.val < 32 → s.get (INTC.MSIXCTL_MASK g) = 0 ∧ s.hif.cfg.funcMask = false ∧ s.hif.cfg.msixEn = true)) ∧
  (∃ (s : State) (g : Fin 35) (i : Fin 256),
    s.live ∧ eligibleOn s g i = true ∧ (∀ j < i.val, eligibleOn s g j = false) ∧
    (g.val < 32 → s.get (INTC.MSIXCTL_MASK g) = 0 ∧ s.hif.cfg.funcMask = false ∧ s.hif.cfg.msixEn = true)) ∧
  (∃ (s : State) (g : Fin 35),
    s.live ∧ g.val < 32 ∧ (s.get (INTC.MSIXCTL_MASK g) = 1 ∨ s.hif.cfg.funcMask = true ∨ s.hif.cfg.msixEn = false)) ∧
  (∃ (s : State) (g : Fin 35),
    s.live ∧ g.val < 32 ∧ (s.get (INTC.MSIXCTL_MASK g) = 1 ∨ s.hif.cfg.funcMask = true ∨ s.hif.cfg.msixEn = false)) ∧
  (∃ (s : State) (g : Fin 35),
    s.live ∧ (∀ i < 256, eligibleOn s g i = false)) :=
  ⟨⟨(up.puts [(INTC.PEND 130, 1), (INTC.ENABLE 130, 1), (INTC.ROUTE_TGT 130, 31), (INTC.MSIXCTL_MASK 31, 0)]).msi, 31, 130, by decide⟩,
   ⟨up.put (INTC.PEND 15) 1, 34, 15, by decide⟩,
   ⟨(up.puts [(INTC.PEND 130, 1), (INTC.ENABLE 130, 1), (INTC.ROUTE_TGT 130, 31)]).msi, 31, by decide⟩,
   ⟨{ up with hif := { up.hif with cfg := { msixEn := true, funcMask := true } } }, 31, by decide⟩,
   ⟨up, 0, by decide⟩⟩

theorem eoiEndsServiceAndSamplesAgain_met :
  (∃ (s : State) (d : W32),
    s.live ∧ s.bit (INTC.INSVC (bitsOf d 0 8)) = true ∧ isEdge (bitsOf d 0 8) = false ∧
    levelLine s (bitsOf d 0 8) = true ∧ writeWaits s = false) ∧
  (∃ (s : State) (d : W32),
    s.live ∧ s.bit (INTC.INSVC (bitsOf d 0 8)) = true ∧
    (isEdge (bitsOf d 0 8) = true ∨ levelLine s (bitsOf d 0 8) = false) ∧ writeWaits s = false) ∧
  (∃ (s : State) (d : W32),
    s.live ∧ s.bit (INTC.INSVC (bitsOf d 0 8)) = false ∧ writeWaits s = false) :=
  ⟨⟨up.puts [(HDR.ISR_ERR 0, 1), (SYS.IER, 1), (INTC.INSVC 0, 1)], 0xFFFFFF00, by decide⟩,
   ⟨up.put (INTC.INSVC 15) 1, 15, by decide⟩,
   ⟨up, 255, by decide⟩⟩

theorem wideResetsRestoreEverything_met :
  (∃ (s : State),
    s.sys.coreUp = true) ∧
  (∃ (s : State) (key : BitVec 16) (b : Bool),
    s.live ∧ key ≠ 0xC3A5 ∧ writeWaits s = false) ∧
  (∃ (s : State),
    True) ∧
  (∃ (s : State),
    True) ∧
  (∃ (s : State),
    s.sys.xoOk = true) ∧
  (∃ (s : State),
    s.sys.xoOk = true ∧ s.sys.pll = true) ∧
  (∃ (s : State),
    s.sys.resetN = true ∧ s.sys.seq ≠ 4) ∧
  (∃ (s : State),
    s.sys.resetN = true ∧ s.sys.seq = 4) :=
  ⟨⟨{ up.puts [(REG.VSET_CODE, 700), (PRS.CFG_TSRC, 1)] with sys := { up.sys with unsup := .all } }, by decide⟩,
   ⟨up, 0x5A3C, true, by decide⟩,
   ⟨up, by decide⟩,
   ⟨{ State.reset with sys := { State.reset.sys with porCause := 2, unsup := .all } }, by decide⟩,
   ⟨up, by decide⟩,
   ⟨up, by decide⟩,
   ⟨up, by decide⟩,
   ⟨State.reset, by decide⟩⟩

theorem serviceResetKeepsTheKaDomain_met :
  (∃ (s : State),
    s.kaLive ∧ s.sys.coreUp = true ∧ writeWaits s = false) ∧
  (∃ (s : State),
    s.kaLive ∧ s.sys.coreUp = true ∧ wdogDue s = true ∧ writeWaits s = false ∧ s.bit SYS.WDOG_CTL_ACTION = false ∧
    s.sys.wdSvc = false) ∧
  (∃ (s : State),
    s.kaLive ∧ s.sys.coreUp = true ∧ wdogDue s = true ∧ writeWaits s = false ∧
    (s.bit SYS.WDOG_CTL_ACTION = true ∨ s.sys.wdSvc = true)) ∧
  (∃ (s : State) (key : BitVec 16) (b : Bool),
    s.live ∧ key ≠ 0x5A3C ∧ writeWaits s = false) ∧
  (∃ (s : State),
    s.kaLive ∧ wdogDue s = true ∧ s.bit SYS.WDOG_CTL_ACTION = false ∧ s.sys.wdSvc = false) ∧
  (∃ (s : State),
    wdogDue s = true ∧ (s.bit SYS.WDOG_CTL_ACTION = true ∨ s.sys.wdSvc = true)) ∧
  (∃ (s : State),
    s.kaLive ∧ wdogDue s = false) :=
  ⟨⟨{ up.puts [(REG.VSET_CODE, 700), (PRS.CFG_TSRC, 1), (SYS.WDOG_CTL_EN, 1)] with caddy := { up.caddy with grants := [{ id := 3, amt := 5, start := 0, begun := true }] } }, by decide⟩,
   ⟨{ up.puts [(SYS.WDOG_CTL_EN, 1), (SYS.WDOG_CTL_TIMEOUT, 2)] with mtime := 98304 }, by decide⟩,
   ⟨{ up.puts [(SYS.WDOG_CTL_EN, 1), (SYS.WDOG_CTL_TIMEOUT, 2), (SYS.WDOG_CTL_ACTION, 1)] with mtime := 98304 }, by decide⟩,
   ⟨up, 0xC3A5, false, by decide⟩,
   ⟨{ up.puts [(SYS.WDOG_CTL_EN, 1), (SYS.WDOG_CTL_TIMEOUT, 2)] with mtime := 98304 }, by decide⟩,
   ⟨{ up.puts [(SYS.WDOG_CTL_EN, 1), (SYS.WDOG_CTL_TIMEOUT, 2), (SYS.WDOG_CTL_ACTION, 1)] with mtime := 98304 }, by decide⟩,
   ⟨{ up.puts [(SYS.WDOG_CTL_EN, 1), (SYS.WDOG_CTL_TIMEOUT, 2)] with mtime := 98303 }, by decide⟩⟩

theorem bootReleasesFollowTheirConditions_met :
  (∃ (s : State),
    True) ∧
  (∃ (s : State) (mv : Nat),
    s.sys.por = false ∧ 250 < mv) ∧
  (∃ (s : State) (mv : Nat),
    (s.sys.por = true ∨ mv ≤ 250)) ∧
  (∃ (s : State) (v : Nat),
    s.sys.xoOk = true ∧ s.sys.resetN = true ∧ s.sys.por = false ∧ s.sys.chipHold = false ∧ s.sys.pll = false) ∧
  (∃ (s : State),
    s.kaLive ∧ s.bit REG.STS_PG = true ∧ s.sys.svcHold = false ∧ s.sys.coreUp = false) ∧
  (∃ (s : State),
    s.kaLive ∧ s.bit REG.STS_PG = true ∧ s.sys.svcHold = true ∧ s.sys.coreUp = false) :=
  ⟨⟨{ State.reset with sys := { State.reset.sys with off := [.vddAon, .vddio18] } }, by decide⟩,
   ⟨State.reset, 420, by decide⟩,
   ⟨State.reset, 250, by decide⟩,
   ⟨{ State.reset with sys := { State.reset.sys with xoOk := true } }, 120000, by decide⟩,
   ⟨{ State.reset with sys := { State.reset.sys with xoOk := true, pll := true, coreUp := false } }.puts [(REG.STS_PG, 1), (HDR.ISR_ERR 0x2000, 1), (TIM.IER, 1)], by decide⟩,
   ⟨{ State.reset with sys := { State.reset.sys with xoOk := true, pll := true, coreUp := false, svcHold := true, seq := 1 } }.puts [(REG.STS_PG, 1)], by decide⟩⟩

theorem watchdogAndDividersTakeTheirWrites_met :
  (∃ (s : State) (d : W32),
    s.live ∧ bitsOf d 0 16 = 0x6B1D ∧ writeWaits s = false) ∧
  (∃ (s : State) (d : W32),
    s.live ∧ bitsOf d 0 16 ≠ 0x6B1D ∧ writeWaits s = false) ∧
  (∃ (s : State) (d : W32),
    s.live ∧ writeWaits s = false) ∧
  (∃ (s : State) (d : W32),
    s.live ∧ divMin d.toNat = false ∧ writeWaits s = false) ∧
  (∃ (s : State) (d : W32),
    s.live ∧ divMin d.toNat = true ∧ divRatio d.toNat = true ∧ divSupply s d.toNat = true ∧ s.sys.divNow = none ∧
    writeWaits s = false) ∧
  (∃ (s : State) (d : W32) (v : Nat),
    s.live ∧ divMin d.toNat = true ∧ divRatio d.toNat = true ∧ divSupply s d.toNat = true ∧ s.sys.divNow = some v ∧
    writeWaits s = false) ∧
  (∃ (s : State) (d : W32) (v : Nat),
    s.live ∧ divMin d.toNat = true ∧ divRatio d.toNat = true ∧ divSupply s d.toNat = true ∧ s.sys.divNow = some v ∧
    writeWaits s = false) ∧
  (∃ (s : State) (v : Nat),
    s.live ∧ s.sys.divNow = some v ∧ (s.sys.divNext ≠ none)) ∧
  (∃ (s : State) (v : Nat),
    s.live ∧ s.sys.divNow = some v ∧ (s.sys.divNext = none)) ∧
  (∃ (s : State) (mv : Nat),
    s.live ∧ (mv < 200)) ∧
  (∃ (s : State) (mv : Nat),
    s.live ∧ (200 ≤ mv)) :=
  ⟨⟨{ up.put SYS.WDOG_CTL_EN 1 with mtime := 77 }, 0xFFFF6B1D, by decide⟩,
   ⟨up, 0x6B1D0000, by decide⟩,
   ⟨{ up with mtime := 5 }, 0x00070011, by decide⟩,
   ⟨up, 0x180B0806, by decide⟩,
   ⟨up, 0x3018100C, by decide⟩,
   ⟨{ up.puts [(CLK.STS_BUSY, 1), (CLK.STS_STATE, 1)] with sys := { up.sys with divNow := some 0x3018100C } }, 0x180C0806, 0x3018100C, by decide⟩,
   ⟨{ up.puts [(CLK.STS_BUSY, 1), (CLK.STS_STATE, 1)] with sys := { up.sys with divNow := some 0x3018100C, divNext := some 5 } }, 0x3018100C, 0x3018100C, by decide⟩,
   ⟨{ up with sys := { up.sys with divNow := some 0x3018100C, divNext := some 0x180C0806 } }, 0x3018100C, by decide⟩,
   ⟨{ up.puts [(CLK.STS_BUSY, 1), (CLK.STS_STATE, 1)] with sys := { up.sys with divNow := some 0x3018100C } }, 0x3018100C, by decide⟩,
   ⟨up, 199, by decide⟩,
   ⟨up, 200, by decide⟩⟩

theorem localAndCellResetsRestoreTheirPage_met :
  (∃ (s : State) (p : Page),
    s.live ∧ s.answers p ∧ p.hasLrst = true ∧ (∀ n : Fin 8, p ≠ .cell n)) ∧
  (∃ (s : State) (p : Page),
    s.live ∧ s.answers p ∧ p.hasLrst = true ∧ (∀ n : Fin 8, p ≠ .cell n)) ∧
  (∃ (s : State) (p : Page),
    s.live ∧ p ∉ (List.finRange 8).map Page.cell ∧ s.held p = true ∧ p.base ∈ s.sys.lateWr ∧
    s.get (HDR.EFIRST_VALID p.base) = 0) ∧
  (∃ (s : State) (p : Page),
    s.live ∧ p ∉ (List.finRange 8).map Page.cell ∧ s.held p = true ∧ (p.base ∉ s.sys.lateWr)) ∧
  (∃ (s : State) (n : Fin 8),
    s.live ∧ s.answers (.cell n) ∧ (s.cell n).job = none) ∧
  (∃ (s : State) (n : Fin 8) (u : List (Fin 8192 × CsWord)),
    s.live ∧ s.held (.cell n) = true ∧ s.sys.reload = some n.val) ∧
  (∃ (s : State) (n : Fin 8) (u : List (Fin 8192 × CsWord)),
    s.live ∧ s.held (.cell n) = true ∧ s.sys.reload = some n.val) ∧
  (∃ (s : State) (n : Fin 8) (u : List (Fin 8192 × CsWord)),
    s.live ∧ s.sys.reload ≠ some n.val) ∧
  (∃ (s : State) (d : W32),
    s.live ∧ (s.answers .caddy) ∧ (s.answers .reg) ∧ (s.answers .tim) ∧ (s.answers .aport) ∧ (s.answers .earc)) ∧
  (∃ (s : State) (n : Fin 8) (num j : Nat) (f : Frame) (x : Strip),
    s.live ∧ s.answers (.cell n) ∧ (s.get (CELL.STS_STATE n) = 1 ∨ s.get (CELL.STS_STATE n) = 2) ∧
    (s.cell n).job = some (num, j) ∧ frameOf s num = some f ∧ f.strips[j]? = some x ∧ f.endT = none ∧
    x.conceal = false ∧ x.st = 1 ∧ (s.get (CELL.STS_STATE n) = 1)) ∧
  (∃ (s : State) (n : Fin 8) (num j : Nat) (f : Frame) (x : Strip),
    s.live ∧ s.answers (.cell n) ∧ (s.get (CELL.STS_STATE n) = 1 ∨ s.get (CELL.STS_STATE n) = 2) ∧
    (s.cell n).job = some (num, j) ∧ frameOf s num = some f ∧ f.strips[j]? = some x ∧ f.endT = none ∧
    x.conceal = false ∧ x.st = 1 ∧ s.get (CELL.STS_STATE n) = 2 ∧ s.mtime + (x.estS * 5 + 3) / 4 ≤ f.deadline) ∧
  (∃ (s : State) (n : Fin 8) (num j : Nat) (f : Frame) (x : Strip),
    s.live ∧ s.answers (.cell n) ∧ (s.get (CELL.STS_STATE n) = 1 ∨ s.get (CELL.STS_STATE n) = 2) ∧
    (s.cell n).job = some (num, j) ∧ frameOf s num = some f ∧ f.strips[j]? = some x ∧ f.endT = none ∧
    x.conceal = false ∧ x.st = 1 ∧ s.get (CELL.STS_STATE n) = 2 ∧ f.deadline < s.mtime + (x.estS * 5 + 3) / 4 ∧
    f.op = 1) :=
  ⟨⟨up.puts [(PRS.CFG_TSRC, 1), (PRS.CTL_EN, 1)], .prs, by decide⟩,
   ⟨up.puts [(BFIFO.CFG_SIZE 15, 9)], .bfifo 15, by decide⟩,
   ⟨{ up with sys := { up.sys with inReset := [0x24000], lateWr := [0x24000, 0x24000] } }, .isp, by decide⟩,
   ⟨{ up with sys := { up.sys with inReset := [0x24000] } }, .isp, by decide⟩,
   ⟨up.put CSCH.CELLMASK_FENCED 0x81, 7, by decide⟩,
   ⟨{ up.put (CELL.STS_STATE 0) 4 with sys := { up.sys with inReset := [0x10000], reload := some 0 } }, 0, [], by decide⟩,
   ⟨{ up.put (CELL.STS_STATE 0) 4 with sys := { up.sys with inReset := [0x10000], reload := some 0 } }, 0, [(5, 3)], by decide⟩,
   ⟨{ up.put (CELL.STS_STATE 0) 4 with sys := { up.sys with inReset := [0x10000, 0x11000], reload := some 0 } }, 1, [], by decide⟩,
   ⟨up.puts [(TIM.STS_KEPT, 1), (REG.STS_KEPT, 1)], 1, by decide⟩,
   ⟨{ up.put (CELL.STS_STATE 2) 1 with mtime := 0, csch := { nextNum := 8, frames := [{ frame7 7 with dispatched := true, strips := [{ first := 0, count := 64, samples := 4194304, st := 1 }] }] }, cells := [(2, { job := some (7, 0) })] }, 2, 7, 0, { frame7 7 with dispatched := true, strips := [{ first := 0, count := 64, samples := 4194304, st := 1 }] }, { first := 0, count := 64, samples := 4194304, st := 1 }, by decide⟩,
   ⟨{ up.put (CELL.STS_STATE 2) 2 with mtime := 2, csch := { nextNum := 8, frames := [{ frame7 7 with dispatched := true, strips := [{ first := 0, count := 64, samples := 4194304, st := 1, estS := 4 }] }] }, cells := [(2, { job := some (7, 0) })] }, 2, 7, 0, { frame7 7 with dispatched := true, strips := [{ first := 0, count := 64, samples := 4194304, st := 1, estS := 4 }] }, { first := 0, count := 64, samples := 4194304, st := 1, estS := 4 }, by decide⟩,
   ⟨{ up.put (CELL.STS_STATE 2) 2 with mtime := 3, csch := { nextNum := 8, frames := [{ frame7 7 with dispatched := true, strips := [{ first := 0, count := 64, samples := 4194304, st := 1, estS := 4 }] }] }, cells := [(2, { job := some (7, 0) })] }, 2, 7, 0, { frame7 7 with dispatched := true, strips := [{ first := 0, count := 64, samples := 4194304, st := 1, estS := 4 }] }, { first := 0, count := 64, samples := 4194304, st := 1, estS := 4 }, by decide⟩⟩

theorem bootStepsShowTheirCodes_met :
  (∃ (s : State) (e : StoreEnv),
    s.live ∧ s.get SYS.BOOT_STATUS_CODE = 2 ∧ newerCopy (s.meetStore e) = none) ∧
  (∃ (s : State) (e : StoreEnv),
    s.live ∧ s.get SYS.BOOT_STATUS_CODE = 2 ∧ newerCopy (s.meetStore e) = none) ∧
  (∃ (s : State) (e : StoreEnv) (b : BootRec),
    s.live ∧ s.get SYS.BOOT_STATUS_CODE = 2 ∧ newerCopy (s.meetStore e) = some b ∧ b.trial = false) ∧
  (∃ (s u : State) (e : StoreEnv) (b : BootRec) (c : Nat),
    s.live ∧ s.get SYS.BOOT_STATUS_CODE = 2 ∧ u = s.meetStore e ∧ e.cut = none ∧ newerCopy u = some b ∧
    b.trial = true ∧ (c = if newerIndex u = some 0 then 1 else 0) ∧ confirmed u b = false ∧ b.tries < 3) ∧
  (∃ (s u : State) (e : StoreEnv) (b : BootRec) (c : Nat),
    s.live ∧ s.get SYS.BOOT_STATUS_CODE = 2 ∧ u = s.meetStore e ∧ e.cut = none ∧ newerCopy u = some b ∧
    b.trial = true ∧ (c = if newerIndex u = some 0 then 1 else 0) ∧ confirmed u b = false ∧ 3 ≤ b.tries) ∧
  (∃ (s u : State) (e : StoreEnv) (b : BootRec) (c : Nat),
    s.live ∧ s.get SYS.BOOT_STATUS_CODE = 2 ∧ u = s.meetStore e ∧ e.cut = none ∧ newerCopy u = some b ∧
    b.trial = true ∧ (c = if newerIndex u = some 0 then 1 else 0) ∧ (confirmed u b = true)) ∧
  (∃ (s : State) (e : StoreEnv) (ok : Bool),
    s.live ∧ s.get SYS.BOOT_STATUS_CODE = 3 ∧ e.cut = none ∧ verifyImage (s.meetStore e) s.sys.bootSlot ≠ 0 ∧
    s.sys.bootFallback = false) ∧
  (∃ (s : State) (e : StoreEnv) (ok : Bool),
    s.live ∧ s.get SYS.BOOT_STATUS_CODE = 3 ∧ e.cut = none ∧ verifyImage (s.meetStore e) s.sys.bootSlot ≠ 0 ∧
    s.sys.bootFallback = true) ∧
  (∃ (s : State) (e : StoreEnv),
    s.live ∧ s.get SYS.BOOT_STATUS_CODE = 4 ∧ s.sys.factoryBad = true) ∧
  (∃ (s : State) (e : StoreEnv),
    s.live ∧ s.get SYS.BOOT_STATUS_CODE = 4 ∧ s.sys.factoryBad = false ∧ e.cut = none) ∧
  (∃ (s u : State) (e : StoreEnv) (b : BootRec),
    s.live ∧ s.get SYS.BOOT_STATUS_CODE = 4 ∧ s.sys.factoryBad = false ∧ e.cut = none ∧ u = s.meetStore e ∧
    newerCopy u = some b ∧ confirmed u b = false ∧ (b.trial = true ∨ settingsState u ≠ 2) ∧
    (newestRec (allRecs u)).toList ≠ []) ∧
  (∃ (s u : State) (e : StoreEnv) (b : BootRec),
    s.live ∧ s.get SYS.BOOT_STATUS_CODE = 4 ∧ s.sys.factoryBad = false ∧ e.cut = none ∧ u = s.meetStore e ∧
    newerCopy u = some b ∧ confirmed u b = false ∧ (b.trial = true ∨ settingsState u ≠ 2) ∧
    (newestRec (allRecs u)).toList ≠ []) ∧
  (∃ (s u : State) (e : StoreEnv) (b : BootRec),
    s.live ∧ s.get SYS.BOOT_STATUS_CODE = 4 ∧ s.sys.factoryBad = false ∧ e.cut = none ∧ u = s.meetStore e ∧
    newerCopy u = some b ∧ confirmed u b = false ∧ (b.trial = true ∨ settingsState u ≠ 2) ∧ (allRecs u = [])) ∧
  (∃ (s : State) (rate dens : Nat) (tmg0 tmg1 : W32) (chans : List TrainChan),
    s.live ∧ s.get SYS.BOOT_STATUS_CODE = 6 ∧ ((¬ ∀ n < 4, chanPasses chans n = true))) ∧
  (∃ (s : State) (rate dens : Nat) (tmg0 tmg1 : W32) (chans : List TrainChan),
    s.live ∧ s.get SYS.BOOT_STATUS_CODE = 6) ∧
  (∃ (s : State) (u : List (Fin 8 × Fin 8192 × CsWord)),
    s.live ∧ s.get SYS.BOOT_STATUS_CODE = 7) :=
  ⟨⟨booting 2, {}, by decide⟩,
   ⟨recorded, { bad := [0] }, by decide⟩,
   ⟨recorded, {}, rec0, by decide⟩,
   ⟨(booting 2).mramWrite (copyAddr 1) (bootLine { rec0 with trial := true, tries := 2 }), (booting 2).mramWrite (copyAddr 1) (bootLine { rec0 with trial := true, tries := 2 }), {}, { rec0 with trial := true, tries := 2 }, 0, by decide⟩,
   ⟨(booting 2).mramWrite (copyAddr 0) (bootLine { rec0 with trial := true, tries := 3 }), (booting 2).mramWrite (copyAddr 0) (bootLine { rec0 with trial := true, tries := 3 }), {}, { rec0 with trial := true, tries := 3 }, 1, by decide⟩,
   ⟨((booting 2).mramWrite (copyAddr 0) (bootLine { rec0 with trial := true, tries := 3, cline := 1 })).mramWrite (jAddr 1) (recLine 3 1 1 0 0 0 (List.replicate 12 0)), ((booting 2).mramWrite (copyAddr 0) (bootLine { rec0 with trial := true, tries := 3, cline := 1 })).mramWrite (jAddr 1) (recLine 3 1 1 0 0 0 (List.replicate 12 0)), {}, { rec0 with trial := true, tries := 3, cline := 1 }, 1, by decide⟩,
   ⟨booting 3, {}, true, by decide⟩,
   ⟨{ booting 3 with sys := { (booting 3).sys with bootFallback := true } }, {}, false, by decide⟩,
   ⟨{ booting 4 with sys := { up.sys with factoryBad := true } }, {}, by decide⟩,
   ⟨booting 4, { weak := [196608] }, by decide⟩,
   ⟨((settled (booting 4)).mramWrite (copyAddr 0) (bootLine { rec0 with trial := true, tries := 2, cline := 2 })), ((settled (booting 4)).mramWrite (copyAddr 0) (bootLine { rec0 with trial := true, tries := 2, cline := 2 })), {}, { rec0 with trial := true, tries := 2, cline := 2 }, by decide +kernel⟩,
   ⟨((settled (booting 4)).mramWrite (copyAddr 0) (bootLine { rec0 with rvt := true })), ((settled (booting 4)).mramWrite (copyAddr 0) (bootLine { rec0 with rvt := true })), {}, { rec0 with rvt := true }, by decide +kernel⟩,
   ⟨((booting 4).mramWrite (copyAddr 1) (bootLine rec0)), ((booting 4).mramWrite (copyAddr 1) (bootLine rec0)), {}, rec0, by decide +kernel⟩,
   ⟨booting 6, 1, 1, 0, 0, [goodChan, goodChan, goodChan, { goodChan with cbt := false }], by decide⟩,
   ⟨booting 6, 1, 1, 0, 0, [goodChan, goodChan, goodChan, goodChan], by decide⟩,
   ⟨booting 7, [(3, 5, 2)], by decide⟩⟩

theorem linkAndRailsActOnTheirPins_met :
  (∃ (s : State) (w v : Nat) (host : CfgSpace) (l1 : Bool),
    s.live ∧ s.sys.perstN = true ∧ s.get HIF.STS_STATE < 2) ∧
  (∃ (s : State) (w v : Nat) (host : CfgSpace) (l1 : Bool),
    s.live ∧ s.sys.perstN = true ∧ s.get HIF.STS_STATE < 2) ∧
  (∃ (s : State),
    s.live ∧ 2 ≤ s.get HIF.STS_STATE) ∧
  (∃ (s : State),
    s.sys.coreUp = true ∧ 2 ≤ s.get HIF.STS_STATE) ∧
  (∃ (s : State),
    s.sys.coreUp = true ∧ s.sys.perstN = false) ∧
  (∃ (s : State) (r : Rail) (b : Ball),
    r ∉ [Rail.vdda1v8, .vdda1v8Range, .vinLow, .vinHigh] ∧ (r ∈ ballRails b)) ∧
  (∃ (s : State) (r : Rail) (b : Ball),
    r ∉ [Rail.vdda1v8, .vdda1v8Range, .vinLow, .vinHigh] ∧ (r ∈ ballRails b)) ∧
  (∃ (s : State) (r : Rail),
    s.sys.resetN = true ∧ s.sys.por = false ∧ r ∈ [Rail.vdda1v8Range, .vinHigh]) ∧
  (∃ (s : State),
    s.sys.resetN = true ∧ s.sys.por = false) ∧
  (∃ (s : State),
    s.sys.resetN = true ∧ s.sys.por = false ∧ s.sys.xoOk = true) ∧
  (∃ (s : State),
    s.sys.resetN = true ∧ s.sys.por = false ∧ s.sys.xoOk = false) ∧
  (∃ (s : State) (r : Rail),
    (s.sys.resetN = false ∨ s.sys.por = true) ∧ r ∈ [Rail.vdda1v8Range, .vinLow, .vinHigh]) ∧
  (∃ (s : State) (r : Rail),
    (s.sys.resetN = false ∨ s.sys.por = true) ∧ r ∈ [Rail.vdda1v8Range, .vinLow, .vinHigh]) :=
  ⟨⟨up.put HIF.STS_STATE 1, 2, 3, { msixEn := true }, false, by decide⟩,
   ⟨up.put HIF.STS_STATE 1, 1, 2, { aspmL1 := true, d3 := true }, true, by decide⟩,
   ⟨up.puts [(HIF.STS_STATE, 3), (HIF.LDCNT_COUNT, 65535)], by decide⟩,
   ⟨up.put HIF.STS_STATE 2, by decide⟩,
   ⟨{ up with sys := { up.sys with perstN := false } }, by decide⟩,
   ⟨up, .vddioAon18, .clockOut 6, by decide⟩,
   ⟨{ up with sys := { up.sys with resetN := false, off := [.vddio18] } }, .vddHdmi33, .hrxHpd, by decide⟩,
   ⟨up, .vdda1v8Range, by decide⟩,
   ⟨up, by decide⟩,
   ⟨up, by decide⟩,
   ⟨{ up with sys := { up.sys with xoOk := false } }, by decide⟩,
   ⟨{ State.reset with sys := { State.reset.sys with por := true } }, .vinLow, by decide⟩,
   ⟨{ State.reset with sys := { State.reset.sys with resetN := false } }, .vinHigh, by decide⟩⟩

theorem pulsesTakeTheComputedOnTime_met :
  (∃ (s : State) (sub : Fin 49) (vdie : Nat) (sw : Int),
    s.kaLive ∧ (s.get REG.STS_STATE = 1 ∨ s.get REG.STS_STATE = 2) ∧
    (s.reg.trig.isSome = true ∨ (vdie * 2 < vTgt2 s ∧ startLongAgo s (edgeAt sub s) = true)) ∧
    pulsing s (pulsePhase s) = false ∧ offLongEnough s (pulsePhase s) (edgeAt sub s) = true ∧
    s.get REG.DT_ADAPT = 0 ∧ (s.get REG.TON_ADAPT = 0)) ∧
  (∃ (s : State) (sub : Fin 49) (vdie : Nat) (sw : Int),
    s.kaLive ∧ (s.get REG.STS_STATE = 1 ∨ s.get REG.STS_STATE = 2) ∧
    (s.reg.trig.isSome = true ∨ (vdie * 2 < vTgt2 s ∧ startLongAgo s (edgeAt sub s) = true)) ∧
    pulsing s (pulsePhase s) = false ∧ offLongEnough s (pulsePhase s) (edgeAt sub s) = true ∧
    s.get REG.DT_ADAPT = 0 ∧ s.get REG.TON_ADAPT = 1 ∧ s.get REG.VIN_MV ≠ 0 ∧
    s.get REG.TLIM_TON_MIN + s.get REG.TLIM_TOFF_MIN ≤ s.get REG.TON_VAL) ∧
  (∃ (s : State) (sub : Fin 49) (vdie : Nat) (sw : Int),
    s.kaLive ∧ (s.get REG.STS_STATE = 1 ∨ s.get REG.STS_STATE = 2) ∧
    (s.reg.trig.isSome = true ∨ (vdie * 2 < vTgt2 s ∧ startLongAgo s (edgeAt sub s) = true)) ∧
    pulsing s (pulsePhase s) = false ∧ offLongEnough s (pulsePhase s) (edgeAt sub s) = true ∧
    s.get REG.DT_ADAPT = 0 ∧ (s.get REG.TON_ADAPT = 0)) ∧
  (∃ (s : State) (sub : Fin 49) (vdie : Nat) (sw : Int),
    s.kaLive ∧ (s.get REG.STS_STATE = 1 ∨ s.get REG.STS_STATE = 2) ∧
    (s.reg.trig.isSome = true ∨ (vdie * 2 < vTgt2 s ∧ startLongAgo s (edgeAt sub s) = true)) ∧
    pulsing s (pulsePhase s) = false ∧ offLongEnough s (pulsePhase s) (edgeAt sub s) = true ∧ pulsePhase s < 4 ∧
    s.get REG.DT_ADAPT = 1 ∧
    (s.get REG.TON_ADAPT = 1 → s.get REG.VIN_MV ≠ 0 ∧ s.get REG.TLIM_TON_MIN + s.get REG.TLIM_TOFF_MIN ≤ s.get REG.TON_VAL) ∧
    sw < -250 ∧ s.get REG.DT_MIN + 1 ≤ s.get (REG.DTSTS_LH (pulsePhase s)) ∧
    s.get (REG.DTSTS_LH (pulsePhase s)) ≤ s.get REG.DT_MAX + 1) ∧
  (∃ (s : State) (sub : Fin 49) (vdie : Nat) (sw : Int),
    s.kaLive ∧ (s.get REG.STS_STATE = 1 ∨ s.get REG.STS_STATE = 2) ∧
    (s.reg.trig.isSome = true ∨ (vdie * 2 < vTgt2 s ∧ startLongAgo s (edgeAt sub s) = true)) ∧
    pulsing s (pulsePhase s) = false ∧ offLongEnough s (pulsePhase s) (edgeAt sub s) = true ∧ pulsePhase s < 4 ∧
    s.get REG.DT_ADAPT = 1 ∧
    (s.get REG.TON_ADAPT = 1 → s.get REG.VIN_MV ≠ 0 ∧ s.get REG.TLIM_TON_MIN + s.get REG.TLIM_TOFF_MIN ≤ s.get REG.TON_VAL) ∧
    sw < -250 ∧ s.get REG.DT_MIN + 1 ≤ s.get (REG.DTSTS_LH (pulsePhase s)) ∧
    s.get (REG.DTSTS_LH (pulsePhase s)) ≤ s.get REG.DT_MAX + 1) ∧
  (∃ (s : State) (sub : Fin 49) (vdie : Nat) (sw : Int),
    s.kaLive ∧ (s.get REG.STS_STATE = 1 ∨ s.get REG.STS_STATE = 2) ∧
    (s.reg.trig.isSome = true ∨ (vdie * 2 < vTgt2 s ∧ startLongAgo s (edgeAt sub s) = true)) ∧
    pulsing s (pulsePhase s) = false ∧ offLongEnough s (pulsePhase s) (edgeAt sub s) = true ∧ pulsePhase s < 4 ∧
    s.get REG.DT_ADAPT = 1 ∧
    (s.get REG.TON_ADAPT = 1 → s.get REG.VIN_MV ≠ 0 ∧ s.get REG.TLIM_TON_MIN + s.get REG.TLIM_TOFF_MIN ≤ s.get REG.TON_VAL) ∧
    sw < -250 ∧ s.get (REG.DTSTS_LH (pulsePhase s)) = s.get REG.DT_MIN) ∧
  (∃ (s : State) (sub : Fin 49) (vdie : Nat) (sw : Int),
    s.kaLive ∧ (s.get REG.STS_STATE = 1 ∨ s.get REG.STS_STATE = 2) ∧
    (s.reg.trig.isSome = true ∨ (vdie * 2 < vTgt2 s ∧ startLongAgo s (edgeAt sub s) = true)) ∧
    pulsing s (pulsePhase s) = false ∧ offLongEnough s (pulsePhase s) (edgeAt sub s) = true ∧ pulsePhase s < 4 ∧
    s.get REG.DT_ADAPT = 1 ∧
    (s.get REG.TON_ADAPT = 1 → s.get REG.VIN_MV ≠ 0 ∧ s.get REG.TLIM_TON_MIN + s.get REG.TLIM_TOFF_MIN ≤ s.get REG.TON_VAL) ∧
    -250 ≤ sw ∧ 10 * sw < 9 * s.get REG.VIN_MV ∧ s.get REG.DT_MIN ≤ s.get (REG.DTSTS_LH (pulsePhase s)) + 1 ∧
    s.get (REG.DTSTS_LH (pulsePhase s)) + 1 ≤ s.get REG.DT_MAX) ∧
  (∃ (s : State) (sub : Fin 49) (vdie : Nat) (sw : Int),
    s.kaLive ∧ (s.get REG.STS_STATE = 1 ∨ s.get REG.STS_STATE = 2) ∧
    (s.reg.trig.isSome = true ∨ (vdie * 2 < vTgt2 s ∧ startLongAgo s (edgeAt sub s) = true)) ∧
    pulsing s (pulsePhase s) = false ∧ offLongEnough s (pulsePhase s) (edgeAt sub s) = true ∧ pulsePhase s < 4 ∧
    s.get REG.DT_ADAPT = 1 ∧
    (s.get REG.TON_ADAPT = 1 → s.get REG.VIN_MV ≠ 0 ∧ s.get REG.TLIM_TON_MIN + s.get REG.TLIM_TOFF_MIN ≤ s.get REG.TON_VAL) ∧
    -250 ≤ sw ∧ 10 * sw < 9 * s.get REG.VIN_MV ∧ s.get (REG.DTSTS_LH (pulsePhase s)) = s.get REG.DT_MAX) ∧
  (∃ (s : State) (sub : Fin 49) (vdie : Nat) (sw : Int),
    s.kaLive ∧ (s.get REG.STS_STATE = 1 ∨ s.get REG.STS_STATE = 2) ∧
    (s.reg.trig.isSome = true ∨ (vdie * 2 < vTgt2 s ∧ startLongAgo s (edgeAt sub s) = true)) ∧
    pulsing s (pulsePhase s) = false ∧ offLongEnough s (pulsePhase s) (edgeAt sub s) = true ∧ pulsePhase s < 4 ∧
    s.get REG.DT_ADAPT = 1 ∧
    (s.get REG.TON_ADAPT = 1 → s.get REG.VIN_MV ≠ 0 ∧ s.get REG.TLIM_TON_MIN + s.get REG.TLIM_TOFF_MIN ≤ s.get REG.TON_VAL) ∧
    -250 ≤ sw ∧ 9 * s.get REG.VIN_MV ≤ 10 * sw) ∧
  (∃ (s : State) (sub : Fin 49) (vdie : Nat) (sw : Int),
    s.kaLive ∧ (s.get REG.STS_STATE = 1 ∨ s.get REG.STS_STATE = 2) ∧ s.reg.trig = none ∧
    (vTgt2 s ≤ vdie * 2 ∨ startLongAgo s (edgeAt sub s) = false)) ∧
  (∃ (s : State) (sub : Fin 49) (vdie : Nat) (sw : Int),
    s.kaLive ∧ (s.get REG.STS_STATE = 1 ∨ s.get REG.STS_STATE = 2) ∧ vdie * 2 < vTgt2 s ∧
    startLongAgo s (edgeAt sub s) = true ∧
    (pulsing s (pulsePhase s) = true ∨ offLongEnough s (pulsePhase s) (edgeAt sub s) = false)) ∧
  (∃ (s : State) (k : Nat),
    s.reg.trig = some k ∧ k < s.get REG.STS_NPH) ∧
  (∃ (s : State) (k : Nat),
    s.reg.trig = none ∧ s.reg.lastPh + 1 < s.get REG.STS_NPH) ∧
  (∃ (s : State) (k : Nat),
    s.reg.trig = none ∧ s.get REG.STS_NPH ≤ s.reg.lastPh + 1) ∧
  (∃ (s : State) (sub : Fin 49) (sw : Int) (k : Nat),
    s.kaLive ∧ s.get REG.STS_STATE = 3 ∧ openPhase s (edgeAt sub s) = some k ∧
    s.get REG.TLIM_TON_MIN + s.get REG.TLIM_TOFF_MIN ≤ s.get REG.OL_PERIOD ∧ s.get REG.DT_ADAPT = 0) ∧
  (∃ (s : State) (sub : Fin 49) (sw : Int) (k : Nat),
    s.kaLive ∧ s.get REG.STS_STATE = 3 ∧ openPhase s (edgeAt sub s) = some k ∧ k < 4 ∧
    s.get REG.TLIM_TON_MIN + s.get REG.TLIM_TOFF_MIN ≤ s.get REG.OL_PERIOD ∧ s.get REG.DT_ADAPT = 1 ∧ sw < -250 ∧
    s.get REG.DT_MIN + 1 ≤ s.get (REG.DTSTS_LH k) ∧ s.get (REG.DTSTS_LH k) ≤ s.get REG.DT_MAX + 1) ∧
  (∃ (s : State) (sub : Fin 49) (sw : Int) (k : Nat),
    s.kaLive ∧ s.get REG.STS_STATE = 3 ∧ openPhase s (edgeAt sub s) = some k ∧ k < 4 ∧
    s.get REG.TLIM_TON_MIN + s.get REG.TLIM_TOFF_MIN ≤ s.get REG.OL_PERIOD ∧ s.get REG.DT_ADAPT = 1 ∧ sw < -250 ∧
    s.get (REG.DTSTS_LH k) = s.get REG.DT_MIN) ∧
  (∃ (s : State) (sub : Fin 49) (sw : Int) (k : Nat),
    s.kaLive ∧ s.get REG.STS_STATE = 3 ∧ openPhase s (edgeAt sub s) = some k ∧ k < 4 ∧
    s.get REG.TLIM_TON_MIN + s.get REG.TLIM_TOFF_MIN ≤ s.get REG.OL_PERIOD ∧ s.get REG.DT_ADAPT = 1 ∧ -250 ≤ sw ∧
    10 * sw < 9 * s.get REG.VIN_MV ∧ s.get REG.DT_MIN ≤ s.get (REG.DTSTS_LH k) + 1 ∧
    s.get (REG.DTSTS_LH k) + 1 ≤ s.get REG.DT_MAX) ∧
  (∃ (s : State) (sub : Fin 49) (sw : Int) (k : Nat),
    s.kaLive ∧ s.get REG.STS_STATE = 3 ∧ openPhase s (edgeAt sub s) = some k ∧ k < 4 ∧
    s.get REG.TLIM_TON_MIN + s.get REG.TLIM_TOFF_MIN ≤ s.get REG.OL_PERIOD ∧ s.get REG.DT_ADAPT = 1 ∧ -250 ≤ sw ∧
    10 * sw < 9 * s.get REG.VIN_MV ∧ s.get (REG.DTSTS_LH k) = s.get REG.DT_MAX) ∧
  (∃ (s : State) (sub : Fin 49) (sw : Int) (k : Nat),
    s.kaLive ∧ s.get REG.STS_STATE = 3 ∧ openPhase s (edgeAt sub s) = some k ∧ k < 4 ∧
    s.get REG.TLIM_TON_MIN + s.get REG.TLIM_TOFF_MIN ≤ s.get REG.OL_PERIOD ∧ s.get REG.DT_ADAPT = 1 ∧ -250 ≤ sw ∧
    9 * s.get REG.VIN_MV ≤ 10 * sw) ∧
  (∃ (s : State) (sub : Fin 49) (sw : Int),
    s.kaLive ∧ s.get REG.STS_STATE = 3 ∧ openPhase s (edgeAt sub s) = none) ∧
  (∃ (s : State) (ph : Fin 4) (sub : Fin 49) (sw : Int) (p : Pulse),
    s.kaLive ∧ s.reg.pulses.find? (·.ph == ph.val) = some p ∧ edgeAt sub s < p.start + p.ton) ∧
  (∃ (s : State) (ph : Fin 4) (sub : Fin 49) (sw : Int) (p : Pulse),
    s.kaLive ∧ s.reg.pulses.find? (·.ph == ph.val) = some p ∧ p.start + p.ton ≤ edgeAt sub s ∧
    s.get REG.DT_ADAPT = 1 ∧ sw < -250 ∧ s.get REG.DT_MIN + 1 ≤ s.get (REG.DTSTS_HL ph) ∧
    s.get (REG.DTSTS_HL ph) ≤ s.get REG.DT_MAX) ∧
  (∃ (s : State) (ph : Fin 4) (sub : Fin 49) (sw : Int) (p : Pulse),
    s.kaLive ∧ s.reg.pulses.find? (·.ph == ph.val) = some p ∧ p.start + p.ton ≤ edgeAt sub s ∧
    s.get REG.DT_ADAPT = 1 ∧ sw < -250 ∧ s.get (REG.DTSTS_HL ph) = s.get REG.DT_MIN) ∧
  (∃ (s : State) (ph : Fin 4) (sub : Fin 49) (sw : Int) (p : Pulse),
    s.kaLive ∧ s.reg.pulses.find? (·.ph == ph.val) = some p ∧ p.start + p.ton ≤ edgeAt sub s ∧
    (s.get REG.DT_ADAPT = 0)) ∧
  (∃ (s : State) (ph : Fin 4) (sub : Fin 49) (sw : Int) (p : Pulse),
    s.kaLive ∧ s.reg.pulses.find? (·.ph == ph.val) = some p ∧ p.start + p.ton ≤ edgeAt sub s ∧
    s.get REG.DT_ADAPT = 1 ∧ -250 ≤ sw ∧ 2 * sw ≤ s.get REG.VIN_MV) ∧
  (∃ (s : State) (ph : Fin 4) (sub : Fin 49) (sw : Int) (p : Pulse),
    s.kaLive ∧ s.reg.pulses.find? (·.ph == ph.val) = some p ∧ p.start + p.ton ≤ edgeAt sub s ∧
    s.get REG.DT_ADAPT = 1 ∧ -250 ≤ sw ∧ s.get REG.VIN_MV < 2 * sw ∧
    s.get REG.DT_MIN ≤ s.get (REG.DTSTS_HL ph) + 1 ∧ s.get (REG.DTSTS_HL ph) + 1 ≤ s.get REG.DT_MAX) ∧
  (∃ (s : State) (ph : Fin 4) (sub : Fin 49) (sw : Int) (p : Pulse),
    s.kaLive ∧ s.reg.pulses.find? (·.ph == ph.val) = some p ∧ p.start + p.ton ≤ edgeAt sub s ∧
    s.get REG.DT_ADAPT = 1 ∧ -250 ≤ sw ∧ s.get REG.VIN_MV < 2 * sw ∧ s.get (REG.DTSTS_HL ph) = s.get REG.DT_MAX) :=
  ⟨⟨up.puts [(REG.STS_STATE, 2), (REG.TON_ADAPT, 0), (REG.DT_ADAPT, 0)], 48, 640000, 0, by decide⟩,
   ⟨up.puts [(REG.STS_STATE, 2), (REG.DT_ADAPT, 0), (REG.TON_ADAPT, 1), (REG.VIN_MV, 12000)], 0, 640000, 0, by decide⟩,
   ⟨{ up.puts [(REG.STS_STATE, 1), (REG.TON_ADAPT, 0), (REG.DT_ADAPT, 0)] with reg := { up.reg with trig := some 3 } }, 48, 940000, 0, by decide⟩,
   ⟨up.puts [(REG.STS_STATE, 2), (REG.TON_ADAPT, 0), (REG.DT_ADAPT, 1)], 48, 640000, -251, by decide⟩,
   ⟨up.puts [(REG.STS_STATE, 2), (REG.TON_ADAPT, 1), (REG.DT_ADAPT, 1), (REG.VIN_MV, 12000)], 48, 640000, -251, by decide⟩,
   ⟨up.puts [(REG.STS_STATE, 2), (REG.TON_ADAPT, 0), (REG.DT_ADAPT, 1), (REG.DT_MIN, 20), (REG.DTSTS_LH 0, 20)], 48, 640000, -300, by decide⟩,
   ⟨up.puts [(REG.STS_STATE, 1), (REG.STS_NPH, 1), (REG.TON_ADAPT, 0), (REG.DT_ADAPT, 1), (REG.VIN_MV, 12000)], 3, 0, 10799, by decide⟩,
   ⟨up.puts [(REG.STS_STATE, 2), (REG.TON_ADAPT, 0), (REG.DT_ADAPT, 1), (REG.VIN_MV, 12000), (REG.DT_MAX, 30), (REG.DTSTS_LH 0, 30)], 3, 640000, -250, by decide⟩,
   ⟨up.puts [(REG.STS_STATE, 2), (REG.TON_ADAPT, 0), (REG.DT_ADAPT, 1), (REG.VIN_MV, 12000)], 3, 640000, 10800, by decide⟩,
   ⟨up.puts [(REG.STS_STATE, 2)], 0, 900000, 0, by decide⟩,
   ⟨{ up.puts [(REG.STS_STATE, 2)] with reg := { up.reg with offs := [(0, 5)] } }, 6, 640000, 0, by decide⟩,
   ⟨{ up.put REG.STS_NPH 4 with reg := { up.reg with trig := some 0, lastPh := 0 } }, 0, by decide⟩,
   ⟨{ up.put REG.STS_NPH 4 with reg := { up.reg with lastPh := 1 } }, 0, by decide⟩,
   ⟨{ up.put REG.STS_NPH 2 with reg := { up.reg with lastPh := 3 } }, 0, by decide⟩,
   ⟨up.puts [(REG.STS_STATE, 3), (REG.DT_ADAPT, 0), (REG.OL_PERIOD, 6000), (REG.OL_DUTY, 64)], 3, 0, 0, by decide⟩,
   ⟨up.puts [(REG.STS_STATE, 3), (REG.DT_ADAPT, 1), (REG.OL_PERIOD, 6000), (REG.OL_DUTY, 64)], 3, -251, 0, by decide⟩,
   ⟨up.puts [(REG.STS_STATE, 3), (REG.DT_ADAPT, 1), (REG.OL_PERIOD, 6000), (REG.DT_MIN, 20), (REG.DTSTS_LH 0, 20)], 3, -251, 0, by decide⟩,
   ⟨up.puts [(REG.STS_STATE, 3), (REG.DT_ADAPT, 1), (REG.OL_PERIOD, 6000), (REG.VIN_MV, 12000)], 3, 0, 0, by decide⟩,
   ⟨up.puts [(REG.STS_STATE, 3), (REG.DT_ADAPT, 1), (REG.OL_PERIOD, 6000), (REG.VIN_MV, 12000), (REG.DT_MAX, 30), (REG.DTSTS_LH 0, 30)], 3, 0, 0, by decide⟩,
   ⟨up.puts [(REG.STS_STATE, 3), (REG.DT_ADAPT, 1), (REG.OL_PERIOD, 6000), (REG.VIN_MV, 12000)], 3, 10800, 0, by decide⟩,
   ⟨{ up.puts [(REG.STS_STATE, 3), (REG.OL_PERIOD, 6000)] with reg := { up.reg with olStarts := [(0, 10)] } }, 3, 0, by decide⟩,
   ⟨{ up with reg := { up.reg with pulses := [⟨2, 400, 0⟩] } }, 2, 48, 0, ⟨2, 400, 0⟩, by decide⟩,
   ⟨{ up.puts [(REG.DT_ADAPT, 1)] with reg := { up.reg with pulses := [⟨2, 400, 0⟩], edge := 400 } }, 2, 0, -300, ⟨2, 400, 0⟩, by decide⟩,
   ⟨{ up.puts [(REG.DT_ADAPT, 1), (REG.DT_MIN, 20), (REG.DTSTS_HL 2, 20)] with mtime := 9, reg := { up.reg with pulses := [⟨2, 400, 0⟩] } }, 2, 5, -251, ⟨2, 400, 0⟩, by decide⟩,
   ⟨{ up.puts [(REG.DT_ADAPT, 0)] with mtime := 9, reg := { up.reg with pulses := [⟨2, 400, 0⟩] } }, 2, 5, -300, ⟨2, 400, 0⟩, by decide⟩,
   ⟨{ up.puts [(REG.DT_ADAPT, 1), (REG.VIN_MV, 12000)] with mtime := 9, reg := { up.reg with pulses := [⟨2, 400, 0⟩] } }, 2, 5, 6000, ⟨2, 400, 0⟩, by decide⟩,
   ⟨{ up.puts [(REG.DT_ADAPT, 1), (REG.VIN_MV, 12000)] with mtime := 9, reg := { up.reg with pulses := [⟨2, 400, 0⟩] } }, 2, 5, 6001, ⟨2, 400, 0⟩, by decide⟩,
   ⟨{ up.puts [(REG.DT_ADAPT, 1), (REG.VIN_MV, 12000), (REG.DT_MAX, 30), (REG.DTSTS_HL 2, 30)] with mtime := 9, reg := { up.reg with pulses := [⟨2, 400, 0⟩] } }, 2, 5, 6001, ⟨2, 400, 0⟩, by decide⟩⟩

theorem samplesAndNoticesMoveThePhases_met :
  (∃ (s : State) (vout vin : Nat) (isns : List Nat),
    s.kaLive ∧ (s.get REG.ISNS_GAIN ≠ 0)) ∧
  (∃ (s : State) (vout vin : Nat) (isns : List Nat),
    s.kaLive ∧ (s.get REG.ISNS_GAIN ≠ 0)) ∧
  (∃ (s : State) (vout vin : Nat) (isns : List Nat),
    s.kaLive ∧ (s.get REG.ISNS_GAIN ≠ 0)) ∧
  (∃ (s : State) (amt start : Nat) (l : List (Nat × Nat)),
    s.kaLive ∧ s.caddy.notices = (amt, start) :: l ∧ start < s.mtime) ∧
  (∃ (s : State) (amt start : Nat) (l : List (Nat × Nat)),
    s.kaLive ∧ s.caddy.notices = (amt, start) :: l ∧ s.mtime ≤ start ∧ regBlind s = false ∧ (s.get REG.FF_EN = 1)) ∧
  (∃ (s : State) (amt start : Nat) (l : List (Nat × Nat)),
    s.kaLive ∧ s.caddy.notices = (amt, start) :: l ∧ s.mtime ≤ start ∧ regBlind s = false ∧ (s.get REG.FF_EN = 0)) ∧
  (∃ (s : State) (b : Boost) (l r : List Boost),
    s.kaLive ∧ s.reg.boosts = l ++ b :: r ∧ (∀ x ∈ l, rampDue s x = false) ∧ rampDue s b = true) ∧
  (∃ (s : State) (b : Boost) (l r : List Boost),
    s.kaLive ∧ s.reg.boosts = l ++ b :: r ∧ (∀ x ∈ l, x.phase = 1 → s.mtime * 1000 < x.hold) ∧ b.phase = 1 ∧
    b.hold ≤ s.mtime * 1000) ∧
  (∃ (s : State) (t0 : Nat),
    s.kaLive ∧ s.get REG.STS_STATE = 2 ∧ s.get REG.PHCTL_SHED_EN = 1 ∧ boostHeld s = false ∧
    s.reg.dwell = some (t0, s.get REG.STS_NPH) ∧ 100 * 98304 ≤ (s.mtime - t0) * 1000 ∧ s.get REG.STS_NPH = 4 ∧
    s.get REG.IMEAS_TOTAL < s.getA REG.PHTH_SHED4 * 5 ∧ predicted s < s.getA REG.PHTH_ADD4 * 5) ∧
  (∃ (s : State) (t0 : Nat),
    s.kaLive ∧ s.get REG.STS_STATE = 2 ∧ s.get REG.PHCTL_SHED_EN = 1 ∧ boostHeld s = false ∧
    s.reg.dwell = some (t0, s.get REG.STS_NPH) ∧ 100 * 98304 ≤ (s.mtime - t0) * 1000 ∧ s.get REG.STS_NPH = 2 ∧
    s.get REG.IMEAS_TOTAL < s.getA REG.PHTH_SHED2 * 5 ∧ predicted s < s.getA REG.PHTH_ADD2 * 5) :=
  ⟨⟨up.puts [(REG.STS_STATE, 2), (REG.STS_NPH, 1), (REG.ISNS_GAIN, 20)], 640, 12000, [900000, 300000, 200000, 400000], by decide⟩,
   ⟨up.puts [(REG.STS_STATE, 2), (REG.ISNS_GAIN, 20), (REG.PROT_UVP, 500)], 400, 12000, [900000, 300000, 200000, 400000], by decide⟩,
   ⟨up.puts [(REG.STS_STATE, 2), (REG.PROT_UVP, 500)], 500, 12000, [900000, 300000, 200000, 400000], by decide⟩,
   ⟨{ up with mtime := 10, caddy := { up.caddy with notices := [(240, 9), (1, 1)] } }, 240, 9, [(1, 1)], by decide⟩,
   ⟨{ up.puts [(REG.STS_STATE, 2), (REG.FF_EN, 1)] with mtime := 9, caddy := { up.caddy with notices := [(240, 9)] } }, 240, 9, [], by decide⟩,
   ⟨{ up.puts [(REG.STS_STATE, 2), (REG.FF_EN, 0)] with mtime := 9, caddy := { up.caddy with notices := [(240, 9)] } }, 240, 9, [], by decide⟩,
   ⟨{ up with mtime := 3, reg := { up.reg with boosts := [⟨9, 0, 99, 100000, 2⟩, ⟨9, 0, 3, 100000, 0⟩] } }, ⟨9, 0, 3, 100000, 0⟩, [⟨9, 0, 99, 100000, 2⟩], [], by decide⟩,
   ⟨{ up with mtime := 1, reg := { up.reg with boosts := [⟨9, 0, 99, 100000, 1⟩, ⟨9, 9, 3, 1000, 1⟩] } }, ⟨9, 9, 3, 1000, 1⟩, [⟨9, 0, 99, 100000, 1⟩], [], by decide⟩,
   ⟨{ up.puts [(REG.STS_STATE, 2), (REG.STS_NPH, 4), (REG.PHCTL_SHED_EN, 1)] with mtime := 9831, reg := { up.reg with dwell := some (0, 4) } }, 0, by decide⟩,
   ⟨{ up.puts [(REG.STS_STATE, 2), (REG.STS_NPH, 2), (REG.PHCTL_SHED_EN, 1)] with mtime := 9831, reg := { up.reg with dwell := some (0, 2) } }, 0, by decide⟩⟩

theorem regWritesActAtOnce_met :
  (∃ (s : State) (d : W32),
    s.live ∧ s.answers .reg) ∧
  (∃ (s : State) (d : W32),
    s.live ∧ s.answers .reg ∧ (regRuns s = false)) ∧
  (∃ (s : State) (sub : Fin 49) (d : W32),
    s.live ∧ s.answers .reg ∧ (REG.TON_ADAPT).ofData d = 0 ∧ sameWord [REG.TON_ADAPT, REG.TON_VAL] d s = false ∧
    (s.get REG.STS_STATE ≠ 3)) ∧
  (∃ (s : State) (sub : Fin 49) (d : W32),
    s.live ∧ s.answers .reg ∧ (REG.TON_ADAPT).ofData d = 0 ∧ sameWord [REG.TON_ADAPT, REG.TON_VAL] d s = false ∧
    (s.get REG.STS_STATE = 3)) ∧
  (∃ (s : State) (sub : Fin 49) (d : W32),
    s.live ∧ s.answers .reg ∧ (REG.TON_ADAPT).ofData d = 1 ∧ sameWord [REG.TON_ADAPT, REG.TON_VAL] d s = false ∧
    s.get REG.STS_STATE ≠ 3 ∧ s.get REG.VIN_MV ≠ 0 ∧
    s.get REG.TLIM_TON_MIN + s.get REG.TLIM_TOFF_MIN ≤ (REG.TON_VAL).ofData d) ∧
  (∃ (s : State) (sub : Fin 49) (d : W32),
    s.live ∧ s.answers .reg ∧ (s.get REG.STS_STATE ≠ 3 ∨ sameWord [REG.OL_DUTY, REG.OL_PERIOD] d s = true)) ∧
  (∃ (s : State) (sub : Fin 49) (d : W32),
    s.live ∧ s.answers .reg ∧ s.get REG.STS_STATE = 3 ∧ sameWord [REG.OL_DUTY, REG.OL_PERIOD] d s = false ∧
    s.get REG.TLIM_TON_MIN + s.get REG.TLIM_TOFF_MIN ≤ (REG.OL_PERIOD).ofData d) ∧
  (∃ (s : State) (sub : Fin 49) (d : W32),
    s.live ∧ s.answers .reg ∧ s.get REG.STS_STATE = 3 ∧ sameWord [REG.OL_DUTY, REG.OL_PERIOD] d s = false ∧
    s.get REG.TLIM_TON_MIN + s.get REG.TLIM_TOFF_MIN ≤ (REG.OL_PERIOD).ofData d) ∧
  (∃ (s : State) (sub : Fin 49) (d : W32),
    s.live ∧ s.answers .reg ∧ sameWord [REG.TON_ADAPT, REG.TON_VAL] d s = true) ∧
  (∃ (s : State) (n : Fin 2),
    s.pending = [] ∧ s.sys.pll = true ∧ s.nvm.work = none ∧ s.hif.waits = [] ∧
    ((SMap.get {} s.auxs n.val).en = false ∨ (SMap.get {} s.auxs n.val).period = 0)) ∧
  (∃ (s : State) (d : W32),
    s.live ∧ s.answers .reg ∧ (REG.MODE_OPEN).ofData d = 1 ∧ (REG.MODE_KEY).ofData d = 0x7C01 ∧
    s.get REG.STS_STATE = 2) ∧
  (∃ (s : State) (d : W32),
    s.live ∧ s.answers .reg ∧ (REG.MODE_OPEN).ofData d = 1 ∧ (REG.MODE_KEY).ofData d = 0x7C01 ∧
    s.get REG.STS_STATE = 2) ∧
  (∃ (s : State) (d : W32),
    s.live ∧ s.answers .reg ∧ (REG.MODE_OPEN).ofData d = 1 ∧ ((REG.MODE_KEY).ofData d ≠ 0x7C01)) ∧
  (∃ (s : State) (d : W32),
    s.live ∧ s.answers .reg ∧ (REG.MODE_OPEN).ofData d = 1 ∧ (REG.MODE_KEY).ofData d = 0x7C01 ∧
    s.get REG.STS_STATE ≠ 2) ∧
  (∃ (s : State) (d : W32),
    s.live ∧ s.answers .reg ∧ (REG.MODE_OPEN).ofData d = 0 ∧ (s.get REG.STS_STATE = 3)) ∧
  (∃ (s : State) (d : W32),
    s.live ∧ s.answers .reg ∧ (REG.MODE_OPEN).ofData d = 0 ∧ (s.get REG.STS_STATE ≠ 3)) :=
  ⟨⟨up.puts [(REG.STS_STATE, 2), (REG.STS_NPH, 4)], 1, by decide⟩,
   ⟨up.puts [(REG.STS_STATE, 0), (REG.STS_NPH, 4)], 1, by decide⟩,
   ⟨{ up.put REG.STS_STATE 2 with reg := { up.reg with pulses := [⟨0, 400, 0⟩, ⟨1, 400, 0⟩] } }, 9, 300, by decide⟩,
   ⟨{ up.put REG.STS_STATE 3 with reg := { up.reg with pulses := [⟨0, 400, 0⟩] } }, 9, 300, by decide⟩,
   ⟨{ up.puts [(REG.STS_STATE, 2), (REG.VIN_MV, 12000)] with reg := { up.reg with pulses := [⟨0, 400, 0⟩, ⟨1, 400, 0⟩] } }, 9, 0x8000012C, by decide⟩,
   ⟨up, 48, 0x00401770, by decide⟩,
   ⟨{ up.put REG.STS_STATE 3 with reg := { up.reg with pulses := [⟨0, 400, 0⟩] } }, 9, 0x00401770, by decide⟩,
   ⟨{ up.put REG.STS_STATE 3 with mtime := 200, reg := { up.reg with olStarts := [(0, 3000)] } }, 9, 0x00401770, by decide⟩,
   ⟨{ up.puts [(REG.STS_STATE, 2), (REG.TON_ADAPT, 0), (REG.TON_VAL, 300)] with reg := { up.reg with pulses := [⟨0, 400, 0⟩] } }, 0, 300, by decide⟩,
   ⟨up.puts [(REG.AUX_PERIOD 1, 300), (REG.AUX_HIGH 1, 100), (REG.AUXCTL_EN1, 1)], 1, by decide⟩,
   ⟨up.put REG.STS_STATE 2, 0x7C010001, by decide⟩,
   ⟨up, 0x7C010001, by decide⟩,
   ⟨up, 0x7C000001, by decide⟩,
   ⟨up.put REG.STS_STATE 4, 0x7C010001, by decide⟩,
   ⟨up.puts [(REG.STS_STATE, 3), (REG.MODE_OPEN, 1)], 0, by decide⟩,
   ⟨up, 0, by decide⟩⟩

theorem tripsHoldTheCoreAndRetry_met :
  (∃ (s : State) (c : TripSense),
    s.kaLive ∧ (s.get REG.STS_STATE = 1 ∨ s.get REG.STS_STATE = 2 ∨ s.get REG.STS_STATE = 3) ∧
    (overCurrent c s ≠ 0 ∨ s.get REG.PROT_OVP * 1250 < c.vdie ∨ c.vin < 4200)) ∧
  (∃ (s : State) (c : TripSense),
    s.kaLive ∧ overCurrent c s = 0 ∧ c.vdie ≤ s.get REG.PROT_OVP * 1250 ∧ 4200 ≤ c.vin) ∧
  (∃ (s : State),
    s.kaLive ∧ (s.get REG.STS_STATE = 2 ∨ s.get REG.STS_STATE = 3) ∧ s.reg.uvSeen = false ∧ uvDue s = true) ∧
  (∃ (s : State),
    s.kaLive ∧ (s.get REG.STS_STATE = 2 ∨ s.get REG.STS_STATE = 3) ∧ (s.reg.uvSeen = true ∨ uvDue s = false)) ∧
  (∃ (s : State),
    s.kaLive ∧ (s.get REG.STS_STATE = 2 ∨ s.get REG.STS_STATE = 3) ∧ (s.reg.uvSeen = true ∨ uvDue s = false)) ∧
  (∃ (s : State) (v : Nat),
    s.kaLive ∧ s.get REG.STS_STATE = 4 ∧ (max 1 (s.get REG.RETRY_DLY)) * 98304 ≤ s.mtime - s.reg.since ∧
    (s.get REG.FSTAT_TRIPCNT < s.get REG.RETRY_MAX)) ∧
  (∃ (s : State) (v : Nat),
    s.kaLive ∧ s.get REG.STS_STATE = 4 ∧ (max 1 (s.get REG.RETRY_DLY)) * 98304 ≤ s.mtime - s.reg.since ∧
    (s.get REG.RETRY_MAX ≤ s.get REG.FSTAT_TRIPCNT)) ∧
  (∃ (s : State),
    s.kaLive ∧ (s.get REG.STS_STATE = 2 ∨ s.get REG.STS_STATE = 3) ∧ 1000 * 98304 ≤ s.mtime - s.reg.since) ∧
  (∃ (s : State),
    s.kaLive ∧ powerGoodDue s = true) ∧
  (∃ (s : State),
    s.kaLive ∧ (s.get REG.STS_STATE ≠ 1 ∨ s.reg.ramp ≠ s.getA REG.VSET_CODE * 1250 * uvUnit)) ∧
  (∃ (s : State),
    s.kaLive ∧ s.reg.ramp = s.getA REG.VSET_CODE * 1250 * uvUnit ∧ s.get REG.STS_STATE ≠ 1) :=
  ⟨⟨{ up.puts [(REG.STS_STATE, 2), (REG.FSTAT_OCPH, 1), (PRS.CFG_TSRC, 1), (REG.ISNS_GAIN, 20)] with caddy := { up.caddy with grants := [⟨3, 5, 0, true⟩] } }, ⟨[0, 0, 1200000, 0], 640000, 4199⟩, by decide⟩,
   ⟨up.put REG.ISNS_GAIN 20, ⟨[300000, 300000, 300000, 300000], 640000, 4200⟩, by decide⟩,
   ⟨{ up.put REG.STS_STATE 2 with mtime := 492, reg := { up.reg with uvSince := some 0 } }, by decide⟩,
   ⟨{ up.put REG.STS_STATE 2 with mtime := 491, reg := { up.reg with uvSince := some 0 } }, by decide⟩,
   ⟨{ up.put REG.STS_STATE 2 with reg := { up.reg with uvSeen := true } }, by decide⟩,
   ⟨{ up.puts [(REG.STS_STATE, 4), (REG.FSTAT_TRIPCNT, 1)] with mtime := 98304000 }, 350000, by decide⟩,
   ⟨{ up.puts [(REG.STS_STATE, 4), (REG.FSTAT_TRIPCNT, 15), (REG.RETRY_MAX, 5)] with mtime := 98304000 }, 0, by decide⟩,
   ⟨{ up.puts [(REG.STS_STATE, 2), (REG.FSTAT_TRIPCNT, 3)] with mtime := 98304000 }, by decide⟩,
   ⟨{ up.puts [(REG.STS_STATE, 1), (REG.VOUT_MEAS, 600)] with mtime := 4916, reg := { up.reg with nearSince := some 0 } }, by decide⟩,
   ⟨up.put REG.STS_STATE 4, by decide⟩,
   ⟨up.puts [(REG.STS_STATE, 2), (REG.STS_BUSY, 1)], by decide⟩⟩

theorem consumersAskAndStop_met :
  (∃ (s : State) (c : Fin 17) (e st : Fld),
    s.live ∧ s.answers (consumerPage c) ∧ standingFields c = some (e, st) ∧ s.get e = 0 ∧ holdsGrant s c = false ∧
    waitsGrant s c = false ∧ (c = 15 → timingOk s = true) ∧ (c ≠ 16)) ∧
  (∃ (s : State) (c : Fin 17) (e st : Fld),
    s.live ∧ s.answers (consumerPage c) ∧ standingFields c = some (e, st) ∧ s.get e = 0 ∧ holdsGrant s c = false ∧
    waitsGrant s c = false ∧ (c = 15 → timingOk s = true) ∧
    (exceedsEff s (s.getA (CADDY.CLAIM_AMT (c - 8))) = true) ∧ (c = 16)) ∧
  (∃ (s : State) (c : Fin 17) (e st : Fld),
    s.live ∧ s.answers (consumerPage c) ∧ standingFields c = some (e, st) ∧ s.get e = 0 ∧ holdsGrant s c = false ∧
    waitsGrant s c = false ∧ (c = 15 → timingOk s = true) ∧ (c = 16)) ∧
  (∃ (s : State) (c : Fin 17) (e st : Fld),
    s.live ∧ s.answers (consumerPage c) ∧ standingFields c = some (e, st) ∧ s.get e = 0 ∧ holdsGrant s c = false ∧
    waitsGrant s c = false ∧ (c = 15 → timingOk s = true) ∧ (c ≠ 16)) ∧
  (∃ (s : State) (c : Fin 17) (e st : Fld),
    s.live ∧ s.answers (consumerPage c) ∧ standingFields c = some (e, st) ∧ s.get e = 1 ∧ c ≠ 15) ∧
  (∃ (s : State),
    s.live ∧ s.answers .htx ∧ (timingOk s = false)) ∧
  (∃ (s : State),
    s.live ∧ s.answers .htx ∧ timingOk s = true ∧ s.get HTX.CTL_EN = 1 ∧ s.get HTX.STS_STATE = 5) ∧
  (∃ (s : State) (n : Fin 4) (c : Fin 17),
    s.live ∧ c.val = 9 + n.val ∧ s.get (DMC.STS_STATE n) = 0 ∧ s.get SYS.BOOT_STATUS_CODE = 6 ∧
    holdsGrant s c = false ∧ waitsGrant s c = false) ∧
  (∃ (s : State) (c : Fin 17) (e st : Fld),
    s.live ∧ s.answers (consumerPage c) ∧ standingFields c = some (e, st) ∧ s.get e = 1) ∧
  (∃ (s : State) (c : Fin 17) (e st : Fld),
    s.live ∧ s.answers (consumerPage c) ∧ standingFields c = some (e, st) ∧ s.get e = 1) ∧
  (∃ (s : State) (c : Fin 17),
    s.live ∧ c.val < 8) :=
  ⟨⟨up, 8, ISP.CTL_EN, ISP.STS_STATE, by decide⟩,
   ⟨up.put CADDY.AVAIL_EFF 83, 16, MPT.CTL_EN, MPT.STS_STATE, by decide⟩,
   ⟨(aafUp []).put MPT.CTL_EN 0, 16, MPT.CTL_EN, MPT.STS_STATE, by decide⟩,
   ⟨up.putA (CADDY.CLAIM_AMT 7) 30, 15, HTX.CTL_EN, HTX.STS_STATE, by decide⟩,
   ⟨up.put COMP.CTL_EN 1, 13, COMP.CTL_EN, COMP.STS_STATE, by decide⟩,
   ⟨up.puts [(HTX.CFG_MODE, 1)], by decide⟩,
   ⟨up.puts [(HTX.CTL_EN, 1), (HTX.STS_STATE, 5)], by decide⟩,
   ⟨(booting 6).put (DMC.STS_STATE 2) 0, 2, 11, by decide⟩,
   ⟨{ up.puts [(HRX.CTL_EN, 1), (HRX.STS_STATE, 3)] with caddy := { up.caddy with grants := [⟨14, 20, 0, true⟩, ⟨3, 64, 9, true⟩] } }, 14, HRX.CTL_EN, HRX.STS_STATE, by decide⟩,
   ⟨{ up.puts [(ISP.CTL_EN, 1), (ISP.STS_STATE, 1)] with caddy := { up.caddy with waits := [⟨8, 20, 3, 0, 0, false, false⟩] } }, 8, ISP.CTL_EN, ISP.STS_STATE, by decide⟩,
   ⟨up, 7, by decide⟩⟩

theorem caddyGrantsWithinTheBudget_met :
  (∃ (s : State) (r : Req),
    s.kaLive ∧ nextGrant s = some r ∧ (r.amt ≠ 0) ∧ 8 ≤ r.id ∧
    s.mtime < max r.start (s.mtime + s.get CADDY.FFLEAD_TICKS) ∧ startsDue s = [] ∧
    (∀ n : Fin 4, r.id = 9 + n.val → s.get (DMC.STS_STATE n) ≠ 3)) ∧
  (∃ (s : State) (r : Req),
    s.kaLive ∧ nextGrant s = some r ∧ (r.amt ≠ 0) ∧ (r.id < 8)) ∧
  (∃ (s : State) (r : Req),
    s.kaLive ∧ nextGrant s = some r ∧ (r.amt ≠ 0)) ∧
  (∃ (s : State) (r : Req),
    s.kaLive ∧ nextGrant s = some r ∧ startsDue s = [] ∧ s.get CADDY.FFLEAD_TICKS = 0 ∧ r.start ≤ s.mtime) ∧
  (∃ (s : State) (r : Req),
    s.kaLive ∧ nextGrant s = some r ∧ startsDue s = [] ∧ s.get CADDY.FFLEAD_TICKS = 0 ∧ r.start ≤ s.mtime) ∧
  (∃ (s : State) (r : Req),
    s.kaLive ∧ nextGrant s = some r ∧ startsDue s = [] ∧ s.get CADDY.FFLEAD_TICKS = 0 ∧ r.start ≤ s.mtime ∧
    (r.id = 13)) ∧
  (∃ (s : State) (r : Req),
    s.kaLive ∧ nextGrant s = some r ∧ startsDue s = [] ∧ s.get CADDY.FFLEAD_TICKS = 0 ∧ r.start ≤ s.mtime ∧
    (r.id = 14)) ∧
  (∃ (s : State) (r : Req),
    s.kaLive ∧ nextGrant s = some r ∧ startsDue s = [] ∧ s.get CADDY.FFLEAD_TICKS = 0 ∧ r.start ≤ s.mtime ∧
    (r.id = 15)) ∧
  (∃ (s : State) (r : Req),
    s.kaLive ∧ nextGrant s = some r ∧ startsDue s = [] ∧ s.get CADDY.FFLEAD_TICKS = 0 ∧ r.start ≤ s.mtime ∧
    (r.id = 16)) ∧
  (∃ (s : State) (a n : Nat),
    s.pending = [] ∧ s.sys.pll = true ∧ s.mtime + 1 < 2 ^ 64 ∧ s.nvm.work = none ∧ s.hif.waits = [] ∧
    s.caddy.grants = [⟨13, a, n, false⟩] ∧ (n ≤ s.mtime + 1)) ∧
  (∃ (s : State) (a n : Nat),
    s.pending = [] ∧ s.sys.pll = true ∧ s.mtime + 1 < 2 ^ 64 ∧ s.nvm.work = none ∧ s.hif.waits = [] ∧
    s.caddy.grants = [⟨13, a, n, false⟩] ∧ (s.mtime + 1 < n)) ∧
  (∃ (s : State),
    s.kaLive ∧ (∀ r ∈ s.caddy.waits, grantable s r = false)) ∧
  (∃ (s : State) (c : Fin 17),
    s.kaLive ∧ (holdsGrant s c = true)) ∧
  (∃ (s : State) (c : Fin 17),
    s.kaLive ∧ holdsGrant s c = false ∧ waitsGrant s c = false) ∧
  (∃ (s : State) (c : Fin 17),
    s.kaLive ∧ holdsGrant s c = false ∧ waitsGrant s c = true) :=
  ⟨⟨{ up with mtime := 5, caddy := { up.caddy with waits := [⟨14, 20, 3, 0, 2, false, false⟩, ⟨8, 60, 3, 0, 1, false, false⟩] } }, ⟨8, 60, 3, 0, 1, false, false⟩, by decide⟩,
   ⟨{ up with mtime := 5, caddy := { up.caddy with waits := [⟨7, 60, 3, 0, 1, false, false⟩] } }, ⟨7, 60, 3, 0, 1, false, false⟩, by decide⟩,
   ⟨{ up.put (DMC.STS_STATE 1) 3 with mtime := 5, caddy := { up.caddy with waits := [⟨10, 16, 3, 0, 2, false, false⟩] } }, ⟨10, 16, 3, 0, 2, false, false⟩, by decide⟩,
   ⟨{ now0.put (DMC.STS_STATE 1) 3 with caddy := { up.caddy with waits := [⟨10, 16, 3, 0, 2, false, false⟩], grants := [⟨3, 64, 9, false⟩] } }, ⟨10, 16, 3, 0, 2, false, false⟩, by decide⟩,
   ⟨{ now0 with caddy := { up.caddy with waits := [⟨8, 60, 3, 0, 1, false, false⟩] } }, ⟨8, 60, 3, 0, 1, false, false⟩, by decide⟩,
   ⟨{ now0 with caddy := { up.caddy with waits := [⟨13, 60, 3, 0, 1, false, false⟩] } }, ⟨13, 60, 3, 0, 1, false, false⟩, by decide⟩,
   ⟨{ now0 with caddy := { up.caddy with waits := [⟨14, 60, 3, 0, 1, false, false⟩] } }, ⟨14, 60, 3, 0, 1, false, false⟩, by decide⟩,
   ⟨{ now0 with caddy := { up.caddy with waits := [⟨15, 60, 3, 0, 1, false, false⟩] } }, ⟨15, 60, 3, 0, 1, false, false⟩, by decide⟩,
   ⟨{ now0 with caddy := { up.caddy with waits := [⟨16, 60, 3, 0, 1, false, false⟩] } }, ⟨16, 60, 3, 0, 1, false, false⟩, by decide⟩,
   ⟨{ up with mtime := 5, caddy := { up.caddy with grants := [⟨13, 60, 6, false⟩] } }, 60, 6, by decide⟩,
   ⟨{ up with mtime := 5, caddy := { up.caddy with grants := [⟨13, 60, 7, false⟩] } }, 60, 7, by decide⟩,
   ⟨{ up with caddy := { up.caddy with waits := [⟨14, 2000, 3, 0, 2, false, false⟩] } }, by decide⟩,
   ⟨{ up with caddy := { up.caddy with grants := [⟨3, 64, 9, true⟩] } }, 3, by decide⟩,
   ⟨up, 3, by decide⟩,
   ⟨{ up with caddy := { up.caddy with waits := [⟨3, 64, 3, 0, 1, false, false⟩] } }, 3, by decide⟩⟩

theorem ageingBrakeAndTemperature_met :
  (∃ (s : State) (c : Fin 17) (r : Req),
    s.kaLive ∧ r ∈ s.caddy.waits ∧ r.id = c.val ∧ r.aged = false ∧
    s.get CADDY.ARB_AGE * 98304 < (s.mtime - r.time) * 1000) ∧
  (∃ (s : State),
    s.kaLive ∧ s.get CADDY.STS_STATE = 1 ∧ 11 ≤ s.caddy.above) ∧
  (∃ (s : State),
    s.kaLive ∧ s.get CADDY.STS_STATE = 2 ∧ (100 ≤ s.caddy.above)) ∧
  (∃ (s : State),
    s.kaLive ∧ s.get CADDY.STS_STATE = 2 ∧ (100 ≤ s.caddy.below)) ∧
  (∃ (s : State),
    s.kaLive ∧ s.get CADDY.STS_STATE = 3 ∧ 100 ≤ s.caddy.below) ∧
  (∃ (s : State) (v : BitVec 8),
    s.kaLive) ∧
  (∃ (s : State) (v : BitVec 8),
    s.kaLive) ∧
  (∃ (s : State) (v : BitVec 8),
    s.kaLive) :=
  ⟨⟨{ up with mtime := 49153, caddy := { up.caddy with waits := [⟨14, 20, 1, 0, 0, false, false⟩] } }, 14, ⟨14, 20, 1, 0, 0, false, false⟩, by decide⟩,
   ⟨{ up with caddy := { up.caddy with above := 11, grants := [⟨3, 64, 9, true⟩] } }, by decide⟩,
   ⟨{ up.put CADDY.STS_STATE 2 with caddy := { up.caddy with above := 100 } }, by decide⟩,
   ⟨{ up.put CADDY.STS_STATE 2 with caddy := { up.caddy with below := 100 } }, by decide⟩,
   ⟨{ up.put CADDY.STS_STATE 3 with caddy := { up.caddy with below := 100 } }, by decide⟩,
   ⟨{ up.puts [(DMC.STS_STATE 2, 1), (CADDY.DERATE_T0, 95)] with caddy := { up.caddy with grants := [⟨3, 500, 9, true⟩] } }, 112, by decide⟩,
   ⟨up, 0xF0, by decide⟩,
   ⟨up, 0xD4, by decide⟩⟩

theorem referencesQualifyAndDomainsSwitch_met :
  (∃ (s : State) (ms : List RefMeas) (n : Fin 5) (m : RefMeas) (o : Int) (l : List Int),
    s.kaLive ∧ ms[n.val]? = some m ∧ m.present = true ∧ (n = 4 → s.get (TIM.REFCFG_NOM 4) ≠ 1) ∧
    sourceHas s n = true ∧ s.getA (TIM.REFCFG_NOM n) = s.get (TIM.REFCFG_NOM n) ∧
    l = (m.off :: SMap.get [] s.tim.meas n).take 10 ∧
    o = max (-32767) (min 32767 (openDiv l.sum (1000 * l.length))) ∧ s.get TIM.XOCMP_EN = 0 ∧
    s.get (TIM.RSTAT_STATE 5) = 2 ∧ (s.get TIM.XOCMP_EN = 0) ∧ (s.get TIM.CTL_EN = 1)) ∧
  (∃ (s : State) (ms : List RefMeas) (n : Fin 5) (m : RefMeas) (o : Int) (l : List Int),
    s.kaLive ∧ ms[n.val]? = some m ∧ m.present = true ∧ (n = 4 → s.get (TIM.REFCFG_NOM 4) ≠ 1) ∧
    sourceHas s n = true ∧ s.getA (TIM.REFCFG_NOM n) = s.get (TIM.REFCFG_NOM n) ∧
    l = (m.off :: SMap.get [] s.tim.meas n).take 10 ∧
    o = max (-32767) (min 32767 (openDiv l.sum (1000 * l.length))) ∧ s.get TIM.XOCMP_EN = 0 ∧
    s.get (TIM.RSTAT_STATE 5) = 2 ∧ (s.get TIM.XOCMP_EN = 0) ∧ (s.get TIM.CTL_EN = 1)) ∧
  (∃ (s : State) (ms : List RefMeas) (n : Fin 5) (m : RefMeas) (o : Int) (l : List Int),
    s.kaLive ∧ ms[n.val]? = some m ∧ m.present = true ∧ (n = 4 → s.get (TIM.REFCFG_NOM 4) ≠ 1) ∧
    sourceHas s n = true ∧ s.getA (TIM.REFCFG_NOM n) = s.get (TIM.REFCFG_NOM n) ∧
    l = (m.off :: SMap.get [] s.tim.meas n).take 10 ∧
    o = max (-32767) (min 32767 (openDiv l.sum (1000 * l.length))) ∧ s.get TIM.XOCMP_EN = 0 ∧
    s.get (TIM.RSTAT_STATE 5) = 2 ∧ (s.get TIM.XOCMP_EN = 0) ∧ (s.get TIM.CTL_EN = 1)) ∧
  (∃ (s : State) (ms : List RefMeas) (n : Fin 5) (m : RefMeas) (o : Int) (l : List Int),
    s.kaLive ∧ ms[n.val]? = some m ∧ m.present = true ∧ (n = 4 → s.get (TIM.REFCFG_NOM 4) ≠ 1) ∧
    sourceHas s n = true ∧ s.getA (TIM.REFCFG_NOM n) = s.get (TIM.REFCFG_NOM n) ∧
    l = (m.off :: SMap.get [] s.tim.meas n).take 10 ∧
    o = max (-32767) (min 32767 (openDiv l.sum (1000 * l.length))) ∧ s.get TIM.XOCMP_EN = 0 ∧
    s.get (TIM.RSTAT_STATE 5) = 2 ∧ (s.get TIM.XOCMP_EN = 0) ∧ (s.get TIM.CTL_EN = 1)) ∧
  (∃ (s : State) (ms : List RefMeas) (a b : Fin 5) (ma mb : RefMeas),
    s.kaLive ∧ a < b ∧ (ms[a.val]? = some ma ∧ ma.present = true ∧ sourceHas s a = true) ∧
    (ms[b.val]? = some mb ∧ mb.present = true ∧ sourceHas s b = true) ∧ (b = 4 → s.get (TIM.REFCFG_NOM 4) ≠ 1) ∧
    (s.getA (TIM.REFCFG_NOM a) = s.get (TIM.REFCFG_NOM a) ∧ s.getA (TIM.REFCFG_NOM b) = s.get (TIM.REFCFG_NOM b)) ∧
    (∀ k : Fin 5, (2 ≤ s.get (TIM.RSTAT_STATE k) ∧ s.get (TIM.RSTAT_STATE k) ≤ 4) ↔ (k = a ∨ k = b)) ∧
    s.get TIM.XOCMP_EN = 1) ∧
  (∃ (s : State) (ms : List RefMeas) (a b : Fin 5) (ma mb : RefMeas),
    s.kaLive ∧ a < b ∧ (ms[a.val]? = some ma ∧ ma.present = true ∧ sourceHas s a = true) ∧
    (ms[b.val]? = some mb ∧ mb.present = true ∧ sourceHas s b = true) ∧ (b = 4 → s.get (TIM.REFCFG_NOM 4) ≠ 1) ∧
    (s.getA (TIM.REFCFG_NOM a) = s.get (TIM.REFCFG_NOM a) ∧ s.getA (TIM.REFCFG_NOM b) = s.get (TIM.REFCFG_NOM b)) ∧
    (∀ k : Fin 5, (2 ≤ s.get (TIM.RSTAT_STATE k) ∧ s.get (TIM.RSTAT_STATE k) ≤ 4) ↔ (k = a ∨ k = b)) ∧
    s.get TIM.XOCMP_EN = 1) ∧
  (∃ (s : State) (ms : List RefMeas) (a b : Fin 5) (ma mb : RefMeas),
    s.kaLive ∧ a < b ∧ (ms[a.val]? = some ma ∧ ma.present = true ∧ sourceHas s a = true) ∧
    (ms[b.val]? = some mb ∧ mb.present = true ∧ sourceHas s b = true) ∧ (b = 4 → s.get (TIM.REFCFG_NOM 4) ≠ 1) ∧
    (s.getA (TIM.REFCFG_NOM a) = s.get (TIM.REFCFG_NOM a) ∧ s.getA (TIM.REFCFG_NOM b) = s.get (TIM.REFCFG_NOM b)) ∧
    (∀ k : Fin 5, (2 ≤ s.get (TIM.RSTAT_STATE k) ∧ s.get (TIM.RSTAT_STATE k) ≤ 4) ↔ (k = a ∨ k = b)) ∧
    s.get TIM.XOCMP_EN = 1) ∧
  (∃ (s : State) (off o : Int) (l : List Int),
    s.kaLive ∧ s.getA (TIM.REFCFG_NOM 4) = 1 ∧ s.get (TIM.RSTAT_STATE 5) = 2 ∧
    (s.get (TIM.RSTAT_STATE 4) ≠ 0 ∨ pulsesLast (notePulse s) = true) ∧
    l = (off :: SMap.get [] s.tim.meas 4).take 4 ∧ o = max (-32767) (min 32767 (openDiv l.sum (1000 * l.length))) ∧
    (s.get TIM.CTL_EN = 1)) ∧
  (∃ (s : State) (off o : Int) (l : List Int),
    s.kaLive ∧ s.getA (TIM.REFCFG_NOM 4) = 1 ∧ s.get (TIM.RSTAT_STATE 5) = 2 ∧
    (s.get (TIM.RSTAT_STATE 4) ≠ 0 ∨ pulsesLast (notePulse s) = true) ∧
    l = (off :: SMap.get [] s.tim.meas 4).take 4 ∧ o = max (-32767) (min 32767 (openDiv l.sum (1000 * l.length))) ∧
    (s.get TIM.CTL_EN = 1)) ∧
  (∃ (s : State) (off : Int),
    s.kaLive ∧ s.get (TIM.RSTAT_STATE 4) = 0 ∧ pulsesLast (notePulse s) = false) ∧
  (∃ (s : State) (off : Int),
    s.kaLive ∧ s.get (TIM.RSTAT_STATE 4) = 0 ∧ pulsesLast (notePulse s) = false) ∧
  (∃ (s : State) (n : Fin 6),
    s.kaLive ∧ n.val < 5 ∧ s.get (TIM.RSTAT_STATE n) ≠ 0 ∧
    (2 ≤ s.get (TIM.RSTAT_STATE n) ∧ s.get (TIM.RSTAT_STATE n) ≤ 4) ∧ (s.get TIM.CTL_EN = 1)) ∧
  (∃ (s : State) (n : Fin 6),
    s.kaLive ∧ n.val < 5 ∧ s.get (TIM.RSTAT_STATE n) ≠ 0 ∧ (s.get TIM.CTL_EN = 0)) ∧
  (∃ (s : State) (n : Fin 6),
    s.kaLive ∧ n.val < 2 ∧ s.get (TIM.RSTAT_STATE n) ≠ 0 ∧
    (2 ≤ s.get (TIM.RSTAT_STATE n) ∧ s.get (TIM.RSTAT_STATE n) ≤ 4) ∧ (s.get TIM.CTL_EN = 1)) ∧
  (∃ (s : State) (n : Fin 6),
    s.kaLive ∧ n.val < 2 ∧ s.get (TIM.RSTAT_STATE n) ≠ 0 ∧
    (2 ≤ s.get (TIM.RSTAT_STATE n) ∧ s.get (TIM.RSTAT_STATE n) ≤ 4) ∧ (s.get TIM.CTL_EN = 0)) ∧
  (∃ (s : State) (n : Fin 6),
    s.kaLive ∧ (n = 5 ∨ s.get (TIM.RSTAT_STATE n) = 0) ∧ (2 ≤ n.val ∨ s.get (TIM.RSTAT_STATE n) = 0)) :=
  ⟨⟨up.puts [(TIM.XOCMP_EN, 0), (TIM.RSTAT_STATE 3, 2), (TIM.CTL_EN, 1)], [⟨false, 0, 0⟩, ⟨false, 0, 0⟩, ⟨false, 0, 0⟩, ⟨true, 10001000, 0⟩], 3, ⟨true, 10001000, 0⟩, 10001, [10001000], by decide⟩,
   ⟨{ up.puts [(TIM.XOCMP_EN, 0), (TIM.RSTAT_STATE 1, 1), (TIM.CTL_EN, 1), (EARC.STS_STATE, 4)] with tim := { up.tim with timers := [(1, 99)], meas := [(1, [-20000000, -5000000, 0, 0, 0, 0, 0, 0, 0, 7])] } }, [⟨true, 40000, 0⟩, ⟨true, 5000000, 0⟩], 1, ⟨true, 5000000, 0⟩, -2000, [5000000, -20000000, -5000000, 0, 0, 0, 0, 0, 0, 0], by decide⟩,
   ⟨{ up.puts [(TIM.XOCMP_EN, 0), (TIM.RSTAT_STATE 4, 4), (TIM.CTL_EN, 1)] with tim := { up.tim with timers := [(4, 99)] } }, [⟨true, 40000, 0⟩, ⟨true, -10000, 0⟩, ⟨true, -10000, 0⟩, ⟨true, -10000, 0⟩, ⟨true, -20001000, 0⟩], 4, ⟨true, -20001000, 0⟩, -20001, [-20001000], by decide⟩,
   ⟨{ up.puts [(TIM.XOCMP_EN, 0), (TIM.CTL_EN, 1), (HRX.STS_STATE, 3)] with tim := { up.tim with timers := [(4, 99)] } }, [⟨true, 40000000, 0⟩], 0, ⟨true, 40000000, 0⟩, 32767, [40000000], by decide⟩,
   ⟨up.puts [(TIM.XOCMP_EN, 1), (TIM.RSTAT_STATE 3, 2), (TIM.RSTAT_STATE 4, 2), (TIM.RSTAT_STATE 5, 2), (TIM.CTL_EN, 1)], [⟨false, 0, 0⟩, ⟨false, 0, 0⟩, ⟨false, 0, 0⟩, ⟨true, 12001000, 0⟩, ⟨true, 12003000, 0⟩], 3, 4, ⟨true, 12001000, 0⟩, ⟨true, 12003000, 0⟩, by decide⟩,
   ⟨up.puts [(TIM.XOCMP_EN, 1), (TIM.RSTAT_STATE 3, 3), (TIM.RSTAT_STATE 4, 2), (TIM.RSTAT_STATE 5, 2), (TIM.CTL_EN, 1)], [⟨false, 0, 0⟩, ⟨false, 0, 0⟩, ⟨false, 0, 0⟩, ⟨true, 1000, 0⟩, ⟨true, 3000, 0⟩], 3, 4, ⟨true, 1000, 0⟩, ⟨true, 3000, 0⟩, by decide⟩,
   ⟨up.puts [(TIM.XOCMP_EN, 1), (TIM.RSTAT_STATE 3, 2), (TIM.RSTAT_STATE 4, 2), (TIM.RSTAT_STATE 5, 2), (TIM.XOEST_PPM, 7), (TIM.XOEST_VALID, 1)], [⟨false, 0, 0⟩, ⟨false, 0, 0⟩, ⟨false, 0, 0⟩, ⟨true, -5000000, 0⟩, ⟨true, 3000000, 0⟩], 3, 4, ⟨true, -5000000, 0⟩, ⟨true, 3000000, 0⟩, by decide⟩,
   ⟨(up.putA (TIM.REFCFG_NOM 4) 1).puts [(TIM.RSTAT_STATE 4, 2), (TIM.CTL_EN, 1)], -10001000, -10001, [-10001000], by decide⟩,
   ⟨{ (up.putA (TIM.REFCFG_NOM 4) 1).put TIM.CTL_EN 1 with mtime := 196608005, tim := { up.tim with auxFrom := some 5, auxLast := some 100000005 } }, 0, 0, [0], by decide⟩,
   ⟨{ (up.putA (TIM.REFCFG_NOM 4) 1).put TIM.CTL_EN 1 with mtime := 5 }, -10001000, by decide⟩,
   ⟨{ (up.putA (TIM.REFCFG_NOM 4) 1).put TIM.CTL_EN 1 with mtime := 296608005, tim := { up.tim with auxFrom := some 5, auxLast := some 5 } }, 7, by decide⟩,
   ⟨up.puts [(TIM.RSTAT_STATE 1, 3), (TIM.CTL_EN, 1), (TIM.DSTS_VREF, 1), (TIM.DSTS_VSTATE, 2), (TIM.DSTS_AREF, 1), (TIM.DSTS_ASTATE, 2)], 1, by decide⟩,
   ⟨up.puts [(TIM.RSTAT_STATE 3, 5), (TIM.CTL_EN, 0), (TIM.RSTAT_OFF 3, 9)], 3, by decide⟩,
   ⟨up.puts [(TIM.RSTAT_STATE 1, 3), (TIM.RSTAT_STATE 5, 2), (TIM.CTL_EN, 1), (TIM.DSTS_VREF, 1), (TIM.DSTS_VSTATE, 2), (TIM.DSTS_AREF, 1), (TIM.DSTS_ASTATE, 2)], 1, by decide⟩,
   ⟨up.puts [(TIM.RSTAT_STATE 0, 2), (TIM.RSTAT_STATE 5, 2), (TIM.CTL_EN, 0)], 0, by decide⟩,
   ⟨up, 5, by decide⟩⟩

theorem loopsSlewLockAndRealign_met :
  (∃ (s : State) (d : TimDom),
    s.kaLive ∧ ((s.loop d).freq ≤ loopTarget s d) ∧ (s.get (stateFld d) = 2)) ∧
  (∃ (s : State) (d : TimDom),
    s.kaLive ∧ (loopTarget s d ≤ (s.loop d).freq) ∧ (s.get TIM.CTL_EN = 0)) ∧
  (∃ (s : State) (d : TimDom),
    s.kaLive ∧ (loopTarget s d ≤ (s.loop d).freq) ∧ (s.get (stateFld d) = 0 ∨ s.get (stateFld d) = 3) ∧
    mag (loopTarget s d - (s.loop d).freq) ≤ slewStep s d ∧ (s.get TIM.CTL_EN = 0)) ∧
  (∃ (s : State) (d : TimDom),
    s.kaLive ∧ s.get (stateFld d) = 1 ∧ 1000 ≤ (s.loop d).near) ∧
  (∃ (s : State) (d : W32),
    s.live ∧ s.answers .tim ∧ ((TIM.AUD_WDIV).ofData d ≠ 3)) ∧
  (∃ (s : State) (d : W32),
    s.live ∧ s.answers .tim ∧ ((TIM.AUD_WDIV).ofData d = 3)) ∧
  (∃ (s : State) (d : W32),
    s.live ∧ s.answers .tim ∧ ((TIM.AUD_WDIV).ofData d ≠ 3)) ∧
  (∃ (s : State) (n : Fin 6) (d : W32),
    s.live ∧ s.answers .tim ∧ (TIM.REFCFG_SOFT n).ofData d ≠ 0 ∧
    (TIM.REFCFG_SOFT n).ofData d ≤ (TIM.REFCFG_HARD n).ofData d ∧ nomOk n ((TIM.REFCFG_NOM n).ofData d) = true) ∧
  (∃ (s : State) (n : Fin 6) (d : W32),
    s.live ∧ s.answers .tim ∧
    ((TIM.REFCFG_SOFT n).ofData d = 0 ∨ (TIM.REFCFG_HARD n).ofData d < (TIM.REFCFG_SOFT n).ofData d ∨ nomOk n ((TIM.REFCFG_NOM n).ofData d) = false)) ∧
  (∃ (s : State) (n : Fin 6) (d : W32),
    s.live ∧ s.answers .tim ∧ (TIM.REFCFG_SOFT n).ofData d ≠ 0 ∧
    (TIM.REFCFG_SOFT n).ofData d ≤ (TIM.REFCFG_HARD n).ofData d ∧ nomOk n ((TIM.REFCFG_NOM n).ofData d) = true) ∧
  (∃ (s : State),
    s.live ∧ s.answers .tim ∧ s.get TIM.DSTS_REALA = 0 ∧ hasPhase s .audio = true ∧ s.get TIM.DSTS_REALV = 0 ∧
    hasPhase s .video = false) ∧
  (∃ (s : State),
    s.live ∧ s.answers .tim ∧ (s.get TIM.DSTS_REALA = 1) ∧ s.get TIM.DSTS_REALV = 0 ∧ hasPhase s .video = true) ∧
  (∃ (s : State),
    s.live ∧ s.answers .tim ∧ (s.get TIM.DSTS_REALV = 1) ∧ s.get TIM.DSTS_REALA = 0 ∧ hasPhase s .audio = false) ∧
  (∃ (s : State),
    640 * s.tim.outs.wlen ≤ s.tim.outs.w ∧ audWaits s = false ∧ s.tim.outs.fsSet = false ∧
    s.mtime % 98304000 = s.get TIM.PPSEP_EPOCH ∧ s.get TIM.DSTS_REALV = 0) ∧
  (∃ (s : State),
    640 * s.tim.outs.wlen ≤ s.tim.outs.w ∧ audWaits s = false ∧ s.tim.outs.fsSet = false ∧
    s.mtime % 98304000 = s.get TIM.PPSEP_EPOCH ∧ s.get TIM.DSTS_REALV = 0) ∧
  (∃ (s : State),
    640 * s.tim.outs.wlen ≤ s.tim.outs.w ∧ audWaits s = true ∧ s.mtime % 98304000 = s.get TIM.PPSEP_EPOCH ∧
    s.get TIM.DSTS_REALV = 0) ∧
  (∃ (s : State),
    (s.tim.outs.w < 640 * s.tim.outs.wlen) ∧ s.mtime % 98304000 = s.get TIM.PPSEP_EPOCH ∧ s.get TIM.DSTS_REALV = 0 ∧
    (6 ∈ (timTick s).tim.outs.run)) ∧
  (∃ (s : State),
    (s.tim.outs.w < 640 * s.tim.outs.wlen) ∧ (s.mtime % 98304000 ≠ s.get TIM.PPSEP_EPOCH)) ∧
  (∃ (s : State) (d : TimDom),
    s.kaLive ∧ (s.get (realFld d) = 0 ∨ atEdge s d = false)) ∧
  (∃ (s : State) (d : TimDom),
    s.kaLive ∧ s.get (realFld d) = 1 ∧ atEdge s d = true ∧ hasPhase s d = false) ∧
  (∃ (s : State) (d : TimDom),
    s.kaLive ∧ s.get (realFld d) = 1 ∧ atEdge s d = true ∧ hasPhase s d = false) ∧
  (∃ (s : State),
    s.kaLive ∧ s.get TIM.DSTS_REALA = 1 ∧ s.tim.outs.wEdge = true ∧ hasPhase s .audio = true) ∧
  (∃ (s : State),
    s.kaLive ∧ s.get TIM.DSTS_REALV = 1 ∧ s.mtime % 98304000 = s.get TIM.PPSEP_EPOCH ∧
    s.tim.outs.pps ≠ some s.mtime ∧ hasPhase s .video = true) ∧
  (∃ (s : State),
    s.live ∧ s.answers .tim) :=
  ⟨⟨{ up.puts [(TIM.CTL_EN, 1), (TIM.DSTS_VSTATE, 2), (TIM.DSTS_VREF, 3), (TIM.RSTAT_OFF 3, 1000), (TIM.RSTAT_STATE 3, 2)] with tim := { up.tim with vid := { up.tim.vid with freq := 999980 } } }, .video, by decide⟩,
   ⟨{ up with tim := { up.tim with aud := { up.tim.aud with freq := 999980 } } }, .audio, by decide⟩,
   ⟨{ up with tim := { up.tim with aud := { up.tim.aud with freq := 20 } } }, .audio, by decide⟩,
   ⟨{ up.puts [(TIM.DSTS_VSTATE, 1)] with tim := { up.tim with vid := { up.tim.vid with near := 1000 } } }, .video, by decide⟩,
   ⟨up.put TIM.CTL_EN 1, 0x00012020, by decide⟩,
   ⟨up, 0x00003020, by decide⟩,
   ⟨up, 0x00002020, by decide⟩,
   ⟨up, 3, 0x64C86405, by decide⟩,
   ⟨up, 3, 0x64C86406, by decide⟩,
   ⟨up, 0, 0x6464640F, by decide⟩,
   ⟨up.puts [(TIM.DSTS_ASTATE, 2), (TIM.DSTS_AREF, 1)], by decide⟩,
   ⟨up.puts [(TIM.DSTS_VSTATE, 2), (TIM.DSTS_VREF, 2), (TIM.DSTS_REALA, 1)], by decide⟩,
   ⟨up.put TIM.DSTS_REALV 1, by decide⟩,
   ⟨{ up.puts [(TIM.CTL_EN, 1), (TIM.AUD_AFAM, 0)] with tim := { up.tim with outs := { up.tim.outs with w := 640 * 600, wlen := 512, f := 9 } } }, by decide⟩,
   ⟨{ up.put TIM.AUD_FSDIV 7 with tim := { up.tim with outs := { up.tim.outs with w := 640 * 600, wlen := 512, f := 6 } } }, by decide⟩,
   ⟨{ up.puts [(TIM.CTL_EN, 1), (TIM.AUD_AFAM, 1), (TIM.AUD_WDIV, 2)] with tim := { up.tim with outs := { up.tim.outs with w := 640 * 600, wlen := 512, f := 9 } } }, by decide⟩,
   ⟨{ up.puts [(TIM.PPSEP_EPOCH, 0), (TIM.OUTEN_PPS, 1)] with mtime := 98304000, tim := { up.tim with outs := { up.tim.outs with w := 0, wlen := 512, f := 6 } } }, by decide⟩,
   ⟨{ up.puts [(TIM.PPSEP_EPOCH, 7)] with mtime := 98304000, tim := { up.tim with outs := { up.tim.outs with w := 0, wlen := 512, f := 6, run := [6] } } }, by decide⟩,
   ⟨up, .audio, by decide⟩,
   ⟨up.puts [(TIM.DSTS_VSTATE, 2), (TIM.DSTS_VREF, 3), (TIM.DSTS_REALV, 1)], .video, by decide⟩,
   ⟨{ up.put TIM.DSTS_REALA 1 with tim := { up.tim with outs := { up.tim.outs with wEdge := true } } }, .audio, by decide⟩,
   ⟨{ up.puts [(TIM.DSTS_ASTATE, 2), (TIM.DSTS_AREF, 1), (TIM.DSTS_REALA, 1), (TIM.PHERRA_TICKS, 200)] with tim := { up.tim with outs := { up.tim.outs with wEdge := true } } }, by decide⟩,
   ⟨{ up.puts [(TIM.DSTS_VSTATE, 2), (TIM.DSTS_VREF, 2), (TIM.DSTS_REALV, 1), (TIM.PPSEP_EPOCH, 98303999), (TIM.PHERRV_TICKS, 98303999)] with mtime := 98303999 }, by decide⟩,
   ⟨{ up with mtime := 2 ^ 40 + 5 }, by decide⟩⟩

theorem flywheelMakesTeeth_met :
  (∃ (s : State) (src : Fin 2) (f : Bool) (b : Nat),
    s.live ∧ s.get PRS.CFG_TSRC = src.val ∧ (src.val = 1 → f = s.bit PRS.CFG_GPOL) ∧ mag ((b : Int) - s.mtime) ≤ 1 ∧
    (s.get PRS.STS_STATE = 2 ∨ s.get PRS.STS_STATE = 3) ∧ s.prs.due = none ∧
    mag ((b * 16 : Nat) - (s.prs.p : Int)) ≤ s.prs.win * 16 ∧ s.prs.perNew = false) ∧
  (∃ (s : State) (src : Fin 2) (f : Bool) (b : Nat),
    s.live ∧ s.get PRS.CFG_TSRC = src.val ∧ (src.val = 1 → f = s.bit PRS.CFG_GPOL) ∧ mag ((b : Int) - s.mtime) ≤ 1 ∧
    (s.get PRS.STS_STATE = 2 ∨ s.get PRS.STS_STATE = 3) ∧ s.prs.due = none ∧
    mag ((b * 16 : Nat) - (s.prs.p : Int)) ≤ s.prs.win * 16 ∧ s.prs.perNew = true) ∧
  (∃ (s : State) (src : Fin 2) (f : Bool) (b : Nat),
    s.live ∧ s.get PRS.CFG_TSRC = src.val ∧ (src.val = 1 → f = s.bit PRS.CFG_GPOL) ∧ mag ((b : Int) - s.mtime) ≤ 1 ∧
    (s.get PRS.STS_STATE = 2 ∨ s.get PRS.STS_STATE = 3) ∧ s.prs.due = none ∧
    (s.prs.win * 16 < mag ((b * 16 : Nat) - (s.prs.p : Int)))) ∧
  (∃ (s : State) (src : Fin 2) (f : Bool) (b : Nat),
    s.live ∧ s.get PRS.CFG_TSRC = src.val ∧ (src.val = 1 → f = s.bit PRS.CFG_GPOL) ∧ mag ((b : Int) - s.mtime) ≤ 1 ∧
    s.get PRS.STS_STATE = 1 ∧ s.prs.acq ≠ 0 ∧
    mag ((b * 16 : Nat) - ((s.prs.prev * 16 + s.get PRS.PERIOD_P16 : Nat) : Int)) ≤ s.get PRS.WINDOW_WIN * 16 ∧
    max 2 (s.get PRS.CFG_ACQ) ≤ s.prs.acq + 1) ∧
  (∃ (s : State) (src : Fin 2) (f : Bool) (b : Nat),
    s.live ∧ s.get PRS.CFG_TSRC = src.val ∧ (src.val = 1 → f = s.bit PRS.CFG_GPOL) ∧ mag ((b : Int) - s.mtime) ≤ 1 ∧
    s.get PRS.STS_STATE = 1 ∧ s.prs.acq ≠ 0 ∧
    mag ((b * 16 : Nat) - ((s.prs.prev * 16 + s.get PRS.PERIOD_P16 : Nat) : Int)) ≤ s.get PRS.WINDOW_WIN * 16 ∧
    s.prs.acq + 1 < max 2 (s.get PRS.CFG_ACQ)) ∧
  (∃ (s : State) (src : Fin 2) (f : Bool) (b : Nat),
    s.live ∧ s.get PRS.CFG_TSRC = src.val ∧ (src.val = 1 → f = s.bit PRS.CFG_GPOL) ∧ mag ((b : Int) - s.mtime) ≤ 1 ∧
    s.get PRS.STS_STATE = 1 ∧ s.prs.acq ≠ 0 ∧
    mag ((b * 16 : Nat) - ((s.prs.prev * 16 + s.get PRS.PERIOD_P16 : Nat) : Int)) ≤ s.get PRS.WINDOW_WIN * 16 ∧
    max 2 (s.get PRS.CFG_ACQ) ≤ s.prs.acq + 1) ∧
  (∃ (s : State) (src : Fin 2) (f : Bool) (b : Nat),
    s.live ∧ s.get PRS.CFG_TSRC = src.val ∧ (src.val = 1 → f = s.bit PRS.CFG_GPOL) ∧ mag ((b : Int) - s.mtime) ≤ 1 ∧
    s.get PRS.STS_STATE = 1 ∧
    (s.prs.acq = 0 ∨ s.get PRS.WINDOW_WIN * 16 < mag ((b * 16 : Nat) - ((s.prs.prev * 16 + s.get PRS.PERIOD_P16 : Nat) : Int)))) ∧
  (∃ (s : State) (src : Fin 2) (f : Bool) (b : Nat),
    s.live ∧
    (s.get PRS.CFG_TSRC ≠ src.val ∨ (src = 1 ∧ f ≠ s.bit PRS.CFG_GPOL) ∨ s.get PRS.STS_STATE = 0 ∨ s.get PRS.STS_STATE = 4)) ∧
  (∃ (s : State),
    s.live ∧ s.prs.p ≤ s.mtime * 16 ∧ (s.get PRS.STS_STATE = 4)) ∧
  (∃ (s : State),
    s.live ∧ s.prs.p ≤ s.mtime * 16 ∧ (s.get PRS.STS_STATE = 2 ∨ s.get PRS.STS_STATE = 3) ∧ s.prs.due = none ∧
    s.prs.fell = false) ∧
  (∃ (s : State),
    s.live ∧ (s.get PRS.STS_STATE = 2 ∨ s.get PRS.STS_STATE = 3) ∧ s.prs.fell = true ∧
    s.prs.p + s.prs.win * 16 < s.mtime * 16 ∧ s.prs.perNew = false ∧
    (s.get PRS.PERIOD_P16 : Int) - s.get PRS.PERIOD_P16 / 256 ≤ s.prs.per ∧
    s.prs.per ≤ s.get PRS.PERIOD_P16 + s.get PRS.PERIOD_P16 / 256 ∧ (s.get PRS.STS_STATE = 2)) ∧
  (∃ (s : State),
    s.live ∧ (s.get PRS.STS_STATE = 2 ∨ s.get PRS.STS_STATE = 3) ∧ s.prs.fell = true ∧
    s.prs.p + s.prs.win * 16 < s.mtime * 16 ∧ s.prs.perNew = false ∧
    (s.get PRS.PERIOD_P16 : Int) - s.get PRS.PERIOD_P16 / 256 ≤ s.prs.per ∧
    s.prs.per ≤ s.get PRS.PERIOD_P16 + s.get PRS.PERIOD_P16 / 256) ∧
  (∃ (s : State),
    s.live ∧ (s.get PRS.STS_STATE = 2 ∨ s.get PRS.STS_STATE = 3) ∧ s.prs.fell = true ∧
    s.prs.p + s.prs.win * 16 < s.mtime * 16 ∧ s.prs.perNew = false ∧
    (s.get PRS.PERIOD_P16 : Int) - s.get PRS.PERIOD_P16 / 256 ≤ s.prs.per ∧
    s.prs.per ≤ s.get PRS.PERIOD_P16 + s.get PRS.PERIOD_P16 / 256) :=
  ⟨⟨{ up.puts [(PRS.STS_STATE, 3), (PRS.STS_MISSRUN, 2)] with mtime := 1000040, prs := { up.prs with p := 16000000, per := 26214300, fell := true } }, 0, false, 1000040, by decide⟩,
   ⟨{ up.puts [(PRS.STS_STATE, 2), (PRS.CFG_TSRC, 1)] with mtime := 991808, prs := { up.prs with p := 16000000, perNew := true } }, 1, false, 991808, by decide⟩,
   ⟨{ up.puts [(PRS.STS_STATE, 2), (PRS.CFG_TSRC, 1)] with mtime := 991808, prs := { up.prs with p := 16000000, perNew := true } }, 1, false, 991807, by decide⟩,
   ⟨{ up.put PRS.STS_STATE 1 with mtime := 1638400, prs := { up.prs with acq := 3, prev := 0, fresh := false, hasTooth := true, last := 1 } }, 0, false, 1638400, by decide⟩,
   ⟨{ up.put PRS.STS_STATE 1 with mtime := 1630208, prs := { up.prs with acq := 1, prev := 0 } }, 0, false, 1630208, by decide⟩,
   ⟨{ (up.put PRS.STS_STATE 1).put (HDR.PENDING Page.isp.base) 1 with mtime := 1630208, prs := { up.prs with acq := 3, prev := 0 }, sys := { up.sys with points := [(Page.isp.base, 3)] } }, 0, false, 1630208, by decide⟩,
   ⟨{ up.put PRS.STS_STATE 1 with mtime := 7 }, 0, false, 8, by decide⟩,
   ⟨up.puts [(PRS.STS_STATE, 1), (PRS.CFG_TSRC, 1), (PRS.CFG_GPOL, 1)], 1, false, 0, by decide⟩,
   ⟨{ (up.put PRS.STS_STATE 4).put (HDR.PENDING Page.isp.base) 1 with mtime := 10, prs := { up.prs with p := 160 }, sys := { up.sys with points := [(Page.isp.base, 3)] } }, by decide⟩,
   ⟨{ (up.put PRS.STS_STATE 3).put (HDR.PENDING Page.caddy.base) 1 with mtime := 10, prs := { up.prs with p := 159 }, sys := { up.sys with points := [(Page.caddy.base, 3)] } }, by decide⟩,
   ⟨{ up.puts [(PRS.STS_STATE, 2)] with mtime := 9000, prs := { up.prs with p := 10, fell := true } }, by decide⟩,
   ⟨{ up.puts [(PRS.STS_STATE, 3), (PRS.STS_MISSRUN, 2), (PRS.EVCS_STATE 5, 1), (PRS.EVACT_MODE 5, 1), (PRS.EVTL_V 5, 9)] with mtime := 9000, prs := { up.prs with p := 10, fell := true, hasTooth := true } }, by decide⟩,
   ⟨{ up.puts [(PRS.CTL_EN, 1), (PRS.STS_STATE, 3), (PRS.STS_MISSRUN, 2), (PRS.TCNT_COUNT, 9), (PRS.EVCS_STATE 5, 1), (PRS.EVACT_MODE 5, 1), (PRS.EVTL_V 5, 9), (PRS.EVCS_STATE 6, 2)] with mtime := 9000, prs := { up.prs with p := 10, fell := true, hasTooth := true, fired := [(6, 9)] } }, by decide⟩⟩

theorem eventSlotsArmFireAndConvert_met :
  (∃ (s : State) (d : W32),
    s.live ∧ s.answers .prs ∧ ((PRS.CFG_TSRC).ofData d = 3)) ∧
  (∃ (s : State) (d : W32),
    s.live ∧ s.answers .prs ∧ ((PRS.CFG_TSRC).ofData d ≠ 3)) ∧
  (∃ (s : State) (d : W32),
    s.live ∧ s.answers .prs ∧ ((PRS.CFG_TSRC).ofData d ≠ 3)) ∧
  (∃ (s : State),
    s.live ∧ s.answers .prs ∧ (s.get PRS.CTL_EN = 0)) ∧
  (∃ (s : State),
    s.live ∧ s.answers .prs ∧ (s.get PRS.CTL_EN = 1)) ∧
  (∃ (s : State) (k : Fin 64),
    s.live ∧ s.answers .prs ∧ s.get (PRS.EVCS_STATE k) = 1 ∧ (dueNow s k = false)) ∧
  (∃ (s : State) (k : Fin 64),
    s.live ∧ s.answers .prs ∧ s.get (PRS.EVCS_STATE k) = 1 ∧ (dueNow s k = true)) ∧
  (∃ (s : State) (k : Fin 64),
    s.live ∧ s.answers .prs ∧ s.get (PRS.EVCS_STATE k) ≠ 1 ∧ actOk s k = true ∧ s.get (PRS.EVACT_MODE k) = 0 ∧
    s.get PRS.CTL_EN = 1 ∧ s.get64 (PRS.EVTL_V k) (PRS.EVTH_V k) ≤ s.mtime) ∧
  (∃ (s : State) (k : Fin 64),
    s.live ∧ s.answers .prs ∧ s.get (PRS.EVCS_STATE k) ≠ 1 ∧ actOk s k = true ∧ s.get (PRS.EVACT_MODE k) = 0 ∧
    s.get PRS.CTL_EN = 1 ∧ s.get64 (PRS.EVTL_V k) (PRS.EVTH_V k) ≤ s.mtime) ∧
  (∃ (s : State) (k : Fin 64),
    s.live ∧ s.answers .prs ∧ s.get (PRS.EVCS_STATE k) ≠ 1 ∧ actOk s k = true ∧
    ((s.get (PRS.EVACT_MODE k) = 1 ∧ s.prs.hasTooth = false) ∨ (s.get (PRS.EVACT_MODE k) = 0 ∧ (s.get PRS.CTL_EN = 0 ∨ s.mtime < s.get64 (PRS.EVTL_V k) (PRS.EVTH_V k))))) ∧
  (∃ (s : State) (k : Fin 64),
    s.live ∧ s.answers .prs ∧ s.get (PRS.EVCS_STATE k) ≠ 1 ∧ actOk s k = true ∧
    ((s.get (PRS.EVACT_MODE k) = 1 ∧ s.prs.hasTooth = false) ∨ (s.get (PRS.EVACT_MODE k) = 0 ∧ (s.get PRS.CTL_EN = 0 ∨ s.mtime < s.get64 (PRS.EVTL_V k) (PRS.EVTH_V k))))) ∧
  (∃ (s : State) (k : Fin 64),
    s.live ∧ s.answers .prs ∧ s.get (PRS.EVCS_STATE k) ≠ 1 ∧ (actOk s k = false)) ∧
  (∃ (s : State) (k : Fin 64) (i : Int),
    s.live ∧ s.get (PRS.EVCS_STATE k) = 1 ∧ s.get PRS.CTL_EN = 1 ∧ slotInstant s k = some i ∧ i ≤ s.mtime * 16 ∧
    teethNow s = s ∧ ((List.range k.val).all (fun j => !dueNow s j) = true) ∧
    (isTooth s k = false ∨ (SMap.find s.prs.missed (s.get (PRS.EVTL_V k))).isNone = true) ∧
    (s.get (PRS.EVACT_IRQ k) = 0 ∨ (slotAct s k).any (actReaches s) = true) ∧ (slotAct s k).toList ≠ []) ∧
  (∃ (s : State) (k : Fin 64) (i : Int),
    s.live ∧ s.get (PRS.EVCS_STATE k) = 1 ∧ s.get PRS.CTL_EN = 1 ∧ slotInstant s k = some i ∧ i ≤ s.mtime * 16 ∧
    teethNow s = s ∧ ((List.range k.val).all (fun j => !dueNow s j) = true) ∧
    (isTooth s k = false ∨ (SMap.find s.prs.missed (s.get (PRS.EVTL_V k))).isNone = true) ∧
    (s.get (PRS.EVACT_IRQ k) = 0 ∨ (slotAct s k).any (actReaches s) = true) ∧ (slotAct s k).toList ≠ []) ∧
  (∃ (s : State) (k : Fin 64) (i : Int),
    s.live ∧ s.get (PRS.EVCS_STATE k) = 1 ∧ s.get PRS.CTL_EN = 1 ∧ slotInstant s k = some i ∧ i ≤ s.mtime * 16 ∧
    teethNow s = s ∧ ((List.range k.val).all (fun j => !dueNow s j) = true) ∧
    (isTooth s k = false ∨ (SMap.find s.prs.missed (s.get (PRS.EVTL_V k))).isNone = true) ∧
    (s.get (PRS.EVACT_IRQ k) = 0 ∨ (slotAct s k).any (actReaches s) = true) ∧ (slotAct s k = none)) ∧
  (∃ (s : State) (k : Fin 64) (i : Int),
    s.live ∧ s.get (PRS.EVCS_STATE k) = 1 ∧ s.get PRS.CTL_EN = 1 ∧ slotInstant s k = some i ∧ i ≤ s.mtime * 16 ∧
    teethNow s = s ∧ ((List.range k.val).all (fun j => !dueNow s j) = true) ∧
    (isTooth s k = false ∨ (SMap.find s.prs.missed (s.get (PRS.EVTL_V k))).isNone = true) ∧
    s.get (PRS.EVACT_IRQ k) = 1 ∧ (slotAct s k).any (actReaches s) = false ∧ (slotAct s k = none)) ∧
  (∃ (s : State) (j k : Fin 64),
    s.live ∧ j.val < k.val ∧ s.get PRS.STS_STATE = 0 ∧ s.get (PRS.EVACT_MODE j) = 0 ∧ s.get (PRS.EVACT_MODE k) = 0 ∧
    dueNow s j = true ∧ dueNow s k = true ∧ (slotAct s j).toList ≠ []) ∧
  (∃ (s : State) (k : Fin 64),
    s.live ∧ s.get PRS.STS_STATE = 4 ∧ s.prs.hasTooth = true ∧ s.prs.p ≤ s.mtime * 16 ∧ dueNow s k = true ∧
    ((List.range k.val).all (fun j => !armed s j) = true) ∧
    (isTooth s k = true → s.get (PRS.EVTL_V k) = (s.get PRS.TCNT_COUNT + 1) % 2 ^ 32 ∧ (SMap.find s.prs.missed (s.get (PRS.EVTL_V k))).isNone = true) ∧
    (slotAct s k).toList ≠ []) ∧
  (∃ (s : State) (k : Fin 64),
    s.live ∧ s.get PRS.STS_STATE = 4 ∧ s.prs.hasTooth = true ∧ s.prs.p ≤ s.mtime * 16 ∧ dueNow s k = true ∧
    ((List.range k.val).all (fun j => !armed s j) = true) ∧
    (isTooth s k = true → s.get (PRS.EVTL_V k) = (s.get PRS.TCNT_COUNT + 1) % 2 ^ 32 ∧ (SMap.find s.prs.missed (s.get (PRS.EVTL_V k))).isNone = true)) ∧
  (∃ (a b : ActUnderWay) (l : List ActUnderWay),
    b.tick = a.tick ∧ a.slot < b.slot ∧ (∀ x ∈ l, x.tick ≠ a.tick ∨ x.slot ≤ a.slot) ∧
    ((∀ x ∈ l, x.tick ≠ a.tick ∨ x.slot ≤ a.slot))) ∧
  (∃ (a b : ActUnderWay) (l : List ActUnderWay),
    ((∀ x ∈ l, x.tick ≠ a.tick ∨ x.slot ≤ a.slot))) ∧
  (∃ (s : State),
    s.live ∧ s.answers .prs ∧ s.prs.last % 16 = 0 ∧ s.prs.p % 16 = 0 ∧ s.prs.due = none ∧ 2 ≤ s.get PRS.STS_STATE) :=
  ⟨⟨up, 0x343, by decide⟩,
   ⟨{ up.puts [(PRS.CTL_EN, 1), (PRS.STS_STATE, 2), (PRS.EVCS_STATE 5, 1), (PRS.EVACT_MODE 5, 1)] with prs := { up.prs with hasTooth := true } }, 0x341, by decide⟩,
   ⟨{ up.puts [(PRS.CTL_EN, 1), (PRS.STS_STATE, 2)] with mtime := 77 }, 0x342, by decide⟩,
   ⟨{ up.puts [(PRS.EVCS_STATE 5, 1), (PRS.EVTL_V 5, 77), (PRS.EVCS_STATE 6, 1), (PRS.EVTL_V 6, 78), (PRS.EVCS_STATE 7, 1), (PRS.EVACT_LATE_POLICY 7, 1)] with mtime := 77 }, by decide⟩,
   ⟨up.put PRS.CTL_EN 1, by decide⟩,
   ⟨up.put (PRS.EVCS_STATE 63) 1, 63, by decide⟩,
   ⟨{ up.puts [(PRS.CTL_EN, 1), (PRS.EVCS_STATE 3, 1), (PRS.EVTL_V 3, 5)] with mtime := 5 }, 3, by decide⟩,
   ⟨{ up.puts [(PRS.CTL_EN, 1), (PRS.EVTL_V 3, 5)] with mtime := 5 }, 3, by decide⟩,
   ⟨{ up.puts [(PRS.CTL_EN, 1), (PRS.EVTL_V 3, 5)] with mtime := 1638406 }, 3, by decide⟩,
   ⟨{ up.puts [(PRS.CTL_EN, 1), (PRS.EVTL_V 3, 5)] with mtime := 4 }, 3, by decide⟩,
   ⟨{ up.puts [(PRS.CTL_EN, 1), (PRS.EVACT_MODE 3, 1)] with mtime := 4 }, 3, by decide⟩,
   ⟨up.puts [(PRS.EVACT_ACTION 3, 1), (PRS.EVACT_TGT 3, 4)], 3, by decide⟩,
   ⟨{ up.puts [(PRS.CTL_EN, 1), (PRS.EVCS_STATE 3, 1), (PRS.EVTL_V 3, 5), (PRS.EVACT_ACTION 3, 6), (PRS.EVACT_TGT 3, 15), (PRS.EVACT_IRQ 3, 1)] with mtime := 5 }, 3, 80, by decide⟩,
   ⟨{ up.puts [(PRS.CTL_EN, 1), (PRS.STS_STATE, 2), (PRS.TCNT_COUNT, 4), (PRS.EVCS_STATE 3, 1), (PRS.EVTL_V 3, 4), (PRS.EVTH_V 3, 1), (PRS.EVACT_MODE 3, 1), (PRS.EVACT_ACTION 3, 1)] with mtime := 7, prs := { up.prs with last := 90, p := 100000, hasTooth := true } }, 3, 106, by decide⟩,
   ⟨{ up.puts [(PRS.CTL_EN, 1), (PRS.EVCS_STATE 63, 1), (PRS.EVTL_V 63, 5), (PRS.EVACT_ACTION 63, 0)] with mtime := 5 }, 63, 80, by decide⟩,
   ⟨{ up.puts [(PRS.CTL_EN, 1), (PRS.EVCS_STATE 62, 1), (PRS.EVTL_V 62, 5), (PRS.EVACT_ACTION 62, 0), (PRS.EVACT_IRQ 62, 1)] with mtime := 5 }, 62, 80, by decide⟩,
   ⟨{ up.puts [(PRS.CTL_EN, 1), (PRS.EVCS_STATE 3, 1), (PRS.EVTL_V 3, 5), (PRS.EVACT_ACTION 3, 6), (PRS.EVACT_TGT 3, 15), (PRS.EVCS_STATE 9, 1), (PRS.EVTL_V 9, 4), (PRS.EVACT_ACTION 9, 6), (PRS.EVACT_TGT 9, 14)] with mtime := 5 }, 3, 9, by decide⟩,
   ⟨{ up.puts [(PRS.CTL_EN, 1), (PRS.STS_STATE, 4), (PRS.TCNT_COUNT, 4), (PRS.EVCS_STATE 3, 1), (PRS.EVTL_V 3, 5), (PRS.EVTH_V 3, 1), (PRS.EVACT_MODE 3, 1), (PRS.EVACT_ACTION 3, 6), (HDR.PENDING Page.isp.base, 1)] with mtime := 7, prs := { up.prs with last := 90, p := 96, hasTooth := true }, sys := { up.sys with points := [(Page.isp.base, 3)] } }, 3, by decide⟩,
   ⟨{ up.puts [(PRS.CTL_EN, 1), (PRS.STS_STATE, 4), (PRS.TCNT_COUNT, 0xFFFFFFFF), (PRS.EVCS_STATE 63, 1), (PRS.EVTL_V 63, 0), (PRS.EVACT_MODE 63, 1), (PRS.EVACT_IRQ 63, 1)] with mtime := 6, prs := { up.prs with last := 90, p := 96, hasTooth := true } }, 63, by decide⟩,
   ⟨⟨.key 1, none, 2, 7⟩, ⟨.mute 2, some 5, 5, 7⟩, [⟨.swap 1, none, 6, 6⟩, ⟨.swap 2, none, 1, 7⟩], by decide⟩,
   ⟨⟨.key 1, none, 6, 7⟩, ⟨.mute 2, some 5, 5, 7⟩, [⟨.swap 1, none, 5, 7⟩], by decide⟩,
   ⟨{ up.puts [(PRS.TCNT_COUNT, 4), (PRS.STS_STATE, 2)] with prs := { up.prs with last := 2 ^ 40, p := 2 ^ 40 + 1600, e := -3 } }, by decide⟩⟩

theorem actionsActOnTheirBlocks_met :
  (∃ (s : State) (k : Fin 4) (q : Option Nat),
    s.live ∧ (s.prs.acts.head?.map (fun x => (x.act, x.irq)) = some (.swap k.val, q)) ∧ (k.val ≠ 0)) ∧
  (∃ (s : State) (k : Fin 4) (q : Option Nat),
    s.live ∧ (s.prs.acts.head?.map (fun x => (x.act, x.irq)) = some (.swap k.val, q)) ∧ (k.val = 0)) ∧
  (∃ (s : State) (r : Fin 8) (f : Frame) (l rest : List Frame) (q : Option Nat),
    s.live ∧ (s.prs.acts.head?.map (fun x => (x.act, x.irq)) = some (.start r.val, q)) ∧
    s.csch.frames = l ++ f :: rest ∧ f.ring = r.val ∧ f.op = 1 ∧ f.endT = none ∧ f.want = false ∧
    (∀ e ∈ l, e.ring ≠ r.val ∨ e.op ≠ 1 ∨ e.endT ≠ none ∨ e.want = true)) ∧
  (∃ (s : State) (r : Fin 8) (q : Option Nat),
    s.live ∧ (s.prs.acts.head?.map (fun x => (x.act, x.irq)) = some (.start r.val, q)) ∧
    (∀ e ∈ s.csch.frames, e.ring ≠ r.val ∨ e.op ≠ 1 ∨ e.endT ≠ none ∨ e.want = true)) ∧
  (∃ (s : State) (r : Fin 8) (q : Option Nat),
    s.live ∧ (s.prs.acts.head?.map (fun x => (x.act, x.irq)) = some (.key r.val, q))) ∧
  (∃ (s : State) (k : Fin 4) (q : Option Nat),
    s.live ∧ (s.prs.acts.head?.map (fun x => (x.act, x.irq)) = some (.mute k.val, q))) ∧
  (∃ (s : State) (k : Fin 4) (q : Option Nat),
    s.live ∧ (s.prs.acts.head?.map (fun x => (x.act, x.irq)) = some (.unmute k.val, q))) ∧
  (∃ (s : State) (n : Fin 16) (a : BitVec 8) (q : Option Nat),
    s.live ∧ (s.prs.acts.head?.map (fun x => (x.act, x.irq)) = some (.gpio n.val a.toNat, q)) ∧ (a = 0 ∨ a = 3)) ∧
  (∃ (s : State) (n : Fin 16) (a : BitVec 8) (q : Option Nat),
    s.live ∧ (s.prs.acts.head?.map (fun x => (x.act, x.irq)) = some (.gpio n.val a.toNat, q)) ∧ (a = 2)) ∧
  (∃ (s : State) (n : Fin 16) (a : BitVec 8) (q : Option Nat),
    s.live ∧ (s.prs.acts.head?.map (fun x => (x.act, x.irq)) = some (.gpio n.val a.toNat, q)) ∧ (a = 2)) ∧
  (∃ (s : State) (k : Fin 4) (r : Fin 8) (n : Fin 16) (b : BitVec 8),
    s.live ∧ (s.prs.acts.head?.map (·.1) ≠ some (.swap k.val)) ∧
    (s.prs.acts.head?.map (·.1) ≠ some (.start r.val)) ∧ (s.prs.acts.head?.map (·.1) ≠ some (.key r.val)) ∧
    (s.prs.acts.head?.map (·.1) ≠ some (.mute k.val)) ∧ (s.prs.acts.head?.map (·.1) ≠ some (.unmute k.val)) ∧
    (s.prs.acts.head?.map (·.1) ≠ some (.gpio n.val b.toNat))) :=
  ⟨⟨{ up with prs := { up.prs with acts := [⟨.swap 2, some 9, 9, 0⟩, ⟨.key 1, none, 9, 0⟩] } }, 2, some 9, by decide⟩,
   ⟨{ up with prs := { up.prs with acts := [⟨.swap 0, some 9, 9, 0⟩] } }, 0, some 9, by decide⟩,
   ⟨{ up with prs := { up.prs with acts := [⟨.start 2, some 9, 9, 0⟩] }, csch := { up.csch with frames := [{ num := 4, ring := 1, slot := 0, op := 1 }, { num := 5, ring := 2, slot := 0, op := 1 }] } }, 2, { num := 5, ring := 2, slot := 0, op := 1 }, [{ num := 4, ring := 1, slot := 0, op := 1 }], [], some 9, by decide⟩,
   ⟨{ up with prs := { up.prs with acts := [⟨.start 7, some 9, 9, 0⟩, ⟨.key 7, none, 9, 0⟩] } }, 7, some 9, by decide⟩,
   ⟨{ up with prs := { up.prs with acts := [⟨.key 7, some 9, 9, 0⟩, ⟨.start 7, none, 9, 0⟩] } }, 7, some 9, by decide⟩,
   ⟨{ up.put APORT.MUTE_K 5 with prs := { up.prs with acts := [⟨.mute 3, some 9, 9, 0⟩, ⟨.unmute 3, none, 9, 0⟩] } }, 3, some 9, by decide⟩,
   ⟨{ up.put APORT.MUTE_K 5 with prs := { up.prs with acts := [⟨.unmute 2, some 9, 9, 0⟩, ⟨.mute 2, none, 9, 0⟩] } }, 2, some 9, by decide⟩,
   ⟨{ up.put SYS.GPIO_OUT_VAL 0x8001 with prs := { up.prs with acts := [⟨.gpio 15 3, some 9, 9, 0⟩] } }, 15, 3, some 9, by decide⟩,
   ⟨{ up.put SYS.GPIO_OUT_VAL 0x8001 with prs := { up.prs with acts := [⟨.gpio 4 2, some 9, 9, 0⟩] } }, 4, 2, some 9, by decide⟩,
   ⟨{ up.put SYS.GPIO_OUT_VAL 0x8001 with prs := { up.prs with acts := [⟨.gpio 4 2, none, 9, 0⟩] } }, 4, 2, none, by decide⟩,
   ⟨{ up with prs := { up.prs with acts := [⟨.gpio 3 1, some 9, 9, 0⟩, ⟨.swap 2, none, 9, 0⟩] } }, 2, 0, 3, 2, by decide⟩⟩

theorem fifosKeepWordsInOrder_met :
  (∃ (s : State) (n : Fin 16) (w : W32) (e : Bool),
    s.live ∧ s.answers (.bfifo n) ∧ s.get (BFIFO.CTL_EN n) = 1 ∧ s.get (BFIFO.CFG_DIR n) = 0 ∧
    (s.fifo n).items.length < s.get (BFIFO.CFG_SIZE n) * 16) ∧
  (∃ (s : State) (n : Fin 16) (w : W32) (e : Bool),
    s.live ∧ s.answers (.bfifo n) ∧ s.get (BFIFO.CTL_EN n) = 1 ∧ s.get (BFIFO.CFG_DIR n) = 0 ∧
    s.get (BFIFO.CFG_SIZE n) * 16 ≤ (s.fifo n).items.length) ∧
  (∃ (s : State) (n : Fin 16) (w : W32) (e : Bool),
    s.live ∧ s.answers (.bfifo n) ∧ (s.get (BFIFO.CTL_EN n) ≠ 1 ∨ s.get (BFIFO.CFG_DIR n) ≠ 0)) ∧
  (∃ (s : State) (n : Fin 16) (w : W32) (e : Bool) (rest : List (W32 × Bool)),
    s.live ∧ s.answers (.bfifo n) ∧ s.get (BFIFO.CTL_EN n) = 1 ∧ s.get (BFIFO.CFG_DIR n) = 1 ∧
    (s.fifo n).items = (w, e) :: rest) ∧
  (∃ (s : State) (n : Fin 16) (w : W32) (e : Bool) (rest : List (W32 × Bool)),
    s.live ∧ s.answers (.bfifo n) ∧ s.get (BFIFO.CTL_EN n) = 1 ∧ s.get (BFIFO.CFG_DIR n) = 1 ∧ (s.fifo n).items = []) ∧
  (∃ (s : State) (n : Fin 16) (w : W32) (e : Bool) (rest : List (W32 × Bool)),
    s.live ∧ s.answers (.bfifo n) ∧ (s.get (BFIFO.CTL_EN n) ≠ 1 ∨ s.get (BFIFO.CFG_DIR n) ≠ 1)) ∧
  (∃ (s : State) (n : Fin 16) (d : W32),
    s.live ∧ s.answers (.bfifo n) ∧ s.get (BFIFO.CTL_EN n) = 0 ∧ s.get (BFIFO.CFG_SIZE n) ≠ 0 ∧
    s.get (BFIFO.CFG_BASE n) + s.get (BFIFO.CFG_SIZE n) ≤ 16384 ∧
    (∀ m : Fin 16, m ≠ n → s.get (BFIFO.CTL_EN m) = 1 → s.get (BFIFO.CFG_BASE n) + s.get (BFIFO.CFG_SIZE n) ≤ s.get (BFIFO.CFG_BASE m) ∨ s.get (BFIFO.CFG_BASE m) + s.get (BFIFO.CFG_SIZE m) ≤ s.get (BFIFO.CFG_BASE n)) ∧
    (n.val ≠ 15)) ∧
  (∃ (s : State) (n : Fin 16) (d : W32),
    s.live ∧ s.answers (.bfifo n) ∧ s.get (BFIFO.CTL_EN n) = 0 ∧
    (s.get (BFIFO.CFG_SIZE n) = 0 ∨ 16384 < s.get (BFIFO.CFG_BASE n) + s.get (BFIFO.CFG_SIZE n) ∨ (∃ m : Fin 16, m ≠ n ∧ s.get (BFIFO.CTL_EN m) = 1 ∧ s.get (BFIFO.CFG_BASE m) < s.get (BFIFO.CFG_BASE n) + s.get (BFIFO.CFG_SIZE n) ∧ s.get (BFIFO.CFG_BASE n) < s.get (BFIFO.CFG_BASE m) + s.get (BFIFO.CFG_SIZE m))) ∧
    (n.val ≠ 15)) ∧
  (∃ (s : State) (n : Fin 16) (d : W32),
    s.live ∧ s.answers (.bfifo n) ∧ s.get (BFIFO.CTL_EN n) = 0 ∧ s.get (BFIFO.CFG_SIZE n) ≠ 0 ∧
    s.get (BFIFO.CFG_BASE n) + s.get (BFIFO.CFG_SIZE n) ≤ 16384 ∧
    (∀ m : Fin 16, m ≠ n → s.get (BFIFO.CTL_EN m) = 1 → s.get (BFIFO.CFG_BASE n) + s.get (BFIFO.CFG_SIZE n) ≤ s.get (BFIFO.CFG_BASE m) ∨ s.get (BFIFO.CFG_BASE m) + s.get (BFIFO.CFG_SIZE m) ≤ s.get (BFIFO.CFG_BASE n)) ∧
    (n.val = 15)) ∧
  (∃ (s : State) (n : Fin 16) (d : W32),
    s.live ∧ s.answers (.bfifo n) ∧ s.get (BFIFO.CTL_EN n) = 1) ∧
  (∃ (s : State) (n : Fin 16) (w : W32) (e : Bool) (rest : List (W32 × Bool)) (typ len : Nat) (ws : List W32),
    s.live ∧ s.get (BFIFO.CTL_EN n) = 1 ∧ s.get (BFIFO.CFG_DIR n) = 0 ∧ hasTaker s n = true ∧
    (s.fifo n).items = (w, e) :: rest ∧ (s.fifo n).skip = false ∧
    (match (s.fifo n).taking with | some (t, l, xs) => (t, l, xs ++ [w]) | none => (bitsOf w 24 8, bitsOf w 0 24, [])) = (typ, len, ws) ∧
    ws.length = (len + 3) / 4 ∧ e = true) ∧
  (∃ (s : State) (n : Fin 16) (w : W32) (e : Bool) (rest : List (W32 × Bool)) (typ len : Nat) (ws : List W32),
    s.live ∧ s.get (BFIFO.CTL_EN n) = 1 ∧ s.get (BFIFO.CFG_DIR n) = 0 ∧ hasTaker s n = true ∧
    (s.fifo n).items = (w, e) :: rest ∧ (s.fifo n).skip = false ∧
    (match (s.fifo n).taking with | some (t, l, xs) => (t, l, xs ++ [w]) | none => (bitsOf w 24 8, bitsOf w 0 24, [])) = (typ, len, ws) ∧
    ws.length ≠ (len + 3) / 4 ∧ e = false ∧ (n.val ≠ 15 ∨ (s.fifo n).taken ≠ [] ∨ typ ≠ 0x40 ∨ ws.length = 0)) ∧
  (∃ (s : State) (n : Fin 16) (w : W32) (e : Bool) (rest : List (W32 × Bool)) (typ len : Nat) (ws : List W32),
    s.live ∧ s.get (BFIFO.CTL_EN n) = 1 ∧ s.get (BFIFO.CFG_DIR n) = 0 ∧ hasTaker s n = true ∧
    (s.fifo n).items = (w, e) :: rest ∧ (s.fifo n).skip = false ∧
    (match (s.fifo n).taking with | some (t, l, xs) => (t, l, xs ++ [w]) | none => (bitsOf w 24 8, bitsOf w 0 24, [])) = (typ, len, ws) ∧
    ws.length ≠ (len + 3) / 4 ∧ e = false ∧ (n.val ≠ 15 ∨ (s.fifo n).taken ≠ [] ∨ typ ≠ 0x40 ∨ ws.length = 0)) ∧
  (∃ (s : State) (n : Fin 16) (w : W32) (e : Bool) (rest : List (W32 × Bool)) (typ len : Nat) (ws : List W32),
    s.live ∧ s.get (BFIFO.CTL_EN n) = 1 ∧ s.get (BFIFO.CFG_DIR n) = 0 ∧ hasTaker s n = true ∧
    (s.fifo n).items = (w, e) :: rest ∧ (s.fifo n).skip = false ∧
    (match (s.fifo n).taking with | some (t, l, xs) => (t, l, xs ++ [w]) | none => (bitsOf w 24 8, bitsOf w 0 24, [])) = (typ, len, ws) ∧
    ((ws.length = (len + 3) / 4 ∧ e = false) ∨ (ws.length ≠ (len + 3) / 4 ∧ e = true))) ∧
  (∃ (s : State) (n : Fin 16) (w : W32) (e : Bool) (rest : List (W32 × Bool)),
    s.live ∧ s.get (BFIFO.CTL_EN n) = 1 ∧ s.get (BFIFO.CFG_DIR n) = 0 ∧ hasTaker s n = true ∧
    (s.fifo n).items = (w, e) :: rest ∧ (s.fifo n).skip = true) ∧
  (∃ (s : State) (n : Fin 16) (w : W32) (e : Bool) (rest : List (W32 × Bool)),
    s.live ∧ s.get (BFIFO.CTL_EN n) = 1 ∧ s.get (BFIFO.CFG_DIR n) = 1 ∧
    (s.fifo n).items.length < s.get (BFIFO.CFG_SIZE n) * 16 ∧ (s.fifo n).puts = (w, e) :: rest) ∧
  (∃ (s : State) (n : Fin 16) (w : W32) (e : Bool) (rest : List (W32 × Bool)),
    s.live ∧ s.get (BFIFO.CTL_EN n) = 1 ∧ s.get (BFIFO.CFG_DIR n) = 1 ∧
    s.get (BFIFO.CFG_SIZE n) * 16 ≤ (s.fifo n).items.length) :=
  ⟨⟨{ up.puts [(BFIFO.CTL_EN 3, 1), (BFIFO.CFG_SIZE 3, 1)] with fifos := [(3, { items := List.replicate 15 (7, false) })] }, 3, 9, true, by decide⟩,
   ⟨{ up.puts [(BFIFO.CTL_EN 3, 1), (BFIFO.CFG_SIZE 3, 1)] with fifos := [(3, { items := List.replicate 16 (7, false) })] }, 3, 9, false, by decide⟩,
   ⟨up.puts [(BFIFO.CTL_EN 3, 1), (BFIFO.CFG_DIR 3, 1)], 3, 9, false, by decide⟩,
   ⟨{ up.puts [(BFIFO.CTL_EN 3, 1), (BFIFO.CFG_DIR 3, 1)] with fifos := [(3, { items := [(9, true), (8, false)] })] }, 3, 9, true, [(8, false)], by decide⟩,
   ⟨up.puts [(BFIFO.CTL_EN 3, 1), (BFIFO.CFG_DIR 3, 1)], 3, 0, true, [], by decide⟩,
   ⟨up.puts [(BFIFO.CTL_EN 3, 1), (BFIFO.CFG_DIR 3, 0)], 3, 0, true, [], by decide⟩,
   ⟨up.puts [(BFIFO.CFG_SIZE 3, 4), (BFIFO.CFG_BASE 3, 16380), (BFIFO.CTL_EN 4, 1), (BFIFO.CFG_SIZE 4, 2), (BFIFO.CFG_BASE 4, 16378)], 3, 0x80010001, by decide⟩,
   ⟨up.puts [(BFIFO.CFG_SIZE 3, 4), (BFIFO.CFG_BASE 3, 16380), (BFIFO.CTL_EN 4, 1), (BFIFO.CFG_SIZE 4, 3), (BFIFO.CFG_BASE 4, 16378)], 3, 0x80010001, by decide⟩,
   ⟨up, 15, 0xFFFFFFFF, by decide⟩,
   ⟨up.put (BFIFO.CTL_EN 0) 1, 0, 5, by decide⟩,
   ⟨{ up.puts [(BFIFO.CTL_EN 15, 1), (UPD.STS_STATE, 1)] with fifos := [(15, { items := [(0x03020100, true)], taking := some (0x40, 3, []) })] }, 15, 0x03020100, true, [], 0x40, 3, [0x03020100], by decide⟩,
   ⟨{ up.puts [(BFIFO.CTL_EN 15, 1), (UPD.STS_STATE, 1)] with fifos := [(15, { items := [(7, false), (1, true)], taking := some (0x41, 9, [6]) })] }, 15, 7, false, [(1, true)], 0x41, 9, [6, 7], by decide⟩,
   ⟨{ up.puts [(BFIFO.CTL_EN 15, 1), (UPD.STS_STATE, 1)] with fifos := [(15, { items := [(0x40000005, false), (1, true)] })] }, 15, 0x40000005, false, [(1, true)], 0x40, 5, [], by decide⟩,
   ⟨{ up.puts [(BFIFO.CTL_EN 15, 1), (UPD.STS_STATE, 1)] with fifos := [(15, { items := [(0x40000000, false), (1, true)] })] }, 15, 0x40000000, false, [(1, true)], 0x40, 0, [], by decide⟩,
   ⟨{ up.puts [(BFIFO.CTL_EN 15, 1), (UPD.STS_STATE, 1)] with fifos := [(15, { items := [(9, true)], skip := true })] }, 15, 9, true, [], by decide⟩,
   ⟨{ up.puts [(BFIFO.CTL_EN 2, 1), (BFIFO.CFG_DIR 2, 1), (BFIFO.CFG_SIZE 2, 1)] with fifos := [(2, { puts := [(9, true)] })] }, 2, 9, true, [], by decide⟩,
   ⟨{ up.puts [(BFIFO.CTL_EN 2, 1), (BFIFO.CFG_DIR 2, 1), (BFIFO.CFG_SIZE 2, 0)] with fifos := [(2, { puts := [(9, true)] })] }, 2, 9, true, [], by decide⟩⟩

theorem mailboxCarriesOneRequest_met :
  (∃ (s : State),
    s.live ∧ s.answers .mbx ∧ (s.get MBX.STS_STATE = 0) ∧ (s.get MBX.STS_STATE ≠ 3)) ∧
  (∃ (s : State),
    s.live ∧ s.answers .mbx ∧ (s.get MBX.STS_STATE ≠ 0) ∧ (s.get MBX.STS_STATE ≠ 3) ∧ (s.get MBX.STS_STATE = 1)) ∧
  (∃ (s : State),
    s.live ∧ s.answers .mbx ∧ (s.get MBX.STS_STATE ≠ 0) ∧ (s.get MBX.STS_STATE = 3)) ∧
  (∃ (s : State) (st : Nat) (rs : List Nat),
    s.live ∧ s.get MBX.STS_STATE = 2 ∧ s.mbx.answer = some (st, rs) ∧ st < 256 ∧ rs.length ≤ 15) ∧
  (∃ (s : State),
    s.live ∧ s.get MBX.STS_STATE = 2 ∧ s.mbx.answer = none ∧ (s.get (MBX.REQ_W 0) / 2 ^ 24 % 256 = 2)) ∧
  (∃ (s : State),
    s.live ∧ s.get MBX.STS_STATE = 2 ∧ s.mbx.answer = none ∧ (s.get (MBX.REQ_W 0) / 2 ^ 24 % 256 = 1)) ∧
  (∃ (s : State),
    s.live ∧ s.get MBX.STS_STATE = 2 ∧ s.mbx.answer = none ∧
    (s.get (MBX.REQ_W 0) / 2 ^ 24 % 256 ∉ [1, 2, 0x20, 0x21, 0x22, 0x23])) :=
  ⟨⟨up, by decide⟩,
   ⟨up.put MBX.STS_STATE 1, by decide⟩,
   ⟨up.put MBX.STS_STATE 3, by decide⟩,
   ⟨{ up.puts [(MBX.STS_STATE, 2), (MBX.REQ_W 0, 0x02AB0002)] with mbx := { answer := some (0, [5, 2 ^ 32 + 6]) } }, 0, [5, 2 ^ 32 + 6], by decide⟩,
   ⟨up.puts [(MBX.STS_STATE, 2), (MBX.REQ_W 0, 0x02AB0002), (MBX.REQ_W 2, 77)], by decide⟩,
   ⟨up.puts [(MBX.STS_STATE, 2), (MBX.REQ_W 0, 0x01AB0000), (UPD.SLOTS_ACTIVE, 1), (UPD.SLOTS_TRIAL, 1)], by decide⟩,
   ⟨up.puts [(MBX.STS_STATE, 2), (MBX.REQ_W 0, 0x03AB0000)], by decide⟩⟩

theorem bar2AndSpiReachDramAndRegisters_met :
  (∃ (s : State) (off : BitVec 30) (n a : Nat) (bs : List (Byte × Bool)),
    s.live ∧ s.get SYS.BOOT_STATUS_CODE = 0x10 ∧ a = s.get HIF.B2BASE_SEL * 2 ^ 30 + off.toNat ∧ n = bs.length ∧
    a + n ≤ 2 ^ 31 * 2 ^ s.get (DMC.CFG_DENS 0) ∧
    (∀ i < n, s.get (DMC.STS_STATE (channelOf (a + i))) = 1 ∧ dmcEarly s (channelOf (a + i)) = false) ∧
    inFrameRing s a n = false ∧ s.hif.waits = []) ∧
  (∃ (s : State) (off : BitVec 30) (op : Bar2Op) (a c : Nat),
    s.live ∧ a = bar2Addr s off.toNat ∧
    ((c = 0x0100 ∧ (s.get SYS.BOOT_STATUS_CODE ≠ 0x10 ∨ 2 ^ 31 * 2 ^ s.get (DMC.CFG_DENS 0) < a + bar2Size op)) ∨ (c = 0x0101 ∧ s.get SYS.BOOT_STATUS_CODE = 0x10 ∧ a + bar2Size op ≤ 2 ^ 31 * 2 ^ s.get (DMC.CFG_DENS 0) ∧ ∃ i < bar2Size op, s.get (DMC.STS_STATE (channelOf (a + i))) = 3)) ∧
    inFrameRing s a (bar2Size op) = false ∧ (c = 0x0100 → inSelfRefresh s a (bar2Size op) = false)) ∧
  (∃ (s : State) (off : BitVec 30) (op : Bar2Op) (a c : Nat),
    s.live ∧ a = bar2Addr s off.toNat ∧
    ((c = 0x0100 ∧ (s.get SYS.BOOT_STATUS_CODE ≠ 0x10 ∨ 2 ^ 31 * 2 ^ s.get (DMC.CFG_DENS 0) < a + bar2Size op)) ∨ (c = 0x0101 ∧ s.get SYS.BOOT_STATUS_CODE = 0x10 ∧ a + bar2Size op ≤ 2 ^ 31 * 2 ^ s.get (DMC.CFG_DENS 0) ∧ ∃ i < bar2Size op, s.get (DMC.STS_STATE (channelOf (a + i))) = 3)) ∧
    inFrameRing s a (bar2Size op) = false ∧ (c = 0x0100 → inSelfRefresh s a (bar2Size op) = false)) ∧
  (∃ (s : State) (off : BitVec 30) (op : Bar2Op) (a c : Nat),
    s.live ∧ a = bar2Addr s off.toNat ∧
    ((c = 0x0100 ∧ (s.get SYS.BOOT_STATUS_CODE ≠ 0x10 ∨ 2 ^ 31 * 2 ^ s.get (DMC.CFG_DENS 0) < a + bar2Size op)) ∨ (c = 0x0101 ∧ s.get SYS.BOOT_STATUS_CODE = 0x10 ∧ a + bar2Size op ≤ 2 ^ 31 * 2 ^ s.get (DMC.CFG_DENS 0) ∧ ∃ i < bar2Size op, s.get (DMC.STS_STATE (channelOf (a + i))) = 3)) ∧
    inFrameRing s a (bar2Size op) = false ∧ (c = 0x0100 → inSelfRefresh s a (bar2Size op) = false)) ∧
  (∃ (s : State) (off : BitVec 30) (op : Bar2Op) (a : Nat),
    s.live ∧ s.get SYS.BOOT_STATUS_CODE = 0x10 ∧ a = bar2Addr s off.toNat ∧
    a + bar2Size op ≤ 2 ^ 31 * 2 ^ s.get (DMC.CFG_DENS 0) ∧ inFrameRing s a (bar2Size op) = false ∧
    inSelfRefresh s a (bar2Size op) = false ∧
    (s.hif.waits ≠ [] ∨ ∃ i < bar2Size op, s.get (DMC.STS_STATE (channelOf (a + i))) ≠ 1 ∨ dmcEarly s (channelOf (a + i)) = true)) ∧
  (∃ (s : State) (off : BitVec 30) (op : Bar2Op) (a : Nat),
    s.live ∧ s.get SYS.BOOT_STATUS_CODE = 0x10 ∧ a = bar2Addr s off.toNat ∧
    a + bar2Size op ≤ 2 ^ 31 * 2 ^ s.get (DMC.CFG_DENS 0) ∧ inFrameRing s a (bar2Size op) = false ∧
    inSelfRefresh s a (bar2Size op) = false ∧
    (s.hif.waits ≠ [] ∨ ∃ i < bar2Size op, s.get (DMC.STS_STATE (channelOf (a + i))) ≠ 1 ∨ dmcEarly s (channelOf (a + i)) = true)) ∧
  (∃ (s : State) (a n : Nat) (l : List LinkReq),
    s.hif.waits = .bar2 a (.read n) :: l ∧
    ((∀ i < n, s.get (DMC.STS_STATE (channelOf (a + i))) = 1 ∧ dmcEarly s (channelOf (a + i)) = false))) ∧
  (∃ (s : State) (a n : Nat) (l : List LinkReq),
    s.hif.waits = .bar2 a (.read n) :: l ∧
    ((∃ i < n, s.get (DMC.STS_STATE (channelOf (a + i))) ≠ 1 ∨ dmcEarly s (channelOf (a + i)) = true))) ∧
  (∃ (s : State) (a n : Nat) (l : List LinkReq),
    s.hif.waits = .bar2 a (.read n) :: l ∧
    ((∃ i < n, s.get (DMC.STS_STATE (channelOf (a + i))) ≠ 1 ∨ dmcEarly s (channelOf (a + i)) = true))) ∧
  (∃ (s : State) (addr : BitVec 24) (be : BitVec 4) (d : W32) (n : Fin 16),
    s.live ∧ writeWaits s = true ∧ chipWrite addr.toNat d = false) ∧
  (∃ (s : State) (a n : Nat) (bs : List (Byte × Bool)) (l : List LinkReq),
    s.hif.waits = .bar2 a (.write bs) :: l ∧ n = bs.length ∧
    ((∀ i < n, s.get (DMC.STS_STATE (channelOf (a + i))) = 1 ∧ dmcEarly s (channelOf (a + i)) = false))) ∧
  (∃ (s : State) (a n : Nat) (bs : List (Byte × Bool)) (l : List LinkReq),
    s.hif.waits = .bar2 a (.write bs) :: l ∧ n = bs.length ∧
    ((∃ i < n, s.get (DMC.STS_STATE (channelOf (a + i))) ≠ 1))) ∧
  (∃ (s t : State) (c : Instr) (l : List LinkReq),
    s.hif.waits = .bar0 c :: l ∧ (exec c { s with hif := { s.hif with waits := l, turn := true } } = .next t)) ∧
  (∃ (s : State) (l : List LinkReq) (addr : BitVec 24) (d : W32) (off : Nat),
    (target addr.toNat = .page .hif 0x44) ∧ s.hif.waits = l ++ [.bar0 (.registerWrite addr d)]) ∧
  (∃ (s : State) (addr : BitVec 24) (d : W32),
    s.live ∧ writeWaits s = false ∧ (addr.toNat % 4 = 0)) ∧
  (∃ (s : State) (addr : BitVec 24) (d : W32),
    s.live ∧ writeWaits s = false ∧ (addr.toNat % 4 = 0)) ∧
  (∃ (s : State) (cmd : Byte) (addr : BitVec 24) (d : W32) (cut : Bool),
    s.live ∧ ((cmd ≠ 0x0B ∧ cmd ≠ 0x02) ∨ addr.toNat % 4 ≠ 0)) ∧
  (∃ (s : State) (cmd : Byte) (addr : BitVec 24) (d : W32) (cut : Bool),
    s.live ∧ ((cmd ≠ 0x0B ∧ cmd ≠ 0x02) ∨ addr.toNat % 4 ≠ 0)) ∧
  (∃ (s : State) (p : Page) (addr : BitVec 24),
    s.live ∧ reached p s = true ∧ s.held p = false ∧ addr.toNat = p.base) ∧
  (∃ (s : State) (i : Fin 16) (addr : BitVec 24),
    s.live ∧ reached .mbx s = true ∧ s.held .mbx = false ∧ addr.toNat = 0xA080 + 4 * i.val ∧ reached .tim s = true ∧
    s.held .tim = false) :=
  ⟨⟨{ up.puts [(HIF.B2BASE_SEL, 1), (DMC.STS_STATE 0, 1), (DMC.STS_STATE 1, 3)] with dram := [(2 ^ 30 + 5, 9), (2 ^ 30 + 6, 8)] }, 4, 3, 2 ^ 30 + 4, [(1, true), (2, false), (3, true)], by decide⟩,
   ⟨booting 6, 4, .read 4, 4, 0x0100, by decide⟩,
   ⟨up.put HIF.B2BASE_SEL 1, 0x3FFFFFFF, .write [(1, true), (2, true)], 0x7FFFFFFF, 0x0100, by decide⟩,
   ⟨up.put (DMC.STS_STATE 1) 3, 0xFF, .read 2, 0xFF, 0x0101, by decide⟩,
   ⟨up.put (DMC.STS_STATE 1) 2, 0xFF, .read 2, 0xFF, by decide⟩,
   ⟨{ up with hif := { up.hif with waits := [.bar2 0x100 (.read 4)] } }, 0x400, .read 2, 0x400, by decide⟩,
   ⟨{ up.puts [(DMC.STS_STATE 0, 1), (DMC.STS_STATE 1, 1)] with hif := { up.hif with waits := [.bar2 0xFE (.read 4), .bar2 0 (.read 1)] } }, 0xFE, 4, [.bar2 0 (.read 1)], by decide⟩,
   ⟨{ up.put (DMC.STS_STATE 1) 2 with hif := { up.hif with waits := [.bar2 0x100 (.read 4), .bar0 .mtimelRead] } }, 0x100, 4, [.bar0 .mtimelRead], by decide⟩,
   ⟨{ up.put (DMC.STS_STATE 1) 1 with hif := { up.hif with waits := [.bar2 0x100 (.read 4)] }, caddy := { up.caddy with grants := [⟨10, 5, 9, false⟩] } }, 0x100, 4, [], by decide⟩,
   ⟨{ up.put (DMC.STS_STATE 1) 2 with hif := { up.hif with waits := [.bar2 0x100 (.read 4), .bar2 0x100 (.write [(1, true)])] } }, 0x52044, 3, 5, 4, by decide⟩,
   ⟨{ up.puts [(DMC.STS_STATE 0, 1), (DMC.STS_STATE 1, 1)] with hif := { up.hif with waits := [.bar2 0x100 (.write [(1, true), (2, false)]), .bar0 .mtimelRead] } }, 0x100, 2, [(1, true), (2, false)], [.bar0 .mtimelRead], by decide⟩,
   ⟨{ up.put (DMC.STS_STATE 1) 2 with hif := { up.hif with waits := [.bar2 0x100 (.write [(1, true), (2, false)])] } }, 0x100, 2, [(1, true), (2, false)], [], by decide⟩,
   ⟨{ up with hif := { up.hif with waits := [.bar0 .hpdPulse, .bar0 .mtimelRead] } }, { (up.put HRX.HPD_PULSE 1) with hif := { up.hif with waits := [.bar0 .mtimelRead], turn := true }, hrx := { up.hrx with pulse := some up.mtime } }, .hpdPulse, [.bar0 .mtimelRead], by decide, rfl⟩,
   ⟨{ up with hif := { up.hif with waits := [.bar2 0x100 (.write [(1, true)]), .bar0 (.registerWrite 0x9044 2)] } }, [.bar2 0x100 (.write [(1, true)])], 0x9044, 2, 4, by decide⟩,
   ⟨up, 0x52044, 5, by decide⟩,
   ⟨up, 0x4C, 0xC3A50002, by decide⟩,
   ⟨up, 0x0B, 0x52046, 5, false, by decide⟩,
   ⟨up, 0x0C, 0x52044, 5, true, by decide⟩,
   ⟨up, .cell 7, 0x17000, by decide⟩,
   ⟨{ up.put (MBX.RSP_W 15) 0x01020304 with mtime := 2 ^ 40 + 5 }, 15, 0xA0BC, by decide⟩⟩

theorem channelsTrainRefreshAndSleep_met :
  (∃ (s : State) (n : Fin 4) (d : W32),
    s.live ∧ s.answers (.dmc n) ∧ (DMC.TRAIN_GO n).ofData d = 1 ∧ s.get (DMC.TRAIN_GO n) ≠ 1 ∧
    s.get (DMC.STS_STATE n) = 1) ∧
  (∃ (s : State) (n : Fin 4) (d : W32),
    s.live ∧ s.answers (.dmc n) ∧ (DMC.TRAIN_GO n).ofData d = 1 ∧ s.get (DMC.TRAIN_GO n) ≠ 1 ∧
    s.get (DMC.STS_STATE n) = 1) ∧
  (∃ (s : State) (n : Fin 4) (d : W32),
    s.live ∧ s.answers (.dmc n) ∧ (DMC.TRAIN_GO n).ofData d = 1 ∧ s.get (DMC.STS_STATE n) ≠ 1) ∧
  (∃ (s : State) (n : Fin 4) (d : W32),
    s.live ∧ s.answers (.dmc n) ∧
    ((DMC.TRAIN_GO n).ofData d = 0 ∨ (s.get (DMC.TRAIN_GO n) = 1 ∧ s.get (DMC.STS_STATE n) = 1))) ∧
  (∃ (s : State) (n : Fin 4) (d : W32),
    s.live ∧ s.answers (.dmc n) ∧ (DMC.TRAIN_GO n).ofData d = 1 ∧ s.get (DMC.STS_STATE n) ≠ 1) ∧
  (∃ (s : State) (n : Fin 4) (ls : List TrainLane),
    s.live ∧ (s.dmc n).dueAt ≠ none ∧ s.get (DMC.STS_STATE n) = 1 ∧
    (∀ m : Fin 4, m < n → (s.dmc m).dueAt ≠ (s.dmc n).dueAt)) ∧
  (∃ (s : State) (n : Fin 4) (ls : List TrainLane),
    s.live ∧ (s.get (DMC.STS_STATE n) = 2)) ∧
  (∃ (s : State) (n : Fin 4) (ls : List TrainLane),
    s.live ∧ (s.get (DMC.STS_STATE n) = 2)) ∧
  (∃ (s : State) (n : Fin 4) (c : Fin 6) (late : Bool) (i o : Nat),
    s.live ∧ i = max 1 (refInterval s n) ∧
    (o = if (s.dmc n).postponed = 0 then (s.dmc n).refNext else (s.dmc n).owedAt) ∧
    (s.mtime < (s.dmc n).mr4At + max 1 (s.get (DMC.REFCTL_MR4INT n)) * 98304) ∧
    (s.get (DMC.STS_STATE n) = 1 ∨ s.get (DMC.STS_STATE n) = 4) ∧ (s.dmc n).refNext ≤ s.mtime * 4000000) ∧
  (∃ (s : State) (n : Fin 4) (c : Fin 6) (late : Bool) (i o : Nat),
    s.live ∧ i = max 1 (refInterval s n) ∧
    (o = if (s.dmc n).postponed = 0 then (s.dmc n).refNext else (s.dmc n).owedAt) ∧
    (s.mtime < (s.dmc n).mr4At + max 1 (s.get (DMC.REFCTL_MR4INT n)) * 98304) ∧
    (s.get (DMC.STS_STATE n) = 1 ∨ s.get (DMC.STS_STATE n) = 4) ∧ (s.dmc n).refNext ≤ s.mtime * 4000000) ∧
  (∃ (s : State) (n : Fin 4) (c : Fin 6) (late : Bool) (i o : Nat),
    s.live ∧ i = max 1 (refInterval s n) ∧
    (o = if (s.dmc n).postponed = 0 then (s.dmc n).refNext else (s.dmc n).owedAt) ∧
    (s.mtime < (s.dmc n).mr4At + max 1 (s.get (DMC.REFCTL_MR4INT n)) * 98304) ∧
    (s.get (DMC.STS_STATE n) = 1 ∨ s.get (DMC.STS_STATE n) = 4) ∧ (s.dmc n).refNext ≤ s.mtime * 4000000) ∧
  (∃ (s : State) (n : Fin 4) (c : Fin 6) (late : Bool) (i o : Nat),
    s.live ∧ i = max 1 (refInterval s n) ∧
    (o = if (s.dmc n).postponed = 0 then (s.dmc n).refNext else (s.dmc n).owedAt) ∧
    (s.mtime < (s.dmc n).mr4At + max 1 (s.get (DMC.REFCTL_MR4INT n)) * 98304) ∧
    (s.get (DMC.STS_STATE n) = 1 ∨ s.get (DMC.STS_STATE n) = 4) ∧ (s.dmc n).refNext ≤ s.mtime * 4000000) ∧
  (∃ (s : State) (n : Fin 4) (c : Fin 6) (late : Bool) (i o : Nat),
    s.live ∧ i = max 1 (refInterval s n) ∧
    (o = if (s.dmc n).postponed = 0 then (s.dmc n).refNext else (s.dmc n).owedAt) ∧
    (s.mtime < (s.dmc n).mr4At + max 1 (s.get (DMC.REFCTL_MR4INT n)) * 98304) ∧
    (s.get (DMC.STS_STATE n) = 1 ∨ s.get (DMC.STS_STATE n) = 4) ∧ (s.dmc n).refNext ≤ s.mtime * 4000000) ∧
  (∃ (s : State) (n : Fin 4) (c : Fin 6) (late : Bool) (i o : Nat),
    s.live ∧ i = max 1 (refInterval s n) ∧
    (o = if (s.dmc n).postponed = 0 then (s.dmc n).refNext else (s.dmc n).owedAt) ∧
    (s.dmc n).mr4At + max 1 (s.get (DMC.REFCTL_MR4INT n)) * 98304 ≤ s.mtime ∧ s.get (DMC.STS_STATE n) = 1 ∧
    (s.mtime * 4000000 < (s.dmc n).refNext)) ∧
  (∃ (s : State) (n : Fin 4) (c : Fin 6) (late : Bool) (i o : Nat),
    s.live ∧ i = max 1 (refInterval s n) ∧
    (o = if (s.dmc n).postponed = 0 then (s.dmc n).refNext else (s.dmc n).owedAt) ∧
    (s.dmc n).mr4At + max 1 (s.get (DMC.REFCTL_MR4INT n)) * 98304 ≤ s.mtime ∧
    (s.get (DMC.STS_STATE n) = 2 ∨ s.get (DMC.STS_STATE n) = 4) ∧
    (s.get (DMC.STS_STATE n) = 1 ∨ s.get (DMC.STS_STATE n) = 4) ∧ (s.dmc n).refNext ≤ s.mtime * 4000000) ∧
  (∃ (s : State) (n : Fin 4),
    s.live ∧ (s.answers (.dmc n)) ∧ (s.dmc n).srDue = true ∧ s.get (DMC.STS_STATE n) = 1) ∧
  (∃ (s : State) (n : Fin 4),
    s.live ∧ (s.answers (.dmc n))) ∧
  (∃ (s : State) (n : Fin 4),
    s.live ∧ (s.answers (.dmc n))) ∧
  (∃ (s : State) (n : Fin 4) (second : Bool) (d : W32) (v : BitVec 8) (fs : List Fld),
    s.live ∧ s.answers (.dmc n) ∧
    (fs = if second then [DMC.TMG1_TRFCPB n, DMC.TMG1_TREFI n] else [DMC.TMG0_TRCD n, DMC.TMG0_TRPPB n, DMC.TMG0_TRAS n, DMC.TMG0_TWR n]) ∧
    ((∀ f ∈ fs, f.ofData d ≠ 0)) ∧ (s.get (DMC.STS_STATE n) = 1)) ∧
  (∃ (s : State) (n : Fin 4) (second : Bool) (d : W32) (v : BitVec 8) (fs : List Fld),
    s.live ∧ s.answers (.dmc n) ∧
    (fs = if second then [DMC.TMG1_TRFCPB n, DMC.TMG1_TREFI n] else [DMC.TMG0_TRCD n, DMC.TMG0_TRPPB n, DMC.TMG0_TRAS n, DMC.TMG0_TWR n]) ∧
    ((∀ f ∈ fs, f.ofData d ≠ 0)) ∧ (s.get (DMC.STS_STATE n) ≠ 1)) ∧
  (∃ (s : State) (n : Fin 4) (second : Bool) (d : W32) (v : BitVec 8) (fs : List Fld),
    s.live ∧ s.answers (.dmc n) ∧
    (fs = if second then [DMC.TMG1_TRFCPB n, DMC.TMG1_TREFI n] else [DMC.TMG0_TRCD n, DMC.TMG0_TRPPB n, DMC.TMG0_TRAS n, DMC.TMG0_TWR n]) ∧
    ((∃ f ∈ fs, f.ofData d = 0)) ∧ (s.get (DMC.STS_STATE n) ≠ 1)) ∧
  (∃ (s : State) (n : Fin 4) (k : Nat),
    s.get (DMC.STS_STATE n) = 4 ∧ (s.dmc n).stallTo = some k ∧ (k ≤ s.mtime)) ∧
  (∃ (s : State) (n : Fin 4) (k : Nat),
    s.get (DMC.STS_STATE n) = 4 ∧ (s.dmc n).stallTo = some k ∧ (s.mtime < k)) :=
  ⟨⟨up.put (DMC.STS_STATE 2) 1, 2, 3, by decide⟩,
   ⟨up.put (DMC.STS_STATE 2) 1, 2, 1, by decide⟩,
   ⟨up.put (DMC.STS_STATE 2) 4, 2, 1, by decide⟩,
   ⟨up.puts [(DMC.TRAIN_GO 2, 1), (DMC.STS_STATE 2, 1)], 2, 1, by decide⟩,
   ⟨up.puts [(DMC.TRAIN_GO 2, 1), (DMC.STS_STATE 2, 2)], 2, 1, by decide⟩,
   ⟨{ up.put (DMC.STS_STATE 2) 1 with dmcs := [(0, { dueAt := some 4 }), (2, { dueAt := some 5 }), (3, { dueAt := some 5 })] }, 2, [], by decide⟩,
   ⟨up.puts [(DMC.STS_STATE 2, 2), (CADDY.TEMP_TJ, 200)], 2, [⟨true, [[false] ++ List.replicate 12 true], [List.replicate 3 true, List.replicate 13 true], 3⟩, ⟨true, [List.replicate 20 true], [List.replicate 12 true], 1⟩], by decide⟩,
   ⟨up.puts [(DMC.STS_STATE 2, 2), (DMC.TMG1_TREFI 2, 77)], 2, [⟨true, [List.replicate 11 true ++ [false] ++ List.replicate 11 true], [List.replicate 13 true], 2⟩, ⟨true, [List.replicate 20 true], [List.replicate 12 true], 2⟩], by decide⟩,
   ⟨{ up.put (DMC.STS_STATE 3) 1 with mtime := 98303 }, 3, 5, true, 1, 0, by decide⟩,
   ⟨{ up.put (DMC.STS_STATE 3) 1 with mtime := 98304 * 2, dmcs := [(3, { mr4At := 98304 })] }, 3, 5, true, 1, 0, by decide⟩,
   ⟨{ (up.put (DMC.STS_STATE 3) 1).putA (DMC.TMG1_TREFI 3) 100 with mtime := 1000, dmcs := [(3, { postponed := 8, bank := 15, refNext := 4000000000, owedAt := 3685427200 })], dqos := { up.dqos with reqs := [⟨3, 1, 0x300, 4⟩] } }, 3, 2, true, 39321600, 3685427200, by decide⟩,
   ⟨{ (up.put (DMC.STS_STATE 3) 1).putA (DMC.TMG1_TREFI 3) 100 with mtime := 1000, dmcs := [(3, { postponed := 6, bank := 0, refNext := 4000000000, owedAt := 3764070400 })], dqos := { up.dqos with reqs := [⟨3, 1, 0x300, 4⟩] } }, 3, 2, true, 39321600, 3764070400, by decide⟩,
   ⟨{ up.put (DMC.STS_STATE 3) 4 with mtime := 98304 }, 3, 5, false, 1, 0, by decide⟩,
   ⟨{ up.puts [(DMC.STS_STATE 3, 1), (DMC.REFCTL_MR4INT 3, 2)] with mtime := 98304 * 3, dmcs := [(3, { mr4At := 98304, refNext := 2000000000000 })] }, 3, 5, true, 1, 2000000000000, by decide⟩,
   ⟨{ up.puts [(DMC.STS_STATE 3, 4), (DMC.REFCTL_MR4INT 3, 0)] with mtime := 98304 * 2, dmcs := [(3, { mr4At := 98304 })] }, 3, 4, true, 1, 0, by decide⟩,
   ⟨{ up.puts [(DMC.STS_STATE 1, 1)] with dmcs := [(1, { srDue := true })], caddy := { up.caddy with grants := [⟨10, 16, 0, true⟩, ⟨11, 16, 0, true⟩] } }, 1, by decide⟩,
   ⟨{ up.put (DMC.STS_STATE 1) 3 with caddy := { up.caddy with grants := [⟨10, 16, 5, false⟩, ⟨11, 16, 0, true⟩] } }, 1, by decide⟩,
   ⟨{ up.puts [(DMC.STS_STATE 1, 3), (DMC.PWR_SR 1, 1)] with caddy := { up.caddy with grants := [⟨11, 16, 0, true⟩] } }, 1, by decide⟩,
   ⟨up.put (DMC.STS_STATE 3) 1, 3, true, 0x00100007, 0x5A, [DMC.TMG1_TRFCPB 3, DMC.TMG1_TREFI 3], by decide⟩,
   ⟨up.put (DMC.STS_STATE 3) 2, 3, false, 0x01020304, 0x5A, [DMC.TMG0_TRCD 3, DMC.TMG0_TRPPB 3, DMC.TMG0_TRAS 3, DMC.TMG0_TWR 3], by decide⟩,
   ⟨up.put (DMC.STS_STATE 3) 2, 3, false, 0x01000304, 0x5A, [DMC.TMG0_TRCD 3, DMC.TMG0_TRPPB 3, DMC.TMG0_TRAS 3, DMC.TMG0_TWR 3], by decide⟩,
   ⟨{ up.puts [(DMC.STS_STATE 2, 4), (DMC.MRRD_BUSY 2, 1), (DMC.TMG1_TREFI 2, 77)] with mtime := 9, dmcs := [(2, { stallTo := some 9, mrData := some 0x5A })] }, 2, 9, by decide⟩,
   ⟨{ up.puts [(DMC.STS_STATE 2, 4)] with mtime := 9, dmcs := [(2, { stallTo := some 10 })] }, 2, 10, by decide⟩⟩

theorem dqosServesGuaranteesThenUrgency_met :
  (∃ (s : State) (ch : Fin 4) (p : Fin 12) (a : BitVec 33),
    s.live ∧ s.get (DMC.STS_STATE ch) ≠ 1 ∧ s.dqos.held = [] ∧ channelOf a.toNat = ch) ∧
  (∃ (s : State) (ch : Fin 4) (p : Fin 12) (a : BitVec 33),
    s.live ∧ s.get (DMC.STS_STATE ch) ≠ 1 ∧ s.dqos.held = [] ∧ channelOf a.toNat = ch) ∧
  (∃ (s : State) (ch : Fin 4),
    s.live ∧ s.get (DMC.STS_STATE ch) = 1 ∧ (∀ p : Fin 12, waitingPort s ch p = false) ∧ s.dqos.held = []) ∧
  (∃ (s : State) (ch : Fin 4) (p : Fin 12) (r : DqReq) (l rest : List DqReq),
    s.live ∧ s.get (DMC.STS_STATE ch) = 1 ∧ slotPort s ch = some p.val ∧ dmcEarly s ch = false ∧
    s.dqos.reqs = l ++ r :: rest ∧ r.ch = ch.val ∧ r.port = p.val ∧ (∀ q ∈ l, q.ch ≠ ch.val ∨ q.port ≠ p.val) ∧
    s.dqos.held = [] ∧ ((∀ q : Fin 12, guaranteed s ch q = false)) ∧
    (s.getA (DQOS.LAT_NS p) * 98304 < (s.mtime - r.time) * 1000000) ∧ (63 ≤ SMap.get 0 s.dqos.slots ch)) ∧
  (∃ (s : State) (ch : Fin 4) (p : Fin 12) (r : DqReq) (l rest : List DqReq),
    s.live ∧ s.get (DMC.STS_STATE ch) = 1 ∧ slotPort s ch = some p.val ∧ dmcEarly s ch = false ∧
    s.dqos.reqs = l ++ r :: rest ∧ r.ch = ch.val ∧ r.port = p.val ∧ (∀ q ∈ l, q.ch ≠ ch.val ∨ q.port ≠ p.val) ∧
    s.dqos.held = [] ∧ ((s.mtime - r.time) * 1000000 ≤ s.getA (DQOS.LAT_NS p) * 98304) ∧
    (SMap.get 0 s.dqos.slots ch < 63)) ∧
  (∃ (s : State) (ch : Fin 4) (p : Fin 12) (r h : DqReq) (rest : List DqReq),
    s.live ∧ s.get (DMC.STS_STATE ch) = 1 ∧ slotPort s ch = some p.val ∧ dmcEarly s ch = false ∧
    s.dqos.reqs = r :: rest ∧ r.ch = ch.val ∧ r.port = p.val ∧ (portReqs s ch p).length = 32 ∧ s.dqos.held = [h] ∧
    h.ch = ch.val ∧ h.port = p.val) ∧
  (∃ (s : State) (ch : Fin 4) (p : Fin 12) (t0 : Nat),
    s.live ∧ hotSince s ch p = some t0 ∧ 10 * 98304 ≤ (s.mtime - t0) * 1000 ∧ (s.get DQOS.STS_SAT = 0)) :=
  ⟨⟨up.put (DMC.STS_STATE 1) 2, 1, 11, 0x100, by decide⟩,
   ⟨{ up.put (DMC.STS_STATE 1) 2 with dqos := { up.dqos with reqs := List.replicate 32 ⟨1, 11, 0x100, 0⟩ } }, 1, 11, 0x100, by decide⟩,
   ⟨up.put (DMC.STS_STATE 1) 1, 1, by decide⟩,
   ⟨{ up.put (DMC.STS_STATE 1) 1 with mtime := 100000, dqos := { up.dqos with slots := [(1, 63)], reqs := [⟨0, 5, 0x100, 9⟩, ⟨1, 5, 0x100, 9⟩, ⟨1, 7, 0x100, 99999⟩, ⟨1, 5, 0x100, 10⟩] } }, 1, 5, ⟨1, 5, 0x100, 9⟩, [⟨0, 5, 0x100, 9⟩], [⟨1, 7, 0x100, 99999⟩, ⟨1, 5, 0x100, 10⟩], by decide⟩,
   ⟨{ up.put (DMC.STS_STATE 1) 1 with mtime := 10, dqos := { up.dqos with reqs := [⟨1, 0, 0x100, 9⟩, ⟨1, 1, 0x100, 9⟩] } }, 1, 0, ⟨1, 0, 0x100, 9⟩, [], [⟨1, 1, 0x100, 9⟩], by decide⟩,
   ⟨{ up.put (DMC.STS_STATE 1) 1 with mtime := 9, dqos := { up.dqos with reqs := List.replicate 32 ⟨1, 11, 0x100, 0⟩, held := [⟨1, 11, 0x500, 2⟩] } }, 1, 11, ⟨1, 11, 0x100, 0⟩, ⟨1, 11, 0x500, 2⟩, List.replicate 31 ⟨1, 11, 0x100, 0⟩, by decide⟩,
   ⟨{ up with mtime := 100000, dqos := { up.dqos with reqs := [⟨1, 5, 0x100, 9⟩], hot := [(21, 10)] } }, 1, 5, 10, by decide⟩⟩

theorem ringsQueueFetchAndRecord_met :
  (∃ (s : State) (r : Fin 8) (d : W32),
    s.live ∧ s.answers .csch ∧ (d.toNat % 2 ^ (CSCH.SQTAIL_I r).w < 2 ^ s.get (CSCH.RCFG_SIZE r)) ∧
    (d.toNat % 2 ^ (CSCH.CQTAIL_I r).w < 2 ^ s.get (CSCH.RCFG_SIZE r))) ∧
  (∃ (s : State) (r : Fin 8) (d : W32),
    s.live ∧ s.answers .csch ∧ (2 ^ s.get (CSCH.RCFG_SIZE r) ≤ d.toNat % 2 ^ (CSCH.SQTAIL_I r).w) ∧
    (2 ^ s.get (CSCH.RCFG_SIZE r) ≤ d.toNat % 2 ^ (CSCH.CQTAIL_I r).w)) ∧
  (∃ (s : State) (r : Fin 8) (d : W32) (size fifo kind : Nat),
    s.live ∧ s.answers .csch ∧ s.get (CSCH.RSTS_STATE r) = 0 ∧ s.get (CSCH.RCFG_EN r) = 0 ∧ d.getLsbD 0 = true ∧
    size = (CSCH.RCFG_SIZE r).ofData d ∧ fifo = (CSCH.RCFG_BFIFO r).ofData d ∧ kind = (CSCH.RCFG_KIND r).ofData d ∧
    4 ≤ size ∧ size ≤ 12 ∧ (fifo = 15 ∨ s.get (BFIFO.CFG_DIR fifo) + kind = 1)) ∧
  (∃ (s : State) (r : Fin 8) (d : W32) (size fifo kind : Nat),
    s.live ∧ s.answers .csch ∧ s.get (CSCH.RSTS_STATE r) = 0 ∧ s.get (CSCH.RCFG_EN r) = 0 ∧ d.getLsbD 0 = true ∧
    size = (CSCH.RCFG_SIZE r).ofData d ∧ fifo = (CSCH.RCFG_BFIFO r).ofData d ∧ kind = (CSCH.RCFG_KIND r).ofData d ∧
    ((size < 4 ∨ 12 < size ∨ (fifo ≠ 15 ∧ s.get (BFIFO.CFG_DIR fifo) + kind ≠ 1)))) ∧
  (∃ (s : State) (r : Fin 8) (d : W32) (size fifo kind : Nat),
    s.live ∧ s.answers .csch ∧ s.get (CSCH.RSTS_STATE r) = 0 ∧ s.get (CSCH.RCFG_EN r) = 0 ∧ d.getLsbD 0 = true ∧
    size = (CSCH.RCFG_SIZE r).ofData d ∧ fifo = (CSCH.RCFG_BFIFO r).ofData d ∧ kind = (CSCH.RCFG_KIND r).ofData d ∧
    ((size < 4 ∨ 12 < size ∨ (fifo ≠ 15 ∧ s.get (BFIFO.CFG_DIR fifo) + kind ≠ 1)))) ∧
  (∃ (s : State) (r : Fin 8) (d : W32) (size fifo kind : Nat),
    s.live ∧ s.answers .csch ∧ s.get (CSCH.RSTS_STATE r) = 0 ∧ s.get (CSCH.RCFG_EN r) = 0 ∧ d.getLsbD 0 = true ∧
    size = (CSCH.RCFG_SIZE r).ofData d ∧ fifo = (CSCH.RCFG_BFIFO r).ofData d ∧ kind = (CSCH.RCFG_KIND r).ofData d ∧
    4 ≤ size ∧ size ≤ 12 ∧ (fifo = 15 ∨ s.get (BFIFO.CFG_DIR fifo) + kind = 1)) ∧
  (∃ (s : State) (r : Fin 8) (d : W32),
    s.live ∧ s.answers .csch ∧ s.get (CSCH.RSTS_STATE r) = 1 ∧ s.get (CSCH.RCFG_EN r) = 1 ∧ d.getLsbD 0 = false ∧
    ((∃ f ∈ rcfgFields r, f.ofData d ≠ s.get f))) ∧
  (∃ (s : State) (r : Fin 8) (d : W32),
    s.live ∧ s.answers .csch ∧ s.get (CSCH.RSTS_STATE r) = 1 ∧ s.get (CSCH.RCFG_EN r) = 1 ∧ d.getLsbD 0 = false ∧
    ((∃ f ∈ rcfgFields r, f.ofData d ≠ s.get f))) ∧
  (∃ (s : State) (r : Fin 8) (d : W32),
    s.live ∧ s.answers .csch ∧ s.get (CSCH.RSTS_STATE r) = 1 ∧ s.get (CSCH.RCFG_EN r) = 1 ∧ d.getLsbD 0 = false ∧
    ((∀ f ∈ rcfgFields r, f.ofData d = s.get f))) ∧
  (∃ (s : State) (r : Fin 8) (info : PicInfo),
    s.live ∧
    (s.get (CSCH.RSTS_STATE r) ≠ 1 ∨ s.get (CSCH.SQHEAD_I r) = s.get (CSCH.SQTAIL_I r) ∨ (s.get (CSCH.RCFG_KIND r) = 1 ∧ max 1 (s.get (CSCH.RCFG_DEPTH r)) ≤ ringWaiting s r) ∨ 16 ≤ heldRecords s r)) ∧
  (∃ (s : State) (r : Fin 8) (info : PicInfo),
    s.live ∧
    (s.get (CSCH.RSTS_STATE r) ≠ 1 ∨ s.get (CSCH.SQHEAD_I r) = s.get (CSCH.SQTAIL_I r) ∨ (s.get (CSCH.RCFG_KIND r) = 1 ∧ max 1 (s.get (CSCH.RCFG_DEPTH r)) ≤ ringWaiting s r) ∨ 16 ≤ heldRecords s r)) ∧
  (∃ (s : State) (r : Fin 8) (info : PicInfo) (bs : List Byte) (f : Frame),
    s.live ∧ s.get (CSCH.RSTS_STATE r) = 1 ∧ s.get (CSCH.SQHEAD_I r) ≠ s.get (CSCH.SQTAIL_I r) ∧
    fetchStalled s r = false ∧ heldRecords s r < 16 ∧
    bs = s.dramRead (s.get (CSCH.SQBASEL_A r) + 2 ^ 32 * s.get (CSCH.SQBASEH_A r) + 128 * s.get (CSCH.SQHEAD_I r)) 128 ∧
    f = descFrame s r bs ∧ f.op = 0 ∧ descOk s r f bs = true) ∧
  (∃ (s : State) (r : Fin 8) (info : PicInfo) (bs : List Byte) (f : Frame),
    s.live ∧ s.get (CSCH.RSTS_STATE r) = 1 ∧ s.get (CSCH.SQHEAD_I r) ≠ s.get (CSCH.SQTAIL_I r) ∧
    fetchStalled s r = false ∧ heldRecords s r < 16 ∧
    bs = s.dramRead (s.get (CSCH.SQBASEL_A r) + 2 ^ 32 * s.get (CSCH.SQBASEH_A r) + 128 * s.get (CSCH.SQHEAD_I r)) 128 ∧
    f = descFrame s r bs ∧ (descOk s r f bs = false)) ∧
  (∃ (s : State) (r : Fin 8) (info : PicInfo) (bs : List Byte) (f : Frame) (sf : Surface),
    s.live ∧ s.get (CSCH.RSTS_STATE r) = 1 ∧ s.get (CSCH.SQHEAD_I r) ≠ s.get (CSCH.SQTAIL_I r) ∧
    s.get (CSCH.RCFG_KIND r) = 0 ∧
    bs = s.dramRead (s.get (CSCH.SQBASEL_A r) + 2 ^ 32 * s.get (CSCH.SQBASEH_A r) + 128 * s.get (CSCH.SQHEAD_I r)) 128 ∧
    f = descFrame s r bs ∧ f.op = 1 ∧ descOk s r f bs = true ∧ usableSurface s f.surf = some sf ∧
    heldRecords s r < 16 ∧ (∀ g ∈ s.csch.frames, isWaiting g = true → g.want = false) ∧ f.flags % 2 = 0 ∧
    (((ringFrames s r).filter fun g => g.op == 1 && isWaiting g).length ≤ max 1 (s.get (CSCH.RCFG_DEPTH r)))) ∧
  (∃ (s : State) (r : Fin 8) (info : PicInfo) (bs : List Byte) (f : Frame) (sf : Surface),
    s.live ∧ s.get (CSCH.RSTS_STATE r) = 1 ∧ s.get (CSCH.SQHEAD_I r) ≠ s.get (CSCH.SQTAIL_I r) ∧
    s.get (CSCH.RCFG_KIND r) = 0 ∧
    bs = s.dramRead (s.get (CSCH.SQBASEL_A r) + 2 ^ 32 * s.get (CSCH.SQBASEH_A r) + 128 * s.get (CSCH.SQHEAD_I r)) 128 ∧
    f = descFrame s r bs ∧ f.op = 1 ∧ descOk s r f bs = true ∧ usableSurface s f.surf = some sf ∧
    heldRecords s r < 16 ∧ (∀ g ∈ s.csch.frames, isWaiting g = true → g.want = false) ∧ f.flags % 2 = 1 ∧
    s.get (CSCH.RCFG_DROPPOL r) = 0 ∧
    (max 1 (s.get (CSCH.RCFG_DEPTH r)) ≤ ((ringFrames s r).filter fun g => g.op == 1 && isWaiting g).length)) ∧
  (∃ (s : State) (r : Fin 8) (info : PicInfo) (bs : List Byte) (f : Frame) (sf : Surface),
    s.live ∧ s.get (CSCH.RSTS_STATE r) = 1 ∧ s.get (CSCH.SQHEAD_I r) ≠ s.get (CSCH.SQTAIL_I r) ∧
    s.get (CSCH.RCFG_KIND r) = 0 ∧
    bs = s.dramRead (s.get (CSCH.SQBASEL_A r) + 2 ^ 32 * s.get (CSCH.SQBASEH_A r) + 128 * s.get (CSCH.SQHEAD_I r)) 128 ∧
    f = descFrame s r bs ∧ f.op = 1 ∧ descOk s r f bs = true ∧ usableSurface s f.surf = some sf ∧
    heldRecords s r < 16 ∧ (∀ g ∈ s.csch.frames, isWaiting g = true → g.want = false) ∧ f.flags % 2 = 1 ∧
    (((ringFrames s r).filter fun g => g.op == 1 && isWaiting g).length < max 1 (s.get (CSCH.RCFG_DEPTH r)))) ∧
  (∃ (s : State) (r : Fin 8) (info : PicInfo) (bs : List Byte) (f : Frame) (sf : Surface),
    s.live ∧ s.get (CSCH.RSTS_STATE r) = 1 ∧ s.get (CSCH.SQHEAD_I r) ≠ s.get (CSCH.SQTAIL_I r) ∧
    s.get (CSCH.RCFG_KIND r) = 0 ∧
    bs = s.dramRead (s.get (CSCH.SQBASEL_A r) + 2 ^ 32 * s.get (CSCH.SQBASEH_A r) + 128 * s.get (CSCH.SQHEAD_I r)) 128 ∧
    f = descFrame s r bs ∧ f.op = 1 ∧ descOk s r f bs = true ∧ usableSurface s f.surf = some sf ∧
    heldRecords s r < 16 ∧ (∀ g ∈ s.csch.frames, isWaiting g = true → g.want = false)) ∧
  (∃ (s : State) (r : Fin 8) (f : Frame),
    s.live ∧ oldest s r = some f ∧ f.endT ≠ none ∧ copiesDone s f = true ∧
    ((s.get (CSCH.CQHEAD_I r) + 1) % 2 ^ s.get (CSCH.RCFG_SIZE r) ≠ s.get (CSCH.CQTAIL_I r))) ∧
  (∃ (s : State) (r : Fin 8) (f : Frame),
    s.live ∧ oldest s r = some f ∧ f.endT ≠ none ∧ copiesDone s f = true ∧
    ((s.get (CSCH.CQHEAD_I r) + 1) % 2 ^ s.get (CSCH.RCFG_SIZE r) = s.get (CSCH.CQTAIL_I r))) :=
  ⟨⟨up.puts [(CSCH.RCFG_SIZE 5, 4), (CSCH.KEYREQ_REQ 5, 4)], 5, 15, by decide⟩,
   ⟨up.puts [(CSCH.RCFG_SIZE 5, 4)], 5, 16, by decide⟩,
   ⟨up.puts [(CSCH.KEYREQ_REQ 5, 3), (BFIFO.CFG_DIR 3, 1)], 5, 0x03000041, (CSCH.RCFG_SIZE 5).ofData 0x03000041, (CSCH.RCFG_BFIFO 5).ofData 0x03000041, (CSCH.RCFG_KIND 5).ofData 0x03000041, by decide⟩,
   ⟨up.puts [(CSCH.KEYREQ_REQ 5, 3), (BFIFO.CFG_DIR 3, 1)], 5, 0x03000141, (CSCH.RCFG_SIZE 5).ofData 0x03000141, (CSCH.RCFG_BFIFO 5).ofData 0x03000141, (CSCH.RCFG_KIND 5).ofData 0x03000141, by decide⟩,
   ⟨up.puts [(CSCH.KEYREQ_REQ 5, 3), (BFIFO.CFG_DIR 3, 1)], 5, 0x030000D1, (CSCH.RCFG_SIZE 5).ofData 0x030000D1, (CSCH.RCFG_BFIFO 5).ofData 0x030000D1, (CSCH.RCFG_KIND 5).ofData 0x030000D1, by decide⟩,
   ⟨up.puts [(CSCH.KEYREQ_REQ 5, 3), (BFIFO.CFG_DIR 3, 1)], 5, 0x0F0000C1, (CSCH.RCFG_SIZE 5).ofData 0x0F0000C1, (CSCH.RCFG_BFIFO 5).ofData 0x0F0000C1, (CSCH.RCFG_KIND 5).ofData 0x0F0000C1, by decide⟩,
   ⟨{ up.puts [(CSCH.RSTS_STATE 5, 1), (CSCH.RCFG_EN 5, 1)] with csch := { up.csch with frames := [{ num := 1, ring := 4, slot := 0 }, { num := 2, ring := 5, slot := 0 }, { num := 3, ring := 5, slot := 1, started := true }] } }, 5, 0, by decide⟩,
   ⟨up.puts [(CSCH.RSTS_STATE 7, 1), (CSCH.RCFG_EN 7, 1)], 7, 0xFFFFFFFE, by decide⟩,
   ⟨up.puts [(CSCH.RSTS_STATE 5, 1), (CSCH.RCFG_EN 5, 1), (CSCH.RCFG_DEPTH 5, 1), (CSCH.RCFG_SIZE 5, 4)], 5, BitVec.ofNat 32 (((rcfgFields 5).map fun f => (up.puts [(CSCH.RSTS_STATE 5, 1), (CSCH.RCFG_DEPTH 5, 1), (CSCH.RCFG_SIZE 5, 4)]).get f * 2 ^ f.lo).sum), by decide⟩,
   ⟨up.puts [(CSCH.RSTS_STATE 5, 1), (CSCH.SQTAIL_I 5, 1), (CSCH.RCFG_KIND 5, 1), (CSCH.RCFG_DEPTH 5, 0)] |> fun u => { u with csch := { u.csch with frames := [{ num := 1, ring := 5, slot := 0, op := 2 }] } }, 5, pic0, by decide⟩,
   ⟨up.puts [(CSCH.RSTS_STATE 5, 1), (CSCH.SQTAIL_I 5, 1), (CSCH.SQHEAD_I 5, 1)], 5, pic0, by decide⟩,
   ⟨up.puts [(CSCH.RSTS_STATE 5, 1), (CSCH.RCFG_SIZE 5, 4), (CSCH.SQTAIL_I 5, 1), (CSCH.SQHEAD_I 5, 15)], 5, pic0, List.replicate 128 0, { num := 0, ring := 5, slot := 15 }, by decide⟩,
   ⟨(up.puts [(CSCH.RSTS_STATE 5, 1), (CSCH.RCFG_SIZE 5, 4), (CSCH.SQTAIL_I 5, 1)]).dramWrite 0 [9], 5, pic0, 9 :: List.replicate 127 0, descFrame ((up.puts [(CSCH.RSTS_STATE 5, 1), (CSCH.RCFG_SIZE 5, 4), (CSCH.SQTAIL_I 5, 1)]).dramWrite 0 [9]) 5 (9 :: List.replicate 127 0), by decide⟩,
   ⟨encDesc 0, 5, pic0, (encDesc 0).dramRead 0x1000 128, descFrame (encDesc 0) 5 ((encDesc 0).dramRead 0x1000 128), ⟨0, 0, 64, 64, 0, 2⟩, by decide⟩,
   ⟨{ encDesc 1 with csch := { nextNum := 7, frames := [{ num := 6, ring := 5, slot := 0, op := 1, flags := 1 }] } }, 5, pic0, (encDesc 1).dramRead 0x1000 128, { descFrame (encDesc 1) 5 ((encDesc 1).dramRead 0x1000 128) with num := 7 }, ⟨0, 0, 64, 64, 0, 2⟩, by decide⟩,
   ⟨encDesc 1, 5, pic0, (encDesc 1).dramRead 0x1000 128, descFrame (encDesc 1) 5 ((encDesc 1).dramRead 0x1000 128), ⟨0, 0, 64, 64, 0, 2⟩, by decide⟩,
   ⟨{ (encDesc 1).put (CSCH.RCFG_DROPPOL 5) 1 with csch := { nextNum := 7, frames := [{ num := 6, ring := 5, slot := 0, op := 1, flags := 1 }] } }, 5, pic0, (encDesc 1).dramRead 0x1000 128, { descFrame (encDesc 1) 5 ((encDesc 1).dramRead 0x1000 128) with num := 7 }, ⟨0, 0, 64, 64, 0, 2⟩, by decide⟩,
   ⟨{ up.puts [(CSCH.RCFG_SIZE 5, 4), (CSCH.CQHEAD_I 5, 15), (CSCH.CQTAIL_I 5, 1), (CSCH.CQBASEL_A 5, 0x3000)] with csch := { nextNum := 7, frames := [{ num := 6, ring := 5, slot := 3, op := 1, flags := 2, fid := 99, status := 2, endT := some 77 }] } }, 5, { num := 6, ring := 5, slot := 3, op := 1, flags := 2, fid := 99, status := 2, endT := some 77 }, by decide⟩,
   ⟨{ up.puts [(CSCH.RCFG_SIZE 5, 4), (CSCH.CQHEAD_I 5, 15), (CSCH.CQTAIL_I 5, 0), (CSCH.CQBASEL_A 5, 0x3000)] with csch := { nextNum := 7, frames := [{ num := 6, ring := 5, slot := 3, op := 1, flags := 2, fid := 99, status := 2, endT := some 77 }] } }, 5, { num := 6, ring := 5, slot := 3, op := 1, flags := 2, fid := 99, status := 2, endT := some 77 }, by decide⟩⟩

theorem stripsAreDispatchedCodedAndCopied_met :
  (∃ (s u : State) (rows : Nat) (parsed : List (Fin 8)) (n : Fin 8) (f : Frame) (j : Nat) (x : Strip),
    s.live ∧ (u = parsed.foldl (fun t n => noteParsed n t) (noteRows rows s)) ∧ s.get CSCH.CTL_EN = 1 ∧
    freeCell u = some n.val ∧ nextStrip u = some (f, j, x) ∧ frameOf u f.num = some f ∧ f.dispatched = false ∧
    (dropTest (updFrame f.num (fun _ => withEstimates u f) u) (withEstimates u f) = true)) ∧
  (∃ (s u : State) (rows : Nat) (parsed : List (Fin 8)) (n : Fin 8) (f : Frame) (j : Nat) (x : Strip),
    s.live ∧ (u = parsed.foldl (fun t n => noteParsed n t) (noteRows rows s)) ∧ s.get CSCH.CTL_EN = 1 ∧
    freeCell u = some n.val ∧ nextStrip u = some (f, j, x) ∧ frameOf u f.num = some f ∧
    (f.dispatched = true ∨ dropTest (updFrame f.num (fun _ => withEstimates u f) u) (withEstimates u f) = false)) ∧
  (∃ (s u : State) (rows : Nat) (parsed : List (Fin 8)) (n : Fin 8) (f : Frame) (j : Nat) (x : Strip),
    s.live ∧ (u = parsed.foldl (fun t n => noteParsed n t) (noteRows rows s)) ∧ s.get CSCH.CTL_EN = 1 ∧
    freeCell u = some n.val ∧ nextStrip u = some (f, j, x) ∧ frameOf u f.num = some f ∧
    (f.dispatched = true ∨ dropTest (updFrame f.num (fun _ => withEstimates u f) u) (withEstimates u f) = false)) ∧
  (∃ (s : State) (n : Fin 8) (num j st : Nat) (f : Frame),
    s.live ∧ s.get (CELL.STS_STATE n) = 1 ∧ (s.cell n).job = some (num, j) ∧ frameOf s num = some f ∧
    grantedStart s n = some st ∧ eccResult (storeWord s n (firstWord f)) = 0) ∧
  (∃ (s u : State) (n : Fin 8) (run : List Cycle) (num j : Nat) (f : Frame) (x : Strip) (res : StripResult),
    s.live ∧ s.get (CELL.STS_STATE n) = 2 ∧ u = runCycles n run s ∧ u.get (CELL.STS_STATE n) = 2 ∧
    (u.cell n).ended = true ∧ (u.cell n).job = some (num, j) ∧ frameOf u num = some f ∧ f.strips[j]? = some x ∧
    f.endT = none ∧ f.dispatched = true ∧ boundaryReady f j x = true ∧ (f.op = 2 ∨ resultHolds u f j x res = true)) ∧
  (∃ (s u : State) (n : Fin 8) (run : List Cycle) (num j : Nat) (f : Frame) (x : Strip) (res : StripResult),
    s.live ∧ s.get (CELL.STS_STATE n) = 2 ∧ u = runCycles n run s ∧ u.get (CELL.STS_STATE n) = 2 ∧
    (u.cell n).ended = true ∧ (u.cell n).job = some (num, j) ∧ frameOf u num = some f ∧ f.strips[j]? = some x ∧
    f.endT = none ∧ f.dispatched = true ∧ boundaryReady f j x = true ∧ (f.op = 2 ∨ resultHolds u f j x res = true)) ∧
  (∃ (s u : State) (n : Fin 8) (run : List Cycle) (num j : Nat) (f : Frame) (x : Strip) (res : StripResult),
    s.live ∧ s.get (CELL.STS_STATE n) = 2 ∧ u = runCycles n run s ∧ u.get (CELL.STS_STATE n) = 2 ∧
    (u.cell n).ended = true ∧ (u.cell n).job = some (num, j) ∧ frameOf u num = some f ∧ f.strips[j]? = some x ∧
    f.endT = none ∧ f.dispatched = true ∧
    (boundaryReady f j x = false ∨ (f.op ≠ 2 ∧ resultHolds u f j x res = false))) ∧
  (∃ (s u : State) (n : Fin 8) (run : List Cycle) (res : StripResult),
    s.live ∧ s.get (CELL.STS_STATE n) = 2 ∧ u = runCycles n run s ∧ (u.cell n).ended = false) ∧
  (∃ (s : State) (r : Fin 8) (f : Frame) (l : LayerRec) (i : Nat) (rest : List Nat),
    s.live ∧ copyFrame s r = some f ∧ f.copies = i :: rest ∧ f.layers[i]? = some l ∧
    ((s.fifo (s.get (CSCH.RCFG_BFIFO r))).puts = [])) ∧
  (∃ (s : State) (r : Fin 8) (f : Frame) (l : LayerRec) (i : Nat) (rest : List Nat),
    s.live ∧ copyFrame s r = some f ∧ f.copies = i :: rest ∧ f.layers[i]? = some l ∧
    ((s.fifo (s.get (CSCH.RCFG_BFIFO r))).puts ≠ [])) ∧
  (∃ (s : State) (r : Fin 8) (n : Fin 16) (info : PicInfo) (f : Frame) (p : Packet) (rest : List Packet) (room addr : Nat),
    s.live ∧ s.get (CSCH.RCFG_BFIFO r) = n.val ∧ unstaged s r = some f ∧ (s.fifo n).taken = p :: rest ∧
    room = s.dramNat (f.ctx + 24) 4 ∧ addr = s.dramNat (f.ctx + 16) 8 ∧ (p.typ = 0x08)) ∧
  (∃ (s : State) (r : Fin 8) (n : Fin 16) (info : PicInfo) (f : Frame) (p : Packet) (rest : List Packet) (room addr : Nat),
    s.live ∧ s.get (CSCH.RCFG_BFIFO r) = n.val ∧ unstaged s r = some f ∧ (s.fifo n).taken = p :: rest ∧
    room = s.dramNat (f.ctx + 24) 4 ∧ addr = s.dramNat (f.ctx + 16) 8 ∧ (p.typ ≠ 0x08)) :=
  ⟨⟨ready 7, ready 7, 0, [], 2, frame7 7, 0, { first := 0, count := 64, samples := 4194304 }, by decide⟩,
   ⟨{ (ready 99999999).puts [(HDR.PENDING 0x18000, 1), (HDR.PENDING 0x12000, 1)] with sys := { up.sys with points := [(0x18000, 2), (0x12000, 2)] } }, { (ready 99999999).puts [(HDR.PENDING 0x18000, 1), (HDR.PENDING 0x12000, 1)] with sys := { up.sys with points := [(0x18000, 2), (0x12000, 2)] } }, 64, [2], 2, frame7 99999999, 0, { first := 0, count := 64, samples := 4194304 }, by decide⟩,
   ⟨ready 99999999, ready 99999999, 64, [2], 2, frame7 99999999, 0, { first := 0, count := 64, samples := 4194304 }, by decide⟩,
   ⟨{ up.put (CELL.STS_STATE 2) 1 with mtime := 50, caddy := { up.caddy with grants := [⟨2, 90, 40, true⟩] }, csch := { nextNum := 8, frames := [frame7 7] }, cells := [(2, { job := some (7, 0), reqStart := 31 })] }, 2, 7, 0, 40, frame7 7, by decide⟩,
   ⟨{ up.put (CELL.STS_STATE 2) 2 with mtime := 50, caddy := { up.caddy with grants := [⟨2, 90, 40, true⟩] }, csch := { nextNum := 8, frames := [{ frame7 7 with dispatched := true, strips := [{ first := 0, count := 64, samples := 4194304, st := 1 }, { first := 0, count := 64, samples := 4194304 }] }] }, cells := [(2, { job := some (7, 0), ended := true })] }, { up.put (CELL.STS_STATE 2) 2 with mtime := 50, caddy := { up.caddy with grants := [⟨2, 90, 40, true⟩] }, csch := { nextNum := 8, frames := [{ frame7 7 with dispatched := true, strips := [{ first := 0, count := 64, samples := 4194304, st := 1 }, { first := 0, count := 64, samples := 4194304 }] }] }, cells := [(2, { job := some (7, 0), ended := true })] }, 2, [], 7, 0, { frame7 7 with dispatched := true, strips := [{ first := 0, count := 64, samples := 4194304, st := 1 }, { first := 0, count := 64, samples := 4194304 }] }, { first := 0, count := 64, samples := 4194304, st := 1 }, ⟨[[1, 2]], [[]], [], [], 0, [], [], 5⟩, by decide⟩,
   ⟨{ up.put (CELL.STS_STATE 2) 2 with mtime := 50, caddy := { up.caddy with grants := [⟨2, 90, 40, true⟩] }, csch := { nextNum := 8, frames := [{ frame7 7 with dispatched := true, op := 2, strips := [{ first := 0, count := 64, samples := 4194304, st := 1 }] }] }, cells := [(2, { job := some (7, 0), ended := true })] }, { up.put (CELL.STS_STATE 2) 2 with mtime := 50, caddy := { up.caddy with grants := [⟨2, 90, 40, true⟩] }, csch := { nextNum := 8, frames := [{ frame7 7 with dispatched := true, op := 2, strips := [{ first := 0, count := 64, samples := 4194304, st := 1 }] }] }, cells := [(2, { job := some (7, 0), ended := true })] }, 2, [], 7, 0, { frame7 7 with dispatched := true, op := 2, strips := [{ first := 0, count := 64, samples := 4194304, st := 1 }] }, { first := 0, count := 64, samples := 4194304, st := 1 }, ⟨[[1, 2]], [[]], [], [], 0, [], [], 5⟩, by decide⟩,
   ⟨{ up.put (CELL.STS_STATE 2) 2 with csch := { nextNum := 8, frames := [{ frame7 7 with dispatched := true, strips := [{ first := 0, count := 64, samples := 4194304, st := 1 }, { first := 64, count := 64, samples := 4194304, st := 1 }] }] }, cells := [(2, { job := some (7, 1), ended := true })] }, { up.put (CELL.STS_STATE 2) 2 with csch := { nextNum := 8, frames := [{ frame7 7 with dispatched := true, strips := [{ first := 0, count := 64, samples := 4194304, st := 1 }, { first := 64, count := 64, samples := 4194304, st := 1 }] }] }, cells := [(2, { job := some (7, 1), ended := true })] }, 2, [], 7, 1, { frame7 7 with dispatched := true, strips := [{ first := 0, count := 64, samples := 4194304, st := 1 }, { first := 64, count := 64, samples := 4194304, st := 1 }] }, { first := 64, count := 64, samples := 4194304, st := 1 }, ⟨[[1, 2]], [[]], [], [], 0, [], [], 5⟩, by decide⟩,
   ⟨{ up.put (CELL.STS_STATE 2) 2 with cells := [(2, { job := some (7, 0) })] }, { up.put (CELL.STS_STATE 2) 2 with cells := [(2, { job := some (7, 0) })] }, 2, [], ⟨[[1, 2]], [[]], [], [], 0, [], [], 5⟩, by decide⟩,
   ⟨{ up.put (CSCH.RCFG_BFIFO 5) 3 with csch := { nextNum := 8, frames := [{ frame7 7 with endT := some 5, copies := [1], bytes := [0, 5], layers := [⟨0, 0, 0, 0⟩, ⟨64, 100, 1, 0⟩] }] } }, 5, { frame7 7 with endT := some 5, copies := [1], bytes := [0, 5], layers := [⟨0, 0, 0, 0⟩, ⟨64, 100, 1, 0⟩] }, ⟨64, 100, 1, 0⟩, 1, [], by decide⟩,
   ⟨{ up.put (CSCH.RCFG_BFIFO 5) 3 with fifos := [(3, { puts := [(9, true)] })], csch := { nextNum := 8, frames := [{ frame7 7 with endT := some 5, copies := [0], bytes := [5], layers := [⟨64, 100, 1, 0⟩] }] } }, 5, { frame7 7 with endT := some 5, copies := [0], bytes := [5], layers := [⟨64, 100, 1, 0⟩] }, ⟨64, 100, 1, 0⟩, 0, [], by decide⟩,
   ⟨{ (up.put (CSCH.RCFG_BFIFO 5) 3).dramWrite 0x4010 [0x00, 0x50, 0, 0, 0, 0, 0, 0, 2] with fifos := [(3, { taken := [⟨8, [1, 2, 3], false⟩] })], csch := { nextNum := 8, frames := [{ frame7 7 with op := 2, staged := false, ctx := 0x4000 }] } }, 5, 3, pic0, { frame7 7 with op := 2, staged := false, ctx := 0x4000 }, ⟨8, [1, 2, 3], false⟩, [], 2, 0x5000, by decide⟩,
   ⟨{ (up.put (CSCH.RCFG_BFIFO 5) 3).dramWrite 0x4010 [0x00, 0x50, 0, 0, 0, 0, 0, 0, 2] with fifos := [(3, { taken := [⟨1, [1, 2, 3], false⟩] })], csch := { nextNum := 8, frames := [{ frame7 7 with op := 2, staged := false, ctx := 0x4000 }] } }, 5, 3, pic0, { frame7 7 with op := 2, staged := false, ctx := 0x4000 }, ⟨1, [1, 2, 3], false⟩, [], 2, 0x5000, by decide⟩⟩

theorem cellFaultsFenceAndLoseStrips_met :
  (∃ (s : State) (n : Fin 8) (wd : Bool) (i : Instr) (code : Nat),
    s.live ∧ (i = if wd then .stripWatchdog n else .cellFault n [] true) ∧ (code = if wd then 0x0102 else 0x0100) ∧
    ((if wd then s.get (CELL.STS_STATE n) = 2 else s.get (CELL.STS_STATE n) ≤ 2 ∧ s.held (.cell n) = false))) ∧
  (∃ (s : State) (n : Fin 8) (wd : Bool) (i : Instr) (code : Nat),
    s.live ∧ (i = if wd then .stripWatchdog n else .cellFault n [] true) ∧ (code = if wd then 0x0102 else 0x0100) ∧
    ((if wd then s.get (CELL.STS_STATE n) = 2 else s.get (CELL.STS_STATE n) ≤ 2 ∧ s.held (.cell n) = false))) ∧
  (∃ (s : State) (n : Fin 8) (wd : Bool) (i : Instr) (code : Nat),
    s.live ∧ (i = if wd then .stripWatchdog n else .cellFault n [] true) ∧ (code = if wd then 0x0102 else 0x0100) ∧
    ((if wd then s.get (CELL.STS_STATE n) ≠ 2 else 2 < s.get (CELL.STS_STATE n) ∨ s.held (.cell n) = true))) ∧
  (∃ (s : State) (n : Fin 8) (wd : Bool) (i : Instr) (code : Nat),
    s.live ∧ (i = if wd then .stripWatchdog n else .cellFault n [] true) ∧ (code = if wd then 0x0102 else 0x0100) ∧
    ((if wd then s.get (CELL.STS_STATE n) ≠ 2 else 2 < s.get (CELL.STS_STATE n) ∨ s.held (.cell n) = true))) ∧
  (∃ (s : State) (n : Fin 8) (num j : Nat) (f : Frame) (x : Strip),
    s.live ∧ s.held (.cell n) = false ∧ (s.cell n).job = some (num, j) ∧ frameOf s num = some f ∧
    f.strips[j]? = some x ∧ f.endT = none ∧ x.conceal = false ∧ x.st = 1 ∧ (s.get (CELL.STS_STATE n) = 1)) ∧
  (∃ (s : State) (n : Fin 8) (num j : Nat) (f : Frame) (x : Strip),
    s.live ∧ s.held (.cell n) = false ∧ (s.cell n).job = some (num, j) ∧ frameOf s num = some f ∧
    f.strips[j]? = some x ∧ f.endT = none ∧ x.conceal = false ∧ x.st = 1 ∧ s.get (CELL.STS_STATE n) = 2 ∧
    s.mtime + (x.estS * 5 + 3) / 4 ≤ f.deadline) ∧
  (∃ (s : State) (n : Fin 8) (num j : Nat) (f : Frame) (x : Strip),
    s.live ∧ s.held (.cell n) = false ∧ (s.cell n).job = some (num, j) ∧ frameOf s num = some f ∧
    f.strips[j]? = some x ∧ f.endT = none ∧ x.conceal = false ∧ x.st = 1 ∧ s.get (CELL.STS_STATE n) = 2 ∧
    f.deadline < s.mtime + (x.estS * 5 + 3) / 4 ∧ f.op = 1) ∧
  (∃ (s : State) (n : Fin 8) (num j : Nat) (f : Frame) (x : Strip),
    s.live ∧ s.held (.cell n) = false ∧ s.get (CELL.STS_STATE n) = 2 ∧ (s.cell n).job = some (num, j) ∧
    frameOf s num = some f ∧ f.strips[j]? = some x ∧ f.endT = none ∧ f.op = 2 ∧ x.conceal = false ∧
    f.deadline < s.mtime + (x.estS * 5 + 3) / 4 ∧ (f.info = none)) ∧
  (∃ (s : State) (n : Fin 8) (num j : Nat) (f : Frame) (x : Strip),
    s.live ∧ s.held (.cell n) = false ∧ s.get (CELL.STS_STATE n) = 2 ∧ (s.cell n).job = some (num, j) ∧
    frameOf s num = some f ∧ f.strips[j]? = some x ∧ f.endT = none ∧ f.op = 2 ∧ x.conceal = false ∧
    f.deadline < s.mtime + (x.estS * 5 + 3) / 4 ∧
    (f.info.any (fun p => (f.strips.take j).any fun y => !y.lost && y.st != 2 && adjacent p y x) = true)) ∧
  (∃ (s : State) (n : Fin 8) (y : Cycle) (m : Micro) (v : CsWord) (a : Nat),
    s.live ∧ s.held (.cell n) = false ∧ s.get (CELL.STS_STATE n) = 2 ∧ (s.cell n).ended = false ∧
    m = microOf (s.cell n).word ∧ m.next ≠ 6 ∧ m.next ≠ 7 ∧ m.cond < 0x12 ∧
    (nextAddr m (s.cell n) y.conds).map (·.1) = some a ∧ a < 8192 ∧ v = storeWord s n a ^^^ y.upset ∧
    (eccResult v = 0)) ∧
  (∃ (s : State) (n : Fin 8) (y : Cycle) (m : Micro) (v : CsWord) (a : Nat),
    s.live ∧ s.held (.cell n) = false ∧ s.get (CELL.STS_STATE n) = 2 ∧ (s.cell n).ended = false ∧
    m = microOf (s.cell n).word ∧ m.next ≠ 6 ∧ m.next ≠ 7 ∧ m.cond < 0x12 ∧
    (nextAddr m (s.cell n) y.conds).map (·.1) = some a ∧ a < 8192 ∧ v = storeWord s n a ^^^ y.upset ∧
    (eccResult v = 1)) ∧
  (∃ (s : State) (n : Fin 8) (y : Cycle) (m : Micro) (v : CsWord) (a : Nat),
    s.live ∧ s.held (.cell n) = false ∧ s.get (CELL.STS_STATE n) = 2 ∧ (s.cell n).ended = false ∧
    m = microOf (s.cell n).word ∧ m.next ≠ 6 ∧ m.next ≠ 7 ∧ m.cond < 0x12 ∧
    (nextAddr m (s.cell n) y.conds).map (·.1) = some a ∧ a < 8192 ∧ v = storeWord s n a ^^^ y.upset ∧
    eccResult v ≠ 0 ∧ eccResult v ≠ 1) ∧
  (∃ (s : State) (n : Fin 8) (y : Cycle) (m : Micro) (v : CsWord) (a : Nat),
    s.live ∧ s.held (.cell n) = false ∧ s.get (CELL.STS_STATE n) = 2 ∧ (s.cell n).ended = false ∧
    m = microOf (s.cell n).word ∧ m.next ≠ 6 ∧ m.next ≠ 7 ∧ m.cond < 0x12 ∧
    (nextAddr m (s.cell n) y.conds).map (·.1) = some a ∧ a < 8192 ∧ v = storeWord s n a ^^^ y.upset ∧
    (eccResult v = 0)) ∧
  (∃ (s : State) (n : Fin 8) (y : Cycle) (m : Micro),
    s.live ∧ s.held (.cell n) = false ∧ s.get (CELL.STS_STATE n) = 2 ∧ (s.cell n).ended = false ∧
    m = microOf (s.cell n).word ∧
    (0x12 ≤ m.cond ∨ (m.next = 3 ∧ (s.cell n).stack.length = 4) ∨ (m.next = 4 ∧ (s.cell n).stack = []))) ∧
  (∃ (s : State) (n : Fin 8) (y : Cycle) (m : Micro),
    s.live ∧ s.held (.cell n) = false ∧ s.get (CELL.STS_STATE n) = 2 ∧ (s.cell n).ended = false ∧
    m = microOf (s.cell n).word ∧ m.cond < 0x12 ∧ m.next = 7) ∧
  (∃ (s : State) (n : Fin 8) (y : Cycle) (m : Micro),
    s.live ∧ s.held (.cell n) = false ∧ s.get (CELL.STS_STATE n) = 2 ∧ (s.cell n).ended = false ∧
    m = microOf (s.cell n).word ∧ m.cond < 0x12 ∧ m.next = 6 ∧ condTrue m.cond y.conds = false) ∧
  (∃ (s : State) (n : Fin 8) (y : Cycle) (m : Micro),
    s.live ∧ s.held (.cell n) = false ∧ s.get (CELL.STS_STATE n) = 2 ∧ (s.cell n).ended = false ∧
    m = microOf (s.cell n).word ∧
    (0x12 ≤ m.cond ∨ (m.next = 3 ∧ (s.cell n).stack.length = 4) ∨ (m.next = 4 ∧ (s.cell n).stack = []))) :=
  ⟨⟨{ up.put (CELL.STS_STATE 7) 0 with caddy := { up.caddy with grants := [⟨7, 90, 40, true⟩] } }, 7, false, .cellFault 7 [] true, 0x0100, by decide⟩,
   ⟨{ up.put (CELL.STS_STATE 0) 2 with csch := { nextNum := 8, frames := [{ frame7 7 with dispatched := true }] }, cells := [(0, { job := some (7, 0) })] }, 0, true, .stripWatchdog 0, 0x0102, by decide⟩,
   ⟨up.put (CELL.STS_STATE 7) 3, 7, false, .cellFault 7 [] true, 0x0100, by decide⟩,
   ⟨up.put (CELL.STS_STATE 7) 1, 7, true, .stripWatchdog 7, 0x0102, by decide⟩,
   ⟨{ up.put (CELL.STS_STATE 2) 1 with csch := { nextNum := 8, frames := [{ frame7 7 with dispatched := true, strips := [{ first := 0, count := 64, samples := 4194304, st := 1 }] }] }, cells := [(2, { job := some (7, 0) })] }, 2, 7, 0, { frame7 7 with dispatched := true, strips := [{ first := 0, count := 64, samples := 4194304, st := 1 }] }, { first := 0, count := 64, samples := 4194304, st := 1 }, by decide⟩,
   ⟨{ up.put (CELL.STS_STATE 2) 2 with mtime := 2, csch := { nextNum := 8, frames := [{ frame7 7 with dispatched := true, strips := [{ first := 0, count := 64, samples := 4194304, st := 1, estS := 4 }] }] }, cells := [(2, { job := some (7, 0) })] }, 2, 7, 0, { frame7 7 with dispatched := true, strips := [{ first := 0, count := 64, samples := 4194304, st := 1, estS := 4 }] }, { first := 0, count := 64, samples := 4194304, st := 1, estS := 4 }, by decide⟩,
   ⟨{ up.put (CELL.STS_STATE 2) 2 with mtime := 3, csch := { nextNum := 8, frames := [{ frame7 7 with dispatched := true, strips := [{ first := 0, count := 64, samples := 4194304, st := 1, estS := 4 }] }] }, cells := [(2, { job := some (7, 0) })] }, 2, 7, 0, { frame7 7 with dispatched := true, strips := [{ first := 0, count := 64, samples := 4194304, st := 1, estS := 4 }] }, { first := 0, count := 64, samples := 4194304, st := 1, estS := 4 }, by decide⟩,
   ⟨{ up.put (CELL.STS_STATE 2) 2 with mtime := 9, csch := { nextNum := 8, frames := [{ frame7 7 with op := 2, dispatched := true, strips := [{ first := 0, count := 1, samples := 4194304, st := 1 }] }] }, cells := [(2, { job := some (7, 0) })] }, 2, 7, 0, { frame7 7 with op := 2, dispatched := true, strips := [{ first := 0, count := 1, samples := 4194304, st := 1 }] }, { first := 0, count := 1, samples := 4194304, st := 1 }, by decide⟩,
   ⟨{ up.put (CELL.STS_STATE 2) 2 with mtime := 9, csch := { nextNum := 8, frames := [twoStrips] }, cells := [(2, { job := some (7, 1) })] }, 2, 7, 1, { frame7 7 with op := 2, dispatched := true, info := twoStrips.info, strips := twoStrips.strips }, { first := 1, count := 1, samples := 4194304, st := 1, areas := [1] }, by decide⟩,
   ⟨{ up.put (CELL.STS_STATE 2) 2 with cells := [(2, { pc := 8191, job := some (7, 0) })] }, 2, ⟨0, 0⟩, microOf 0, 0, 0, by decide⟩,
   ⟨{ up.put (CELL.STS_STATE 2) 2 with cells := [(2, { pc := 8, job := some (7, 0) })] }, 2, ⟨0, 1⟩, microOf 0, 1, 9, by decide⟩,
   ⟨{ up.put (CELL.STS_STATE 2) 2 with cells := [(2, { pc := 8, job := some (7, 0) })] }, 2, ⟨0, 3⟩, microOf 0, 3, 9, by decide⟩,
   ⟨{ up.put (CELL.STS_STATE 2) 2 with cells := [(2, { pc := 8, stack := [7, 9], word := 4 * 2 ^ 117 })] }, 2, ⟨0, 0⟩, microOf (4 * 2 ^ 117), 0, 7, by decide⟩,
   ⟨{ up.put (CELL.STS_STATE 2) 2 with cells := [(2, { pc := 8, word := 4 * 2 ^ 117 })] }, 2, ⟨0, 0⟩, microOf (4 * 2 ^ 117), by decide⟩,
   ⟨{ up.put (CELL.STS_STATE 2) 2 with cells := [(2, { pc := 8, word := 7 * 2 ^ 117 })] }, 2, ⟨0, 0⟩, microOf (7 * 2 ^ 117), by decide⟩,
   ⟨{ up.put (CELL.STS_STATE 2) 2 with cells := [(2, { pc := 8, word := 6 * 2 ^ 117 + 2 * 2 ^ 112 })] }, 2, ⟨0, 0⟩, microOf (6 * 2 ^ 117 + 2 * 2 ^ 112), by decide⟩,
   ⟨{ up.put (CELL.STS_STATE 2) 2 with cells := [(2, { pc := 8, word := 0x12 * 2 ^ 112 })] }, 2, ⟨0, 0⟩, microOf (0x12 * 2 ^ 112), by decide⟩⟩

theorem controlStoreIsScrubbedCorrectedAndRead_met :
  (∃ (s : State) (n : Fin 8) (w : Nat),
    s.live ∧ s.get (CELL.CSSTS_NEXTADDR n) = w ∧ w < 8192 ∧ s.get (CELL.CSCFG_SCRUB_EN n) = 1 ∧
    s.get (CELL.STS_STATE n) ≤ 2 ∧ s.held (.cell n) = false ∧ (s.cell n).loaded = true) ∧
  (∃ (s : State) (n : Fin 8) (w : Nat),
    s.live ∧ s.get (CELL.CSSTS_NEXTADDR n) = w ∧ w < 8192 ∧ s.get (CELL.CSCFG_SCRUB_EN n) = 1 ∧
    s.get (CELL.STS_STATE n) ≤ 2 ∧ s.held (.cell n) = false ∧ (s.cell n).loaded = true) ∧
  (∃ (s : State) (n : Fin 8) (w : Nat),
    s.live ∧ s.get (CELL.CSSTS_NEXTADDR n) = w ∧ w < 8192 ∧ s.get (CELL.CSCFG_SCRUB_EN n) = 1 ∧
    s.get (CELL.STS_STATE n) ≤ 2 ∧ s.held (.cell n) = false ∧ (s.cell n).loaded = true) ∧
  (∃ (s : State) (n : Fin 8) (w : Nat),
    s.live ∧ s.get (CELL.CSSTS_NEXTADDR n) = w ∧ w < 8192 ∧ s.get (CELL.CSCFG_SCRUB_EN n) = 1 ∧
    s.get (CELL.STS_STATE n) ≤ 2 ∧ s.held (.cell n) = false ∧ (s.cell n).loaded = true) ∧
  (∃ (s : State) (n : Fin 8) (w : Nat),
    s.live ∧ s.get (CELL.CSSTS_NEXTADDR n) = w ∧ w < 8192 ∧
    (s.get (CELL.CSCFG_SCRUB_EN n) ≠ 1 ∨ 2 < s.get (CELL.STS_STATE n) ∨ s.held (.cell n) = true ∨ (s.cell n).loaded = false)) ∧
  (∃ (s : State) (n : Fin 8) (w : Nat),
    s.live ∧ s.get (CELL.CSSTS_NEXTADDR n) = w ∧ w < 8192 ∧ s.get (CELL.CSCFG_SCRUB_EN n) = 1 ∧
    s.get (CELL.STS_STATE n) ≤ 2 ∧ s.held (.cell n) = false ∧ (s.cell n).loaded = true) ∧
  (∃ (s : State) (n : Fin 8) (w : Nat) (m : CsWord),
    s.live ∧ s.get (CELL.CSSTS_NEXTADDR n) = w ∧ s.get (CELL.CSCFG_SCRUB_EN n) = 1 ∧ s.get (CELL.STS_STATE n) ≤ 2 ∧
    s.held (.cell n) = false ∧ (s.cell n).loaded = true ∧ w < 8192 ∧ m ≠ 0) ∧
  (∃ (s : State) (n : Fin 8) (w : Nat) (v stuck : CsWord) (rest : List (Nat × CsWord)),
    s.live ∧ w < 8192 ∧ (s.cell n).wb = (w, v) :: rest ∧ (eccResult (v ^^^ stuck) ≠ 0) ∧
    (eccResult (v ^^^ stuck) = 2)) ∧
  (∃ (s : State) (n : Fin 8) (w : Nat) (v stuck : CsWord) (rest : List (Nat × CsWord)),
    s.live ∧ w < 8192 ∧ (s.cell n).wb = (w, v) :: rest ∧ (eccResult (v ^^^ stuck) = 0) ∧
    (eccResult (v ^^^ stuck) ≠ 2)) ∧
  (∃ (s : State) (n : Fin 8) (w : Nat) (v stuck : CsWord) (rest : List (Nat × CsWord)),
    s.live ∧ w < 8192 ∧ (s.cell n).wb = (w, v) :: rest ∧ (eccResult (v ^^^ stuck) ≠ 0) ∧
    (eccResult (v ^^^ stuck) ≠ 2)) ∧
  (∃ (s : State) (n : Fin 8) (w : Fin 8192) (k : Fin 4) (off : BitVec 17),
    s.live ∧ s.get SYS.BOOT_STATUS_CODE = 0x10 ∧ off.toNat = 16 * w.val + 4 * k.val ∧ writeWaits s = false ∧
    s.get (CELL.STS_STATE n) ≠ 4 ∧ k.val = 0) ∧
  (∃ (s : State) (n : Fin 8) (w : Fin 8192) (k : Fin 4) (off : BitVec 17),
    s.live ∧ s.get SYS.BOOT_STATUS_CODE = 0x10 ∧ off.toNat = 16 * w.val + 4 * k.val ∧ writeWaits s = false ∧
    s.get (CELL.STS_STATE n) ≠ 4 ∧ k.val = 0) ∧
  (∃ (s : State) (n : Fin 8) (w : Fin 8192) (k : Fin 4) (off : BitVec 17),
    s.live ∧ s.get SYS.BOOT_STATUS_CODE = 0x10 ∧ off.toNat = 16 * w.val + 4 * k.val ∧ writeWaits s = false ∧
    s.get (CELL.STS_STATE n) ≠ 4 ∧ k.val = 0) ∧
  (∃ (s : State) (n : Fin 8) (w : Fin 8192) (k : Fin 4) (off : BitVec 17),
    s.live ∧ s.get SYS.BOOT_STATUS_CODE = 0x10 ∧ off.toNat = 16 * w.val + 4 * k.val ∧ writeWaits s = false ∧
    s.get (CELL.STS_STATE n) ≠ 4 ∧ k.val = 0) ∧
  (∃ (s : State) (n : Fin 8) (w : Fin 8192) (k : Fin 4) (off : BitVec 17),
    s.live ∧ s.get SYS.BOOT_STATUS_CODE = 0x10 ∧ off.toNat = 16 * w.val + 4 * k.val ∧ writeWaits s = false ∧
    s.get (CELL.STS_STATE n) ≠ 4 ∧ k.val ≠ 0) ∧
  (∃ (s : State) (n : Fin 8) (w : Fin 8192) (k : Fin 4) (off : BitVec 17),
    s.live ∧ s.get SYS.BOOT_STATUS_CODE = 0x10 ∧ off.toNat = 16 * w.val + 4 * k.val ∧ writeWaits s = false ∧
    (s.get (CELL.STS_STATE n) = 4)) :=
  ⟨⟨ecc3 0, 3, 8191, by decide⟩,
   ⟨(ecc3 0).put (CELL.CSSTS_NEXTADDR 3) 8190, 3, 8190, by decide⟩,
   ⟨ecc3 1, 3, 8191, by decide⟩,
   ⟨ecc3 3, 3, 8191, by decide⟩,
   ⟨(ecc3 3).put (CELL.STS_STATE 3) 3, 3, 8191, by decide⟩,
   ⟨((ecc3 3).put (CELL.CSERR_UVALID 3) 1).put (CELL.CSERR_UADDR 3) 5, 3, 8191, by decide⟩,
   ⟨ecc3 0, 3, 8191, 5, by decide⟩,
   ⟨{ ecc3 1 with cells := [(3, { loaded := true, store := withWord [] 8191 1, wb := [(8191, 0)] })] }, 3, 8191, 0, 3, [], by decide⟩,
   ⟨{ ecc3 1 with cells := [(3, { loaded := true, store := withWord [] 8191 1, wb := [(8191, 0), (7, 0)] })] }, 3, 8191, 0, 0, [(7, 0)], by decide⟩,
   ⟨{ ecc3 1 with cells := [(3, { loaded := true, store := withWord [] 8191 1, wb := [(8191, 0)] })] }, 3, 8191, 0, 8, [], by decide⟩,
   ⟨ecc3 1, 3, 8191, 0, 0x1FFF0, by decide⟩,
   ⟨ecc3 3, 3, 8191, 0, 0x1FFF0, by decide⟩,
   ⟨(ecc3 3).put (CELL.STS_STATE 3) 3, 3, 8191, 0, 0x1FFF0, by decide⟩,
   ⟨ecc3 0, 3, 8191, 0, 0x1FFF0, by decide⟩,
   ⟨ecc3 0, 3, 0, 3, 12, by decide⟩,
   ⟨(ecc3 0).put (CELL.STS_STATE 3) 4, 3, 0, 3, 12, by decide⟩⟩

theorem cameraPortsReceiveFrames_met :
  (∃ (s : State) (n : Fin 3) (w h : Nat),
    s.live ∧ s.answers (.csi n) ∧ s.get (CSI.CTL_EN n) = 0 ∧ w = s.get (CSI.SIZE_WIDTH n) ∧
    h = s.get (CSI.SIZE_HEIGHT n) ∧
    ((w % 2 = 0 ∧ h % 2 = 0 ∧ 64 ≤ w ∧ w ≤ 8192 ∧ 64 ≤ h ∧ h ≤ 6144 ∧ s.get (CSI.CFG_LANES n) ≠ 3 ∧ (s.get (CSI.CFG_DEST n) = 1 → ∀ m : Fin 3, m ≠ n → s.get (CSI.CTL_EN m) ≠ 1 ∨ s.get (CSI.CFG_DEST m) ≠ 1) ∧ (s.get (CSI.CFG_DEST n) = 2 → rawPitch s n * h ≤ s.get (CSI.RAWSTRIDE_N n))))) ∧
  (∃ (s : State) (n : Fin 3) (w h : Nat),
    s.live ∧ s.answers (.csi n) ∧ s.get (CSI.CTL_EN n) = 0 ∧ w = s.get (CSI.SIZE_WIDTH n) ∧
    h = s.get (CSI.SIZE_HEIGHT n) ∧
    ((w % 2 ≠ 0 ∨ h % 2 ≠ 0 ∨ w < 64 ∨ 8192 < w ∨ h < 64 ∨ 6144 < h ∨ s.get (CSI.CFG_LANES n) = 3 ∨ (s.get (CSI.CFG_DEST n) = 1 ∧ ∃ m : Fin 3, m ≠ n ∧ s.get (CSI.CTL_EN m) = 1 ∧ s.get (CSI.CFG_DEST m) = 1) ∨ (s.get (CSI.CFG_DEST n) = 2 ∧ s.get (CSI.RAWSTRIDE_N n) < rawPitch s n * h)))) ∧
  (∃ (s : State) (n : Fin 3) (w h : Nat),
    s.live ∧ s.answers (.csi n) ∧ s.get (CSI.CTL_EN n) = 0 ∧ w = s.get (CSI.SIZE_WIDTH n) ∧
    h = s.get (CSI.SIZE_HEIGHT n) ∧
    ((w % 2 = 0 ∧ h % 2 = 0 ∧ 64 ≤ w ∧ w ≤ 8192 ∧ 64 ≤ h ∧ h ≤ 6144 ∧ s.get (CSI.CFG_LANES n) ≠ 3 ∧ (s.get (CSI.CFG_DEST n) = 1 → ∀ m : Fin 3, m ≠ n → s.get (CSI.CTL_EN m) ≠ 1 ∨ s.get (CSI.CFG_DEST m) ≠ 1) ∧ (s.get (CSI.CFG_DEST n) = 2 → rawPitch s n * h ≤ s.get (CSI.RAWSTRIDE_N n))))) ∧
  (∃ (s : State) (n : Fin 3) (w h : Nat),
    s.live ∧ s.answers (.csi n) ∧ s.get (CSI.CTL_EN n) = 0 ∧ w = s.get (CSI.SIZE_WIDTH n) ∧
    h = s.get (CSI.SIZE_HEIGHT n) ∧
    ((w % 2 ≠ 0 ∨ h % 2 ≠ 0 ∨ w < 64 ∨ 8192 < w ∨ h < 64 ∨ 6144 < h ∨ s.get (CSI.CFG_LANES n) = 3 ∨ (s.get (CSI.CFG_DEST n) = 1 ∧ ∃ m : Fin 3, m ≠ n ∧ s.get (CSI.CTL_EN m) = 1 ∧ s.get (CSI.CFG_DEST m) = 1) ∨ (s.get (CSI.CFG_DEST n) = 2 ∧ s.get (CSI.RAWSTRIDE_N n) < rawPitch s n * h)))) ∧
  (∃ (s : State) (n : Fin 3) (h : CsiHead) (fx : Nat),
    s.live ∧ s.get (CSI.STS_STATE n) ≠ 0 ∧ receiving s n = false ∧
    (s.get (CSI.STS_STATE n) = 2 → (s.csi n).abandoned = false → (s.csi n).rows.length < s.get (CSI.SIZE_HEIGHT n)) ∧
    h.lost = false ∧ h.vc.toNat = s.get (CSI.CFG_VC n) ∧
    (fx = (if h.fixed then (s.get (CSI.FIXCNT_ECCFIX n) + 1) % 2 ^ 16 else s.get (CSI.FIXCNT_ECCFIX n))) ∧
    s.get (CSI.CFG_DEST n) = 1 ∧ s.get ISP.STS_STATE = 2) ∧
  (∃ (s : State) (n : Fin 3) (h : CsiHead) (fx : Nat),
    s.live ∧ s.get (CSI.STS_STATE n) ≠ 0 ∧ receiving s n = false ∧
    (s.get (CSI.STS_STATE n) = 2 → (s.csi n).abandoned = false → (s.csi n).rows.length < s.get (CSI.SIZE_HEIGHT n)) ∧
    h.lost = false ∧ h.vc.toNat = s.get (CSI.CFG_VC n) ∧
    (fx = (if h.fixed then (s.get (CSI.FIXCNT_ECCFIX n) + 1) % 2 ^ 16 else s.get (CSI.FIXCNT_ECCFIX n))) ∧
    s.get (CSI.CFG_DEST n) = 1 ∧ s.get ISP.STS_STATE = 1) ∧
  (∃ (s : State) (n : Fin 3) (h : CsiHead) (fx : Nat),
    s.live ∧ s.get (CSI.STS_STATE n) ≠ 0 ∧ receiving s n = false ∧
    (s.get (CSI.STS_STATE n) = 2 → (s.csi n).abandoned = false → (s.csi n).rows.length < s.get (CSI.SIZE_HEIGHT n)) ∧
    h.lost = false ∧ h.vc.toNat = s.get (CSI.CFG_VC n) ∧
    (fx = (if h.fixed then (s.get (CSI.FIXCNT_ECCFIX n) + 1) % 2 ^ 16 else s.get (CSI.FIXCNT_ECCFIX n))) ∧
    (s.get (CSI.CFG_DEST n) = 0)) ∧
  (∃ (s : State) (n : Fin 3) (h : CsiHead) (fx : Nat),
    s.live ∧ s.get (CSI.STS_STATE n) ≠ 0 ∧ receiving s n = false ∧
    (s.get (CSI.STS_STATE n) = 2 → (s.csi n).abandoned = false → (s.csi n).rows.length < s.get (CSI.SIZE_HEIGHT n)) ∧
    h.lost = false ∧ h.vc.toNat = s.get (CSI.CFG_VC n) ∧
    (fx = (if h.fixed then (s.get (CSI.FIXCNT_ECCFIX n) + 1) % 2 ^ 16 else s.get (CSI.FIXCNT_ECCFIX n))) ∧
    (s.get (CSI.CFG_DEST n) = 2)) ∧
  (∃ (s : State) (n : Fin 3) (h : CsiHead) (fx : Nat),
    s.live ∧ s.get (CSI.STS_STATE n) ≠ 0 ∧ receiving s n = false ∧
    (s.get (CSI.STS_STATE n) = 2 → (s.csi n).abandoned = false → (s.csi n).rows.length < s.get (CSI.SIZE_HEIGHT n)) ∧
    h.lost = false ∧ h.vc.toNat = s.get (CSI.CFG_VC n) ∧
    (fx = (if h.fixed then (s.get (CSI.FIXCNT_ECCFIX n) + 1) % 2 ^ 16 else s.get (CSI.FIXCNT_ECCFIX n))) ∧
    (s.get (CSI.CFG_DEST n) = 2) ∧ s.get (CSI.CFG_DEST n) = 2 ∧ freeRaw s n = none) ∧
  (∃ (s : State) (n : Fin 3) (h : CsiHead) (dt : BitVec 6) (k : CsiLine) (px : List Nat),
    s.live ∧ h.lost = false ∧ (dt.toNat ≠ s.get (CSI.CFG_DT n) ∨ dt.toNat < 0x2A ∨ 0x2D < dt.toNat) ∧
    h.vc.toNat = s.get (CSI.CFG_VC n) ∧ receiving s n = true ∧ (s.csi n).rows.length < s.get (CSI.SIZE_HEIGHT n)) ∧
  (∃ (s : State) (n : Fin 3) (h : CsiHead) (dt : BitVec 6) (k : CsiLine) (px : List Nat),
    s.live ∧ h.lost = false ∧ (dt.toNat ≠ s.get (CSI.CFG_DT n) ∨ dt.toNat < 0x2A ∨ 0x2D < dt.toNat) ∧
    h.vc.toNat = s.get (CSI.CFG_VC n) ∧ receiving s n = true ∧ s.get (CSI.SIZE_HEIGHT n) ≤ (s.csi n).rows.length) ∧
  (∃ (s : State) (n : Fin 3) (h : CsiHead) (dt : BitVec 6) (k : CsiLine) (px : List Nat),
    s.live ∧ s.get (CSI.STS_STATE n) ≠ 0 ∧ h.lost = true ∧ lineDue s n = false) ∧
  (∃ (s : State) (n : Fin 3) (h : CsiHead) (dt : BitVec 6) (k : CsiLine) (px : List Nat),
    s.live ∧ (s.get (CSI.STS_STATE n) = 0 ∨ (h.lost = false ∧ h.vc.toNat ≠ s.get (CSI.CFG_VC n))) ∧ h.lost = false ∧
    (dt.toNat ≠ s.get (CSI.CFG_DT n) ∨ dt.toNat < 0x2A ∨ 0x2D < dt.toNat)) ∧
  (∃ (s : State) (n : Fin 3) (h g : CsiHead) (dt : BitVec 6) (q : CsiLine) (px row : List Nat) (y a fx : Nat),
    s.live ∧ receiving s n = true ∧ (s.csi n).rows.length = y ∧ y < s.get (CSI.SIZE_HEIGHT n) ∧ (s.csi n).dest = 2 ∧
    h.lost = false ∧ h.vc.toNat = s.get (CSI.CFG_VC n) ∧ dt.toNat = s.get (CSI.CFG_DT n) ∧ 0x2A ≤ dt.toNat ∧
    dt.toNat ≤ 0x2D ∧
    a = s.get (CSI.RAWADDRL_A n) + 2 ^ 32 * s.get (CSI.RAWADDRH_A n) + (s.csi n).buf * s.get (CSI.RAWSTRIDE_N n) + y * rawPitch s n ∧
    (fx = (if h.fixed then (s.get (CSI.FIXCNT_ECCFIX n) + 1) % 2 ^ 16 else s.get (CSI.FIXCNT_ECCFIX n))) ∧
    (row = ((s.csi n).rows.getD (if y = 1 then 0 else y - 2) []).map (· / 2 ^ (14 - rawBits s n))) ∧
    (px.length = s.get (CSI.SIZE_WIDTH n)) ∧ g.lost = true ∧ y ≠ 0 ∧ (s.csi n).fixes < s.get (CSI.LOSS_MAXFIX n)) ∧
  (∃ (s : State) (n : Fin 3) (h g : CsiHead) (dt : BitVec 6) (q : CsiLine) (px row : List Nat) (y a fx : Nat),
    s.live ∧ receiving s n = true ∧ (s.csi n).rows.length = y ∧ y < s.get (CSI.SIZE_HEIGHT n) ∧ (s.csi n).dest = 2 ∧
    h.lost = false ∧ h.vc.toNat = s.get (CSI.CFG_VC n) ∧ dt.toNat = s.get (CSI.CFG_DT n) ∧ 0x2A ≤ dt.toNat ∧
    dt.toNat ≤ 0x2D ∧
    a = s.get (CSI.RAWADDRL_A n) + 2 ^ 32 * s.get (CSI.RAWADDRH_A n) + (s.csi n).buf * s.get (CSI.RAWSTRIDE_N n) + y * rawPitch s n ∧
    (fx = (if h.fixed then (s.get (CSI.FIXCNT_ECCFIX n) + 1) % 2 ^ 16 else s.get (CSI.FIXCNT_ECCFIX n))) ∧
    (row = ((s.csi n).rows.getD (if y = 1 then 0 else y - 2) []).map (· / 2 ^ (14 - rawBits s n))) ∧ g.lost = true ∧
    y ≠ 0 ∧ (s.csi n).fixes < s.get (CSI.LOSS_MAXFIX n)) ∧
  (∃ (s : State) (n : Fin 3) (h g : CsiHead) (dt : BitVec 6) (q : CsiLine) (px row : List Nat) (y a fx : Nat),
    s.live ∧ receiving s n = true ∧ (s.csi n).rows.length = y ∧ y < s.get (CSI.SIZE_HEIGHT n) ∧ (s.csi n).dest = 2 ∧
    h.lost = false ∧ h.vc.toNat = s.get (CSI.CFG_VC n) ∧ dt.toNat = s.get (CSI.CFG_DT n) ∧ 0x2A ≤ dt.toNat ∧
    dt.toNat ≤ 0x2D ∧
    a = s.get (CSI.RAWADDRL_A n) + 2 ^ 32 * s.get (CSI.RAWADDRH_A n) + (s.csi n).buf * s.get (CSI.RAWSTRIDE_N n) + y * rawPitch s n ∧
    (fx = (if h.fixed then (s.get (CSI.FIXCNT_ECCFIX n) + 1) % 2 ^ 16 else s.get (CSI.FIXCNT_ECCFIX n))) ∧
    (row = ((s.csi n).rows.getD (if y = 1 then 0 else y - 2) []).map (· / 2 ^ (14 - rawBits s n))) ∧
    (h.fixed = false) ∧ g.lost = true ∧ y ≠ 0 ∧ (s.csi n).fixes < s.get (CSI.LOSS_MAXFIX n)) ∧
  (∃ (s : State) (n : Fin 3) (h : CsiHead) (dt : BitVec 6) (k : CsiLine) (px : List Nat),
    s.live ∧ h = ⟨BitVec.ofNat 2 (s.get (CSI.CFG_VC n)), false, false⟩ ∧
    dt = BitVec.ofNat 6 (s.get (CSI.CFG_DT n)) ∧ takesType s n dt = true ∧ receiving s n = true ∧
    (s.csi n).rows.length < s.get (CSI.SIZE_HEIGHT n) ∧
    ((k = .good ∧ px.length ≠ s.get (CSI.SIZE_WIDTH n) ∧ ((s.csi n).rows = [] ∨ s.get (CSI.LOSS_MAXFIX n) ≤ (s.csi n).fixes)) ∨ (k = .overflow ∧ (s.csi n).dest = 1))) ∧
  (∃ (s : State) (n : Fin 3) (h : CsiHead) (dt : BitVec 6) (k : CsiLine) (px : List Nat),
    s.live ∧ h = ⟨BitVec.ofNat 2 (s.get (CSI.CFG_VC n)), false, false⟩ ∧
    dt = BitVec.ofNat 6 (s.get (CSI.CFG_DT n)) ∧ takesType s n dt = true ∧ receiving s n = true ∧
    (s.csi n).rows.length < s.get (CSI.SIZE_HEIGHT n) ∧
    ((k = .good ∧ px.length ≠ s.get (CSI.SIZE_WIDTH n) ∧ ((s.csi n).rows = [] ∨ s.get (CSI.LOSS_MAXFIX n) ≤ (s.csi n).fixes)) ∨ (k = .overflow ∧ (s.csi n).dest = 1))) ∧
  (∃ (s : State) (n : Fin 3) (h : CsiHead) (dt : BitVec 6) (k : CsiLine) (px : List Nat),
    s.live ∧ h = ⟨BitVec.ofNat 2 (s.get (CSI.CFG_VC n)), false, false⟩ ∧
    dt = BitVec.ofNat 6 (s.get (CSI.CFG_DT n)) ∧ takesType s n dt = true ∧
    ((s.csi n).abandoned = true ∨ s.get (CSI.STS_STATE n) ≠ 2 ∨ s.get (CSI.SIZE_HEIGHT n) ≤ (s.csi n).rows.length) ∧
    k ≠ .crcError ∧ s.get (CSI.STS_STATE n) ≠ 0) ∧
  (∃ (s : State) (n : Fin 3) (h : CsiHead) (y : Nat),
    s.live ∧ h = ⟨BitVec.ofNat 2 (s.get (CSI.CFG_VC n)), false, false⟩ ∧ y = (s.csi n).rows.length ∧
    (s.csi n).line0 ≤ (s.csi n).lineN ∧ (s.get (CSI.STS_STATE n) ≠ 2)) ∧
  (∃ (s : State) (n : Fin 3) (h : CsiHead) (y : Nat),
    s.live ∧ h = ⟨BitVec.ofNat 2 (s.get (CSI.CFG_VC n)), false, false⟩ ∧ y = (s.csi n).rows.length ∧
    (s.csi n).line0 ≤ (s.csi n).lineN ∧ s.get (CSI.STS_STATE n) = 2 ∧ (s.csi n).abandoned = false ∧
    s.get (CSI.SIZE_HEIGHT n) ≤ y) ∧
  (∃ (s : State) (n : Fin 3) (h : CsiHead) (y : Nat),
    s.live ∧ h = ⟨BitVec.ofNat 2 (s.get (CSI.CFG_VC n)), false, false⟩ ∧ y = (s.csi n).rows.length ∧
    (s.csi n).line0 ≤ (s.csi n).lineN ∧ s.get (CSI.STS_STATE n) = 2 ∧ (s.csi n).abandoned = false ∧
    s.get (CSI.SIZE_HEIGHT n) ≤ y) ∧
  (∃ (s : State) (n : Fin 3) (h : CsiHead) (y : Nat),
    s.live ∧ h = ⟨BitVec.ofNat 2 (s.get (CSI.CFG_VC n)), false, false⟩ ∧ y = (s.csi n).rows.length ∧
    (s.csi n).line0 ≤ (s.csi n).lineN ∧ s.get (CSI.STS_STATE n) = 2 ∧ (s.csi n).abandoned = false ∧
    s.get (CSI.SIZE_HEIGHT n) ≤ y) ∧
  (∃ (s : State) (n : Fin 3) (h : CsiHead) (y : Nat),
    s.live ∧ h = ⟨BitVec.ofNat 2 (s.get (CSI.CFG_VC n)), false, false⟩ ∧ y = (s.csi n).rows.length ∧
    (s.csi n).line0 ≤ (s.csi n).lineN ∧ receiving s n = true ∧ y < s.get (CSI.SIZE_HEIGHT n)) ∧
  (∃ (s : State) (n : Fin 3) (h : CsiHead) (y : Nat),
    s.live ∧ h = ⟨BitVec.ofNat 2 (s.get (CSI.CFG_VC n)), false, false⟩ ∧ y = (s.csi n).rows.length ∧
    (s.csi n).line0 ≤ (s.csi n).lineN ∧ s.get (CSI.STS_STATE n) = 2 ∧ receiving s n = false ∧
    ((s.csi n).abandoned = true ∨ y < s.get (CSI.SIZE_HEIGHT n))) ∧
  (∃ (s : State) (n : Fin 3) (m : Nat),
    s.live ∧ (s.csi n).mark = some m ∧ receiving s n = false ∧ s.getA ISP.DCFG_LOSSBLK ≠ 1 ∧
    (s.get (CSI.STS_STATE n) = 1 ∨ s.get (CSI.STS_STATE n) = 2) ∧
    max 1 (s.get (CSI.LOSS_MS n)) * 98304 ≤ s.mtime - m) ∧
  (∃ (s : State) (n : Fin 3) (m : Nat),
    s.live ∧ (s.csi n).mark = some m ∧ receiving s n = false ∧ s.getA ISP.DCFG_LOSSBLK ≠ 1 ∧
    ((s.get (CSI.STS_STATE n) ≠ 1 ∧ s.get (CSI.STS_STATE n) ≠ 2) ∨ s.mtime - m < max 1 (s.get (CSI.LOSS_MS n)) * 98304)) ∧
  (∃ (s : State) (n : Fin 3) (m : Nat),
    s.live ∧ (s.csi n).mark = some m ∧ max 1 (s.get (CSI.LOSS_MS n)) * 98304 ≤ s.mtime - m ∧ receiving s n = true ∧
    s.getA ISP.DCFG_LOSSBLK ≠ 1 ∧ ((s.csi n).dest = 1)) ∧
  (∃ (s : State) (n : Fin 3) (m y : Nat) (sf : Surface),
    s.live ∧ (s.get (CSI.STS_STATE n) = 1 ∨ s.get (CSI.STS_STATE n) = 2) ∧ (s.csi n).mark = some m ∧
    max 1 (s.get (CSI.LOSS_MS n)) * 98304 ≤ s.mtime - m ∧ receiving s n = false ∧ s.getA ISP.DCFG_LOSSBLK = 1 ∧
    outPort s 0 = n.val ∧ s.get ISP.STS_STATE = 2 ∧ surfaceAt s (outBase s 0 + freePos s 0) = some sf ∧ sf.fmt = 0 ∧
    sf.w ≤ sf.pitch ∧ sf.yaddr + sf.pitch * sf.h ≤ sf.caddr ∧ (y = if s.getA ISP.DCFG_CSC = 3 then 0 else 16)) ∧
  (∃ (s : State) (n : Fin 3) (m y : Nat) (sf : Surface),
    s.live ∧ (s.get (CSI.STS_STATE n) = 1 ∨ s.get (CSI.STS_STATE n) = 2) ∧ (s.csi n).mark = some m ∧
    max 1 (s.get (CSI.LOSS_MS n)) * 98304 ≤ s.mtime - m ∧ receiving s n = false ∧ s.getA ISP.DCFG_LOSSBLK = 1 ∧
    outPort s 0 = n.val ∧ s.get ISP.STS_STATE = 2 ∧ surfaceAt s (outBase s 0 + freePos s 0) = some sf ∧ sf.fmt = 0 ∧
    sf.w ≤ sf.pitch ∧ sf.yaddr + sf.pitch * sf.h ≤ sf.caddr ∧ (y = if s.getA ISP.DCFG_CSC = 3 then 0 else 16)) ∧
  (∃ (s : State) (n : Fin 3),
    s.live ∧ s.answers (.csi n)) :=
  ⟨⟨up.puts [(CSI.SIZE_WIDTH 1, 64), (CSI.SIZE_HEIGHT 1, 6144), (CSI.CFG_DEST 1, 1)], 1, 64, 6144, by decide⟩,
   ⟨up.puts [(CSI.SIZE_WIDTH 1, 64), (CSI.SIZE_HEIGHT 1, 6144), (CSI.CFG_DEST 1, 1), (CSI.CTL_EN 2, 1), (CSI.CFG_DEST 2, 1)], 1, 64, 6144, by decide⟩,
   ⟨up.puts [(CSI.SIZE_WIDTH 1, 64), (CSI.SIZE_HEIGHT 1, 64), (CSI.CFG_DEST 1, 2), (CSI.CFG_DT 1, 0x2A), (CSI.RAWSTRIDE_N 1, 4096)], 1, 64, 64, by decide⟩,
   ⟨up.puts [(CSI.SIZE_WIDTH 1, 66), (CSI.SIZE_HEIGHT 1, 64), (CSI.CFG_DEST 1, 2), (CSI.CFG_DT 1, 0x2A), (CSI.RAWSTRIDE_N 1, 4096)], 1, 66, 64, by decide⟩,
   ⟨up.puts [(CSI.STS_STATE 2, 1), (CSI.CFG_DEST 2, 1), (ISP.STS_STATE, 2)], 2, ⟨0, false, false⟩, 0, by decide⟩,
   ⟨up.puts [(CSI.STS_STATE 2, 3), (CSI.CFG_DEST 2, 1), (ISP.STS_STATE, 1), (CSI.CFG_VC 2, 3)], 2, ⟨3, true, false⟩, 1, by decide⟩,
   ⟨up.put (CSI.STS_STATE 2) 3, 2, ⟨0, true, false⟩, 1, by decide⟩,
   ⟨{ up.puts [(CSI.STS_STATE 2, 1), (CSI.CFG_DEST 2, 2), (CSI.RAWCFG_NBUF 2, 2), (CSI.RAWSTS_WR 2, 1)] with csis := [(2, { full := [(1, 5)] })] }, 2, ⟨0, false, false⟩, 0, by decide⟩,
   ⟨{ up.puts [(CSI.STS_STATE 2, 1), (CSI.CFG_DEST 2, 2), (CSI.RAWCFG_NBUF 2, 2), (CSI.RAWSTS_WR 2, 1)] with csis := [(2, { full := [(1, 5), (0, 6)] })] }, 2, ⟨0, false, false⟩, 0, by decide⟩,
   ⟨{ up.puts [(CSI.STS_STATE 2, 2), (CSI.CFG_DEST 2, 2), (CSI.SIZE_HEIGHT 2, 64)] with csis := [(2, { dest := 2 })] }, 2, ⟨0, false, false⟩, 0x2E, .good, [], by decide⟩,
   ⟨{ up.puts [(CSI.STS_STATE 2, 2), (CSI.CFG_DEST 2, 2), (CSI.SIZE_HEIGHT 2, 64)] with csis := [(2, { dest := 2, rows := List.replicate 64 [] })] }, 2, ⟨0, false, false⟩, 0x2A, .good, [], by decide⟩,
   ⟨up.put (CSI.STS_STATE 2) 1, 2, ⟨1, false, true⟩, 0x2A, .good, [], by decide⟩,
   ⟨up.put (CSI.STS_STATE 2) 2, 2, ⟨1, false, false⟩, 0, .good, [], by decide⟩,
   ⟨{ up.puts [(CSI.STS_STATE 2, 2), (CSI.CFG_DEST 2, 2), (CSI.CFG_DT 2, 0x2B), (CSI.SIZE_HEIGHT 2, 64), (CSI.SIZE_WIDTH 2, 64), (CSI.RAWADDRL_A 2, 0x4000), (CSI.RAWSTRIDE_N 2, 0x4000)] with csis := [(2, { dest := 2, buf := 1, rows := List.replicate 61 [] ++ [[128, 4800], [112]] })] }, 2, ⟨0, true, false⟩, ⟨1, false, true⟩, 0x2B, .overflow, [1, 1023] ++ List.replicate 62 5, [8, 300], 63, 0x8000 + 63 * 128, 1, by decide⟩,
   ⟨{ up.puts [(CSI.STS_STATE 2, 2), (CSI.CFG_DEST 2, 2), (CSI.CFG_DT 2, 0x2B), (CSI.SIZE_HEIGHT 2, 64), (CSI.SIZE_WIDTH 2, 64), (CSI.RAWADDRL_A 2, 0x4000), (CSI.RAWSTRIDE_N 2, 0x4000), (CSI.LOSS_MAXFIX 2, 4)] with csis := [(2, { dest := 2, buf := 1, rows := List.replicate 61 [] ++ [[128, 4800], [112]], fixes := 3 })] }, 2, ⟨0, true, false⟩, ⟨1, false, true⟩, 0x2B, .overflow, [1, 1023], [8, 300], 63, 0x8000 + 63 * 128, 1, by decide⟩,
   ⟨{ up.puts [(CSI.STS_STATE 2, 2), (CSI.CFG_DEST 2, 2), (CSI.CFG_DT 2, 0x2A), (CSI.SIZE_HEIGHT 2, 64), (CSI.SIZE_WIDTH 2, 64), (CSI.RAWADDRL_A 2, 0x4000), (CSI.RAWSTRIDE_N 2, 0x4000), (CSI.LOSS_MAXFIX 2, 4)] with csis := [(2, { dest := 2, buf := 1, rows := [[448]], fixes := 3 })] }, 2, ⟨0, false, false⟩, ⟨1, false, true⟩, 0x2A, .overflow, [1, 255], [7], 1, 0x8000 + 64, 0, by decide⟩,
   ⟨{ up.puts [(CSI.STS_STATE 2, 2), (CSI.SIZE_HEIGHT 2, 64), (CSI.CFG_DT 2, 0x2D), (CSI.CFG_VC 2, 2)] with csis := [(2, { dest := 1, start := true, stamp := 9, rows := [[], []] })], isp := { outs := [(0, { jobs := [⟨2, true, 0, 8, none, 0, 0, [1], []⟩, ⟨2, true, 0, 9, none, 1, 1, [1], []⟩] }), (2, { jobs := [⟨2, false, 0, 9, none, 0, 0, [1], []⟩] })] } }, 2, ⟨2, false, false⟩, 0x2D, .overflow, [], by decide⟩,
   ⟨{ up.puts [(CSI.STS_STATE 2, 2), (CSI.SIZE_HEIGHT 2, 64), (CSI.SIZE_WIDTH 2, 64), (CSI.CFG_DT 2, 0x2D)] with csis := [(2, { dest := 2, rows := [[5]], fixes := 4 })] }, 2, ⟨0, false, false⟩, 0x2D, .good, [], by decide⟩,
   ⟨{ up.puts [(CSI.STS_STATE 2, 2), (CSI.SIZE_HEIGHT 2, 64), (CSI.SIZE_WIDTH 2, 64), (CSI.CFG_DT 2, 0x2D)] with csis := [(2, { dest := 2, rows := List.replicate 64 [], fixes := 4 })] }, 2, ⟨0, false, false⟩, 0x2D, .good, [], by decide⟩,
   ⟨up.put (CSI.STS_STATE 2) 1, 2, ⟨0, false, false⟩, 0, by decide⟩,
   ⟨{ up.puts [(CSI.STS_STATE 2, 2), (CSI.SIZE_HEIGHT 2, 64), (CSI.RAWCFG_NBUF 2, 2), (CSI.CFG_VC 2, 3)] with csis := [(2, { dest := 2, rows := List.replicate 64 [], buf := 1, stamp := 9, line0 := 10, lineN := 100 })] }, 2, ⟨3, false, false⟩, 64, by decide⟩,
   ⟨{ (up.puts [(CSI.STS_STATE 2, 2), (CSI.SIZE_HEIGHT 2, 64), (CSI.RAWCFG_NBUF 2, 2)]).putA ISP.OUTSRC_VIS 2 with csis := [(2, { dest := 2, rows := List.replicate 64 [], buf := 0, stamp := 9 })] }, 2, ⟨0, false, false⟩, 64, by decide⟩,
   ⟨{ up.puts [(CSI.STS_STATE 2, 2), (CSI.SIZE_HEIGHT 2, 64), (CSI.RAWCFG_NBUF 2, 2)] with csis := [(2, { dest := 0, rows := List.replicate 64 [], lineN := 630 })] }, 2, ⟨0, false, false⟩, 64, by decide⟩,
   ⟨{ up.puts [(CSI.STS_STATE 2, 2), (CSI.SIZE_HEIGHT 2, 64), (CSI.RAWCFG_NBUF 2, 2)] with csis := [(2, { dest := 2, rows := List.replicate 63 [] })] }, 2, ⟨0, false, false⟩, 63, by decide⟩,
   ⟨{ up.puts [(CSI.STS_STATE 2, 2), (CSI.SIZE_HEIGHT 2, 64), (CSI.RAWCFG_NBUF 2, 2)] with csis := [(2, { dest := 2, rows := List.replicate 63 [], abandoned := true })] }, 2, ⟨0, false, false⟩, 63, by decide⟩,
   ⟨{ up.puts [(CSI.STS_STATE 2, 1), (CSI.LOSS_MS 2, 0)] with mtime := 98309, csis := [(2, { mark := some 5 })] }, 2, 5, by decide⟩,
   ⟨{ up.puts [(CSI.STS_STATE 2, 1), (CSI.LOSS_MS 2, 0)] with mtime := 98308, csis := [(2, { mark := some 5 })] }, 2, 5, by decide⟩,
   ⟨{ up.puts [(CSI.STS_STATE 2, 2), (CSI.SIZE_HEIGHT 2, 64), (CSI.LOSS_MS 2, 0)] with mtime := 98309, csis := [(2, { dest := 1, start := true, stamp := 9, mark := some 5, rows := [[], []] })], isp := { outs := [(0, { jobs := [⟨2, true, 0, 8, none, 0, 0, [1], []⟩, ⟨2, true, 0, 9, none, 1, 1, [1], []⟩] })] } }, 2, 5, by decide⟩,
   ⟨(((({ (up.puts [(CSI.STS_STATE 2, 1), (CSI.LOSS_MS 2, 0), (ISP.STS_STATE, 2), (CSCH.SURFBASEL_A, 0x2000), (CSCH.SURFCNT_COUNT, 4)]).dramWrite 0x2020 [0, 0x10, 0, 0, 0, 0, 0, 0, 0x80, 0x10, 0, 0, 0, 0, 0, 0, 4, 0, 2, 0, 64, 0, 0, 0, 0] with mtime := 98309, csis := [(2, { mark := some 5 })] }.putA ISP.DCFG_LOSSBLK 1).putA ISP.DCFG_BASE 1).putA ISP.OUTSRC_DISP 2)), 2, 5, 16, ⟨0x1000, 0x1080, 4, 2, 64, 0⟩, by decide⟩,
   ⟨((((({ (up.puts [(CSI.STS_STATE 2, 1), (CSI.LOSS_MS 2, 0), (ISP.STS_STATE, 2), (CSCH.SURFBASEL_A, 0x2000), (CSCH.SURFCNT_COUNT, 4)]).dramWrite 0x2020 [0, 0x10, 0, 0, 0, 0, 0, 0, 0x80, 0x10, 0, 0, 0, 0, 0, 0, 4, 0, 2, 0, 64, 0, 0, 0, 0] with mtime := 98309, csis := [(2, { mark := some 5 })] }.putA ISP.DCFG_LOSSBLK 1).putA ISP.DCFG_BASE 1).putA ISP.OUTSRC_DISP 2)).putA ISP.DCFG_CSC 3), 2, 5, 0, ⟨0x1000, 0x1080, 4, 2, 64, 0⟩, by decide⟩,
   ⟨{ up with csis := [(1, { stamp := 0x123456789A })] }, 1, by decide⟩⟩

theorem outputsTakePublishAndAbandonFrames_met :
  (∃ (s : State) (p : Fin 3),
    s.live ∧ (s.get ISP.STS_STATE ≠ 2) ∧ (s.csi p).start = false ∧ nextPass s = none) ∧
  (∃ (s : State) (p : Fin 3),
    s.live ∧ (s.csi p).start = false ∧ s.isp.pass ≠ none) ∧
  (∃ (s : State) (p : Fin 3),
    s.live ∧ (s.csi p).start = false ∧ nextPass s = none) ∧
  (∃ (s : State) (p o : Fin 3) (b : List Byte),
    s.live ∧ s.get ISP.STS_STATE = 2 ∧ (s.csi p).start = true ∧ awaits s .isp 1 = false ∧ outPort s o = p.val ∧
    (o = 1 → s.getA ISP.CCFG_LINK ≠ 1) ∧
    b = s.dramRead (s.getA (ISP.PSETL_A p) + 2 ^ 32 * s.getA (ISP.PSETH_A p)) 256 ∧ (psetOk b = true)) ∧
  (∃ (s : State) (p o : Fin 3) (b : List Byte),
    s.live ∧ s.get ISP.STS_STATE = 2 ∧ (s.csi p).start = true ∧ awaits s .isp 1 = false ∧ outPort s o = p.val ∧
    (o = 1 → s.getA ISP.CCFG_LINK ≠ 1) ∧
    b = s.dramRead (s.getA (ISP.PSETL_A p) + 2 ^ 32 * s.getA (ISP.PSETH_A p)) 256 ∧ (psetOk b = true)) ∧
  (∃ (s : State) (p o : Fin 3) (b : List Byte),
    s.live ∧ s.get ISP.STS_STATE = 2 ∧ (s.csi p).start = true ∧ awaits s .isp 1 = false ∧ outPort s o = p.val ∧
    (o = 1 → s.getA ISP.CCFG_LINK ≠ 1) ∧
    b = s.dramRead (s.getA (ISP.PSETL_A p) + 2 ^ 32 * s.getA (ISP.PSETH_A p)) 256 ∧ (psetOk b = true)) ∧
  (∃ (s : State) (p o : Fin 3) (b : List Byte),
    s.live ∧ s.get ISP.STS_STATE = 2 ∧ (s.csi p).start = true ∧ awaits s .isp 1 = false ∧ outPort s o = p.val ∧
    (o = 1 → s.getA ISP.CCFG_LINK ≠ 1) ∧
    b = s.dramRead (s.getA (ISP.PSETL_A p) + 2 ^ 32 * s.getA (ISP.PSETH_A p)) 256 ∧ (psetOk b = true)) ∧
  (∃ (s : State) (p o : Fin 3) (b : List Byte),
    s.live ∧ s.get ISP.STS_STATE = 2 ∧ (s.csi p).start = true ∧ awaits s .isp 1 = false ∧ outPort s o = p.val ∧
    (o = 1 → s.getA ISP.CCFG_LINK ≠ 1) ∧
    b = s.dramRead (s.getA (ISP.PSETL_A p) + 2 ^ 32 * s.getA (ISP.PSETH_A p)) 256 ∧ (psetOk b = false)) ∧
  (∃ (s : State) (p : Fin 3),
    s.live ∧ s.regsOk ∧ s.get ISP.STS_STATE = 2 ∧
    ((s.csi p).start = true ∨ (s.isp.pass = none ∧ (nextPass s).map (·.1) = some p.val)) ∧ awaits s .isp 1 = true) ∧
  (∃ (s : State) (p : Fin 3),
    s.live ∧ s.regsOk ∧ s.get ISP.STS_STATE = 2 ∧
    ((s.csi p).start = true ∨ (s.isp.pass = none ∧ (nextPass s).map (·.1) = some p.val)) ∧ awaits s .isp 1 = true) ∧
  (∃ (s : State) (p : Fin 3) (b : List Byte) (f : Frame) (l rest : List Frame),
    s.live ∧ s.get ISP.STS_STATE = 2 ∧ (s.csi p).start = true ∧ awaits s .isp 1 = false ∧ outPort s 1 = p.val ∧
    s.getA ISP.CCFG_LINK = 1 ∧ b = s.dramRead (s.getA (ISP.PSETL_A p) + 2 ^ 32 * s.getA (ISP.PSETH_A p)) 256 ∧
    psetOk b = true ∧ b ≠ [] ∧ outputOk s 1 p = true ∧ s.csch.frames = l ++ f :: rest ∧
    (∀ e ∈ l ++ rest, e.num ≠ f.num) ∧
    (∀ e ∈ l, e.ring ≠ s.getA ISP.CCFG_RING ∨ e.op ≠ 1 ∨ e.linked = false ∨ e.bound = true ∨ e.endT ≠ none) ∧
    f.ring = s.getA ISP.CCFG_RING ∧ f.op = 1 ∧ f.linked = true ∧ f.bound = false ∧ f.endT = none) ∧
  (∃ (s : State) (p : Fin 3) (b : List Byte) (f : Frame) (l rest : List Frame),
    s.live ∧ s.get ISP.STS_STATE = 2 ∧ (s.csi p).start = true ∧ awaits s .isp 1 = false ∧ outPort s 1 = p.val ∧
    s.getA ISP.CCFG_LINK = 1 ∧ b = s.dramRead (s.getA (ISP.PSETL_A p) + 2 ^ 32 * s.getA (ISP.PSETH_A p)) 256 ∧
    psetOk b = true ∧ b ≠ [] ∧ outputOk s 1 p = true ∧ s.csch.frames = l ++ f :: rest ∧
    (∀ e ∈ l ++ rest, e.num ≠ f.num) ∧
    (∀ e ∈ l, e.ring ≠ s.getA ISP.CCFG_RING ∨ e.op ≠ 1 ∨ e.linked = false ∨ e.bound = true ∨ e.endT ≠ none) ∧
    ((∀ e ∈ f :: rest, e.ring ≠ s.getA ISP.CCFG_RING ∨ e.op ≠ 1 ∨ e.linked = false ∨ e.bound = true ∨ e.endT ≠ none))) ∧
  (∃ (s : State) (p : Fin 3) (b stamp : Nat),
    s.live ∧ s.get ISP.STS_STATE = 2 ∧ (s.csi p).start = false ∧ s.isp.pass = none ∧
    nextPass s = some (p.val, b, stamp)) ∧
  (∃ (s : State) (p : Fin 3) (b : Nat),
    s.live ∧ s.isp.pass = some (p.val, b) ∧
    ((∀ o : Fin 3, ∀ x ∈ (s.ispOut o).jobs, x.port ≠ p.val ∨ x.inline = true))) ∧
  (∃ (s : State) (p : Fin 3) (b : Nat),
    s.live ∧ s.isp.pass = some (p.val, b) ∧
    ((∃ o : Fin 3, ∃ x ∈ (s.ispOut o).jobs, x.port = p.val ∧ x.inline = false))) ∧
  (∃ (s : State) (o : IspOut) (row : Nat) (x : OutJob) (rest : List OutJob),
    s.live ∧ (s.ispOut (outNum o)).jobs = x :: rest ∧
    (x.inline = false ∨ min (s.get (CSI.SIZE_HEIGHT x.port)) (x.geom.getD 1 0 + x.geom.getD 3 0 + 7) ≤ (s.csi x.port).rows.length) ∧
    x.frame = none ∧ x ∉ rest) ∧
  (∃ (s : State) (o : IspOut) (row : Nat) (x : OutJob) (rest : List OutJob),
    s.live ∧ (s.ispOut (outNum o)).jobs = x :: rest ∧
    (x.inline = false ∨ min (s.get (CSI.SIZE_HEIGHT x.port)) (x.geom.getD 1 0 + x.geom.getD 3 0 + 7) ≤ (s.csi x.port).rows.length) ∧
    x.frame = none ∧ x ∉ rest) ∧
  (∃ (s : State) (o : IspOut) (row : Nat) (x : OutJob) (rest : List OutJob),
    s.live ∧ (s.ispOut (outNum o)).jobs = x :: rest ∧
    (x.inline = false ∨ min (s.get (CSI.SIZE_HEIGHT x.port)) (x.geom.getD 1 0 + x.geom.getD 3 0 + 7) ≤ (s.csi x.port).rows.length) ∧
    x.frame = none ∧ x ∉ rest) ∧
  (∃ (s : State) (o : IspOut) (row : Nat) (x : OutJob) (rest : List OutJob),
    s.live ∧ (s.ispOut (outNum o)).jobs = x :: rest ∧ x.inline = true ∧ s.get (CSI.STS_STATE x.port) = 2 ∧
    (s.csi x.port).stamp = x.stamp ∧
    (s.csi x.port).rows.length < min (s.get (CSI.SIZE_HEIGHT x.port)) (x.geom.getD 1 0 + x.geom.getD 3 0 + 7)) ∧
  (∃ (s : State) (o : IspOut) (row : Nat),
    s.live ∧ (s.ispOut (outNum o)).jobs = []) ∧
  (∃ (s : State) (o : IspOut) (x : OutJob),
    s.live ∧ (s.ispOut (outNum o)).jobs.find? (·.inline) = some x ∧ x.frame = none ∧ (o = .disp)) ∧
  (∃ (s : State) (o : IspOut) (x : OutJob),
    s.live ∧ (s.ispOut (outNum o)).jobs.find? (·.inline) = some x ∧ x.frame = none ∧ (o = .code)) ∧
  (∃ (s : State) (o : IspOut) (x : OutJob),
    s.live ∧ (s.ispOut (outNum o)).jobs.find? (·.inline) = some x ∧ x.frame = none ∧ (o = .vis)) ∧
  (∃ (s : State) (x : OutJob) (f : Frame) (l rest : List Frame),
    s.live ∧ (s.ispOut 1).jobs.find? (·.inline) = some x ∧ x.frame = some f.num ∧ s.csch.frames = l ++ f :: rest ∧
    (∀ e ∈ l ++ rest, e.num ≠ f.num) ∧ f.endT = none ∧ (f.dispatched = false)) ∧
  (∃ (s : State) (x : OutJob) (f : Frame) (l rest : List Frame),
    s.live ∧ (s.ispOut 1).jobs.find? (·.inline) = some x ∧ x.frame = some f.num ∧ s.csch.frames = l ++ f :: rest ∧
    (∀ e ∈ l ++ rest, e.num ≠ f.num) ∧ f.endT = none ∧ (f.dispatched = true)) :=
  ⟨⟨up, 1, by decide⟩,
   ⟨{ up.put ISP.STS_STATE 2 with isp := { pass := some (1, 2) }, csis := [(1, { full := [(2, 5)] })] }, 1, by decide⟩,
   ⟨up.put ISP.STS_STATE 2, 1, by decide⟩,
   ⟨{ (((up.put ISP.STS_STATE 2).putA ISP.OUTSRC_DISP 1).putA ISP.OUTSRC_VIS 1) with csis := [(1, { start := true, stamp := 77 })] }, 1, 0, List.replicate 256 0, by decide⟩,
   ⟨visOk [], 1, 2, List.replicate 256 0, by decide⟩,
   ⟨{ visOk [] with isp := { outs := [(2, { jobs := [⟨1, true, 0, 8, none, 0, 0, [1], []⟩] })] } }, 1, 2, List.replicate 256 0, by decide⟩,
   ⟨{ (up.put ISP.STS_STATE 2).putA ISP.OUTSRC_CODE 1 with csis := [(1, { start := true, stamp := 77 })] }, 1, 1, List.replicate 256 0, by decide⟩,
   ⟨visOk [(0x500A, 4)], 1, 2, List.replicate 10 0 ++ [4] ++ List.replicate 245 0, by decide⟩,
   ⟨{ ((up.puts [(ISP.STS_STATE, 2), (HDR.PENDING Page.isp.base, 1), (ISP.CROP0_X 1, 5)]).putA (ISP.CROP0_X 1) 7) with csis := [(1, { start := true, stamp := 77 })], sys := { up.sys with points := [(Page.isp.base, 1)] }, mtime := 0x123456789A }, 1, by decide⟩,
   ⟨{ up.puts [(ISP.STS_STATE, 2), (HDR.PENDING Page.isp.base, 1), (ISP.OUTSRC_DISP, 2)] with csis := [(1, { full := [(2, 50)] })], sys := { up.sys with points := [(Page.isp.base, 1)] } }, 1, by decide⟩,
   ⟨linkUp { frame7 9 with ring := 5, started := false, linked := true, surf := 1 }, 1, List.replicate 256 0, { frame7 9 with ring := 5, started := false, linked := true, surf := 1 }, [{ frame7 9 with num := 3, ring := 4, linked := true }], [], by decide⟩,
   ⟨linkUp { frame7 9 with ring := 5, started := false, linked := true, bound := true, surf := 1 }, 1, List.replicate 256 0, { frame7 9 with ring := 5, started := false, linked := true, bound := true, surf := 1 }, [{ frame7 9 with num := 3, ring := 4, linked := true }], [], by decide⟩,
   ⟨{ (up.put ISP.STS_STATE 2).putA ISP.OUTSRC_DISP 1 with csis := [(1, { full := [(2, 50)] }), (2, { full := [(0, 51)] })] }, 1, 2, 50, by decide⟩,
   ⟨{ up with csis := [(1, { full := [(2, 50)] })], isp := { pass := some (1, 2), outs := [(0, { jobs := [⟨1, true, 0, 8, none, 0, 0, [1], []⟩] })] } }, 1, 2, by decide⟩,
   ⟨{ up with csis := [(1, { full := [(2, 50)] })], isp := { pass := some (1, 2), outs := [(0, { jobs := [⟨1, false, 2, 8, none, 0, 0, [1], []⟩] })] } }, 1, 2, by decide⟩,
   ⟨{ (up.putA ISP.DCFG_BASE 7).putA ISP.DCFG_NSURF 2 with isp := { outs := [(0, { jobs := [⟨1, false, 0, 5, none, 2, 9, [1], []⟩], pos := 2 })] } }, .disp, 0, ⟨1, false, 0, 5, none, 2, 9, [1], []⟩, [], by decide⟩,
   ⟨{ up.putA ISP.CCFG_BASE 7 with isp := { outs := [(1, { jobs := [⟨1, false, 0, 5, none, 0, 7, [1], []⟩] })] } }, .code, 0, ⟨1, false, 0, 5, none, 0, 7, [1], []⟩, [], by decide⟩,
   ⟨{ up.putA ISP.VCFG_NBUF 3 with isp := { outs := [(2, { jobs := [⟨1, false, 0, 0x0000123456789ABC, none, 2, 0, [1], [0, 0, 8, 8, 2, 2, 0, 0, 64]⟩, ⟨1, true, 0, 6, none, 3, 0, [1], []⟩] })] } }, .vis, 0, ⟨1, false, 0, 0x0000123456789ABC, none, 2, 0, [1], [0, 0, 8, 8, 2, 2, 0, 0, 64]⟩, [⟨1, true, 0, 6, none, 3, 0, [1], []⟩], by decide⟩,
   ⟨{ up.puts [(CSI.STS_STATE 1, 2), (CSI.SIZE_HEIGHT 1, 64)] with csis := [(1, { dest := 1, stamp := 5 })], isp := { outs := [(1, { jobs := [⟨1, true, 0, 5, none, 0, 7, [1], []⟩] })] } }, .code, 0, ⟨1, true, 0, 5, none, 0, 7, [1], []⟩, [], by decide⟩,
   ⟨up, .vis, 0, by decide⟩,
   ⟨{ up with isp := { outs := [(0, { jobs := [⟨1, false, 0, 4, none, 0, 7, [1], []⟩, ⟨1, true, 0, 5, none, 1, 7, [1], []⟩] })] } }, .disp, ⟨1, true, 0, 5, none, 1, 7, [1], []⟩, by decide⟩,
   ⟨{ up with isp := { outs := [(1, { jobs := [⟨1, true, 0, 5, none, 1, 7, [1], []⟩] })] } }, .code, ⟨1, true, 0, 5, none, 1, 7, [1], []⟩, by decide⟩,
   ⟨{ up with isp := { outs := [(2, { jobs := [⟨1, true, 0, 5, none, 1, 7, [1], []⟩] })] } }, .vis, ⟨1, true, 0, 5, none, 1, 7, [1], []⟩, by decide⟩,
   ⟨{ up with isp := { outs := [(1, { jobs := [⟨1, true, 0, 5, some 7, 1, 7, [1], []⟩] })] }, csch := { frames := [{ frame7 9 with num := 3 }, { frame7 9 with linked := true, bound := true }] } }, ⟨1, true, 0, 5, some 7, 1, 7, [1], []⟩, { frame7 9 with linked := true, bound := true }, [{ frame7 9 with num := 3 }], [], by decide⟩,
   ⟨{ up with mtime := 5, isp := { outs := [(1, { jobs := [⟨1, true, 0, 5, some 7, 1, 7, [1], []⟩] })] }, csch := { frames := [{ frame7 9 with dispatched := true, linked := true, bound := true, strips := [{ first := 0, count := 8, samples := 9, st := 1 }, { first := 8, count := 8, samples := 9 }] }] } }, ⟨1, true, 0, 5, some 7, 1, 7, [1], []⟩, { frame7 9 with dispatched := true, linked := true, bound := true, strips := [{ first := 0, count := 8, samples := 9, st := 1 }, { first := 8, count := 8, samples := 9 }] }, [], [], by decide⟩⟩

theorem regionBoxesEnterAndExpire_met :
  (∃ (s : State) (d : W32),
    s.live ∧ s.answers .visr ∧ (d.toNat % 2 ^ (VISR.RQTAIL_I).w < 2 ^ s.get VISR.RQCFG_SIZE)) ∧
  (∃ (s : State) (d : W32),
    s.live ∧ s.answers .visr ∧ (2 ^ s.get VISR.RQCFG_SIZE ≤ d.toNat % 2 ^ (VISR.RQTAIL_I).w)) ∧
  (∃ (s : State) (b : List Byte),
    s.live ∧ b = s.dramRead (s.get VISR.RQBASEL_A + 2 ^ 32 * s.get VISR.RQBASEH_A + 32 * s.get VISR.RQHEAD_I) 32 ∧
    s.get VISR.CTL_EN = 1 ∧ s.get VISR.RQHEAD_I ≠ s.get VISR.RQTAIL_I) ∧
  (∃ (s : State) (b : List Byte),
    s.live ∧ b = s.dramRead (s.get VISR.RQBASEL_A + 2 ^ 32 * s.get VISR.RQBASEH_A + 32 * s.get VISR.RQHEAD_I) 32 ∧
    (s.get VISR.CTL_EN ≠ 1 ∨ s.get VISR.RQHEAD_I = s.get VISR.RQTAIL_I)) ∧
  (∃ (s : State) (b : List Byte),
    s.live ∧ b = s.dramRead (s.get VISR.RQBASEL_A + 2 ^ 32 * s.get VISR.RQBASEH_A + 32 * s.get VISR.RQHEAD_I) 32 ∧
    s.get VISR.CTL_EN = 1 ∧ s.get VISR.RQHEAD_I ≠ s.get VISR.RQTAIL_I) ∧
  (∃ (s : State) (b : List Byte),
    s.live ∧ b = s.dramRead (s.get VISR.RQBASEL_A + 2 ^ 32 * s.get VISR.RQBASEH_A + 32 * s.get VISR.RQHEAD_I) 32 ∧
    s.get VISR.CTL_EN = 1 ∧ s.get VISR.RQHEAD_I ≠ s.get VISR.RQTAIL_I) ∧
  (∃ (s : State) (b : List Byte),
    s.live ∧ b = s.dramRead (s.get VISR.RQBASEL_A + 2 ^ 32 * s.get VISR.RQBASEH_A + 32 * s.get VISR.RQHEAD_I) 32 ∧
    s.get VISR.CTL_EN = 1 ∧ s.get VISR.RQHEAD_I ≠ s.get VISR.RQTAIL_I) ∧
  (∃ (s : State) (b : List Byte),
    s.live ∧ b = s.dramRead (s.get VISR.RQBASEL_A + 2 ^ 32 * s.get VISR.RQBASEH_A + 32 * s.get VISR.RQHEAD_I) 32 ∧
    s.get VISR.CTL_EN = 1 ∧ s.get VISR.RQHEAD_I ≠ s.get VISR.RQTAIL_I) ∧
  (∃ (s : State) (b : List Byte),
    s.live ∧ b = s.dramRead (s.get VISR.RQBASEL_A + 2 ^ 32 * s.get VISR.RQBASEH_A + 32 * s.get VISR.RQHEAD_I) 32 ∧
    s.get VISR.CTL_EN = 1 ∧ s.get VISR.RQHEAD_I ≠ s.get VISR.RQTAIL_I) ∧
  (∃ (s : State),
    s.live) :=
  ⟨⟨up.put VISR.RQCFG_SIZE 4, 15, by decide⟩,
   ⟨up.put VISR.RQCFG_SIZE 4, 16, by decide⟩,
   ⟨boxes 0 [], (boxes 0 []).dramRead 0x11E0 32, by decide⟩,
   ⟨(boxes 0 []).put VISR.RQTAIL_I 15, (boxes 0 []).dramRead 0x11E0 32, by decide⟩,
   ⟨boxes 1 [⟨0, 0, 0, 0, 0, 0, 0, 0, 9, 0⟩, ⟨0, 0, 0, 0, 0, 0, 0, 0, 8, 0⟩], (boxes 1 []).dramRead 0x11E0 32, by decide⟩,
   ⟨boxes 1 [⟨0, 0, 0, 0, 0, 0, 0, 0, 8, 0⟩], (boxes 1 []).dramRead 0x11E0 32, by decide⟩,
   ⟨boxes 0 [⟨0, 0, 0, 0, 0, 0, 0, 0, 9, 0⟩, ⟨0, 0, 0, 0, 0, 0, 0, 0, 8, 0⟩], (boxes 0 []).dramRead 0x11E0 32, by decide⟩,
   ⟨boxes 2 [], (boxes 2 []).dramRead 0x11E0 32, by decide⟩,
   ⟨boxes 0 (List.replicate 64 ⟨0, 0, 0, 0, 0, 0, 0, 0, 8, 0⟩), (boxes 0 []).dramRead 0x11E0 32, by decide⟩,
   ⟨{ up.put VISR.RQCFG_EXPIRE 1 with mtime := 98310, visr := { boxes := [⟨5, 0, 0, 0, 0, 0, 0, 0, 9, 0⟩, ⟨6, 0, 0, 0, 0, 0, 0, 0, 8, 0⟩] } }, by decide⟩⟩

theorem hdmiInputLocksReceivesAndAuthenticates_met :
  (∃ (s : State) (r : Fin 6),
    s.live ∧ s.get HRX.STS_STATE = 2 ∧ r.val ≤ s.get HRX.CFG_FRLMAX) ∧
  (∃ (s : State) (r : Fin 6),
    s.live ∧ s.get HRX.STS_STATE = 2 ∧ r.val ≤ s.get HRX.CFG_FRLMAX) ∧
  (∃ (s : State) (r : Fin 6),
    s.live ∧ (s.get HRX.STS_STATE ≠ 2 ∨ s.get HRX.CFG_FRLMAX < r.val)) ∧
  (∃ (s : State),
    s.live ∧ (3 ≤ s.get HRX.STS_STATE)) ∧
  (∃ (s : State),
    s.live ∧ (s.get HRX.STS_STATE < 3)) ∧
  (∃ (s : State) (f : HdmiFrame) (pitch base cx cy : Nat),
    s.live ∧ pitch = (4 * f.hact + 63) / 64 * 64 ∧
    base = s.get HRX.FBADDRL_A + 2 ^ 32 * s.get HRX.FBADDRH_A + s.hrx.nextBuf * s.get HRX.FBSTRIDE_N ∧
    (cx = (if 2 ≤ f.samp then 2 else 1)) ∧ (cy = (if f.samp = 3 then 2 else 1)) ∧ 3 ≤ s.get HRX.STS_STATE ∧
    frameSupported f s = true) ∧
  (∃ (s : State) (f : HdmiFrame) (pitch base cx cy : Nat),
    s.live ∧ pitch = (4 * f.hact + 63) / 64 * 64 ∧
    base = s.get HRX.FBADDRL_A + 2 ^ 32 * s.get HRX.FBADDRH_A + s.hrx.nextBuf * s.get HRX.FBSTRIDE_N ∧
    (cx = (if 2 ≤ f.samp then 2 else 1)) ∧ (cy = (if f.samp = 3 then 2 else 1)) ∧ 3 ≤ s.get HRX.STS_STATE ∧
    frameSupported f s = true) ∧
  (∃ (s : State) (f : HdmiFrame) (pitch base cx cy : Nat),
    s.live ∧ pitch = (4 * f.hact + 63) / 64 * 64 ∧
    base = s.get HRX.FBADDRL_A + 2 ^ 32 * s.get HRX.FBADDRH_A + s.hrx.nextBuf * s.get HRX.FBSTRIDE_N ∧
    (cx = (if 2 ≤ f.samp then 2 else 1)) ∧ (cy = (if f.samp = 3 then 2 else 1)) ∧ 3 ≤ s.get HRX.STS_STATE ∧
    frameSupported f s = true) ∧
  (∃ (s : State) (f : HdmiFrame) (pitch base cx cy : Nat),
    s.live ∧ pitch = (4 * f.hact + 63) / 64 * 64 ∧
    base = s.get HRX.FBADDRL_A + 2 ^ 32 * s.get HRX.FBADDRH_A + s.hrx.nextBuf * s.get HRX.FBSTRIDE_N ∧
    (cx = (if 2 ≤ f.samp then 2 else 1)) ∧ (cy = (if f.samp = 3 then 2 else 1)) ∧ 3 ≤ s.get HRX.STS_STATE ∧
    frameSupported f s = true) ∧
  (∃ (s : State) (f : HdmiFrame) (pitch base cx cy : Nat),
    s.live ∧ pitch = (4 * f.hact + 63) / 64 * 64 ∧
    base = s.get HRX.FBADDRL_A + 2 ^ 32 * s.get HRX.FBADDRH_A + s.hrx.nextBuf * s.get HRX.FBSTRIDE_N ∧
    (cx = (if 2 ≤ f.samp then 2 else 1)) ∧ (cy = (if f.samp = 3 then 2 else 1)) ∧
    (s.get HRX.STS_STATE < 3 ∨ frameSupported f s = false)) ∧
  (∃ (s : State),
    s.live ∧ (s.answers .hrx)) ∧
  (∃ (s : State) (ver devcnt : Nat) (type1 : Bool),
    s.live ∧ s.get HTX.STS_STATE = 4 ∧ s.get HTX.HDCPCTL_EN = 1 ∧ 1 ≤ ver ∧ ver ≤ 2 ∧ 3 ≤ s.get HRX.STS_STATE ∧
    (s.get HTX.HDCPSTS_AUTH = 1 ∨ s.htx.noHdcp = true) ∧ (ver = 2 ∨ (ver = 1 ∧ s.get HRX.STS_STATE = 3))) ∧
  (∃ (s : State) (ver devcnt : Nat) (type1 : Bool),
    s.live ∧ s.get HTX.STS_STATE = 4 ∧ s.get HTX.HDCPCTL_EN = 1 ∧ 1 ≤ ver ∧ ver ≤ 2 ∧
    (s.get HRX.STS_STATE < 3 ∨ (s.get HTX.HDCPSTS_AUTH ≠ 1 ∧ s.htx.noHdcp = false) ∨ (ver = 1 ∧ s.get HRX.STS_STATE = 4))) ∧
  (∃ (s : State) (ver devcnt : Nat) (type1 : Bool),
    s.live ∧ (s.get HTX.STS_STATE ≠ 4 ∨ s.get HTX.HDCPCTL_EN ≠ 1) ∧
    (s.get HRX.STS_STATE < 3 ∨ (s.get HTX.HDCPSTS_AUTH ≠ 1 ∧ s.htx.noHdcp = false) ∨ (ver = 1 ∧ s.get HRX.STS_STATE = 4))) ∧
  (∃ (s : State) (ver devcnt : Nat) (type1 : Bool),
    s.live ∧ (s.get HTX.STS_STATE ≠ 4 ∨ s.get HTX.HDCPCTL_EN ≠ 1) ∧
    (s.get HRX.STS_STATE < 3 ∨ (s.get HTX.HDCPSTS_AUTH ≠ 1 ∧ s.htx.noHdcp = false) ∨ (ver = 1 ∧ s.get HRX.STS_STATE = 4))) ∧
  (∃ (s : State),
    s.live ∧ (s.get HRX.HDCPSTS_AUTH = 1) ∧ (s.get HTX.HDCPSTS_AUTH = 1)) ∧
  (∃ (s : State),
    s.live ∧ (s.get HRX.HDCPSTS_AUTH ≠ 1) ∧ (s.get HTX.HDCPSTS_AUTH ≠ 1)) :=
  ⟨⟨up.put HRX.STS_STATE 2, 0, by decide⟩,
   ⟨{ up.puts [(HRX.STS_STATE, 2), (HRX.CFG_FRLMAX, 3), (HTX.STS_STATE, 4), (HTX.CFG_MODE, 0), (HTX.CFG_MUTEF, 5)] with hrx := { up.hrx with lostOnce := true } }, 3, by decide⟩,
   ⟨up.puts [(HRX.STS_STATE, 2), (HRX.CFG_FRLMAX, 3)], 4, by decide⟩,
   ⟨{ up.puts [(HRX.STS_STATE, 4), (HRX.HDCPSTS_AUTH, 1), (APORT.SRCSTS_HRX, 0x81)] with comp := { up.comp with plane0 := .hrx } }, by decide⟩,
   ⟨up.put HRX.STS_STATE 2, by decide⟩,
   ⟨up.puts [(HRX.STS_STATE, 4), (HRX.CFG_FB, 1), (HRX.FBADDRL_A, 0x100), (HRX.FBSTRIDE_N, 128)] |> fun u => { u with hrx := { u.hrx with nextBuf := 2 } }, ⟨2, 2, 5, 6, 7, true, false, 2, 3, [[0xFFF, 1, 2, 3], [5], [9]]⟩, 64, 0x200, 2, 2, by decide⟩,
   ⟨up.puts [(HRX.STS_STATE, 4), (HRX.CFG_FB, 1), (HRX.FBADDRL_A, 0x100), (HRX.FBSTRIDE_N, 64)], ⟨2, 2, 5, 6, 7, true, false, 1, 1, [[1, 2, 3, 4], [0, 0, 0, 0], [0, 0, 0, 0]]⟩, 64, 0x100, 1, 1, by decide⟩,
   ⟨up.puts [(HRX.STS_STATE, 4), (HRX.CFG_FB, 1), (HRX.FBADDRL_A, 0x100), (HRX.FBSTRIDE_N, 128)], ⟨2, 3, 5, 6, 7, true, false, 0, 2, [[1, 2, 3, 4, 5, 255], [7, 8, 9, 10], [0, 1, 0, 0]]⟩, 64, 0x100, 2, 1, by decide⟩,
   ⟨up.puts [(HRX.STS_STATE, 3)], ⟨4, 16, 1125, 2200, 1638400, true, false, 0, 0, []⟩, 64, 0, 1, 1, by decide⟩,
   ⟨up.puts [(HRX.STS_STATE, 2), (HRX.FBADDRL_A, 0x100)], ⟨1, 1, 5, 6, 7, true, false, 1, 1, [[1]]⟩, 64, 0x100, 1, 1, by decide⟩,
   ⟨{ up.put HRX.HPD_PULSE 1 with mtime := 19660805, hrx := { up.hrx with pulse := some 5, lanes := true } }, by decide⟩,
   ⟨up.puts [(HTX.STS_STATE, 4), (HTX.HDCPCTL_EN, 1), (HRX.STS_STATE, 3), (HRX.FMT_ENC, 1), (HTX.HDCPSTS_AUTH, 1)], 2, 3, true, by decide⟩,
   ⟨{ up.puts [(HTX.STS_STATE, 4), (HTX.HDCPCTL_EN, 1), (COMP.STS_STATE, 2), (HRX.STS_STATE, 3), (HRX.FMT_TYPE1, 1)] with comp := { up.comp with plane0 := .hrx } }, 2, 3, false, by decide⟩,
   ⟨up.puts [(HRX.STS_STATE, 4), (HTX.HDCPSTS_AUTH, 1)], 1, 3, true, by decide⟩,
   ⟨up.puts [(HTX.STS_STATE, 3), (HTX.HDCPCTL_EN, 1), (HRX.STS_STATE, 3)], 1, 3, true, by decide⟩,
   ⟨{ up.puts [(HTX.STS_STATE, 4), (HTX.HDCPSTS_AUTH, 1), (COMP.STS_STATE, 2), (HRX.HDCPSTS_AUTH, 1)] with comp := { up.comp with plane0 := .hrx } }, by decide⟩,
   ⟨up, by decide⟩⟩

theorem hdmiOutputTrainsComposesAndMutes_met :
  (∃ (s : State) (high : Bool),
    s.sys.tvHpd ≠ high ∧ s.sys.coreUp = true ∧ s.held .htx = false) ∧
  (∃ (s : State) (high : Bool),
    s.sys.tvHpd ≠ high ∧ s.sys.coreUp = true ∧ s.held .htx = false) ∧
  (∃ (s : State) (high : Bool),
    s.sys.tvHpd ≠ high ∧ s.sys.coreUp = false) ∧
  (∃ (s : State) (high : Bool),
    (s.sys.tvHpd = high)) ∧
  (∃ (s : State) (tv : Fin 6) (trained : List (Fin 6)) (m : Nat) (q : Fin 6),
    s.live ∧ m = min tv.val (s.get HTX.LINK_FRLMAX) ∧ s.get HTX.STS_STATE = 3 ∧
    ((m = 0 ∧ q = 0) ∨ (q ≠ 0 ∧ q.val ≤ m ∧ q ∈ trained ∧ ∀ r ∈ trained, r.val ≤ m → r ≤ q))) ∧
  (∃ (s : State) (tv : Fin 6) (trained : List (Fin 6)) (m : Nat) (q : Fin 6),
    s.live ∧ m = min tv.val (s.get HTX.LINK_FRLMAX) ∧ s.get HTX.STS_STATE = 3 ∧
    ((m = 0 ∧ q = 0) ∨ (q ≠ 0 ∧ q.val ≤ m ∧ q ∈ trained ∧ ∀ r ∈ trained, r.val ≤ m → r ≤ q))) ∧
  (∃ (s : State) (tv : Fin 6) (trained : List (Fin 6)) (m : Nat) (q : Fin 6),
    s.live ∧ m = min tv.val (s.get HTX.LINK_FRLMAX) ∧ s.get HTX.STS_STATE = 3 ∧ m ≠ 0 ∧
    (∀ r ∈ trained, r = 0 ∨ m < r.val)) ∧
  (∃ (s : State) (tv : Fin 6) (trained : List (Fin 6)) (m : Nat) (q : Fin 6),
    s.live ∧ m = min tv.val (s.get HTX.LINK_FRLMAX) ∧ s.get HTX.STS_STATE = 3 ∧
    ((m = 0 ∧ q = 0) ∨ (q ≠ 0 ∧ q.val ≤ m ∧ q ∈ trained ∧ ∀ r ∈ trained, r.val ≤ m → r ≤ q))) ∧
  (∃ (s : State) (tv : Fin 6) (trained : List (Fin 6)) (m : Nat) (q : Fin 6),
    s.live ∧ m = min tv.val (s.get HTX.LINK_FRLMAX) ∧ (s.get HTX.STS_STATE ≠ 3)) ∧
  (∃ (s : State),
    s.live ∧ s.get HTX.STS_STATE = 4 ∧ (s.get HTX.CFG_MODE = 0 ∨ s.get PRS.STS_STATE < 2 ∨ nearTooth s = true)) ∧
  (∃ (s : State),
    s.live ∧ s.get HTX.STS_STATE = 4 ∧ (s.get HTX.CFG_MODE = 0 ∨ s.get PRS.STS_STATE < 2 ∨ nearTooth s = true)) ∧
  (∃ (s : State),
    s.live ∧ s.get HTX.STS_STATE = 4 ∧ (s.get HTX.CFG_MODE = 0 ∨ s.get PRS.STS_STATE < 2 ∨ nearTooth s = true)) ∧
  (∃ (s : State),
    s.live ∧ s.get HTX.STS_STATE = 4 ∧ (s.get HTX.CFG_MODE = 0 ∨ s.get PRS.STS_STATE < 2 ∨ nearTooth s = true)) ∧
  (∃ (s : State),
    s.live ∧ (s.get HTX.STS_STATE ≠ 4 ∨ (s.get HTX.CFG_MODE ≠ 0 ∧ 2 ≤ s.get PRS.STS_STATE ∧ nearTooth s = false))) ∧
  (∃ (s : State),
    s.live ∧ (s.get HTX.STS_STATE ≠ 4 ∨ (s.get HTX.CFG_MODE ≠ 0 ∧ 2 ≤ s.get PRS.STS_STATE ∧ nearTooth s = false))) ∧
  (∃ (s : State),
    s.live ∧ s.get HTX.STS_STATE = 4 ∧ s.get COMP.STS_STATE = 2 ∧ awaits s .comp 1 = false ∧ edgeDue s = true ∧
    s.getA (COMP.PCFG_EN 0) ≠ 0 ∧ 3 ≤ s.get HRX.STS_STATE ∧ s.get HTX.CFG_MODE = 0 ∧ hdcpBlocks s = true ∧
    (s.get HTX.CFG_MODE = 0)) ∧
  (∃ (s : State),
    s.live ∧ s.get HTX.STS_STATE = 4 ∧ s.get COMP.STS_STATE = 2 ∧ awaits s .comp 1 = false ∧ edgeDue s = true ∧
    s.getA (COMP.PCFG_EN 0) ≠ 0 ∧ 3 ≤ s.get HRX.STS_STATE ∧ s.get HTX.CFG_MODE = 0 ∧ hdcpBlocks s = false ∧
    (s.get HTX.CFG_MODE = 0)) ∧
  (∃ (s : State),
    s.live ∧ s.get HTX.STS_STATE = 4 ∧ s.get COMP.STS_STATE = 2 ∧ awaits s .comp 1 = false ∧ edgeDue s = true ∧
    s.get HTX.CFG_MODE ≠ 0 ∧ s.hrx.done ≠ 0) ∧
  (∃ (s : State),
    s.live ∧ s.get HTX.STS_STATE = 4 ∧ s.get COMP.STS_STATE = 2 ∧ awaits s .comp 1 = false ∧ edgeDue s = true ∧
    s.getA (COMP.PCFG_EN 0) ≠ 0 ∧ s.get HRX.STS_STATE < 3 ∧ (s.get HTX.CFG_MODE = 0)) ∧
  (∃ (s : State),
    s.live ∧ s.get HTX.STS_STATE = 4 ∧ s.get COMP.STS_STATE = 2 ∧ awaits s .comp 1 = false ∧ edgeDue s = true ∧
    s.get HTX.CFG_MODE ≠ 0 ∧ s.hrx.done = 0) ∧
  (∃ (s : State),
    s.live ∧ s.get HTX.STS_STATE = 4 ∧ s.get COMP.STS_STATE = 2 ∧ awaits s .comp 1 = false ∧ edgeDue s = true ∧
    s.get HTX.CFG_MODE ≠ 0 ∧ s.hrx.done ≠ 0) ∧
  (∃ (s : State) (k w h : Nat),
    s.live ∧ s.get HTX.STS_STATE = 4 ∧ s.get HTX.CFG_MODE = 0 ∧ s.htx.timing.1 ≠ 0 ∧ s.get COMP.STS_STATE = 2 ∧
    awaits s .comp 1 = false ∧ s.comp.swaps = [] ∧ (k = 1 ∨ k = 2 ∨ k = 3) ∧ s.getA (COMP.PCFG_EN k) = 1 ∧
    (∀ j ∈ [1, 2, 3], j ≠ k → s.getA (COMP.PCFG_EN j) = 0) ∧ w = s.getA (COMP.PSIZE_W k) ∧
    h = s.getA (COMP.PSIZE_H k) ∧ s.getA (COMP.PPOS_X k) + w ≤ s.htx.timing.2.1 ∧
    s.getA (COMP.PPOS_Y k) + h ≤ s.htx.timing.2.2.2 ∧
    (k = 3 → s.get (COMP.PCUR_V 3) % 64 = 0 ∧ s.getA (COMP.PPITCH_N 3) % 64 = 0) ∧
    (k ≠ 3 → ∃ f ∈ planeSurface s k, f.w ≤ 4 * w ∧ w ≤ 4 * f.w ∧ f.h ≤ 4 * h ∧ h ≤ 4 * f.h)) ∧
  (∃ (s : State) (k w h : Nat),
    s.live ∧ s.get HTX.STS_STATE = 4 ∧ s.get HTX.CFG_MODE = 0 ∧ s.htx.timing.1 ≠ 0 ∧ s.get COMP.STS_STATE = 2 ∧
    awaits s .comp 1 = false ∧ s.comp.swaps = [] ∧ (k = 1 ∨ k = 2 ∨ k = 3) ∧ s.getA (COMP.PCFG_EN k) = 1 ∧
    (∀ j ∈ [1, 2, 3], j ≠ k → s.getA (COMP.PCFG_EN j) = 0) ∧ w = s.getA (COMP.PSIZE_W k) ∧
    h = s.getA (COMP.PSIZE_H k) ∧
    (s.htx.timing.2.1 < s.getA (COMP.PPOS_X k) + w ∨ s.htx.timing.2.2.2 < s.getA (COMP.PPOS_Y k) + h ∨ (k = 3 ∧ (s.get (COMP.PCUR_V 3) % 64 ≠ 0 ∨ s.getA (COMP.PPITCH_N 3) % 64 ≠ 0)) ∨ (k ≠ 3 ∧ ∀ f ∈ planeSurface s k, 4 * w < f.w ∨ 4 * f.w < w ∨ 4 * h < f.h ∨ 4 * f.h < h))) ∧
  (∃ (s : State) (k w h : Nat),
    s.live ∧ s.get HTX.STS_STATE = 4 ∧ s.get HTX.CFG_MODE = 0 ∧ s.htx.timing.1 ≠ 0 ∧ s.get COMP.STS_STATE = 2 ∧
    awaits s .comp 1 = false ∧ s.comp.swaps = [] ∧ (k = 1 ∨ k = 2 ∨ k = 3) ∧ s.getA (COMP.PCFG_EN k) = 1 ∧
    (∀ j ∈ [1, 2, 3], j ≠ k → s.getA (COMP.PCFG_EN j) = 0) ∧ w = s.getA (COMP.PSIZE_W k) ∧
    h = s.getA (COMP.PSIZE_H k) ∧
    (s.htx.timing.2.1 < s.getA (COMP.PPOS_X k) + w ∨ s.htx.timing.2.2.2 < s.getA (COMP.PPOS_Y k) + h ∨ (k = 3 ∧ (s.get (COMP.PCUR_V 3) % 64 ≠ 0 ∨ s.getA (COMP.PPITCH_N 3) % 64 ≠ 0)) ∨ (k ≠ 3 ∧ ∀ f ∈ planeSurface s k, 4 * w < f.w ∨ 4 * f.w < w ∨ 4 * h < f.h ∨ 4 * f.h < h))) ∧
  (∃ (s : State) (k w h : Nat),
    s.live ∧ s.get HTX.STS_STATE = 4 ∧ s.get HTX.CFG_MODE = 0 ∧ s.htx.timing.1 ≠ 0 ∧ s.get COMP.STS_STATE = 2 ∧
    awaits s .comp 1 = false ∧ s.comp.swaps = [] ∧ (k = 1 ∨ k = 2 ∨ k = 3) ∧ s.getA (COMP.PCFG_EN k) = 1 ∧
    (∀ j ∈ [1, 2, 3], j ≠ k → s.getA (COMP.PCFG_EN j) = 0) ∧ w = s.getA (COMP.PSIZE_W k) ∧
    h = s.getA (COMP.PSIZE_H k) ∧ s.getA (COMP.PPOS_X k) + w ≤ s.htx.timing.2.1 ∧
    s.getA (COMP.PPOS_Y k) + h ≤ s.htx.timing.2.2.2 ∧
    (k = 3 → s.get (COMP.PCUR_V 3) % 64 = 0 ∧ s.getA (COMP.PPITCH_N 3) % 64 = 0) ∧
    (k ≠ 3 → ∃ f ∈ planeSurface s k, f.w ≤ 4 * w ∧ w ≤ 4 * f.w ∧ f.h ≤ 4 * h ∧ h ≤ 4 * f.h)) ∧
  (∃ (s : State) (k w h : Nat),
    s.live ∧ s.get HTX.STS_STATE = 4 ∧ s.get HTX.CFG_MODE = 0 ∧ s.htx.timing.1 ≠ 0 ∧ s.get COMP.STS_STATE = 2 ∧
    awaits s .comp 1 = false ∧ s.comp.swaps = [] ∧ (k = 1 ∨ k = 2 ∨ k = 3) ∧ s.getA (COMP.PCFG_EN k) = 1 ∧
    (∀ j ∈ [1, 2, 3], j ≠ k → s.getA (COMP.PCFG_EN j) = 0) ∧ w = s.getA (COMP.PSIZE_W k) ∧
    h = s.getA (COMP.PSIZE_H k) ∧
    (s.htx.timing.2.1 < s.getA (COMP.PPOS_X k) + w ∨ s.htx.timing.2.2.2 < s.getA (COMP.PPOS_Y k) + h ∨ (k = 3 ∧ (s.get (COMP.PCUR_V 3) % 64 ≠ 0 ∨ s.getA (COMP.PPITCH_N 3) % 64 ≠ 0)) ∨ (k ≠ 3 ∧ ∀ f ∈ planeSurface s k, 4 * w < f.w ∨ 4 * f.w < w ∨ 4 * h < f.h ∨ 4 * f.h < h))) ∧
  (∃ (s : State),
    s.live ∧ s.htx.avmute = true ∧ s.get HTX.STS_STATE = 4 ∧ s.get COMP.STS_STATE = 2 ∧ s.comp.black = false ∧
    s.htx.adopt = false ∧ s.htx.muteLeft = 0 ∧
    (s.comp.underflowed = true → max 1 (s.get COMP.UNMUTEF_N) ≤ s.comp.clean)) ∧
  (∃ (s : State),
    s.live ∧ s.htx.avmute = true ∧ s.get HTX.STS_STATE = 4 ∧ s.get COMP.STS_STATE = 2 ∧ s.comp.black = false ∧
    s.htx.adopt = false ∧
    ((s.htx.muteLeft ≠ 0 ∨ (s.comp.underflowed = true ∧ s.comp.clean < max 1 (s.get COMP.UNMUTEF_N))))) ∧
  (∃ (s : State),
    s.live ∧
    ((s.get COMP.STS_STATE = 2 ∧ s.get HTX.STS_STATE = 4 ∧ s.comp.black = false ∧ (s.comp.shown ≠ [] ∨ ∃ k : Fin 3, s.comp.plane0 = .buffer k)))) ∧
  (∃ (s : State),
    s.live ∧
    ((s.get COMP.STS_STATE = 2 ∧ s.get HTX.STS_STATE = 4 ∧ s.comp.black = false ∧ (s.comp.shown ≠ [] ∨ ∃ k : Fin 3, s.comp.plane0 = .buffer k)))) ∧
  (∃ (s : State),
    s.live ∧
    (s.get COMP.STS_STATE ≠ 2 ∨ s.get HTX.STS_STATE ≠ 4 ∨ s.comp.black = true ∨ (s.comp.shown = [] ∧ (s.comp.plane0 = .off ∨ s.comp.plane0 = .bg ∨ s.comp.plane0 = .hrx)))) ∧
  (∃ (s : State),
    s.live ∧
    (s.get COMP.STS_STATE ≠ 2 ∨ s.get HTX.STS_STATE ≠ 4 ∨ s.comp.black = true ∨ (s.comp.shown = [] ∧ (s.comp.plane0 = .off ∨ s.comp.plane0 = .bg ∨ s.comp.plane0 = .hrx)))) ∧
  (∃ (s : State) (d : W32),
    s.live ∧ (s.answers .comp) ∧ (s.get HTX.DDC_BUSY = 1)) ∧
  (∃ (s : State) (d : W32),
    s.live ∧ (s.answers .comp) ∧ (s.get HTX.DDC_BUSY ≠ 1)) ∧
  (∃ (s : State) (bs : List Byte),
    s.live ∧ s.get HTX.DDC_BUSY = 1) :=
  ⟨⟨up.puts [(HTX.STS_STATE, 2), (EARC.STS_STATE, 1)], true, by decide⟩,
   ⟨{ up.puts [(HTX.STS_STATE, 4), (HTX.HDCPSTS_AUTH, 1), (EARC.STS_STATE, 4), (EARC.FMT_V, 0x81), (APORT.SRCSTS_EARC, 0x81)] with sys := { up.sys with tvHpd := true } }, false, by decide⟩,
   ⟨{ up.puts [(HTX.STS_STATE, 4), (EARC.STS_STATE, 2)] with sys := { up.sys with tvHpd := true, coreUp := false } }, false, by decide⟩,
   ⟨{ up.puts [(HTX.STS_STATE, 4), (EARC.STS_STATE, 2)] with sys := { up.sys with tvHpd := true } }, true, by decide⟩,
   ⟨up.puts [(HTX.STS_STATE, 3), (HTX.LINK_FRLMAX, 5)], 4, [1, 5, 3], 4, 3, by decide⟩,
   ⟨{ up.puts [(HTX.STS_STATE, 3), (COMP.STS_STATE, 2)] with comp := { up.comp with plane0 := .hrx } }, 0, [], 0, 0, by decide⟩,
   ⟨up.puts [(HTX.STS_STATE, 3), (HTX.LINK_FRLMAX, 2)], 4, [3, 4], 2, 0, by decide⟩,
   ⟨up.puts [(HTX.STS_STATE, 3), (HTX.LINK_FRLMAX, 5)], 0, [3, 4], 0, 0, by decide⟩,
   ⟨up.puts [(HTX.STS_STATE, 2), (HTX.LINK_FRLMAX, 0)], 5, [], 0, 0, by decide⟩,
   ⟨{ up.puts [(HTX.STS_STATE, 4), (COMP.STS_STATE, 2), (COMP.PBUF_V 2, 77), (COMP.SWAP_K, 6)] with mtime := 10, comp := { up.comp with swaps := [(3, 10), (2, 9)] } }, by decide⟩,
   ⟨{ (up.puts [(HTX.STS_STATE, 4), (COMP.STS_STATE, 1)]).put (HDR.PENDING Page.comp.base) 1 with sys := { up.sys with points := [(Page.comp.base, 1)] } }, by decide⟩,
   ⟨{ (up.puts [(HTX.STS_STATE, 4), (COMP.CTL_EN, 1), (COMP.STS_STATE, 1)]).put (HDR.PENDING Page.comp.base) 1 with sys := { up.sys with points := [(Page.comp.base, 1)] } }, by decide⟩,
   ⟨{ up.puts [(HTX.STS_STATE, 4), (HTX.CFG_MODE, 1), (PRS.STS_STATE, 4)] with mtime := 900, prs := { up.prs with hasTooth := true, last := 14368, p := 28800 } }, by decide⟩,
   ⟨{ up.puts [(HTX.STS_STATE, 4), (HTX.CFG_MODE, 1), (PRS.STS_STATE, 4)] with mtime := 1000, prs := { up.prs with hasTooth := true, last := 14368, p := 28800 } }, by decide⟩,
   ⟨up.put HTX.STS_STATE 3, by decide⟩,
   ⟨up.puts [(HTX.STS_STATE, 4), (COMP.STS_STATE, 2), (HRX.STS_STATE, 3)] |> fun u => u.putA (COMP.PCFG_EN 0) 1, by decide⟩,
   ⟨up.puts [(HTX.STS_STATE, 4), (COMP.STS_STATE, 2), (HRX.STS_STATE, 3), (HTX.HDCPSTS_AUTH, 1)] |> fun u => u.putA (COMP.PCFG_EN 0) 1, by decide⟩,
   ⟨up.puts [(HTX.STS_STATE, 4), (COMP.STS_STATE, 2), (HRX.STS_STATE, 3), (HTX.CFG_MODE, 1), (HTX.HDCPSTS_AUTH, 1)] |> fun u => { u.putA (COMP.PCFG_EN 0) 1 with hrx := { u.hrx with done := 3, newest := some 1 } }, by decide⟩,
   ⟨up.puts [(HTX.STS_STATE, 4), (COMP.STS_STATE, 2), (HRX.STS_STATE, 2)] |> fun u => u.putA (COMP.PCFG_EN 0) 1, by decide⟩,
   ⟨up.puts [(HTX.STS_STATE, 4), (COMP.STS_STATE, 2), (HRX.STS_STATE, 3), (HTX.CFG_MODE, 1)] |> fun u => u.putA (COMP.PCFG_EN 0) 1, by decide⟩,
   ⟨up.puts [(HTX.STS_STATE, 4), (COMP.STS_STATE, 2), (HTX.CFG_MODE, 1)] |> fun u => { u with hrx := { u.hrx with done := 2, unshown := true } }, by decide⟩,
   ⟨(({ up.puts [(HTX.STS_STATE, 4), (COMP.STS_STATE, 2)] with htx := { up.htx with timing := (800, 640, 525, 480) } }.putA (COMP.PCFG_EN 3) 1).putA (COMP.PSIZE_W 3) 600).putA (COMP.PPOS_X 3) 40, 3, 600, 0, by decide⟩,
   ⟨(({ up.puts [(HTX.STS_STATE, 4), (COMP.STS_STATE, 2)] with htx := { up.htx with timing := (800, 640, 525, 480) } }.putA (COMP.PCFG_EN 3) 1).putA (COMP.PSIZE_W 3) 600).putA (COMP.PPOS_X 3) 41, 3, 600, 0, by decide⟩,
   ⟨({ up.puts [(HTX.STS_STATE, 4), (COMP.STS_STATE, 2)] with htx := { up.htx with timing := (800, 640, 525, 480) } }.putA (COMP.PCFG_EN 2) 1).putA (COMP.PSIZE_W 2) 600, 2, 600, 0, by decide⟩,
   ⟨(({ encDesc 0 with htx := { up.htx with timing := (800, 640, 525, 480) } }.puts [(HTX.STS_STATE, 4), (COMP.STS_STATE, 2), (COMP.PCUR_V 1, 1)]).putA (COMP.PCFG_EN 1) 1).putA (COMP.PSIZE_W 1) 256 |>.putA (COMP.PSIZE_H 1) 16, 1, 256, 16, by decide⟩,
   ⟨(({ encDesc 0 with htx := { up.htx with timing := (800, 640, 525, 480) } }.puts [(HTX.STS_STATE, 4), (COMP.STS_STATE, 2), (COMP.PCUR_V 1, 1)]).putA (COMP.PCFG_EN 1) 1).putA (COMP.PSIZE_W 1) 257 |>.putA (COMP.PSIZE_H 1) 16, 1, 257, 16, by decide⟩,
   ⟨{ up.puts [(HTX.STS_STATE, 4), (COMP.STS_STATE, 2)] with htx := { up.htx with avmute := true }, comp := { up.comp with black := false, underflowed := true, clean := 1 } }, by decide⟩,
   ⟨{ up.puts [(HTX.STS_STATE, 4), (COMP.STS_STATE, 2)] with htx := { up.htx with avmute := true, muteLeft := 1 }, comp := { up.comp with black := false } }, by decide⟩,
   ⟨{ up.puts [(HTX.STS_STATE, 4), (COMP.STS_STATE, 2)] with comp := { up.comp with black := false, shown := [3] } }, by decide⟩,
   ⟨{ up.puts [(HTX.STS_STATE, 4), (COMP.STS_STATE, 2)] with comp := { up.comp with black := false, plane0 := .buffer 2 } }, by decide⟩,
   ⟨{ up.puts [(HTX.STS_STATE, 4), (COMP.STS_STATE, 2)] with comp := { up.comp with black := false, plane0 := .hrx } }, by decide⟩,
   ⟨up, by decide⟩,
   ⟨up.puts [(HTX.DDC_BUSY, 1), (COMP.SWAP_K, 1)], 0xA, by decide⟩,
   ⟨up.puts [(COMP.SWAP_K, 7)], 0xA, by decide⟩,
   ⟨up.put HTX.DDC_BUSY 1, (List.range 128).map (BitVec.ofNat 8), by decide⟩⟩

theorem earcLinksStreamsAndReports_met :
  (∃ (s : State),
    s.kaLive ∧ (s.get EARC.STS_STATE = 2) ∧ (s.get EARC.STS_STATE ≠ 3) ∧ (s.get EARC.STS_STATE < 3)) ∧
  (∃ (s : State),
    s.kaLive ∧ (s.get EARC.STS_STATE ≠ 2) ∧ (s.get EARC.STS_STATE = 3) ∧ (3 ≤ s.get EARC.STS_STATE)) ∧
  (∃ (s : State),
    s.kaLive ∧ (s.get EARC.STS_STATE ≠ 2) ∧ (s.get EARC.STS_STATE ≠ 3) ∧ (3 ≤ s.get EARC.STS_STATE)) ∧
  (∃ (s : State),
    s.live ∧ s.answers .earc ∧ (3 ≤ s.get EARC.STS_STATE)) ∧
  (∃ (s : State),
    s.live ∧ s.answers .earc ∧ (s.get EARC.STS_STATE < 3)) ∧
  (∃ (s : State) (cs : List W32) (fmt : Byte),
    s.kaLive ∧ (s.get EARC.STS_STATE = 4)) ∧
  (∃ (s : State) (cs : List W32) (fmt : Byte),
    s.kaLive ∧ (s.get EARC.STS_STATE = 4)) ∧
  (∃ (s : State) (cs : List W32) (fmt : Byte),
    s.kaLive ∧ (s.get EARC.STS_STATE ≠ 4)) :=
  ⟨⟨up.put EARC.STS_STATE 2, by decide⟩,
   ⟨up.put EARC.STS_STATE 3, by decide⟩,
   ⟨up.puts [(EARC.STS_STATE, 4), (EARC.FMT_V, 0x83), (APORT.SRCSTS_EARC, 0x83)], by decide⟩,
   ⟨up.put EARC.STS_STATE 3, by decide⟩,
   ⟨up.puts [(EARC.STS_STATE, 2)], by decide⟩,
   ⟨up.puts [(EARC.STS_STATE, 4), (EARC.CSTAT_W 1, 0x100)], [0, 0x200, 0, 0, 0, 7], 0, by decide⟩,
   ⟨up.puts [(EARC.STS_STATE, 4), (EARC.CSTAT_W 1, 0x100)], [0, 0x201], 0x83, by decide⟩,
   ⟨up.put EARC.STS_STATE 3, [], 0, by decide⟩⟩

theorem audioPortsMuteRampAndResume_met :
  (∃ (s : State) (k : Fin 4),
    s.live ∧ s.answers .aport ∧ (natBit (s.get APORT.MUTE_K) k = true)) ∧
  (∃ (s : State) (k : Fin 4),
    s.live ∧ s.answers .aport ∧ (natBit (s.get APORT.MUTE_K) k = false)) ∧
  (∃ (s : State) (k : Fin 4) (xs : List W32),
    s.kaLive ∧ s.get APORT.CTL_EN = 1 ∧ natBit (s.get APORT.PEN_K) k = true) ∧
  (∃ (s : State) (k : Fin 4) (xs : List W32),
    s.kaLive ∧ s.get APORT.CTL_EN = 1 ∧ natBit (s.get APORT.PEN_K) k = true) ∧
  (∃ (s : State) (k : Fin 4) (xs : List W32),
    s.kaLive ∧ s.get APORT.CTL_EN = 1 ∧ natBit (s.get APORT.PEN_K) k = true) ∧
  (∃ (s : State) (k : Fin 4) (xs : List W32),
    s.kaLive ∧ s.get APORT.CTL_EN = 1 ∧ natBit (s.get APORT.PEN_K) k = true) ∧
  (∃ (s : State) (k : Fin 4) (xs : List W32),
    s.kaLive ∧ s.get APORT.CTL_EN = 1 ∧ natBit (s.get APORT.PEN_K) k = true) ∧
  (∃ (s : State) (k : Fin 4) (xs : List W32),
    s.kaLive ∧ s.get APORT.CTL_EN = 1 ∧ natBit (s.get APORT.PEN_K) k = true) ∧
  (∃ (s : State) (k : Fin 4) (xs : List W32),
    s.kaLive ∧ (s.get APORT.CTL_EN ≠ 1 ∨ natBit (s.get APORT.PEN_K) k = false)) ∧
  (∃ (s : State) (k : Fin 4) (xs : List W32) (up : Bool) (i n : Nat),
    s.kaLive ∧ s.get APORT.CTL_EN = 1 ∧ natBit (s.get APORT.PEN_K) k = true ∧ (s.port k).cmd = none ∧
    (s.port k).ramp = some (up, i, n)) ∧
  (∃ (s : State) (k : Fin 4) (xs : List W32) (up : Bool) (i n : Nat),
    s.kaLive ∧ s.get APORT.CTL_EN = 1 ∧ natBit (s.get APORT.PEN_K) k = true ∧ (s.port k).cmd = none ∧
    (s.port k).ramp = some (up, i, n) ∧ (n ≤ i + 1)) ∧
  (∃ (s : State) (earc : Bool) (st : Byte) (f : Fld),
    s.kaLive ∧ (f = if earc then APORT.SRCSTS_EARC else APORT.SRCSTS_HRX) ∧
    (if earc then s.get EARC.STS_STATE = 4 else 3 ≤ s.get HRX.STS_STATE) ∧ (s.get f ≠ st.toNat)) ∧
  (∃ (s : State) (earc : Bool) (st : Byte) (f : Fld),
    s.kaLive ∧ (f = if earc then APORT.SRCSTS_EARC else APORT.SRCSTS_HRX) ∧
    (if earc then s.get EARC.STS_STATE = 4 else 3 ≤ s.get HRX.STS_STATE) ∧ (s.get f ≠ st.toNat)) ∧
  (∃ (s : State) (earc : Bool) (st : Byte) (f : Fld),
    s.kaLive ∧ (f = if earc then APORT.SRCSTS_EARC else APORT.SRCSTS_HRX) ∧
    (if earc then s.get EARC.STS_STATE = 4 else 3 ≤ s.get HRX.STS_STATE) ∧ (s.get f = st.toNat)) ∧
  (∃ (s : State) (earc : Bool) (m src : Nat),
    s.kaLive ∧ (src = if earc then 2 else 1) ∧ ((if earc then s.aport.holdEarc else s.aport.holdHrx) = some m) ∧
    natBit (srcStatus s src) 7 = true ∧ s.get APORT.HOLD_MS * 98304 ≤ s.mtime - m) ∧
  (∃ (s : State) (earc : Bool) (m src : Nat),
    s.kaLive ∧ (src = if earc then 2 else 1) ∧ ((if earc then s.aport.holdEarc else s.aport.holdHrx) = some m) ∧
    (natBit (srcStatus s src) 7 = false ∨ s.mtime - m < s.get APORT.HOLD_MS * 98304)) :=
  ⟨⟨up.put APORT.MUTE_K 9, 3, by decide⟩,
   ⟨up.put APORT.MUTE_K 7, 3, by decide⟩,
   ⟨fsPort { cmd := some false }, 2, [], by decide⟩,
   ⟨(fsPort {}).puts [(APORT.PCFG_DIR 2, 1), (APORT.PCFG_SLOTS 2, 4)], 2, [1, 2, 0xABCD1234], by decide⟩,
   ⟨(fsPort {}).puts [(APORT.PCFG_DIR 2, 1), (APORT.PCFG_SLOTS 2, 4), (APORT.PCFG_WIDTH 2, 1)], 2, [1, 2, 0xABCD1234], by decide⟩,
   ⟨(fsPort {}).puts [(APORT.PCFG_SRC 2, 1), (APORT.PCFG_SLOTS 2, 4), (APORT.PCFG_WIDTH 2, 1), (APORT.SRCSTS_HRX, 0x89)], 2, [1, 2, 3], by decide⟩,
   ⟨(fsPort { carries := 2, hist := [[7, 8, 9], [4, 5, 6]], lag := 2 }).puts [(APORT.PCFG_SRC 2, 1), (APORT.PCFG_SLOTS 2, 4), (APORT.PCFG_WIDTH 2, 1), (APORT.SRCSTS_HRX, 0x89)], 2, [1, 2, 3], by decide⟩,
   ⟨(fsPort { cmd := some false }).put (APORT.PCFG_RAMP 2) 0, 2, [], by decide⟩,
   ⟨(fsPort { cmd := some false }).put APORT.PEN_K 0, 2, [], by decide⟩,
   ⟨fsPort { base := (1, 1), ramp := some (false, 62, 64) }, 2, [], false, 62, 64, by decide⟩,
   ⟨fsPort { base := (1, 1), ramp := some (false, 63, 64) }, 2, [], false, 63, 64, by decide⟩,
   ⟨{ up.puts [(HRX.STS_STATE, 3), (APORT.PCFG_SRC 2, 1)] with aport := { up.aport with ports := [(2, { slots := [1, 2], hist := [[3]] })] } }, false, 0x81, APORT.SRCSTS_HRX, by decide⟩,
   ⟨up.puts [(EARC.STS_STATE, 4), (APORT.SRCSTS_EARC, 0x81)], true, 0, APORT.SRCSTS_EARC, by decide⟩,
   ⟨up.puts [(HRX.STS_STATE, 3), (APORT.SRCSTS_HRX, 0x81)], false, 0x81, APORT.SRCSTS_HRX, by decide⟩,
   ⟨{ up.puts [(APORT.SRCSTS_HRX, 0x81), (APORT.HOLD_MS, 1), (APORT.PCFG_SRC 2, 1)] with mtime := 98309, aport := { up.aport with holdHrx := some 5 } }, false, 5, 1, by decide⟩,
   ⟨{ up.puts [(APORT.SRCSTS_EARC, 0x81), (APORT.HOLD_MS, 1), (APORT.PCFG_SRC 2, 2)] with mtime := 98308, aport := { up.aport with holdEarc := some 5 } }, true, 5, 2, by decide⟩⟩

theorem mediaPortLinksReceivesAndSends_met :
  (∃ (s : State) (v : Fin 4),
    s.live ∧ s.get MPT.STS_STATE = 2 ∧ (if s.get MPT.MODE_SGMII = 1 then v.val ≠ 3 else v.val = 3) ∧
    (s.get MPT.STS_STATE ≠ 3)) ∧
  (∃ (s : State) (v : Fin 4),
    s.live ∧ s.get MPT.STS_STATE = 2 ∧ (if s.get MPT.MODE_SGMII = 1 then v.val ≠ 3 else v.val = 3) ∧
    (s.get MPT.STS_STATE ≠ 3)) ∧
  (∃ (s : State) (v : Fin 4),
    s.live ∧ (s.get MPT.STS_STATE ≠ 2) ∧ (s.get MPT.STS_STATE = 3)) ∧
  (∃ (s : State) (b : List Byte) (e : Bool),
    s.live ∧ s.get MPT.STS_STATE = 3 ∧ frameGood b e = true ∧ isPause b = false ∧ isGptp b = false ∧
    s.get STRN.CTL_EN ≠ 1) ∧
  (∃ (s : State) (b : List Byte) (e : Bool),
    s.live ∧ s.get MPT.STS_STATE = 3 ∧ (e = true ∨ b.length < 64 ∨ 1522 < b.length ∨ crcEnds b = false)) ∧
  (∃ (s : State) (b : List Byte) (e : Bool),
    s.live ∧ s.get MPT.STS_STATE = 3 ∧ frameGood b e = true ∧ isPause b = false ∧ isGptp b = true) ∧
  (∃ (s : State) (b : List Byte) (e : Bool),
    s.live ∧ s.get MPT.STS_STATE = 3 ∧ frameGood b e = true ∧ isPause b = true) ∧
  (∃ (s : State) (b : List Byte) (e : Bool),
    s.live ∧ (s.get MPT.STS_STATE ≠ 3)) ∧
  (∃ (s : State) (b : List Byte) (r a : Nat),
    s.live ∧ s.get MPT.STS_STATE = 3 ∧ frameGood b false = true ∧ isPause b = false ∧ isGptp b = false ∧
    s.get STRN.CTL_EN = 1 ∧ (∀ p : Fin 64, polMatches s b p = false) ∧ r = s.getA STRN.DEFAULT_RING ∧ r < 4 ∧
    a = s.get (MPT.RXBASEL_A r) + 2 ^ 32 * s.get (MPT.RXBASEH_A r) + 2048 * s.get (MPT.RXHEAD_I r) ∧
    s.getA STRN.DEFAULT_ACT = 1 ∧ rxRoom s r = true) ∧
  (∃ (s : State) (b : List Byte) (r a : Nat),
    s.live ∧ s.get MPT.STS_STATE = 3 ∧ frameGood b false = true ∧ isPause b = false ∧ isGptp b = false ∧
    s.get STRN.CTL_EN = 1 ∧ (∀ p : Fin 64, polMatches s b p = false) ∧ r = s.getA STRN.DEFAULT_RING ∧ r < 4 ∧
    a = s.get (MPT.RXBASEL_A r) + 2 ^ 32 * s.get (MPT.RXBASEH_A r) + 2048 * s.get (MPT.RXHEAD_I r) ∧
    s.getA STRN.DEFAULT_ACT = 1 ∧ rxRoom s r = false) ∧
  (∃ (s : State) (b : List Byte) (r a : Nat),
    s.live ∧ s.get MPT.STS_STATE = 3 ∧ frameGood b false = true ∧ isPause b = false ∧ isGptp b = false ∧
    s.get STRN.CTL_EN = 1 ∧ (∀ p : Fin 64, polMatches s b p = false) ∧ r = s.getA STRN.DEFAULT_RING ∧ r < 4 ∧
    a = s.get (MPT.RXBASEL_A r) + 2 ^ 32 * s.get (MPT.RXBASEH_A r) + 2048 * s.get (MPT.RXHEAD_I r) ∧
    (s.getA STRN.DEFAULT_ACT ≠ 1)) ∧
  (∃ (s : State) (b : List Byte) (p : Fin 64),
    s.live ∧ s.get MPT.STS_STATE = 3 ∧ frameGood b false = true ∧ isPause b = false ∧ isGptp b = false ∧
    s.get STRN.CTL_EN = 1 ∧ polMatches s b p = true ∧ (∀ q : Fin 64, q < p → polMatches s b q = false) ∧
    s.getA (STRN.PCFG_MODE p) = 1 ∧ s.getA (STRN.PCFG_CAWARE p) = 0 ∧ (b.length * 786432 ≤ (filled s p).tc)) ∧
  (∃ (s : State) (b : List Byte) (p : Fin 64),
    s.live ∧ s.get MPT.STS_STATE = 3 ∧ frameGood b false = true ∧ isPause b = false ∧ isGptp b = false ∧
    s.get STRN.CTL_EN = 1 ∧ polMatches s b p = true ∧ (∀ q : Fin 64, q < p → polMatches s b q = false) ∧
    s.getA (STRN.PCFG_MODE p) = 1 ∧ s.getA (STRN.PCFG_CAWARE p) = 0 ∧ ((filled s p).tc < b.length * 786432)) ∧
  (∃ (s : State) (b : List Byte) (p : Fin 64) (pre r a : Nat),
    s.live ∧ s.get MPT.STS_STATE = 3 ∧ frameGood b false = true ∧ isPause b = false ∧ isGptp b = false ∧
    s.get STRN.CTL_EN = 1 ∧ polMatches s b p = true ∧ (∀ q : Fin 64, q < p → polMatches s b q = false) ∧
    (pre = if s.getA (STRN.PCFG_CAWARE p) = 0 then 0 else if s.getA (STRN.PCFG_CSRC p) = 0 then (if frameDei b = true then 1 else 0) else if frameDscp b ∈ [some 12, some 20, some 28, some 36] then 1 else if frameDscp b ∈ [some 14, some 22, some 30, some 38] then 2 else 0) ∧
    r = s.getA (STRN.MATCH_RING p) ∧ r < 4 ∧
    a = s.get (MPT.RXBASEL_A r) + 2 ^ 32 * s.get (MPT.RXBASEH_A r) + 2048 * s.get (MPT.RXHEAD_I r) ∧
    (s.getA (STRN.PCFG_MODE p) = 0)) ∧
  (∃ (s : State) (b : List Byte) (p : Fin 64) (pre r a : Nat),
    s.live ∧ s.get MPT.STS_STATE = 3 ∧ frameGood b false = true ∧ isPause b = false ∧ isGptp b = false ∧
    s.get STRN.CTL_EN = 1 ∧ polMatches s b p = true ∧ (∀ q : Fin 64, q < p → polMatches s b q = false) ∧
    (pre = if s.getA (STRN.PCFG_CAWARE p) = 0 then 0 else if s.getA (STRN.PCFG_CSRC p) = 0 then (if frameDei b = true then 1 else 0) else if frameDscp b ∈ [some 12, some 20, some 28, some 36] then 1 else if frameDscp b ∈ [some 14, some 22, some 30, some 38] then 2 else 0) ∧
    r = s.getA (STRN.MATCH_RING p) ∧ r < 4 ∧
    a = s.get (MPT.RXBASEL_A r) + 2 ^ 32 * s.get (MPT.RXBASEH_A r) + 2048 * s.get (MPT.RXHEAD_I r) ∧
    s.getA (STRN.PCFG_MODE p) = 1 ∧ pre ≠ 0) ∧
  (∃ (s : State) (b : List Byte) (p : Fin 64) (pre r a : Nat),
    s.live ∧ s.get MPT.STS_STATE = 3 ∧ frameGood b false = true ∧ isPause b = false ∧ isGptp b = false ∧
    s.get STRN.CTL_EN = 1 ∧ polMatches s b p = true ∧ (∀ q : Fin 64, q < p → polMatches s b q = false) ∧
    (pre = if s.getA (STRN.PCFG_CAWARE p) = 0 then 0 else if s.getA (STRN.PCFG_CSRC p) = 0 then (if frameDei b = true then 1 else 0) else if frameDscp b ∈ [some 12, some 20, some 28, some 36] then 1 else if frameDscp b ∈ [some 14, some 22, some 30, some 38] then 2 else 0) ∧
    r = s.getA (STRN.MATCH_RING p) ∧ r < 4 ∧
    a = s.get (MPT.RXBASEL_A r) + 2 ^ 32 * s.get (MPT.RXBASEH_A r) + 2048 * s.get (MPT.RXHEAD_I r) ∧
    s.getA (STRN.PCFG_MODE p) = 2 ∧ (pre = 2 ∨ (filled s p).tp < b.length * 786432)) ∧
  (∃ (s : State) (b : List Byte) (p : Fin 64) (pre r a : Nat),
    s.live ∧ s.get MPT.STS_STATE = 3 ∧ frameGood b false = true ∧ isPause b = false ∧ isGptp b = false ∧
    s.get STRN.CTL_EN = 1 ∧ polMatches s b p = true ∧ (∀ q : Fin 64, q < p → polMatches s b q = false) ∧
    (pre = if s.getA (STRN.PCFG_CAWARE p) = 0 then 0 else if s.getA (STRN.PCFG_CSRC p) = 0 then (if frameDei b = true then 1 else 0) else if frameDscp b ∈ [some 12, some 20, some 28, some 36] then 1 else if frameDscp b ∈ [some 14, some 22, some 30, some 38] then 2 else 0) ∧
    r = s.getA (STRN.MATCH_RING p) ∧ r < 4 ∧
    a = s.get (MPT.RXBASEL_A r) + 2 ^ 32 * s.get (MPT.RXBASEH_A r) + 2048 * s.get (MPT.RXHEAD_I r) ∧
    s.getA (STRN.PCFG_MODE p) = 2 ∧ pre = 0 ∧ b.length * 786432 ≤ (filled s p).tp ∧
    b.length * 786432 ≤ (filled s p).tc) ∧
  (∃ (s : State) (b : List Byte) (p : Fin 64) (pre r a : Nat),
    s.live ∧ s.get MPT.STS_STATE = 3 ∧ frameGood b false = true ∧ isPause b = false ∧ isGptp b = false ∧
    s.get STRN.CTL_EN = 1 ∧ polMatches s b p = true ∧ (∀ q : Fin 64, q < p → polMatches s b q = false) ∧
    (pre = if s.getA (STRN.PCFG_CAWARE p) = 0 then 0 else if s.getA (STRN.PCFG_CSRC p) = 0 then (if frameDei b = true then 1 else 0) else if frameDscp b ∈ [some 12, some 20, some 28, some 36] then 1 else if frameDscp b ∈ [some 14, some 22, some 30, some 38] then 2 else 0) ∧
    r = s.getA (STRN.MATCH_RING p) ∧ r < 4 ∧
    a = s.get (MPT.RXBASEL_A r) + 2 ^ 32 * s.get (MPT.RXBASEH_A r) + 2048 * s.get (MPT.RXHEAD_I r) ∧
    s.getA (STRN.PCFG_MODE p) = 2 ∧ b.length * 786432 ≤ (filled s p).tp ∧
    (pre = 1 ∨ (pre = 0 ∧ (filled s p).tc < b.length * 786432)) ∧ (s.getA (STRN.PCFG_YACT p) < 2)) ∧
  (∃ (s : State) (b : List Byte) (p : Fin 64) (pre r a : Nat),
    s.live ∧ s.get MPT.STS_STATE = 3 ∧ frameGood b false = true ∧ isPause b = false ∧ isGptp b = false ∧
    s.get STRN.CTL_EN = 1 ∧ polMatches s b p = true ∧ (∀ q : Fin 64, q < p → polMatches s b q = false) ∧
    (pre = if s.getA (STRN.PCFG_CAWARE p) = 0 then 0 else if s.getA (STRN.PCFG_CSRC p) = 0 then (if frameDei b = true then 1 else 0) else if frameDscp b ∈ [some 12, some 20, some 28, some 36] then 1 else if frameDscp b ∈ [some 14, some 22, some 30, some 38] then 2 else 0) ∧
    r = s.getA (STRN.MATCH_RING p) ∧ r < 4 ∧
    a = s.get (MPT.RXBASEL_A r) + 2 ^ 32 * s.get (MPT.RXBASEH_A r) + 2048 * s.get (MPT.RXHEAD_I r) ∧
    s.getA (STRN.PCFG_MODE p) = 2 ∧ b.length * 786432 ≤ (filled s p).tp ∧
    (pre = 1 ∨ (pre = 0 ∧ (filled s p).tc < b.length * 786432)) ∧ (s.getA (STRN.PCFG_YACT p) = 2)) ∧
  (∃ (s : State) (b : List Byte) (p : Fin 64) (pre r a : Nat),
    s.live ∧ s.get MPT.STS_STATE = 3 ∧ frameGood b false = true ∧ isPause b = false ∧ isGptp b = false ∧
    s.get STRN.CTL_EN = 1 ∧ polMatches s b p = true ∧ (∀ q : Fin 64, q < p → polMatches s b q = false) ∧
    (pre = if s.getA (STRN.PCFG_CAWARE p) = 0 then 0 else if s.getA (STRN.PCFG_CSRC p) = 0 then (if frameDei b = true then 1 else 0) else if frameDscp b ∈ [some 12, some 20, some 28, some 36] then 1 else if frameDscp b ∈ [some 14, some 22, some 30, some 38] then 2 else 0) ∧
    r = s.getA (STRN.MATCH_RING p) ∧ r < 4 ∧
    a = s.get (MPT.RXBASEL_A r) + 2 ^ 32 * s.get (MPT.RXBASEH_A r) + 2048 * s.get (MPT.RXHEAD_I r) ∧
    s.getA (STRN.PCFG_MODE p) = 2 ∧ b.length * 786432 ≤ (filled s p).tp ∧
    (pre = 1 ∨ (pre = 0 ∧ (filled s p).tc < b.length * 786432)) ∧ (s.getA (STRN.PCFG_YACT p) < 2)) ∧
  (∃ (s : State) (b : List Byte) (r a d : Nat),
    s.live ∧ s.get MPT.STS_STATE = 3 ∧ frameGood b false = true ∧ isPause b = false ∧ isGptp b = false ∧
    s.get STRN.CTL_EN = 1 ∧ (∀ p : Fin 64, polMatches s b p = false) ∧ r = s.getA STRN.DEFAULT_RING ∧ r < 4 ∧
    s.getA STRN.DEFAULT_ACT = 1 ∧ rxRoom s r = true ∧
    a = s.get (MPT.RXBASEL_A r) + 2 ^ 32 * s.get (MPT.RXBASEH_A r) + 2048 * s.get (MPT.RXHEAD_I r) ∧
    d = (b.length + 1) * byteTime s / 5 ∧ d + 8 ≤ gptp s ∧ gptp s - d + 8 < 2 ^ 64) ∧
  (∃ (s : State) (d : W32),
    s.live ∧ s.answers .mpt ∧ (d.toNat % 2 ^ (MPT.TXTAIL_I).w < 2 ^ s.get MPT.TXCFG_SIZE)) ∧
  (∃ (s : State) (d : W32),
    s.live ∧ s.answers .mpt ∧ (2 ^ s.get MPT.TXCFG_SIZE ≤ d.toNat % 2 ^ (MPT.TXTAIL_I).w)) ∧
  (∃ (s : State) (b : List Byte) (h c : Nat),
    s.live ∧ h = s.get MPT.TXHEAD_I ∧
    b = s.dramRead (s.get MPT.TXBASEL_A + 2 ^ 32 * s.get MPT.TXBASEH_A + 16 * h) 16 ∧ c = sliceNat b 10 1 ∧
    s.get MPT.CTL_EN = 1 ∧ s.get MPT.TXCFG_EN = 1 ∧ h ≠ s.get MPT.TXTAIL_I ∧ txDescOk b = true ∧
    (classQueue s c).length < 64) ∧
  (∃ (s : State) (b : List Byte) (h c : Nat),
    s.live ∧ h = s.get MPT.TXHEAD_I ∧
    b = s.dramRead (s.get MPT.TXBASEL_A + 2 ^ 32 * s.get MPT.TXBASEH_A + 16 * h) 16 ∧ c = sliceNat b 10 1 ∧
    s.get MPT.CTL_EN = 1 ∧ s.get MPT.TXCFG_EN = 1 ∧ h ≠ s.get MPT.TXTAIL_I ∧ txDescOk b = false) ∧
  (∃ (s : State) (b : List Byte) (h c : Nat),
    s.live ∧ h = s.get MPT.TXHEAD_I ∧
    b = s.dramRead (s.get MPT.TXBASEL_A + 2 ^ 32 * s.get MPT.TXBASEH_A + 16 * h) 16 ∧ c = sliceNat b 10 1 ∧
    s.get MPT.CTL_EN = 1 ∧ s.get MPT.TXCFG_EN = 1 ∧ h ≠ s.get MPT.TXTAIL_I ∧ txDescOk b = true ∧
    64 ≤ (classQueue s c).length) ∧
  (∃ (s : State) (b : List Byte) (h c : Nat),
    s.live ∧ h = s.get MPT.TXHEAD_I ∧
    b = s.dramRead (s.get MPT.TXBASEL_A + 2 ^ 32 * s.get MPT.TXBASEH_A + 16 * h) 16 ∧ c = sliceNat b 10 1 ∧
    (s.get MPT.CTL_EN ≠ 1 ∨ s.get MPT.TXCFG_EN ≠ 1 ∨ h = s.get MPT.TXTAIL_I)) ∧
  (∃ (s : State),
    s.live ∧ (s.get MPT.STS_STATE ≠ 3 ∨ s.mtime * 78125 < s.mpt.laneEnd) ∧ s.mpt.gptp = [] ∧
    (∀ c : Fin 8, classReady s c = false)) ∧
  (∃ (s : State) (b : List Byte) (rest : List (List Byte)),
    s.live ∧ s.get MPT.STS_STATE = 3 ∧ s.mpt.laneEnd ≤ s.mtime * 78125 ∧ s.mpt.gptp = b :: rest ∧
    (beAt b 14 1 % 16 ∈ [0, 3]) ∧ (beAt b 14 1 % 16 ≠ 2)) ∧
  (∃ (s : State) (b : List Byte) (rest : List (List Byte)),
    s.live ∧ s.get MPT.STS_STATE = 3 ∧ s.mpt.laneEnd ≤ s.mtime * 78125 ∧ s.mpt.gptp = b :: rest ∧
    (beAt b 14 1 % 16 ∉ [0, 3]) ∧ (beAt b 14 1 % 16 = 2)) ∧
  (∃ (s : State) (c : Fin 8) (f : TxFrame) (rest : List TxFrame),
    s.live ∧ s.get MPT.STS_STATE = 3 ∧ s.mpt.laneEnd ≤ s.mtime * 78125 ∧ s.mpt.gptp = [] ∧ classReady s c = true ∧
    (∀ k : Fin 8, c < k → classReady s k = false) ∧ classQueue s c = f :: rest ∧ (f.ts = none)) :=
  ⟨⟨up.puts [(MPT.STS_STATE, 2), (MPT.MODE_SGMII, 1)], 2, by decide⟩,
   ⟨up.puts [(MPT.STS_STATE, 2)], 3, by decide⟩,
   ⟨{ up.puts [(MPT.STS_STATE, 3)] with mpt := { up.mpt with queues := [(5, [{ bytes := [1] }])] } }, 3, by decide⟩,
   ⟨up.put MPT.STS_STATE 3, finishFrame [], false, by decide⟩,
   ⟨up.put MPT.STS_STATE 3, (finishFrame []).drop 1, false, by decide⟩,
   ⟨up.put MPT.STS_STATE 3, finishFrame ([0x01, 0x80, 0xC2, 0, 0, 0x0E, 0, 0, 0, 0, 0, 0, 0x88, 0xF7]), false, by decide⟩,
   ⟨up.put MPT.STS_STATE 3, finishFrame ([0x01, 0x80, 0xC2, 0, 0, 0x01, 0, 0, 0, 0, 0, 0, 0x88, 0x08, 0, 1]), false, by decide⟩,
   ⟨up.put MPT.STS_STATE 2, [], false, by decide⟩,
   ⟨up.puts [(MPT.STS_STATE, 3), (STRN.CTL_EN, 1), (MPT.RXCFG_EN 2, 1), (MPT.RXCFG_SIZE 2, 4), (MPT.RXHEAD_I 2, 15), (MPT.RXTAIL_I 2, 1)] |> fun u => (u.putA STRN.DEFAULT_ACT 1).putA STRN.DEFAULT_RING 2, finishFrame [5, 6], 2, 2048 * 15, by decide⟩,
   ⟨up.puts [(MPT.STS_STATE, 3), (STRN.CTL_EN, 1), (MPT.RXCFG_EN 2, 1), (MPT.RXCFG_SIZE 2, 4), (MPT.RXHEAD_I 2, 15), (MPT.RXTAIL_I 2, 0)] |> fun u => (u.putA STRN.DEFAULT_ACT 1).putA STRN.DEFAULT_RING 2, finishFrame [5, 6], 2, 2048 * 15, by decide⟩,
   ⟨up.puts [(MPT.STS_STATE, 3), (STRN.CTL_EN, 1)], finishFrame [5, 6], 0, 0, by decide⟩,
   ⟨polUp 64, finishFrame [5, 6], 3, by decide⟩,
   ⟨polUp 63, finishFrame [5, 6], 3, by decide⟩,
   ⟨{ (up.puts [(MPT.STS_STATE, 3), (STRN.CTL_EN, 1), (MPT.RXCFG_EN 2, 1), (MPT.RXCFG_SIZE 2, 4), (MPT.RXHEAD_I 2, 3), (MPT.RXTAIL_I 2, 1)] |>.putA (STRN.MATCH_EN 3) 1 |>.putA (STRN.MATCH_RING 3) 2 |>.putA (STRN.PCFG_MODE 3) 0 |>.putA (STRN.CBS_BYTES 3) 9000 |>.putA (STRN.PBS_BYTES 3) 9000) with strn := { buckets := [(3, { tc := 5 * 786432, tp := 5 * 786432 })] } }, finishFrame [5, 6], 3, 0, 2, 6144, by decide⟩,
   ⟨{ (up.puts [(MPT.STS_STATE, 3), (STRN.CTL_EN, 1), (MPT.RXCFG_EN 2, 1), (MPT.RXCFG_SIZE 2, 4), (MPT.RXHEAD_I 2, 3), (MPT.RXTAIL_I 2, 1)] |>.putA (STRN.MATCH_EN 3) 1 |>.putA (STRN.MATCH_RING 3) 2 |>.putA (STRN.PCFG_MODE 3) 1 |>.putA (STRN.CBS_BYTES 3) 9000 |>.putA (STRN.PBS_BYTES 3) 9000 |>.putA (STRN.PCFG_CAWARE 3) 1) with strn := { buckets := [(3, { tc := 100 * 786432, tp := 100 * 786432 })] } }, finishFrame (List.replicate 12 0 ++ [0x81, 0, 0x10, 0]), 3, 1, 2, 6144, by decide⟩,
   ⟨{ (up.puts [(MPT.STS_STATE, 3), (STRN.CTL_EN, 1), (MPT.RXCFG_EN 2, 1), (MPT.RXCFG_SIZE 2, 4), (MPT.RXHEAD_I 2, 3), (MPT.RXTAIL_I 2, 1)] |>.putA (STRN.MATCH_EN 3) 1 |>.putA (STRN.MATCH_RING 3) 2 |>.putA (STRN.PCFG_MODE 3) 2 |>.putA (STRN.CBS_BYTES 3) 9000 |>.putA (STRN.PBS_BYTES 3) 9000) with strn := { buckets := [(3, { tc := 100 * 786432, tp := 63 * 786432 })] } }, finishFrame [5, 6], 3, 0, 2, 6144, by decide⟩,
   ⟨{ (up.puts [(MPT.STS_STATE, 3), (STRN.CTL_EN, 1), (MPT.RXCFG_EN 2, 1), (MPT.RXCFG_SIZE 2, 4), (MPT.RXHEAD_I 2, 3), (MPT.RXTAIL_I 2, 1)] |>.putA (STRN.MATCH_EN 3) 1 |>.putA (STRN.MATCH_RING 3) 2 |>.putA (STRN.PCFG_MODE 3) 2 |>.putA (STRN.CBS_BYTES 3) 9000 |>.putA (STRN.PBS_BYTES 3) 9000) with strn := { buckets := [(3, { tc := 64 * 786432, tp := 64 * 786432 })] } }, finishFrame [5, 6], 3, 0, 2, 6144, by decide⟩,
   ⟨{ (up.puts [(MPT.STS_STATE, 3), (STRN.CTL_EN, 1), (MPT.RXCFG_EN 2, 1), (MPT.RXCFG_SIZE 2, 4), (MPT.RXHEAD_I 2, 3), (MPT.RXTAIL_I 2, 1)] |>.putA (STRN.MATCH_EN 3) 1 |>.putA (STRN.MATCH_RING 3) 2 |>.putA (STRN.PCFG_MODE 3) 2 |>.putA (STRN.CBS_BYTES 3) 9000 |>.putA (STRN.PBS_BYTES 3) 9000 |>.putA (STRN.PCFG_YACT 3) 1) with strn := { buckets := [(3, { tc := 63 * 786432, tp := 64 * 786432 })] } }, finishFrame [5, 6], 3, 0, 2, 6144, by decide⟩,
   ⟨{ (up.puts [(MPT.STS_STATE, 3), (STRN.CTL_EN, 1), (MPT.RXCFG_EN 2, 1), (MPT.RXCFG_SIZE 2, 4), (MPT.RXHEAD_I 2, 3), (MPT.RXTAIL_I 2, 1)] |>.putA (STRN.MATCH_EN 3) 1 |>.putA (STRN.MATCH_RING 3) 2 |>.putA (STRN.PCFG_MODE 3) 2 |>.putA (STRN.CBS_BYTES 3) 9000 |>.putA (STRN.PBS_BYTES 3) 9000 |>.putA (STRN.PCFG_CAWARE 3) 1 |>.putA (STRN.PCFG_YACT 3) 2) with strn := { buckets := [(3, { tc := 100 * 786432, tp := 100 * 786432 })] } }, finishFrame (List.replicate 12 0 ++ [0x81, 0, 0x10, 0]), 3, 1, 2, 6144, by decide⟩,
   ⟨{ (up.puts [(MPT.STS_STATE, 3), (STRN.CTL_EN, 1), (MPT.RXCFG_EN 2, 1), (MPT.RXCFG_SIZE 2, 4), (MPT.RXHEAD_I 2, 3), (MPT.RXTAIL_I 2, 1)] |>.putA (STRN.MATCH_EN 3) 1 |>.putA (STRN.MATCH_RING 3) 2 |>.putA (STRN.PCFG_MODE 3) 2 |>.putA (STRN.CBS_BYTES 3) 9000 |>.putA (STRN.PBS_BYTES 3) 9000 |>.putA (STRN.PCFG_CAWARE 3) 1) with strn := { buckets := [(3, { tc := 100 * 786432, tp := 100 * 786432 })] } }, finishFrame (List.replicate 12 0 ++ [0x81, 0, 0x10, 0]), 3, 1, 2, 6144, by decide⟩,
   ⟨{ (up.puts [(MPT.STS_STATE, 3), (STRN.CTL_EN, 1), (MPT.LINKSTS_SPEED, 2), (MPT.RXCFG_EN 2, 1), (MPT.RXCFG_SIZE 2, 4), (MPT.RXHEAD_I 2, 15), (MPT.RXTAIL_I 2, 1)] |> fun u => (u.putA STRN.DEFAULT_ACT 1).putA STRN.DEFAULT_RING 2) with ptp := { up.ptp with time := 5000 * 153600000000 } }, finishFrame [5, 6], 2, 2048 * 15, 520, by decide⟩,
   ⟨up.put MPT.TXCFG_SIZE 4, 15, by decide⟩,
   ⟨up.put MPT.TXCFG_SIZE 4, 16, by decide⟩,
   ⟨(up.puts [(MPT.CTL_EN, 1), (MPT.TXCFG_EN, 1), (MPT.TXCFG_SIZE, 4), (MPT.TXHEAD_I, 15)]).dramWrite 241 [0x20, 0, 0, 0, 0, 0, 0, 60, 0, 6, 1], [0, 0x20, 0, 0, 0, 0, 0, 0, 60, 0, 6, 1, 0, 0, 0, 0], 15, 6, by decide⟩,
   ⟨(up.puts [(MPT.CTL_EN, 1), (MPT.TXCFG_EN, 1), (MPT.TXCFG_SIZE, 4), (MPT.TXHEAD_I, 15)]).dramWrite 241 [0x20, 0, 0, 0, 0, 0, 0, 59, 0, 6, 1], [0, 0x20, 0, 0, 0, 0, 0, 0, 59, 0, 6, 1, 0, 0, 0, 0], 15, 6, by decide⟩,
   ⟨{ (up.puts [(MPT.CTL_EN, 1), (MPT.TXCFG_EN, 1), (MPT.TXCFG_SIZE, 4), (MPT.TXHEAD_I, 15)]).dramWrite 241 [0x20, 0, 0, 0, 0, 0, 0, 60, 0, 6, 1] with mpt := { up.mpt with queues := [(6, List.replicate 64 {bytes := []})] } }, [0, 0x20, 0, 0, 0, 0, 0, 0, 60, 0, 6, 1, 0, 0, 0, 0], 15, 6, by decide⟩,
   ⟨up, List.replicate 16 0, 0, 0, by decide⟩,
   ⟨{ up.put MPT.STS_STATE 3 with mpt := { up.mpt with laneEnd := 1 } }, by decide⟩,
   ⟨{ up.put MPT.STS_STATE 3 with mpt := { up.mpt with gptp := [[1, 2], [3]] } }, [1, 2], [[3]], by decide⟩,
   ⟨{ up.put MPT.STS_STATE 3 with mpt := { up.mpt with gptp := [List.replicate 14 0 ++ 0x12 :: List.replicate 29 0 ++ [7, 9], [3]] } }, List.replicate 14 0 ++ 0x12 :: List.replicate 29 0 ++ [7, 9], [[3]], by decide⟩,
   ⟨{ up.put MPT.STS_STATE 3 with mpt := { up.mpt with queues := [(2, [{ bytes := [1] }]), (5, [{ bytes := [9] }, { bytes := [8] }])] } }, 5, { bytes := [9] }, [{ bytes := [8] }], by decide⟩⟩

theorem streamsPacketizeLayersAndAudio_met :
  (∃ (s : State) (n : Fin 16) (e : List Byte),
    s.live ∧ s.answers .mpt ∧ e = s.dramRead (s.get MPT.STBASEL_A + 2 ^ 32 * s.get MPT.STBASEH_A + 128 * n) 128 ∧
    natBit (s.get MPT.STREN_N) n = false ∧ entryOk s e = true) ∧
  (∃ (s : State) (n : Fin 16) (e : List Byte),
    s.live ∧ s.answers .mpt ∧ e = s.dramRead (s.get MPT.STBASEL_A + 2 ^ 32 * s.get MPT.STBASEH_A + 128 * n) 128 ∧
    natBit (s.get MPT.STREN_N) n = false ∧ entryOk s e = false) ∧
  (∃ (s : State) (n : Fin 16) (e : List Byte),
    s.live ∧ s.answers .mpt ∧ e = s.dramRead (s.get MPT.STBASEL_A + 2 ^ 32 * s.get MPT.STBASEH_A + 128 * n) 128 ∧
    (natBit (s.get MPT.STREN_N) n = true)) ∧
  (∃ (s : State) (n : Fin 16),
    s.live ∧ ((natBit (s.get MPT.STREN_N) n = false ∨ (streamOf s n).kind ≠ 1 ∨ s.get MPT.CTL_EN ≠ 1)) ∧
    (streamOf s n).work = none ∧ layerDue s n = none) ∧
  (∃ (s : State) (n : Fin 16) (f : Frame) (i : Nat) (ps : List (List Byte)),
    s.live ∧ natBit (s.get MPT.STREN_N) n = true ∧ (streamOf s n).kind = 1 ∧ s.get MPT.CTL_EN = 1 ∧
    (streamOf s n).work = none ∧ layerDue s n = some (f, i) ∧
    ps = layerPackets (streamOf s n) f i (s.get (MPT.SEQ_N n)) (s.dramRead ((f.layers[i]?.map (·.obuf)).getD 0) (f.bytes.getD i 0)) ∧
    (classQueue s (streamOf s n).class).length ≤ 64 ∧ ((classQueue s (streamOf s n).class).length + ps.length ≤ 64)) ∧
  (∃ (s : State) (n : Fin 16) (f : Frame) (i : Nat) (ps : List (List Byte)),
    s.live ∧ natBit (s.get MPT.STREN_N) n = true ∧ (streamOf s n).kind = 1 ∧ s.get MPT.CTL_EN = 1 ∧
    (streamOf s n).work = none ∧ layerDue s n = some (f, i) ∧
    ps = layerPackets (streamOf s n) f i (s.get (MPT.SEQ_N n)) (s.dramRead ((f.layers[i]?.map (·.obuf)).getD 0) (f.bytes.getD i 0)) ∧
    (classQueue s (streamOf s n).class).length ≤ 64 ∧ (64 < (classQueue s (streamOf s n).class).length + ps.length)) ∧
  (∃ (s : State) (n : Fin 16) (k spp : Nat),
    s.live ∧ k = sliceNat (streamOf s n).entry 24 1 % 4 ∧ spp = sliceNat (streamOf s n).entry 25 1 ∧
    natBit (s.get MPT.STREN_N) n = true ∧ (streamOf s n).kind = 2 ∧ s.get MPT.CTL_EN = 1 ∧
    s.get (APORT.PCFG_DIR k) = 1 ∧ portOn s k = true ∧ (streamOf s n).used + spp ≤ (s.port k).count) ∧
  (∃ (s : State) (n : Fin 16) (k spp : Nat),
    s.live ∧ k = sliceNat (streamOf s n).entry 24 1 % 4 ∧ spp = sliceNat (streamOf s n).entry 25 1 ∧
    natBit (s.get MPT.STREN_N) n = true ∧ (streamOf s n).kind = 2 ∧ s.get MPT.CTL_EN = 1 ∧
    s.get (APORT.PCFG_DIR k) = 1 ∧ portOn s k = true ∧ (streamOf s n).used + spp ≤ (s.port k).count) ∧
  (∃ (s : State) (n : Fin 16) (k spp : Nat),
    s.live ∧ k = sliceNat (streamOf s n).entry 24 1 % 4 ∧ spp = sliceNat (streamOf s n).entry 25 1 ∧
    ((natBit (s.get MPT.STREN_N) n = false ∨ (streamOf s n).kind ≠ 2 ∨ s.get MPT.CTL_EN ≠ 1 ∨ s.get (APORT.PCFG_DIR k) ≠ 1 ∨ portOn s k = false ∨ (s.port k).count < (streamOf s n).used + spp))) :=
  ⟨⟨(up.put MPT.STREN_N 6).dramWrite 384 aafEntry, 3, aafEntry ++ List.replicate 102 0, by decide⟩,
   ⟨(up.put MPT.STREN_N 6).dramWrite 384 (aafEntry.set 25 65), 3, aafEntry.set 25 65 ++ List.replicate 102 0, by decide⟩,
   ⟨{ up.put MPT.STREN_N 14 with csch := { up.csch with frames := [{ frame7 7 with dispatched := true, layers := [⟨0, 0, 2, 3⟩], mptDue := [0] }] } }, 3, List.replicate 128 0, by decide⟩,
   ⟨up.put MPT.STREN_N 14, 3, by decide⟩,
   ⟨rtpUp [], 3, rtpFrame, 0, layerPackets (streamOf (rtpUp []) 3) rtpFrame 0 0xFFFF [0, 0, 1, 0x65, 7], by decide⟩,
   ⟨rtpUp (List.replicate 64 { bytes := [] }), 3, rtpFrame, 0, layerPackets (streamOf (rtpUp []) 3) rtpFrame 0 0xFFFF [0, 0, 1, 0x65, 7], by decide⟩,
   ⟨aafUp [], 3, 2, 6, by decide⟩,
   ⟨aafUp (List.replicate 64 { bytes := [] }), 3, 2, 6, by decide⟩,
   ⟨{ aafUp [] with aport := { up.aport with ports := [(2, { count := 105 })] } }, 3, 2, 6, by decide⟩⟩

theorem gptpTimeGatesAndShapers_met :
  (∃ (s : State),
    s.live ∧ ((s.ptp.samples = [] ∨ s.ptp.m0 + 98304 ≤ s.mtime)) ∧ (s.answers .ptp)) ∧
  (∃ (s : State),
    s.live ∧ s.ptp.samples ≠ [] ∧ s.mtime < s.ptp.m0 + 98304 ∧ (s.answers .ptp)) ∧
  (∃ (s : State) (offset : Int),
    s.live ∧ s.get PTP.STS_STATE = 3 ∧ (s.get PTP.SERVO_STEP * 1000 : Int) < mag offset) ∧
  (∃ (s : State) (offset : Int),
    s.live ∧ (s.get PTP.STS_STATE ≠ 3 ∨ mag offset ≤ s.get PTP.SERVO_STEP * 1000)) ∧
  (∃ (s : State) (q : Nat),
    s.live ∧
    ((s.get MPT.STS_STATE ≠ 3 ∧ q = 1) ∨ ((s.ptp.pdelay = none ∨ ∃ d ∈ s.ptp.pdelay.toList, 800 < d) ∧ q = 1) ∨ (s.get MPT.STS_STATE = 3 ∧ (∃ d ∈ s.ptp.pdelay.toList, d ≤ 800) ∧ ((s.ptp.held = none ∧ q = (if s.get PTP.PCFG_PRIO1 = 255 then 1 else 2)) ∨ (q = 3 ∧ s.ptp.syncEnd = none ∧ ∃ a ∈ s.ptp.held.toList, s.mtime < a.heard + 3 * 98304000 ∧ (s.get PTP.PCFG_PRIO1 = 255 ∨ a.vec < ownVec s))))) ∧
    (s.get PTP.CTL_EN = 1)) ∧
  (∃ (s : State) (q : Nat),
    s.live ∧
    ((s.get MPT.STS_STATE ≠ 3 ∧ q = 1) ∨ ((s.ptp.pdelay = none ∨ ∃ d ∈ s.ptp.pdelay.toList, 800 < d) ∧ q = 1) ∨ (s.get MPT.STS_STATE = 3 ∧ (∃ d ∈ s.ptp.pdelay.toList, d ≤ 800) ∧ ((s.ptp.held = none ∧ q = (if s.get PTP.PCFG_PRIO1 = 255 then 1 else 2)) ∨ (q = 3 ∧ s.ptp.syncEnd = none ∧ ∃ a ∈ s.ptp.held.toList, s.mtime < a.heard + 3 * 98304000 ∧ (s.get PTP.PCFG_PRIO1 = 255 ∨ a.vec < ownVec s))))) ∧
    (s.get PTP.CTL_EN = 1)) ∧
  (∃ (s : State) (q : Nat),
    s.live ∧
    ((s.get MPT.STS_STATE ≠ 3 ∧ q = 1) ∨ ((s.ptp.pdelay = none ∨ ∃ d ∈ s.ptp.pdelay.toList, 800 < d) ∧ q = 1) ∨ (s.get MPT.STS_STATE = 3 ∧ (∃ d ∈ s.ptp.pdelay.toList, d ≤ 800) ∧ ((s.ptp.held = none ∧ q = (if s.get PTP.PCFG_PRIO1 = 255 then 1 else 2)) ∨ (q = 3 ∧ s.ptp.syncEnd = none ∧ ∃ a ∈ s.ptp.held.toList, s.mtime < a.heard + 3 * 98304000 ∧ (s.get PTP.PCFG_PRIO1 = 255 ∨ a.vec < ownVec s))))) ∧
    (s.get PTP.CTL_EN = 1)) ∧
  (∃ (s : State) (q : Nat),
    s.live ∧
    ((s.get MPT.STS_STATE ≠ 3 ∧ q = 1) ∨ ((s.ptp.pdelay = none ∨ ∃ d ∈ s.ptp.pdelay.toList, 800 < d) ∧ q = 1) ∨ (s.get MPT.STS_STATE = 3 ∧ (∃ d ∈ s.ptp.pdelay.toList, d ≤ 800) ∧ ((s.ptp.held = none ∧ q = (if s.get PTP.PCFG_PRIO1 = 255 then 1 else 2)) ∨ (q = 3 ∧ s.ptp.syncEnd = none ∧ ∃ a ∈ s.ptp.held.toList, s.mtime < a.heard + 3 * 98304000 ∧ (s.get PTP.PCFG_PRIO1 = 255 ∨ a.vec < ownVec s))))) ∧
    (s.get PTP.CTL_EN = 1)) ∧
  (∃ (s : State) (q : Nat),
    s.live ∧
    ((s.get MPT.STS_STATE ≠ 3 ∧ q = 1) ∨ ((s.ptp.pdelay = none ∨ ∃ d ∈ s.ptp.pdelay.toList, 800 < d) ∧ q = 1) ∨ (s.get MPT.STS_STATE = 3 ∧ (∃ d ∈ s.ptp.pdelay.toList, d ≤ 800) ∧ ((s.ptp.held = none ∧ q = (if s.get PTP.PCFG_PRIO1 = 255 then 1 else 2)) ∨ (q = 3 ∧ s.ptp.syncEnd = none ∧ ∃ a ∈ s.ptp.held.toList, s.mtime < a.heard + 3 * 98304000 ∧ (s.get PTP.PCFG_PRIO1 = 255 ∨ a.vec < ownVec s))))) ∧
    (s.get PTP.CTL_EN = 1)) ∧
  (∃ (s : State) (q : Nat),
    s.live ∧
    ((s.get MPT.STS_STATE ≠ 3 ∧ q = 1) ∨ ((s.ptp.pdelay = none ∨ ∃ d ∈ s.ptp.pdelay.toList, 800 < d) ∧ q = 1) ∨ (s.get MPT.STS_STATE = 3 ∧ (∃ d ∈ s.ptp.pdelay.toList, d ≤ 800) ∧ ((s.ptp.held = none ∧ q = (if s.get PTP.PCFG_PRIO1 = 255 then 1 else 2)) ∨ (q = 3 ∧ s.ptp.syncEnd = none ∧ ∃ a ∈ s.ptp.held.toList, s.mtime < a.heard + 3 * 98304000 ∧ (s.get PTP.PCFG_PRIO1 = 255 ∨ a.vec < ownVec s))))) ∧
    (s.get PTP.CTL_EN ≠ 1)) ∧
  (∃ (s : State) (b m : List Byte),
    s.live ∧ s.get MPT.STS_STATE = 3 ∧ frameGood b false = true ∧ isGptp b = true ∧ s.get PTP.CTL_EN = 1 ∧
    s.mpt.gptpTimes = [] ∧ m = (b.take (b.length - 4)).drop 14 ∧ beAt m 0 1 / 16 = 1 ∧ beAt m 1 1 % 16 = 2 ∧
    beAt m 4 1 = 0 ∧ beAt m 0 1 % 16 = 11 ∧ s.ptp.held = none ∧ 64 ≤ m.length ∧ beAt m 61 2 < 255 ∧ beAt m 64 2 ≠ 8) ∧
  (∃ (s : State) (b m : List Byte),
    s.live ∧ s.get MPT.STS_STATE = 3 ∧ frameGood b false = true ∧ isGptp b = true ∧ s.get PTP.CTL_EN = 1 ∧
    s.mpt.gptpTimes = [] ∧ m = (b.take (b.length - 4)).drop 14 ∧ beAt m 0 1 / 16 = 1 ∧ beAt m 1 1 % 16 = 2 ∧
    beAt m 4 1 = 0 ∧ (beAt m 0 1 % 16 = 2)) ∧
  (∃ (s : State) (b m : List Byte),
    s.live ∧ s.get MPT.STS_STATE = 3 ∧ frameGood b false = true ∧ isGptp b = true ∧ s.get PTP.CTL_EN = 1 ∧
    s.mpt.gptpTimes = [] ∧ m = (b.take (b.length - 4)).drop 14 ∧ beAt m 0 1 / 16 = 1 ∧ beAt m 1 1 % 16 = 2 ∧
    beAt m 4 1 = 0) ∧
  (∃ (s : State) (c : Int),
    s.live ∧ s.answers .spout ∧ c = (max 1 (s.get (SPOUT.CYCLE_NS (s.get SPOUT.STS_ACT))) : Nat) ∧
    (s.get SPOUT.CTL_EN ≠ 1) ∧ s.get SPOUT.SWAP_GO ≠ 1 ∧ s.get SPOUT.STS_STATE = 0) ∧
  (∃ (s : State) (c : Int),
    s.live ∧ s.answers .spout ∧ c = (max 1 (s.get (SPOUT.CYCLE_NS (s.get SPOUT.STS_ACT))) : Nat) ∧
    (s.get SPOUT.CTL_EN = 1) ∧ s.get SPOUT.SWAP_GO ≠ 1 ∧ s.get SPOUT.STS_STATE = 2) ∧
  (∃ (s : State) (c : Int),
    s.live ∧ s.answers .spout ∧ c = (max 1 (s.get (SPOUT.CYCLE_NS (s.get SPOUT.STS_ACT))) : Nat) ∧
    (s.get SPOUT.CTL_EN ≠ 1) ∧ (s.get SPOUT.SWAP_GO = 1)) ∧
  (∃ (s : State) (c : Int),
    s.live ∧ s.answers .spout ∧ c = (max 1 (s.get (SPOUT.CYCLE_NS (s.get SPOUT.STS_ACT))) : Nat) ∧
    (s.get SPOUT.CTL_EN = 1) ∧ s.get SPOUT.SWAP_GO ≠ 1 ∧ s.get SPOUT.STS_STATE = 1) ∧
  (∃ (s : State),
    s.live ∧ s.get SPOUT.STS_STATE = 1 ∧ s.spout.startAt ≤ (gptp s : Int)) ∧
  (∃ (s : State),
    s.live ∧ s.get SPOUT.STS_STATE = 1 ∧ s.spout.startAt ≤ (gptp s : Int)) ∧
  (∃ (s : State),
    s.live ∧ s.get SPOUT.STS_STATE = 2 ∧
    s.spout.cycle + (max 1 (s.get (SPOUT.CYCLE_NS (s.get SPOUT.STS_ACT))) : Nat) ≤ (gptp s : Int) ∧
    (s.get SPOUT.STS_STATE = 2)) ∧
  (∃ (s : State),
    s.live ∧ s.get SPOUT.STS_STATE = 2 ∧
    s.spout.cycle + (max 1 (s.get (SPOUT.CYCLE_NS (s.get SPOUT.STS_ACT))) : Nat) ≤ (gptp s : Int) ∧
    (s.get SPOUT.STS_STATE = 2)) ∧
  (∃ (s : State),
    s.live ∧ s.get SPOUT.STS_STATE = 1 ∧ (gptp s : Int) < s.spout.startAt) ∧
  (∃ (s : State),
    s.live ∧ (s.get SPOUT.STS_STATE = 0)) ∧
  (∃ (s : State) (c : Fin 8) (burst : Bool) (d : W32) (fs : List Fld),
    s.live ∧ s.answers .spout ∧
    (fs = if burst then [SPOUT.SHBURST_TOKEN_INIT c, SPOUT.SHBURST_BYTES c] else [SPOUT.SHRATE_KBPS c]) ∧
    (burst = false ∨ 1522 ≤ (SPOUT.SHBURST_BYTES c).ofData d)) ∧
  (∃ (s : State) (c : Fin 8) (burst : Bool) (d : W32) (fs : List Fld),
    s.live ∧ s.answers .spout ∧
    (fs = if burst then [SPOUT.SHBURST_TOKEN_INIT c, SPOUT.SHBURST_BYTES c] else [SPOUT.SHRATE_KBPS c]) ∧
    burst = true ∧ (SPOUT.SHBURST_BYTES c).ofData d < 1522) ∧
  (∃ (s : State) (c : Fin 8) (burst : Bool) (d : W32) (fs : List Fld),
    s.live ∧ s.answers .spout ∧
    (fs = if burst then [SPOUT.SHBURST_TOKEN_INIT c, SPOUT.SHBURST_BYTES c] else [SPOUT.SHRATE_KBPS c]) ∧
    (burst = false ∨ 1522 ≤ (SPOUT.SHBURST_BYTES c).ofData d)) :=
  ⟨⟨{ up with mtime := 98309, ptp := { up.ptp with m0 := 5, time := 153600000000 * 0x123456789A, samples := [(0, 5)] } }, by decide⟩,
   ⟨{ up with mtime := 98308, ptp := { up.ptp with m0 := 5, time := 153600000000 * 0x123456789A, samples := [(0, 5)] } }, by decide⟩,
   ⟨{ up.puts [(PTP.STS_STATE, 3), (PTP.SERVO_STEP, 10)] with ptp := { up.ptp with time := 153600000000 * 50000 } }, -10001, by decide⟩,
   ⟨{ up.puts [(PTP.STS_STATE, 3), (PTP.SERVO_STEP, 10)] with ptp := { up.ptp with time := 153600000000 * 50000 } }, 10000, by decide⟩,
   ⟨{ up.puts [(PTP.CTL_EN, 1), (PTP.STS_STATE, 2), (MPT.STS_STATE, 3), (PTP.PCFG_PRIO1, 255)] with ptp := { up.ptp with pdelay := some 800, held := some ⟨0x1122334455667788 * 2 ^ 16, 7, 0⟩ } }, 3, by decide⟩,
   ⟨{ up.puts [(PTP.CTL_EN, 1), (PTP.STS_STATE, 3), (MPT.STS_STATE, 3), (PTP.PCFG_PRIO1, 254)] with ptp := { up.ptp with pdelay := some 0 } }, 2, by decide⟩,
   ⟨{ up.puts [(PTP.CTL_EN, 1), (PTP.STS_STATE, 3), (MPT.STS_STATE, 3), (PTP.PCFG_PRIO1, 255)] with mtime := 98303999, ptp := { up.ptp with pdelay := some 0, sentAt := [(2, 0)] } }, 1, by decide⟩,
   ⟨{ up.puts [(PTP.CTL_EN, 1), (MPT.STS_STATE, 3)] with ptp := { up.ptp with pdelay := some 801 } }, 1, by decide⟩,
   ⟨{ up.puts [(PTP.CTL_EN, 1), (MPT.STS_STATE, 2)] with ptp := { up.ptp with pdelay := some 5 } }, 1, by decide⟩,
   ⟨up, 1, by decide⟩,
   ⟨{ up.puts [(PTP.CTL_EN, 1), (MPT.STS_STATE, 3)] with mtime := 50 }, finishFrame ([0x01, 0x80, 0xC2, 0, 0, 0x0E, 0, 0, 0, 0, 0, 0, 0x88, 0xF7, 0x1B, 0x12] ++ List.replicate 18 0 ++ [1, 2, 3, 4, 5, 6, 7, 8, 0, 1, 0, 9] ++ List.replicate 40 0), ([0x1B, 0x12] ++ List.replicate 18 0 ++ [1, 2, 3, 4, 5, 6, 7, 8, 0, 1, 0, 9] ++ List.replicate 40 0), by decide⟩,
   ⟨up.puts [(PTP.CTL_EN, 1), (MPT.STS_STATE, 3)], finishFrame ([0x01, 0x80, 0xC2, 0, 0, 0x0E, 0, 0, 0, 0, 0, 0, 0x88, 0xF7, 0x12, 0x12] ++ List.replicate 18 0 ++ [1, 2, 3, 4, 5, 6, 7, 8, 0, 1, 0, 9] ++ List.replicate 22 0), ([0x12, 0x12] ++ List.replicate 18 0 ++ [1, 2, 3, 4, 5, 6, 7, 8, 0, 1, 0, 9] ++ List.replicate 22 0), by decide⟩,
   ⟨up.puts [(PTP.CTL_EN, 1), (MPT.STS_STATE, 3)], finishFrame ([0x01, 0x80, 0xC2, 0, 0, 0x0E, 0, 0, 0, 0, 0, 0, 0x88, 0xF7, 0x12, 0x12] ++ List.replicate 30 0 ++ List.replicate 22 0), ([0x12, 0x12] ++ List.replicate 30 0 ++ List.replicate 22 0), by decide⟩,
   ⟨{ up.puts [(SPOUT.CYCLE_NS 0, 125000), (SPOUT.BASEL_T 0, 7)] with ptp := { up.ptp with time := 153600000000 * 123007 } }, 125000, by decide⟩,
   ⟨{ up.puts [(SPOUT.CYCLE_NS 0, 125000), (SPOUT.CTL_EN, 1), (SPOUT.STS_STATE, 2)] with ptp := { up.ptp with time := 153600000000 * 123008 }, spout := { up.spout with anchor := -125000 } }, 125000, by decide⟩,
   ⟨up.puts [(SPOUT.CYCLE_NS 0, 125000), (SPOUT.SWAP_GO, 1)], 125000, by decide⟩,
   ⟨{ up.puts [(SPOUT.CYCLE_NS 0, 125000), (SPOUT.CTL_EN, 1), (SPOUT.STS_STATE, 1)] with ptp := { up.ptp with time := 153600000000 * 123008 }, spout := { up.spout with startAt := 124007 } }, 125000, by decide⟩,
   ⟨{ up.puts [(SPOUT.CYCLE_NS 0, 125000), (SPOUT.STS_STATE, 1)] with ptp := { up.ptp with time := 153600000000 * 125000 }, spout := { up.spout with startAt := 125000 } }, by decide⟩,
   ⟨{ up.puts [(SPOUT.CYCLE_NS 0, 125000), (SPOUT.STS_STATE, 1), (SPOUT.SWAP_GO, 1)] with ptp := { up.ptp with time := 153600000000 * 125000 }, spout := { up.spout with startAt := 125000, swapAt := 125000 } }, by decide⟩,
   ⟨{ up.puts [(SPOUT.CYCLE_NS 0, 125000), (SPOUT.STS_STATE, 2), (SPOUT.SWAP_GO, 1), (SPOUT.LEN_N 1, 1), (SPOUT.GCL1_GATES 0, 0x40)] with ptp := { up.ptp with time := 153600000000 * 125000 }, spout := { up.spout with swapAt := 125000 } }, by decide⟩,
   ⟨{ up.puts [(SPOUT.CYCLE_NS 0, 125000), (SPOUT.STS_STATE, 2), (SPOUT.LEN_N 0, 2), (SPOUT.GCL0_GATES 0, 0x40), (SPOUT.GCL0_GATES 1, 0xBF), (SPOUT.GCL0_INTV 0, 250)] with ptp := { up.ptp with time := 153600000000 * 252000 } }, by decide⟩,
   ⟨{ up.puts [(SPOUT.CYCLE_NS 0, 125000), (SPOUT.STS_STATE, 1)] with ptp := { up.ptp with time := 153600000000 * 125000 }, spout := { up.spout with startAt := 125001 } }, by decide⟩,
   ⟨up, by decide⟩,
   ⟨{ up with mtime := 50 }, 5, true, 0x800005F2, [SPOUT.SHBURST_TOKEN_INIT 5, SPOUT.SHBURST_BYTES 5], by decide⟩,
   ⟨up, 5, true, 0x800005F1, [SPOUT.SHBURST_TOKEN_INIT 5, SPOUT.SHBURST_BYTES 5], by decide⟩,
   ⟨{ up.put (SPOUT.SHBURST_TOKEN_INIT 5) 0 with mtime := 50 }, 5, false, 1000, [SPOUT.SHRATE_KBPS 5], by decide⟩⟩

theorem settingsAreReadStagedAndAppended_met :
  (∃ (s : State) (e : StoreEnv) (i : Instr) (cmd : Nat),
    s.live ∧ (i, cmd) ∈ [(Instr.setRead e, 0x20), (.setWrite e, 0x21), (.setDelete e, 0x22), (.setReset e, 0x23)] ∧
    s.nvm.work = none ∧ s.get MBX.STS_STATE = 2 ∧ reqCommand s = cmd ∧ s.mbx.answer = none ∧
    (if cmd = 0x23 then reqArgs s ≠ 0 else if cmd = 0x21 then 56 < reqArg1 s / 65536 % 256 ∨ reqArgs s ≠ 1 + (reqArg1 s / 65536 % 256 + 3) / 4 else reqArgs s ≠ 1)) ∧
  (∃ (s : State) (e : StoreEnv) (i : Instr) (cmd : Nat),
    s.live ∧ (i, cmd) ∈ [(Instr.setRead e, 0x20), (.setWrite e, 0x21), (.setDelete e, 0x22), (.setReset e, 0x23)]) ∧
  (∃ (s : State) (e : StoreEnv) (i : Instr) (cmd : Nat),
    s.live ∧ (i, cmd) ∈ [(Instr.setRead e, 0x20), (.setWrite e, 0x21), (.setDelete e, 0x22), (.setReset e, 0x23)] ∧
    s.nvm.work = none ∧ s.get MBX.STS_STATE = 2 ∧ reqCommand s = cmd ∧ s.mbx.answer = none ∧
    (if cmd = 0x23 then reqArgs s ≠ 0 else if cmd = 0x21 then 56 < reqArg1 s / 65536 % 256 ∨ reqArgs s ≠ 1 + (reqArg1 s / 65536 % 256 + 3) / 4 else reqArgs s ≠ 1)) ∧
  (∃ (s : State) (e : StoreEnv) (i : Instr) (cmd : Nat),
    s.live ∧ (i, cmd) ∈ [(Instr.setRead e, 0x20), (.setWrite e, 0x21), (.setDelete e, 0x22), (.setReset e, 0x23)] ∧
    s.nvm.work = none ∧ (s.get MBX.STS_STATE ≠ 2 ∨ reqCommand s ≠ cmd ∨ s.mbx.answer ≠ none)) ∧
  (∃ (s : State) (e : StoreEnv) (i : Instr) (cmd : Nat),
    s.live ∧ (i, cmd) ∈ [(Instr.setRead e, 0x20), (.setWrite e, 0x21), (.setDelete e, 0x22), (.setReset e, 0x23)] ∧
    ((s.nvm.work.map (·.2)) = some none)) ∧
  (∃ (s u : State) (e : StoreEnv) (key : Nat),
    s.live ∧ s.get MBX.STS_STATE = 2 ∧ s.mbx.answer = none ∧ reqCommand s = 0x20 ∧ reqArgs s = 1 ∧
    key = reqArg1 s % 65536 ∧ s.nvm.work = none ∧ u = s.meetLines e) ∧
  (∃ (s u : State) (e : StoreEnv) (key : Nat),
    s.live ∧ s.get MBX.STS_STATE = 2 ∧ s.mbx.answer = none ∧ reqCommand s = 0x20 ∧ reqArgs s = 1 ∧
    key = reqArg1 s % 65536 ∧ s.nvm.work = none ∧ u = s.meetLines e ∧ SMap.find s.nvm.staged key = none ∧
    s.get STORE.SETSTS_STATE ≠ 3) ∧
  (∃ (s u : State) (e : StoreEnv) (key : Nat),
    s.live ∧ s.get MBX.STS_STATE = 2 ∧ s.mbx.answer = none ∧ reqCommand s = 0x20 ∧ reqArgs s = 1 ∧
    key = reqArg1 s % 65536 ∧ s.nvm.work = none ∧ u = s.meetLines e ∧ SMap.find s.nvm.staged key = none ∧
    s.get STORE.SETSTS_STATE ≠ 3 ∧ (settingValue u key = none)) ∧
  (∃ (s u : State) (e : StoreEnv) (key : Nat),
    s.live ∧ s.get MBX.STS_STATE = 2 ∧ s.mbx.answer = none ∧ reqCommand s = 0x20 ∧ reqArgs s = 1 ∧
    key = reqArg1 s % 65536 ∧ s.nvm.work = none ∧ u = s.meetLines e ∧ SMap.find s.nvm.staged key = none ∧
    s.get STORE.SETSTS_STATE ≠ 3 ∧ (settingValue u key = none)) ∧
  (∃ (s u : State) (e : StoreEnv) (key n : Nat) (v : List Byte),
    s.live ∧ s.get MBX.STS_STATE = 2 ∧ s.mbx.answer = none ∧ s.get UPD.STS_STATE = 6 ∧ s.nvm.work = none ∧
    u = s.meetLines e ∧ key = reqArg1 s % 65536 ∧ n = reqArg1 s / 65536 % 256 ∧
    (v = (((List.range 14).map fun i => leBytes 4 (s.get (MBX.REQ_W (i + 2)))).flatten).take n) ∧
    reqCommand s = 0x21 ∧ n ≤ 56 ∧ reqArgs s = 1 + (n + 3) / 4 ∧
    stagedBytes (SMap.insert s.nvm.staged key (some v)) ≤ 65536 ∧
    liveAfter (SMap.insert s.nvm.staged key (some v)) u ≤ 1048576) ∧
  (∃ (s u : State) (e : StoreEnv) (key n : Nat) (v : List Byte),
    s.live ∧ s.get MBX.STS_STATE = 2 ∧ s.mbx.answer = none ∧ s.get UPD.STS_STATE = 6 ∧ s.nvm.work = none ∧
    u = s.meetLines e ∧ key = reqArg1 s % 65536 ∧ n = reqArg1 s / 65536 % 256 ∧
    (v = (((List.range 14).map fun i => leBytes 4 (s.get (MBX.REQ_W (i + 2)))).flatten).take n) ∧
    reqCommand s = 0x22 ∧ reqArgs s = 1) ∧
  (∃ (s u : State) (e : StoreEnv) (key n : Nat) (v : List Byte),
    s.live ∧ s.get MBX.STS_STATE = 2 ∧ s.mbx.answer = none ∧ s.get UPD.STS_STATE = 6 ∧ s.nvm.work = none ∧
    u = s.meetLines e ∧ key = reqArg1 s % 65536 ∧ n = reqArg1 s / 65536 % 256 ∧
    (v = (((List.range 14).map fun i => leBytes 4 (s.get (MBX.REQ_W (i + 2)))).flatten).take n) ∧
    reqCommand s = 0x23 ∧ reqArgs s = 0) ∧
  (∃ (s u : State) (e : StoreEnv) (key n : Nat) (v : List Byte),
    s.live ∧ s.get MBX.STS_STATE = 2 ∧ s.mbx.answer = none ∧ s.get UPD.STS_STATE = 6 ∧ s.nvm.work = none ∧
    u = s.meetLines e ∧ key = reqArg1 s % 65536 ∧ n = reqArg1 s / 65536 % 256 ∧
    (v = (((List.range 14).map fun i => leBytes 4 (s.get (MBX.REQ_W (i + 2)))).flatten).take n) ∧
    reqCommand s = 0x21 ∧ n ≤ 56 ∧ reqArgs s = 1 + (n + 3) / 4 ∧
    (65536 < stagedBytes (SMap.insert s.nvm.staged key (some v)) ∨ 1048576 < liveAfter (SMap.insert s.nvm.staged key (some v)) u)) ∧
  (∃ (s : State) (e : StoreEnv),
    s.live ∧ s.get MBX.STS_STATE = 2 ∧ s.mbx.answer = none ∧ s.get UPD.STS_STATE ≠ 6 ∧
    s.get STORE.SETSTS_STATE = 3 ∧ s.nvm.work = none ∧ reqCommand s = 0x21 ∧ reqArg1 s / 65536 % 256 ≤ 56 ∧
    reqArgs s = 1 + (reqArg1 s / 65536 % 256 + 3) / 4) ∧
  (∃ (s : State) (e : StoreEnv),
    s.live ∧ s.get MBX.STS_STATE = 2 ∧ s.mbx.answer = none ∧ s.get UPD.STS_STATE ≠ 6 ∧
    s.get STORE.SETSTS_STATE = 3 ∧ s.nvm.work = none ∧ reqCommand s = 0x22 ∧ reqArgs s = 1) ∧
  (∃ (s s' : State) (e : StoreEnv) (i : Instr) (key n lines l : Nat) (v : List Byte) (u : State) (rl : List Byte),
    s.live ∧ s.get MBX.STS_STATE = 2 ∧ s.mbx.answer = none ∧ s.get UPD.STS_STATE ≠ 6 ∧ s.nvm.work = none ∧
    e.cut = none ∧ s' = noteSettings (s.meetLines e) ∧ key = reqArg1 s % 65536 ∧ n = reqArg1 s / 65536 % 256 ∧
    (v = (((List.range 14).map fun i => leBytes 4 (s.get (MBX.REQ_W (i + 2)))).flatten).take n) ∧
    ((i = .setWrite e ∧ reqCommand s = 0x21 ∧ n ≤ 56 ∧ reqArgs s = 1 + (n + 3) / 4 ∧ s.get STORE.SETSTS_STATE ≠ 3 ∧ liveFull key v s' = false ∧ lines = (if n ≤ 44 then 1 else 2)) ∨ (i = .setDelete e ∧ reqCommand s = 0x22 ∧ reqArgs s = 1 ∧ s.get STORE.SETSTS_STATE ≠ 3 ∧ lines = 1) ∨ (i = .setReset e ∧ reqCommand s = 0x23 ∧ reqArgs s = 0 ∧ lines = 1)) ∧
    (makeRoom lines (if i = .setReset e then s' else keepFree lines s') = some (l, u)) ∧
    (rl = recLine (if i = .setWrite e then 1 else if i = .setDelete e then 2 else 3) lines u.nvm.nextSeq (schemaOut u) (if i = .setReset e then 0 else key) (if i = .setWrite e then n else 0) (if i = .setWrite e then v else if i = .setDelete e then [] else confirmBytes u 0 true)) ∧
    schemaOut u = schemaOut s ∧ (i ≠ .setReset e)) ∧
  (∃ (s s' : State) (e : StoreEnv) (i : Instr) (key n lines l : Nat) (v : List Byte) (u : State) (rl : List Byte),
    s.live ∧ s.get MBX.STS_STATE = 2 ∧ s.mbx.answer = none ∧ s.get UPD.STS_STATE ≠ 6 ∧ s.nvm.work = none ∧
    e.cut = none ∧ s' = noteSettings (s.meetLines e) ∧ key = reqArg1 s % 65536 ∧ n = reqArg1 s / 65536 % 256 ∧
    (v = (((List.range 14).map fun i => leBytes 4 (s.get (MBX.REQ_W (i + 2)))).flatten).take n) ∧
    ((i = .setWrite e ∧ reqCommand s = 0x21 ∧ n ≤ 56 ∧ reqArgs s = 1 + (n + 3) / 4 ∧ s.get STORE.SETSTS_STATE ≠ 3 ∧ liveFull key v s' = false ∧ lines = (if n ≤ 44 then 1 else 2)) ∨ (i = .setDelete e ∧ reqCommand s = 0x22 ∧ reqArgs s = 1 ∧ s.get STORE.SETSTS_STATE ≠ 3 ∧ lines = 1) ∨ (i = .setReset e ∧ reqCommand s = 0x23 ∧ reqArgs s = 0 ∧ lines = 1)) ∧
    (makeRoom lines (if i = .setReset e then s' else keepFree lines s') = some (l, u)) ∧
    (rl = recLine (if i = .setWrite e then 1 else if i = .setDelete e then 2 else 3) lines u.nvm.nextSeq (schemaOut u) (if i = .setReset e then 0 else key) (if i = .setWrite e then n else 0) (if i = .setWrite e then v else if i = .setDelete e then [] else confirmBytes u 0 true)) ∧
    schemaOut u = schemaOut s ∧ (i ≠ .setReset e)) ∧
  (∃ (s s' : State) (e : StoreEnv) (i : Instr) (key n lines l : Nat) (v : List Byte) (u : State) (rl : List Byte),
    s.live ∧ s.get MBX.STS_STATE = 2 ∧ s.mbx.answer = none ∧ s.get UPD.STS_STATE ≠ 6 ∧ s.nvm.work = none ∧
    e.cut = none ∧ s' = noteSettings (s.meetLines e) ∧ key = reqArg1 s % 65536 ∧ n = reqArg1 s / 65536 % 256 ∧
    (v = (((List.range 14).map fun i => leBytes 4 (s.get (MBX.REQ_W (i + 2)))).flatten).take n) ∧
    ((i = .setWrite e ∧ reqCommand s = 0x21 ∧ n ≤ 56 ∧ reqArgs s = 1 + (n + 3) / 4 ∧ s.get STORE.SETSTS_STATE ≠ 3 ∧ liveFull key v s' = false ∧ lines = (if n ≤ 44 then 1 else 2)) ∨ (i = .setDelete e ∧ reqCommand s = 0x22 ∧ reqArgs s = 1 ∧ s.get STORE.SETSTS_STATE ≠ 3 ∧ lines = 1) ∨ (i = .setReset e ∧ reqCommand s = 0x23 ∧ reqArgs s = 0 ∧ lines = 1)) ∧
    (makeRoom lines (if i = .setReset e then s' else keepFree lines s') = some (l, u)) ∧
    (rl = recLine (if i = .setWrite e then 1 else if i = .setDelete e then 2 else 3) lines u.nvm.nextSeq (schemaOut u) (if i = .setReset e then 0 else key) (if i = .setWrite e then n else 0) (if i = .setWrite e then v else if i = .setDelete e then [] else confirmBytes u 0 true)) ∧
    schemaOut u = schemaOut s ∧ (i = .setReset e)) :=
  ⟨⟨setReq 0x21000003 0x00090007, { weak := [5], bad := [9] }, .setWrite { weak := [5], bad := [9] }, 0x21, by decide⟩,
   ⟨setReq 0x21000004 0x00090007, {}, .setWrite {}, 0x21, by decide⟩,
   ⟨setReq 0x20000002 0, { cut := some ⟨0, true, .supply⟩ }, .setRead { cut := some ⟨0, true, .supply⟩ }, 0x20, by decide⟩,
   ⟨setReq 0x23000000 0, {}, .setWrite {}, 0x21, by decide⟩,
   ⟨(let t := (settled (setReq 0x20000001 7)).puts [(UPD.STS_STATE, 4), (UPD.STS_BUSY, 1)]; { t with nvm := { t.nvm with work := some (3, none) } }), {}, .setRead {}, 0x20, by decide⟩,
   ⟨{ setReq 0x20000001 7 with nvm := { up.nvm with staged := [(7, some [1, 2, 3, 4, 5])] } }, ({ setReq 0x20000001 7 with nvm := { up.nvm with staged := [(7, some [1, 2, 3, 4, 5])] } } : State).meetLines { weak := [3] }, { weak := [3] }, 7, by decide⟩,
   ⟨settled (setReq 0x20000001 7), settled (setReq 0x20000001 7), {}, 7, by decide⟩,
   ⟨settled (setReq 0x20000001 7), (settled (setReq 0x20000001 7)).meetLines { bad := [197633] }, { bad := [197633] }, 7, by decide⟩,
   ⟨setReq 0x20000001 9, setReq 0x20000001 9, {}, 9, by decide⟩,
   ⟨(setReq 0x21000003 0x00050007).puts [(UPD.STS_STATE, 6), (MBX.REQ_W 2, 0x04030201), (MBX.REQ_W 3, 0x05)], (setReq 0x21000003 0x00050007).puts [(UPD.STS_STATE, 6), (MBX.REQ_W 2, 0x04030201), (MBX.REQ_W 3, 0x05)], { cut := some ⟨0, true, .supply⟩ }, 7, 5, [1, 2, 3, 4, 5], by decide⟩,
   ⟨(setReq 0x22000001 7).put UPD.STS_STATE 6, (setReq 0x22000001 7).put UPD.STS_STATE 6, {}, 7, 0, [], by decide⟩,
   ⟨(setReq 0x23000000 0).put UPD.STS_STATE 6, (setReq 0x23000000 0).put UPD.STS_STATE 6, {}, 0, 0, [], by decide⟩,
   ⟨{ (setReq 0x21000003 0x00050200).put UPD.STS_STATE 6 with nvm := { up.nvm with staged := (List.range 512).map fun k => (k, some (List.replicate 56 0)) } }, { (setReq 0x21000003 0x00050200).put UPD.STS_STATE 6 with nvm := { up.nvm with staged := (List.range 512).map fun k => (k, some (List.replicate 56 0)) } }, {}, 512, 5, [0, 0, 0, 0, 0], by decide⟩,
   ⟨(setReq 0x21000003 0x00050007).put STORE.SETSTS_STATE 3, { weak := [4] }, by decide⟩,
   ⟨(setReq 0x22000001 7).put STORE.SETSTS_STATE 3, {}, by decide⟩,
   ⟨(setReq 0x21000003 0x00050007).puts [(MBX.REQ_W 2, 0x04030201), (MBX.REQ_W 3, 0x05)], (setReq 0x21000003 0x00050007).puts [(MBX.REQ_W 2, 0x04030201), (MBX.REQ_W 3, 0x05)], {}, .setWrite {}, 7, 5, 1, 1, [1, 2, 3, 4, 5], openSeg 0 ((setReq 0x21000003 0x00050007).puts [(MBX.REQ_W 2, 0x04030201), (MBX.REQ_W 3, 0x05)]), recLine 1 1 1 0 7 5 [1, 2, 3, 4, 5], by decide⟩,
   ⟨settled (setReq 0x22000001 7), settled (setReq 0x22000001 7), {}, .setDelete {}, 7, 0, 1, 2, [], settled (setReq 0x22000001 7), recLine 2 1 2 0 7 0 [], by decide⟩,
   ⟨settled (setReq 0x23000000 0), settled (setReq 0x23000000 0), {}, .setReset {}, 0, 0, 1, 2, [], settled (setReq 0x23000000 0), recLine 3 1 2 0 0 0 (confirmBytes (settled (setReq 0x23000000 0)) 0 true), by decide⟩⟩

theorem updateCommandsMoveTheStates_met :
  (∃ (s : State) (e : StoreEnv) (i : Instr) (op : Nat),
    s.live ∧ s.answers .upd ∧
    (i, op) ∈ [(Instr.updStart e, 1), (.updVerify, 2), (.updArm e, 3), (.updConfirm e, 4), (.updRevert e, 5), (.updAbort e, 6)] ∧
    (s.get UPD.STS_BUSY = 1 ∨ s.get UPD.STS_STATE ∉ ([[], [0, 2, 4, 7, 8], [2], [4], [6], [5, 6], [1, 2, 4]] : List (List Nat)).getD op [])) ∧
  (∃ (s : State) (e : StoreEnv) (i : Instr) (op : Nat),
    s.live ∧ s.answers .upd ∧
    (i, op) ∈ [(Instr.updStart e, 1), (.updVerify, 2), (.updArm e, 3), (.updConfirm e, 4), (.updRevert e, 5), (.updAbort e, 6)] ∧
    (s.get UPD.STS_BUSY = 1 ∨ s.get UPD.STS_STATE ∉ ([[], [0, 2, 4, 7, 8], [2], [4], [6], [5, 6], [1, 2, 4]] : List (List Nat)).getD op [])) ∧
  (∃ (s u : State) (e : StoreEnv) (slot : Nat) (tears : Bool),
    s.live ∧ s.answers .upd ∧ s.get UPD.STS_BUSY ≠ 1 ∧ u = s.meetLines e ∧ slot = startTarget u ∧ e.cut = none ∧
    s.get UPD.STS_STATE ∈ [0, 2, 4, 7, 8] ∧ (s.nvm.recovery = false) ∧ (s.get UPD.STS_STATE = 2) ∧
    s.get UPD.STS_STATE ∈ [1, 2, 4]) ∧
  (∃ (s u : State) (e : StoreEnv) (slot : Nat) (tears : Bool),
    s.live ∧ s.answers .upd ∧ s.get UPD.STS_BUSY ≠ 1 ∧ u = s.meetLines e ∧ slot = startTarget u ∧
    (e.cut = some ⟨0, tears, .supply⟩ ∨ e.cut = some ⟨0, tears, .chip⟩) ∧ s.get UPD.STS_STATE ∈ [0, 2, 4, 7, 8] ∧
    (s.nvm.recovery = false) ∧ (s.get UPD.STS_STATE = 2)) ∧
  (∃ (s u : State) (e : StoreEnv) (slot : Nat) (tears : Bool),
    s.live ∧ s.answers .upd ∧ s.get UPD.STS_BUSY ≠ 1 ∧ u = s.meetLines e ∧ slot = startTarget u ∧
    (e.cut = some ⟨0, tears, .supply⟩ ∨ e.cut = some ⟨0, tears, .chip⟩) ∧ s.get UPD.STS_STATE ∈ [0, 2, 4, 7, 8] ∧
    (s.nvm.recovery = false) ∧ (s.get UPD.STS_STATE = 2)) ∧
  (∃ (s u : State) (e : StoreEnv) (slot : Nat) (tears : Bool),
    s.live ∧ s.answers .upd ∧ s.get UPD.STS_BUSY ≠ 1 ∧ u = s.meetLines e ∧ slot = startTarget u ∧ e.cut = none ∧
    s.get UPD.STS_STATE ∈ [0, 2, 4, 7, 8] ∧ (s.nvm.recovery = false) ∧ s.get UPD.STS_STATE ∈ [1, 2, 4]) ∧
  (∃ (s : State) (e : StoreEnv) (i : Instr) (op : Nat),
    s.live ∧ s.answers .upd ∧ s.get UPD.STS_BUSY ≠ 1 ∧
    (i, op, s.get UPD.STS_STATE) ∈ [(Instr.updArm e, 3, 4), (.updConfirm e, 4, 6), (.updRevert e, 5, 5), (.updRevert e, 5, 6)]) ∧
  (∃ (s : State) (e : StoreEnv) (i : Instr) (op : Nat),
    s.live ∧ s.answers .upd ∧ s.get UPD.STS_BUSY ≠ 1 ∧
    (i, op, s.get UPD.STS_STATE) ∈ [(Instr.updArm e, 3, 4), (.updConfirm e, 4, 6), (.updRevert e, 5, 5), (.updRevert e, 5, 6)]) ∧
  (∃ (s : State) (e : StoreEnv) (i : Instr) (op : Nat),
    s.live ∧ s.answers .upd ∧ s.get UPD.STS_BUSY ≠ 1 ∧
    (i, op, s.get UPD.STS_STATE) ∈ [(Instr.updArm e, 3, 4), (.updConfirm e, 4, 6), (.updRevert e, 5, 5), (.updRevert e, 5, 6)]) ∧
  (∃ (s : State) (l c n : Nat) (cut : Option StoreCut) (tears : Bool),
    s.live ∧ s.pending = [] ∧ s.sys.pll = true ∧ s.hif.waits = [] ∧ s.nvm.work = some (3, cut) ∧ s.nvm.left = none ∧
    s.nvm.torn = false ∧ s.nvm.recovery = false ∧ makeRoom 1 s = some (l, s) ∧ l < 49152 ∧
    (c = if newerIndex s = some 0 then 1 else 0) ∧ n = (newerSeq s + 1) % 2 ^ 32 ∧ (cut = none)) ∧
  (∃ (s : State) (l c n : Nat) (cut : Option StoreCut) (tears : Bool),
    s.live ∧ s.pending = [] ∧ s.sys.pll = true ∧ s.hif.waits = [] ∧ s.nvm.work = some (3, cut) ∧ s.nvm.left = none ∧
    s.nvm.torn = false ∧ s.nvm.recovery = false ∧ makeRoom 1 s = some (l, s) ∧ l < 49152 ∧
    (c = if newerIndex s = some 0 then 1 else 0) ∧ n = (newerSeq s + 1) % 2 ^ 32 ∧ (cut = some ⟨0, tears, .supply⟩)) ∧
  (∃ (s : State) (l c n : Nat) (cut : Option StoreCut) (tears : Bool),
    s.live ∧ s.pending = [] ∧ s.sys.pll = true ∧ s.hif.waits = [] ∧ s.nvm.work = some (3, cut) ∧ s.nvm.left = none ∧
    s.nvm.torn = false ∧ s.nvm.recovery = false ∧ makeRoom 1 s = some (l, s) ∧ l < 49152 ∧
    (c = if newerIndex s = some 0 then 1 else 0) ∧ n = (newerSeq s + 1) % 2 ^ 32 ∧ (cut = some ⟨0, tears, .supply⟩)) ∧
  (∃ (s : State) (b : BootRec) (c n op : Nat),
    s.live ∧ s.pending = [] ∧ s.sys.pll = true ∧ s.hif.waits = [] ∧ s.nvm.work = some (op, none) ∧
    s.nvm.left = none ∧ s.nvm.torn = false ∧ newerCopy s = some b ∧ (c = if newerIndex s = some 0 then 1 else 0) ∧
    n = (newerSeq s + 1) % 2 ^ 32 ∧ op = 4 ∧ b.trial = true ∧ s.nvm.staged = [] ∧ s.get STORE.SETSTS_STATE ≠ 2 ∧
    s.get STORE.SETSTS_STATE ≠ 3) ∧
  (∃ (s : State) (b : BootRec) (c n op : Nat),
    s.live ∧ s.pending = [] ∧ s.sys.pll = true ∧ s.hif.waits = [] ∧ s.nvm.work = some (op, none) ∧
    s.nvm.left = none ∧ s.nvm.torn = false ∧ newerCopy s = some b ∧ (c = if newerIndex s = some 0 then 1 else 0) ∧
    n = (newerSeq s + 1) % 2 ^ 32) ∧
  (∃ (s : State) (m : Nat),
    s.live ∧ s.pending = [] ∧ s.sys.pll = true ∧ s.hif.waits = [] ∧ s.nvm.work = some (3, none) ∧
    s.nvm.left = none ∧ s.nvm.torn = false ∧ s.nvm.recovery = true ∧
    (m = ((newerCopy s).map fun (b : BootRec) => (b.seq + 1) % 2 ^ 32).getD 1)) ∧
  (∃ (s : State) (m : Nat),
    s.live ∧ s.pending = [] ∧ s.sys.pll = true ∧ s.hif.waits = [] ∧ s.nvm.work = some (3, none) ∧
    s.nvm.left = none ∧ s.nvm.torn = false ∧ s.nvm.recovery = true ∧
    (m = ((newerCopy s).map fun (b : BootRec) => (b.seq + 1) % 2 ^ 32).getD 1)) ∧
  (∃ (s : State) (b : BootRec) (c k n1 n2 q : Nat) (v mig : List Byte) (r : JRec),
    s.live ∧ s.pending = [] ∧ s.sys.pll = true ∧ s.hif.waits = [] ∧ s.nvm.work = some (4, none) ∧
    s.nvm.left = none ∧ s.nvm.torn = false ∧ newerCopy s = some b ∧ b.trial = true ∧
    (c = if newerIndex s = some 0 then 1 else 0) ∧ headLine s = b.cline ∧
    (segSeq s (b.cline / 1024)).isSome = true ∧ 0 < b.cline % 1024 ∧ b.cline % 1024 < 1019 ∧ b.cline < 49152 ∧
    s.nvm.staged = [(k, some v)] ∧ liveSet s = [r] ∧ q = s.nvm.nextSeq ∧ mig = liveValue s r ∧
    n1 = recLines mig.length ∧ n2 = recLines v.length ∧ (s.get STORE.SETSTS_STATE = 2)) ∧
  (∃ (s : State) (b : BootRec) (c k n1 n2 q : Nat) (v mig : List Byte) (r : JRec),
    s.live ∧ s.pending = [] ∧ s.sys.pll = true ∧ s.hif.waits = [] ∧ s.nvm.work = some (4, none) ∧
    s.nvm.left = none ∧ s.nvm.torn = false ∧ newerCopy s = some b ∧ b.trial = true ∧
    (c = if newerIndex s = some 0 then 1 else 0) ∧ headLine s = b.cline ∧
    (segSeq s (b.cline / 1024)).isSome = true ∧ 0 < b.cline % 1024 ∧ b.cline % 1024 < 1019 ∧ b.cline < 49152 ∧
    s.nvm.staged = [(k, some v)] ∧ liveSet s = [r] ∧ q = s.nvm.nextSeq ∧ mig = liveValue s r ∧
    n1 = recLines mig.length ∧ n2 = recLines v.length ∧ (s.get STORE.SETSTS_STATE ≠ 2)) :=
  ⟨⟨up.put UPD.STS_STATE 5, { weak := [1] }, .updAbort { weak := [1] }, 6, by decide⟩,
   ⟨up.puts [(UPD.STS_STATE, 2), (UPD.STS_BUSY, 1)], {}, .updStart {}, 1, by decide⟩,
   ⟨(up.put UPD.STS_STATE 2).mramWrite 0x610000 (List.replicate 64 7), (up.put UPD.STS_STATE 2).mramWrite 0x610000 (List.replicate 64 7), {}, 1, false, by decide⟩,
   ⟨(up.put UPD.STS_STATE 2).mramWrite 0x610000 (List.replicate 64 7), (up.put UPD.STS_STATE 2).mramWrite 0x610000 (List.replicate 64 7), { cut := some ⟨0, false, .chip⟩ }, 1, false, by decide⟩,
   ⟨(up.put UPD.STS_STATE 2).mramWrite 0x610000 (List.replicate 64 7), (up.put UPD.STS_STATE 2).mramWrite 0x610000 (List.replicate 64 7), { cut := some ⟨0, true, .supply⟩ }, 1, true, by decide⟩,
   ⟨(recorded.puts [(UPD.STS_STATE, 4), (SYS.BOOT_STATUS_CODE, 0x10)]), (recorded.puts [(UPD.STS_STATE, 4), (SYS.BOOT_STATUS_CODE, 0x10)]), {}, 0, true, by decide⟩,
   ⟨up.put UPD.STS_STATE 6, { cut := some ⟨1, false, .chip⟩ }, .updConfirm { cut := some ⟨1, false, .chip⟩ }, 4, by decide⟩,
   ⟨up.put UPD.STS_STATE 5, { weak := [8] }, .updRevert { weak := [8] }, 5, by decide⟩,
   ⟨up.put UPD.STS_STATE 4, {}, .updArm {}, 3, by decide⟩,
   ⟨working (settled up) 3 none, 2, 0, 1, none, true, by decide⟩,
   ⟨working (settled up) 3 (some ⟨0, true, .supply⟩), 2, 0, 1, some ⟨0, true, .supply⟩, true, by decide⟩,
   ⟨working (settled up) 3 (some ⟨0, false, .supply⟩), 2, 0, 1, some ⟨0, false, .supply⟩, false, by decide⟩,
   ⟨working ((up.put UPD.STS_STATE 6).mramWrite (copyAddr 0) (bootLine { rec0 with trial := true, cline := 1, actId := 9 })) 4 none, { rec0 with trial := true, cline := 1, actId := 9 }, 1, 8, 4, by decide⟩,
   ⟨working ((up.put UPD.STS_STATE 5).mramWrite (copyAddr 1) (bootLine rec0)) 5 none, rec0, 0, 8, 5, by decide⟩,
   ⟨{ working up 3 none with nvm := { (working up 3 none).nvm with recovery := true } }, 1, by decide⟩,
   ⟨{ working (up.mramWrite 0x8000 (bootLine rec0)) 3 none with nvm := { (working (up.mramWrite 0x8000 (bootLine rec0)) 3 none).nvm with recovery := true } }, 8, by decide⟩,
   ⟨{ working ((((settled up).puts [(UPD.STS_STATE, 6), (STORE.SETSTS_STATE, 2)]).mramWrite (copyAddr 0) (bootLine { rec0 with trial := true, cline := 2, actId := 9 }))) 4 none with nvm := { (working ((((settled up).puts [(UPD.STS_STATE, 6), (STORE.SETSTS_STATE, 2)]).mramWrite (copyAddr 0) (bootLine { rec0 with trial := true, cline := 2, actId := 9 }))) 4 none).nvm with staged := [(5, some (List.replicate 45 8))] } }, { rec0 with trial := true, cline := 2, actId := 9 }, 1, 5, 1, 2, 2, (List.replicate 45 8), [1, 2, 3], ⟨1, 1, 1, 1, 0, 7, [1, 2, 3]⟩, by decide +kernel⟩,
   ⟨{ working ((((settled up).puts [(UPD.STS_STATE, 6), (STORE.SETSTS_STATE, 3)]).mramWrite (copyAddr 0) (bootLine { rec0 with trial := true, cline := 2, actId := 9 }))) 4 none with nvm := { (working ((((settled up).puts [(UPD.STS_STATE, 6), (STORE.SETSTS_STATE, 3)]).mramWrite (copyAddr 0) (bootLine { rec0 with trial := true, cline := 2, actId := 9 }))) 4 none).nvm with staged := [(5, some [4])] } }, { rec0 with trial := true, cline := 2, actId := 9 }, 1, 5, 1, 1, 2, [4], [1, 2, 3], ⟨1, 1, 1, 1, 0, 7, [1, 2, 3]⟩, by decide +kernel⟩⟩

theorem chunksVerificationAndCompactionWriteTheStore_met :
  (∃ (s : State) (e : StoreEnv),
    s.live ∧ (s.get UPD.STS_STATE ≠ 1 ∨ (s.fifo 15).taken = []) ∧ (s.get UPD.STS_STATE ≠ 3)) ∧
  (∃ (s : State) (e : StoreEnv) (p : Packet) (rest : List Packet),
    s.live ∧ s.get UPD.STS_STATE = 1 ∧ (s.fifo 15).taken = p :: rest ∧ (s.fifo 15).taking = none ∧ p.typ = 0x40 ∧
    sliceNat p.bytes 0 4 = s.get UPD.RCVD_N ∧ 16 ≤ p.bytes.length ∧ p.bytes.length ≤ 65540 ∧ s.nvm.head = [] ∧
    sliceNat p.bytes 4 4 ≠ 0x58465645) ∧
  (∃ (s : State) (e : StoreEnv) (p : Packet) (rest : List Packet),
    s.live ∧ s.get UPD.STS_STATE = 1 ∧ (s.fifo 15).taken = p :: rest ∧ (s.fifo 15).taking = none ∧ (p.typ ≠ 0x40)) ∧
  (∃ (s : State) (e : StoreEnv) (p : Packet) (rest : List Packet),
    s.live ∧ s.get UPD.STS_STATE = 1 ∧ (s.fifo 15).taken = p :: rest ∧ (s.fifo 15).taking = none ∧ p.typ = 0x40 ∧
    sliceNat p.bytes 0 4 ≠ s.get UPD.RCVD_N) ∧
  (∃ (s : State) (len : Nat) (w : W32) (ws : List W32) (items : List (W32 × Bool)) (bs : List Byte),
    s.live ∧ s.get UPD.STS_STATE = 1 ∧ fifoOn s 15 0 = true ∧ (s.fifo 15).items = (w, false) :: items ∧
    (s.fifo 15).skip = false ∧ (s.fifo 15).taken = [] ∧ (s.fifo 15).taking = some (0x40, len, ws) ∧ 5 ≤ len ∧
    len ≤ 65540 ∧ ws.length + 1 < (len + 3) / 4 ∧ s.nvm.head = [] ∧ bs = payload (ws ++ [w]) len ∧
    sliceNat bs 0 4 = s.get UPD.RCVD_N ∧ 4 ≤ bs.length ∧ (16 ≤ bs.length)) ∧
  (∃ (s : State) (len : Nat) (w : W32) (ws : List W32) (items : List (W32 × Bool)) (bs : List Byte),
    s.live ∧ s.get UPD.STS_STATE = 1 ∧ fifoOn s 15 0 = true ∧ (s.fifo 15).items = (w, false) :: items ∧
    (s.fifo 15).skip = false ∧ (s.fifo 15).taken = [] ∧ (s.fifo 15).taking = some (0x40, len, ws) ∧ 5 ≤ len ∧
    len ≤ 65540 ∧ ws.length + 1 < (len + 3) / 4 ∧ s.nvm.head = [] ∧ bs = payload (ws ++ [w]) len ∧
    sliceNat bs 0 4 = s.get UPD.RCVD_N ∧ 4 ≤ bs.length ∧ (16 ≤ bs.length)) ∧
  (∃ (s : State) (len : Nat) (w : W32) (ws : List W32) (items : List (W32 × Bool)) (bs : List Byte),
    s.live ∧ s.get UPD.STS_STATE = 1 ∧ fifoOn s 15 0 = true ∧ (s.fifo 15).items = (w, false) :: items ∧
    (s.fifo 15).skip = false ∧ (s.fifo 15).taken = [] ∧ (s.fifo 15).taking = some (0x40, len, ws) ∧ 5 ≤ len ∧
    len ≤ 65540 ∧ ws.length + 1 < (len + 3) / 4 ∧ s.nvm.head = [] ∧ bs = payload (ws ++ [w]) len ∧
    sliceNat bs 0 4 = s.get UPD.RCVD_N ∧ 4 ≤ bs.length ∧ (16 ≤ bs.length)) ∧
  (∃ (s : State) (len : Nat) (w : W32) (ws : List W32) (items : List (W32 × Bool)) (bs : List Byte),
    s.live ∧ s.get UPD.STS_STATE = 1 ∧ fifoOn s 15 0 = true ∧ (s.fifo 15).items = (w, false) :: items ∧
    (s.fifo 15).skip = false ∧ (s.fifo 15).taken = [] ∧ (s.fifo 15).taking = some (0x40, len, ws) ∧ 5 ≤ len ∧
    len ≤ 65540 ∧ ws.length + 1 < (len + 3) / 4 ∧ s.nvm.head = [] ∧ bs = payload (ws ++ [w]) len ∧
    sliceNat bs 0 4 = s.get UPD.RCVD_N ∧ 4 ≤ bs.length ∧ (bs.length < 16)) ∧
  (∃ (s : State) (e : StoreEnv) (d : List Byte) (cut : Bool) (rest : List Packet) (r total base : Nat),
    s.live ∧ e.cut = none ∧ s.get UPD.STS_STATE = 1 ∧ (s.fifo 15).taken = ⟨0x40, leBytes 4 r ++ d, cut⟩ :: rest ∧
    (s.fifo 15).taking = none ∧ s.get UPD.RCVD_N = r ∧ 64 ≤ r ∧ s.nvm.head.length = 64 ∧
    sliceNat s.nvm.head 0 4 = 0x58465645 ∧ sliceNat s.nvm.head 4 2 = 1 ∧ total = sliceNat s.nvm.head 8 4 ∧
    total % 64 = 0 ∧ 512 ≤ total ∧ total ≤ 0x600000 - 64 ∧ 1 ≤ d.length ∧ d.length ≤ 65536 ∧
    base = slotBase s.nvm.target ∧ (r + d.length ≤ total)) ∧
  (∃ (s : State) (e : StoreEnv) (d : List Byte) (cut : Bool) (rest : List Packet) (r total base : Nat),
    s.live ∧ e.cut = none ∧ s.get UPD.STS_STATE = 1 ∧ (s.fifo 15).taken = ⟨0x40, leBytes 4 r ++ d, cut⟩ :: rest ∧
    (s.fifo 15).taking = none ∧ s.get UPD.RCVD_N = r ∧ 64 ≤ r ∧ s.nvm.head.length = 64 ∧
    sliceNat s.nvm.head 0 4 = 0x58465645 ∧ sliceNat s.nvm.head 4 2 = 1 ∧ total = sliceNat s.nvm.head 8 4 ∧
    total % 64 = 0 ∧ 512 ≤ total ∧ total ≤ 0x600000 - 64 ∧ 1 ≤ d.length ∧ d.length ≤ 65536 ∧
    base = slotBase s.nvm.target ∧ (total < r + d.length)) ∧
  (∃ (s : State) (e : StoreEnv) (d : List Byte) (cut : Bool) (rest : List Packet) (r total base : Nat),
    s.live ∧ e.cut = none ∧ s.get UPD.STS_STATE = 1 ∧ (s.fifo 15).taken = ⟨0x40, leBytes 4 r ++ d, cut⟩ :: rest ∧
    (s.fifo 15).taking = none ∧ s.get UPD.RCVD_N = r ∧ 64 ≤ r ∧ s.nvm.head.length = 64 ∧
    sliceNat s.nvm.head 0 4 = 0x58465645 ∧ sliceNat s.nvm.head 4 2 = 1 ∧ total = sliceNat s.nvm.head 8 4 ∧
    total % 64 = 0 ∧ 512 ≤ total ∧ total ≤ 0x600000 - 64 ∧ 1 ≤ d.length ∧ d.length ≤ 65536 ∧
    base = slotBase s.nvm.target ∧ (r + d.length ≤ total)) ∧
  (∃ (s u : State) (e : StoreEnv),
    s.live ∧ s.get UPD.STS_STATE = 3 ∧ u = s.meetLines e ∧ (verifyImage u s.nvm.target ≠ 0) ∧
    s.mramNat (slotBase s.nvm.target) 4 ≠ 0x58465645 ∧ u.nvm.badLines = []) ∧
  (∃ (s u : State) (e : StoreEnv),
    s.live ∧ s.get UPD.STS_STATE = 3 ∧ u = s.meetLines e ∧ (verifyImage u s.nvm.target ≠ 0)) ∧
  (∃ (s : State) (e : StoreEnv) (g : Nat),
    s.live) ∧
  (∃ (s : State) (e : StoreEnv) (g : Nat),
    s.live) ∧
  (∃ (s : State) (e : StoreEnv) (g : Nat),
    s.live) :=
  ⟨⟨up.put UPD.STS_STATE 1, { bad := [4] }, by decide⟩,
   ⟨{ up.put UPD.STS_STATE 1 with fifos := [(15, { taken := [⟨0x40, List.replicate 16 0, false⟩] })] }, {}, ⟨0x40, List.replicate 16 0, false⟩, [], by decide⟩,
   ⟨{ up.put UPD.STS_STATE 1 with fifos := [(15, { taken := [⟨0x41, [], true⟩] })] }, {}, ⟨0x41, [], true⟩, [], by decide⟩,
   ⟨{ up.put UPD.STS_STATE 1 with fifos := [(15, { taken := [⟨0x40, [1, 0, 0, 0, 9], false⟩] })] }, {}, ⟨0x40, [1, 0, 0, 0, 9], false⟩, [], by decide⟩,
   ⟨{ up.puts [(UPD.STS_STATE, 1), (BFIFO.CTL_EN 15, 1), (BFIFO.STS_STATE 15, 1)] with fifos := [(15, { items := [(512, false)], taking := some (0x40, 68, [0, 0x58465645, 1]) })] }, 68, 512, [0, 0x58465645, 1], [], [0, 0, 0, 0, 0x45, 0x56, 0x46, 0x58, 1, 0, 0, 0, 0, 2, 0, 0], by decide⟩,
   ⟨{ up.puts [(UPD.STS_STATE, 1), (BFIFO.CTL_EN 15, 1), (BFIFO.STS_STATE 15, 1)] with fifos := [(15, { items := [(513, false)], taking := some (0x40, 68, [0, 0x58465645, 1]) })] }, 68, 513, [0, 0x58465645, 1], [], [0, 0, 0, 0, 0x45, 0x56, 0x46, 0x58, 1, 0, 0, 0, 1, 2, 0, 0], by decide⟩,
   ⟨{ up.puts [(UPD.STS_STATE, 1), (BFIFO.CTL_EN 15, 1), (BFIFO.STS_STATE 15, 1)] with fifos := [(15, { items := [(512, false), (0, true)], taking := some (0x40, 68, [0, 1, 1]) })] }, 68, 512, [0, 1, 1], [(0, true)], [0, 0, 0, 0, 1, 0, 0, 0, 1, 0, 0, 0, 0, 2, 0, 0], by decide⟩,
   ⟨{ up.puts [(UPD.STS_STATE, 1), (BFIFO.CTL_EN 15, 1), (BFIFO.STS_STATE 15, 1)] with fifos := [(15, { items := [(1, false)], taking := some (0x40, 68, [0]) })] }, 68, 1, [0], [], [0, 0, 0, 0, 1, 0, 0, 0], by decide⟩,
   ⟨chunkUp 510 [7, 8], {}, [7, 8], false, [], 510, 512, 0x610000, by decide⟩,
   ⟨chunkUp 510 [7, 8, 9], {}, [7, 8, 9], false, [], 510, 512, 0x610000, by decide⟩,
   ⟨chunkUp 64 [7, 8, 9], {}, [7, 8, 9], false, [], 64, 512, 0x610000, by decide⟩,
   ⟨up.puts [(UPD.STS_STATE, 3), (UPD.STS_BUSY, 1)], up.puts [(UPD.STS_STATE, 3), (UPD.STS_BUSY, 1)], {}, by decide⟩,
   ⟨up.puts [(UPD.STS_STATE, 3), (UPD.STS_BUSY, 1)], (up.puts [(UPD.STS_STATE, 3), (UPD.STS_BUSY, 1)]).meetLines { bad := [1024] }, { bad := [1024] }, by decide⟩,
   ⟨up, {}, 0, by decide⟩,
   ⟨segs45, {}, 44, by decide⟩,
   ⟨segs45live, {}, 44, by decide⟩⟩

end Sys2Proof.Tests
end

section
/-! SUPPORT. The gates of the commands: what a command may answer at all (R5, log entry 8). -/

namespace Sys2Proof.Machine

/-- An answer that R5 leaves: a next state, or the fault of the unsupported condition while one holds. -/
def Answered (s : State) (o : Out) : Prop :=
  (∃ t, o = .next t) ∨ (o = .fault .unsupportedCondition ∧ ¬ s.supported)

theorem always_answered (f : State → State) (s : State) : Answered s (always f s) := .inl ⟨_, rfl⟩

theorem onCore_answered (f : State → State) (s : State) : Answered s (onCore f s) := by
  unfold onCore
  split
  · rename_i hu
    exact .inr ⟨rfl, hu⟩
  · split <;> exact .inl ⟨_, rfl⟩

theorem onKa_answered (f : State → State) (s : State) : Answered s (onKa f s) := by
  unfold onKa
  split
  · rename_i hu
    exact .inr ⟨rfl, by simp [hu]⟩
  · split <;> exact .inl ⟨_, rfl⟩

theorem ite_answered {c : Prop} [Decidable c] {s : State} {a b : Out} (ha : Answered s a) (hb : Answered s b) :
    Answered s (if c then a else b) := by
  split
  · exact ha
  · exact hb

theorem onBus_answered (chip : Bool) (f : State → State) (s : State) : Answered s (onBus chip f s) :=
  ite_answered (always_answered ..) (onCore_answered ..)

theorem linkBus_answered (chip : Bool) (c : Instr) (f : State → State) (s : State) : Answered s (linkBus chip c f s) :=
  onBus_answered ..

/-- Each command stands behind one of the gates: the pins, supplies and resets behind none, the events of the KA domain
behind its own, the two reset commands and the watchdog behind the one that their scope picks, and every other command
behind the core's. -/
theorem exec_answered (i : Instr) (s : State) : Answered s (exec i s) := by
  cases i with
  | vddAonLow | poresetRelease | xoLoss | pllLockLoss | resetNLow | resetNRise | chipHoldEnd | xoOk | pllLock | perstNLow
  | perstNRise | railLoss | tvHpdChange => apply always_answered
  | serviceHoldEnd | coreRelease | onPulseStart | pulseEnd | regSample | ffNotice | ffRampStart | ffHoldEnd | phaseShed
  | openLoopPulse | regTrip | underVoltage | tripRetry | tripcntClear | powerGood | setPointRampEnd | caddyGrant
  | caddyReturn | requestAged | brakeEngage | brake2 | brakeStepBack | tempUpdate | monitorUpdate | ppsPulse
  | lossOfSignal | refRateChange | dpllUpdate | domainLocked | realignApply | earcLink | earcStream | heartbeatLost
  | earcChannelStatus | sourceChange | sourceResume | portFsEdge => apply onKa_answered
  | rstcmdService => exact ite_answered (onKa_answered ..) (onCore_answered ..)
  | rstcmdChip => exact ite_answered (always_answered ..) (onCore_answered ..)
  | wdogExpiry => exact ite_answered (always_answered ..) (onKa_answered ..)
  | registerWrite | partialWrite => apply linkBus_answered
  | spiWriteFrame => apply onBus_answered
  | _ => apply onCore_answered

/-- Settles O5: every command answers as its gate does (`exec_answered`), and no gate refuses. -/
theorem commandsStopOnlyWhenUnsupported : Obligations.CommandsStopOnlyWhenUnsupported := by
  unfold Obligations.CommandsStopOnlyWhenUnsupported
  refine ⟨fun i s hs => ?_, fun i s f hf => ?_, fun i s r hr => ?_⟩
  · exact (exec_answered i s).resolve_right fun ⟨_, hn⟩ => hn hs
  · rcases exec_answered i s with ⟨t, ht⟩ | ⟨he, hn⟩
    · simp [ht] at hf
    · rw [he] at hf
      injection hf with e
      exact ⟨e.symm, hn⟩
  · rcases exec_answered i s with ⟨t, ht⟩ | ⟨he, _⟩
    · simp [ht] at hr
    · simp [he] at hr

end Sys2Proof.Machine
end

section
/-! SUPPORT. A register write over the link: the page and offset that its address names, when it acts, and what its
page's checks and access codes make of it (R13, R34, R40, R177). -/

namespace Sys2Proof.Machine

/-! ### The address -/

theorem Page.base_aligned (p : Page) : p.base < 0x800000 ∧ p.base % 0x1000 = 0 := by
  cases p with
  | cell n | csi n | dmc n | bfifo n => simp only [Page.base]; omega
  | _ => decide

theorem Page.atBase_base (p : Page) : Page.atBase p.base = some p := by
  cases p with
  | cell n | csi n | dmc n | bfifo n => revert n; decide
  | _ => rfl

/-- An address is its page's base and an offset of a doubleword in it (R12, R34). -/
theorem target_page (p : Page) {o : Nat} (ho : o < 0x1000) (h4 : o % 4 = 0) : target (p.base + o) = .page p o := by
  obtain ⟨hlt, hal⟩ := Page.base_aligned p
  have hb : (p.base + o) / 0x1000 * 0x1000 = p.base := by omega
  have hd : dwordOf (p.base + o) % 0x1000 = o := by unfold dwordOf; omega
  have hn : ¬ (0x800000 ≤ p.base + o ∧ p.base + o < 0x900000) := by omega
  simp [target, hn, pageOfAddr, hb, hd, Page.atBase_base]

/-! ### When a register write acts -/

variable {s : State} {a : BitVec 24} {d : W32} {p : Page} {o : Nat}

/-- With no write before it on the link, a register write acts at once; the CHIP command never waits (R5, R177). -/
theorem exec_registerWrite_live (hl : s.live) (hw : writeWaits s = false) :
    exec (.registerWrite a d) s = .next (busWrite a.toNat d s) := by
  obtain ⟨hu, hc⟩ := hl
  change linkBus _ _ _ _ = _
  unfold linkBus onBus
  split
  · simp [always, hc]
  · simp [onCore, hu, hc, onLink, hw]

theorem busWrite_page {n : Nat} (ht : target n = .page p o) : busWrite n d s = onPage p (writePage p o d) s := by
  simp [busWrite, ht]

/-- Past the common header a write is its page's own. -/
theorem writePage_body (h : 0x40 ≤ o) : writePage p o d s = writeBody p o d s := by
  unfold writePage
  simp [show o ≠ 0x8 by omega, show o ≠ 0x10 by omega, show o ≠ 0x18 by omega, show o ≠ 0x1C by omega,
    show o ≠ 0x20 by omega, show ¬ o < 0x40 by omega]

theorem exec_registerWrite_body (hl : s.live) (ha : s.answers p) (ht : target a.toNat = .page p o) (ho : 0x40 ≤ o) :
    exec (.registerWrite a d) s = .next (writeBody p o d s) := by
  rw [exec_registerWrite_live hl ha.2.2, busWrite_page ht, onPage_answers _ ha, writePage_body ho]

theorem target_ofNat {n : Nat} (hn : n = p.base + o) (ho : o < 0x1000) (h4 : o % 4 = 0) :
    target (BitVec.ofNat 24 n).toNat = .page p o := by
  have := (Page.base_aligned p).1
  rw [BitVec.toNat_ofNat, Nat.mod_eq_of_lt (by omega), hn, target_page p ho h4]

theorem exec_registerWrite_ofNat {n : Nat} (hl : s.live) (ha : s.answers p) (hn : n = p.base + o)
    (ho : 0x40 ≤ o ∧ o < 0x1000 ∧ o % 4 = 0) :
    exec (.registerWrite (BitVec.ofNat 24 n) d) s = .next (writeBody p o d s) :=
  exec_registerWrite_body hl ha (target_ofNat hn ho.2.1 ho.2.2) ho.1

theorem refuses_of_recErr {i : Instr} {code : Nat} (hc : code < 2 ^ 16) (h : exec i s = .next (recErr p code s)) :
    refuses i p code s :=
  ⟨_, h, recErr_records p hc s, recErr_only p code (s.only_refl _) fun _ hf => hf⟩

/-- A write whose page answers its register's check with one code is refused with that code. -/
theorem registerWrite_refuses {n code : Nat} (hl : s.live) (ha : s.answers p) (hn : n = p.base + o)
    (ho : 0x40 ≤ o ∧ o < 0x1000 ∧ o % 4 = 0) (hc : code < 2 ^ 16) (h : writeBody p o d s = recErr p code s) :
    refuses (.registerWrite (BitVec.ofNat 24 n) d) p code s :=
  refuses_of_recErr hc ((exec_registerWrite_ofNat hl ha hn ho).trans (congrArg _ h))

/-! ### Checks and register arrays -/

/-! ### Checks and register arrays -/

/-- One check that fails: its code is recorded, and nothing else happens (R40). -/
theorem checked_refuses {c : Bool} (hc : c = true) (code : Nat) (f : State → State) :
    checked p [(c, code)] f s = recErr p code s := by
  subst hc; rfl

theorem checked_refuses_not {c : Bool} (hc : c = false) (code : Nat) (f : State → State) :
    checked p [(!c, code)] f s = recErr p code s := by
  subst hc; rfl

theorem checked_accepts {c : Bool} (hc : c = true) (code : Nat) (f : State → State) :
    checked p [(!c, code)] f s = f s := by
  subst hc; rfl

/-- Two checks of which the first, the second or both fail: a code is recorded for each, the lower first (R40, log entry
11). -/
theorem checked_refuses_first {c e : Bool} (hc : c = true) (he : e = false) (k l : Nat) (f : State → State) :
    checked p [(c, k), (e, l)] f s = recErr p k s := by
  subst hc he; rfl

theorem checked_refuses_second {c e : Bool} (hc : c = false) (he : e = true) (k l : Nat) (f : State → State) :
    checked p [(c, k), (e, l)] f s = recErr p l s := by
  subst hc he; rfl

theorem checked_refuses_both {c e : Bool} (hc : c = true) (he : e = true) (k l : Nat) (f : State → State) :
    checked p [(c, k), (e, l)] f s = recErr p l (recErr p k s) := by
  subst hc he; rfl

/-- The registers of an array, and the words within one entry of it. -/
theorem slotAt_entry {base stride count k r : Nat} (hk : k < count) (hr : r < stride) :
    slotAt base stride count (base + stride * k + r) = some k := by
  have hi : (base + stride * k + r - base) / stride = k := by
    rw [Nat.add_assoc, Nat.add_sub_cancel_left, Nat.mul_add_div (by omega), Nat.div_eq_of_lt hr, Nat.add_zero]
  unfold slotAt
  rw [hi, if_pos ⟨by omega, hk⟩]

theorem slotAt_above {base stride count x : Nat} (hs : 0 < stride) (h : base + stride * count ≤ x) :
    slotAt base stride count x = none := by
  unfold slotAt
  have : count ≤ (x - base) / stride := (Nat.le_div_iff_mul_le hs).2 (by rw [Nat.mul_comm]; omega)
  rw [if_neg (by omega)]

/-! ### The writes that a register's check refuses -/

theorem writeBudget_refused_limits (h : bitsOf d 0 10 < 20 ∨ 640 < bitsOf d 0 10)
    (hb : bitsOf d 0 10 ≤ s.get CADDY.BRAKE_LIMIT) : writeBudget d s = recErr .caddy 0x0100 s := by
  unfold writeBudget
  exact checked_refuses_first (decide_eq_true h) (decide_eq_false (Nat.not_lt.2 hb)) ..

theorem writeBudget_refused_brake (hb : s.get CADDY.BRAKE_LIMIT < bitsOf d 0 10) (hhi : bitsOf d 0 10 ≤ 640)
    (hlo : 20 ≤ bitsOf d 0 10) : writeBudget d s = recErr .caddy 0x0104 s := by
  unfold writeBudget
  exact checked_refuses_second (decide_eq_false (not_or.2 ⟨Nat.not_lt.2 hlo, Nat.not_lt.2 hhi⟩)) (decide_eq_true hb) ..

theorem writeBudget_refused_both (hb : s.get CADDY.BRAKE_LIMIT < bitsOf d 0 10) (hhi : 640 < bitsOf d 0 10) :
    writeBudget d s = recErr .caddy 0x0104 (recErr .caddy 0x0100 s) := by
  unfold writeBudget
  exact checked_refuses_both (decide_eq_true (.inr hhi)) (decide_eq_true hb) ..

theorem writeReserve_refused (h : s.get CADDY.BUDGET_AMT ≤ bitsOf d 0 10) : writeReserve d s = recErr .caddy 0x0103 s := by
  unfold writeReserve
  exact checked_refuses (decide_eq_true h) ..

theorem writeBrake_refused (h : bitsOf d 0 10 < s.getA CADDY.BUDGET_AMT ∨ bitsOf d 0 10 < s.get CADDY.BUDGET_AMT) :
    writeBrake d s = recErr .caddy 0x0102 s := by
  unfold writeBrake
  exact checked_refuses (decide_eq_true h) ..

theorem writeDpll_refused (h : 4 < bitsOf d 0 4 ∨ 4 < bitsOf d 4 4) : writeDpll d s = recErr .tim 0x0101 s := by
  unfold writeDpll
  exact checked_refuses (decide_eq_true h) ..

theorem writeHold_refused (h : bitsOf d 0 8 = 0 ∨ 60 < bitsOf d 0 8) : writeHold d s = recErr .tim 0x0104 s := by
  unfold writeHold
  exact checked_refuses (decide_eq_true h) ..

theorem writePeriod_refused (h : windowOk (bitsOf d 0 28) (s.get PRS.WINDOW_WIN) = false) :
    writePeriod d s = recErr .prs 0x0103 s := by
  unfold writePeriod
  exact checked_refuses_not h ..

theorem writeWindow_refused (h : windowOk (s.get PRS.PERIOD_P16) (bitsOf d 0 24) = false) :
    writeWindow d s = recErr .prs 0x0103 s := by
  unfold writeWindow
  exact checked_refuses_not h ..

theorem writeSlot_refused {k : Nat} (h : s.get (PRS.EVCS_STATE k) = 1) (fs : List Fld) :
    writeSlot k fs d s = recErr .prs 0x0101 s := by
  unfold writeSlot
  exact checked_refuses (by simp [armed, slotState, h]) ..

theorem writeDqPcfg_refused {q : Nat} (h : 48 < (((List.range 12).filter (· != q)).map fun r =>
    s.get (DQOS.PCFG_GUAR r)).sum + (DQOS.PCFG_GUAR q).ofData d) : writeDqPcfg q d s = recErr .dqos 0x0100 s := by
  unfold writeDqPcfg
  exact checked_refuses (decide_eq_true h) ..

theorem writeLat_refused {q : Nat} (h : (DQOS.LAT_NS q).ofData d = 0) : writeLat q d s = recErr .dqos 0x0101 s := by
  unfold writeLat
  exact checked_refuses (by simp [h]) ..

theorem writeMark_refused (h : ¬(1 ≤ DQOS.MARK_M1.ofData d ∧ DQOS.MARK_M1.ofData d < DQOS.MARK_M2.ofData d ∧
    DQOS.MARK_M2.ofData d < DQOS.MARK_M3.ofData d ∧ DQOS.MARK_M3.ofData d ≤ 99)) :
    writeMark d s = recErr .dqos 0x0102 s := by
  unfold writeMark
  exact checked_refuses_not (decide_eq_false h) ..

theorem writeReq_refused (h : s.get MBX.STS_STATE ≠ 0) (i : Nat) : writeReq i d s = recErr .mbx 0x0100 s := by
  unfold writeReq
  exact checked_refuses (by simpa [mbxState] using h) ..

/-- The PCFG values that R324 excludes: too much data for the link, more than 8 slots above 48 kHz, and a format of two
slots with another number of them. -/
theorem pcfgOk_false {k : Nat} (h : 49152000 < (APORT.PCFG_SLOTS k).ofData d *
      (if (APORT.PCFG_WIDTH k).ofData d = 1 then 32 else 16) * portHz s ((APORT.PCFG_FSSEL k).ofData d) ∨
    (48000 < portHz s ((APORT.PCFG_FSSEL k).ofData d) ∧ 8 < (APORT.PCFG_SLOTS k).ofData d) ∨
    ((APORT.PCFG_FMT k).ofData d < 2 ∧ (APORT.PCFG_SLOTS k).ofData d ≠ 2)) : pcfgOk s d = false := by
  refine Bool.eq_false_iff.2 fun hok => ?_
  simp only [pcfgOk, Bool.and_eq_true, decide_eq_true_eq, Bool.or_eq_true, beq_iff_eq] at hok
  obtain ⟨⟨_, hrate, hslots⟩, hfmt⟩ := hok
  rcases h with h | ⟨hfs, h⟩ | ⟨hf, h⟩
  · exact Nat.not_lt.2 hrate h
  · exact hslots.elim (Nat.not_le.2 hfs) (Nat.not_le.2 h)
  · exact hfmt.elim (Nat.ne_of_lt hf) h

theorem writePcfg_refused (h : pcfgOk s d = false) (k : Nat) : writePcfg k d s = recErr .aport 0x0100 s := by
  unfold writePcfg
  exact checked_refuses_not h ..

theorem writeUpdCmd_refused (h : bitsOf d 16 16 ≠ 0x7E55) : writeUpdCmd d s = recErr .upd 0x0100 s := by
  unfold writeUpdCmd
  exact if_pos h

theorem bitsOf_le (d : W32) (lo w : Nat) : bitsOf d lo w ≤ d.toNat :=
  Nat.le_trans (Nat.mod_le ..) (Nat.div_le_self ..)

theorem writeBurst_refused (h : d.toNat < 1522) (f : Fld) : writeBurst f d s = recErr .strn 0x0100 s := by
  unfold writeBurst
  exact checked_refuses (decide_eq_true (Nat.lt_of_le_of_lt (bitsOf_le d f.lo f.w) h)) ..

theorem writePolicer_refused {q : Nat} (hm : bitsOf d 30 2 = 2) (h : s.get (STRN.PIR_KBPS q) < s.get (STRN.CIR_KBPS q)) :
    writePolicer q d s = recErr .strn 0x0100 s := by
  unfold writePolicer
  exact checked_refuses (decide_eq_true ⟨hm, h⟩) ..

theorem listLocked_iff {l : Nat} : listLocked s l = true ↔ s.get SPOUT.STS_ACT = l ∨ s.get SPOUT.SWAP_GO = 1 := by
  rw [listLocked, Bool.or_eq_true, beq_iff_eq, eq_comm, swapPending, State.bit_iff]
  rfl

theorem writeListSize_refused_range {l : Nat} {f : Fld} {lo hi : Nat} (hl : listLocked s l = false)
    (h : f.ofData d < lo ∨ hi < f.ofData d) : writeListSize l f lo hi d s = recErr .spout 0x0100 s := by
  unfold writeListSize
  exact checked_refuses_first (decide_eq_true h) hl ..

theorem writeListSize_refused_locked {l : Nat} {f : Fld} {lo hi : Nat} (hl : listLocked s l = true)
    (hlo : lo ≤ f.ofData d) (hhi : f.ofData d ≤ hi) : writeListSize l f lo hi d s = recErr .spout 0x0101 s := by
  unfold writeListSize
  exact checked_refuses_second (decide_eq_false (not_or.2 ⟨Nat.not_lt.2 hlo, Nat.not_lt.2 hhi⟩)) hl ..

theorem writeList_refused {l : Nat} (hl : listLocked s l = true) (fs : List Fld) :
    writeList l fs d s = recErr .spout 0x0101 s := by
  unfold writeList
  exact checked_refuses hl ..

/-! ### Registers of an array: which rule their offset picks -/

theorem writeBody_prs_slot {k w : Nat} (hk : k < 64) (hw : w < 3) :
    writeBody .prs (0x400 + 16 * k + 4 * w) d s = writeSlot k (fieldsAt .prs (0x400 + 16 * k + 4 * w)) d s := by
  change writePrs _ _ _ = _
  have hm : (0x400 + 16 * k + 4 * w) % 16 ≠ 12 := by omega
  rw [writePrs, if_neg (by omega), if_neg (by omega), if_neg (by omega), slotAt_entry hk (by omega)]
  exact if_neg hm

theorem writeBody_dqos_lat {q : Nat} (hq : q < 12) : writeBody .dqos (0x100 + 16 * q) d s = writeLat q d s := by
  change writeDqos _ _ _ = _
  rw [writeDqos, if_neg (by omega), ← Nat.add_zero (0x100 + 16 * q), slotAt_entry hq (by omega)]
  exact if_pos (by omega)

theorem writeBody_dqos_pcfg {q : Nat} (hq : q < 12) : writeBody .dqos (0x104 + 16 * q) d s = writeDqPcfg q d s := by
  change writeDqos _ _ _ = _
  rw [writeDqos, if_neg (by omega), show 0x104 + 16 * q = 0x100 + 16 * q + 4 by omega, slotAt_entry hq (by omega)]
  exact (if_neg (by omega)).trans (if_pos (by omega))

theorem writeBody_mbx_req {i : Nat} (hi : i < 16) : writeBody .mbx (0x40 + 4 * i) d s = writeReq i d s := by
  change writeMbx _ _ _ = _
  rw [writeMbx, if_neg (by omega), ← Nat.add_zero (0x40 + 4 * i), slotAt_entry hi (by omega)]

theorem writeBody_aport_pcfg {k : Nat} (hk : k < 4) : writeBody .aport (0x40 + 4 * k) d s = writePcfg k d s := by
  change writeAport _ _ _ = _
  rw [writeAport, if_neg (by omega), if_neg (by omega), ← Nat.add_zero (0x40 + 4 * k), slotAt_entry hk (by omega)]

/-- A register of a policer, by its offset in the policer's 32 bytes. -/
theorem writeBody_strn {q r : Nat} (hq : q < 64) (hr : r < 32) :
    writeBody .strn (0x800 + 32 * q + r) d s =
      if r = 0x4 then writePolicer q d s else if r = 0xC then writeBurst (STRN.CBS_BYTES q) d s
      else if r = 0x14 then writeBurst (STRN.PBS_BYTES q) d s else plainWrite .strn (0x800 + 32 * q + r) d s := by
  change writeStrn _ _ _ = _
  have hm : (0x800 + 32 * q + r) % 32 = r := by omega
  rw [writeStrn, slotAt_entry hq hr]
  simp only [hm]

/-- A register of a list of SPOUT, by its offset in the list's 16 bytes. -/
theorem writeBody_spout_list {l r : Nat} (hl : l < 2) (hr : r < 16) :
    writeBody .spout (0x40 + 16 * l + r) d s = writeListReg l r (0x40 + 16 * l + r) d s := by
  change writeSpout _ _ _ = _
  have hm : (0x40 + 16 * l + r) % 16 = r := by omega
  rw [writeSpout, if_neg (by omega), slotAt_entry hl hr]
  simp only [hm]

theorem writeBody_spout_entry {l r : Nat} (hl : l < 2) (hr : r < 0x400) :
    writeBody .spout (0x800 + 0x400 * l + r) d s = writeList l (fieldsAt .spout (0x800 + 0x400 * l + r)) d s := by
  change writeSpout _ _ _ = _
  rw [writeSpout, if_neg (by omega), slotAt_above (by omega) (by omega), slotAt_above (by omega) (by omega),
    slotAt_entry hl hr]

/-! ### A write by the access codes alone (Table SCOPE-1) -/

/-- A field whose access code lets a written word act on it by itself. -/
def Fld.writable (f : Fld) : Bool := decide (f.acc = .rw ∨ f.acc = .w1c)

theorem writeFld_of_not_writable {f : Fld} (h : f.writable = false) : writeFld d s f = s := by
  unfold Fld.writable at h
  unfold writeFld
  cases hf : f.acc <;> simp [hf] at h ⊢

theorem writeFld_rw {f : Fld} (h : f.acc = .rw) : writeFld d s f = s.put f (f.ofData d) := by
  simp only [writeFld, h, State.store]

theorem writeFld_w1c {f : Fld} (h : f.acc = .w1c) :
    writeFld d s f = s.put f (s.get f &&& (2 ^ f.w - 1 - f.ofData d)) := by
  simp only [writeFld, h]

/-- A written word acts on a field by storing some value in it, or not at all. -/
theorem writeFld_cases (d : W32) (s : State) (f : Fld) :
    writeFld d s f = s ∨ f.writable = true ∧ ∃ v, writeFld d s f = s.put f v := by
  cases h : f.writable
  · exact .inl (writeFld_of_not_writable h)
  · refine .inr ⟨rfl, ?_⟩
    rcases of_decide_eq_true h with hf | hf
    · exact ⟨_, writeFld_rw hf⟩
    · exact ⟨_, writeFld_w1c hf⟩

theorem writeFld_get_ne {f g : Fld} (h : g.key ≠ f.key) : (writeFld d s f).get g = s.get g := by
  rcases writeFld_cases d s f with hs | ⟨_, v, hs⟩
  · rw [hs]
  · rw [hs, State.get_put_ne _ _ h]

theorem writeFld_get_congr {t : State} {f : Fld} (h : s.get f = t.get f) :
    (writeFld d s f).get f = (writeFld d t f).get f := by
  unfold writeFld
  cases f.acc <;> simp only [State.store, State.get_put_same, h]

theorem foldl_writeFld_get_ne {g : Fld} {l : List Fld} (h : ∀ f ∈ l, g.key ≠ f.key) (s : State) :
    (l.foldl (writeFld d) s).get g = s.get g := by
  induction l generalizing s with
  | nil => rfl
  | cons f l ih =>
    obtain ⟨hf, hl⟩ := List.forall_mem_cons.1 h
    rw [List.foldl_cons, ih hl, writeFld_get_ne hf]

/-- Of fields that lie apart, each gets what the word makes of it alone. -/
theorem foldl_writeFld_get {f : Fld} {l : List Fld} (hn : (l.map Fld.key).Nodup) (hf : f ∈ l) (s : State) :
    (l.foldl (writeFld d) s).get f = (writeFld d s f).get f := by
  induction l generalizing s with
  | nil => simp at hf
  | cons g l ih =>
    obtain ⟨hg, hl⟩ := List.nodup_cons.1 hn
    have hne : ∀ e ∈ l, g.key ≠ e.key := fun e he hk => hg (hk ▸ List.mem_map_of_mem he)
    rw [List.foldl_cons]
    rcases List.mem_cons.1 hf with rfl | hf
    · exact foldl_writeFld_get_ne hne _
    · rw [ih hl hf, writeFld_get_congr (writeFld_get_ne (hne f hf).symm)]

theorem foldl_writeFld_only {l fs : List Fld} (h : ∀ f ∈ l, f.writable = true → f ∈ fs) {t : State} (ht : s.only t fs) :
    s.only (l.foldl (writeFld d) t) fs := by
  induction l generalizing t with
  | nil => exact ht
  | cons f l ih =>
    obtain ⟨hf, hl⟩ := List.forall_mem_cons.1 h
    refine ih hl ?_
    rcases writeFld_cases d t f with hs | ⟨hw, v, hs⟩
    · rwa [hs]
    · rw [hs]
      exact State.only_put v ht (hf hw)

theorem plainWrite_only : s.only (plainWrite p o d s) ((fieldsAt p o).filter Fld.writable) :=
  foldl_writeFld_only (fun _ hf hw => List.mem_filter.2 ⟨hf, hw⟩) (s.only_refl _)

theorem RegT.index_lt {r : RegT} {i : Nat} (h : r.index o = some i) : i < r.count := by
  unfold RegT.index at h
  split at h
  · rename_i hc
    obtain ⟨_, _, hlt⟩ := hc
    exact Option.some.inj h ▸ hlt
  · cases h

/-- A register's fields are those of a row of its page's table. -/
theorem fieldsAt_of_rows {P : List Fld → Prop} (h0 : P []) (h : ∀ r ∈ p.table, ∀ i < r.count, P (r.fields i)) (o : Nat) :
    P (fieldsAt p o) := by
  unfold fieldsAt Page.row
  split
  · rename_i r i hr
    obtain ⟨x, hx, hi⟩ := List.exists_of_findSome?_eq_some hr
    obtain ⟨j, hj, hij⟩ := Option.map_eq_some_iff.1 hi
    obtain ⟨rfl, rfl⟩ := Prod.mk.inj hij
    exact h _ hx _ (RegT.index_lt hj)
  · exact h0

/-- The pages whose registers have no rule of their own. -/
abbrev plainPages : List Page := [.store, .hif, .tcf, .isp]

/-- On these pages the fields of a register lie apart. -/
theorem plainPages_keys_nodup : ∀ p ∈ plainPages, ∀ r ∈ p.table, ∀ i < r.count, ((r.fields i).map Fld.key).Nodup := by
  decide

theorem writeBody_plain (hp : p ∈ plainPages) : writeBody p o d s = plainWrite p o d s := by
  simp only [List.mem_cons, List.not_mem_nil, or_false] at hp
  rcases hp with rfl | rfl | rfl | rfl <;> rfl

/-- Past the header of such a page each RW field takes its bits, and each W1C field loses the bits written 1. -/
theorem plainWrite_get (hp : p ∈ plainPages) {f : Fld} (hf : f ∈ fieldsAt p o) :
    (f.acc = .rw → (plainWrite p o d s).get f = bitsOf d f.lo f.w) ∧
    (f.acc = .w1c → (plainWrite p o d s).get f = (s.get f &&& (2 ^ f.w - 1 - bitsOf d f.lo f.w)) % 2 ^ f.w) := by
  have hn : ((fieldsAt p o).map Fld.key).Nodup :=
    fieldsAt_of_rows (P := fun l => (l.map Fld.key).Nodup) List.nodup_nil (plainPages_keys_nodup p hp) o
  have hg : (plainWrite p o d s).get f = (writeFld d s f).get f := foldl_writeFld_get hn hf s
  refine ⟨fun h => ?_, fun h => ?_⟩
  · rw [hg, writeFld_rw h, State.get_put_same]
    exact Nat.mod_mod _ _
  · rw [hg, writeFld_w1c h, State.get_put_same]
    rfl

/-! ### Two errors of one write, and PRS's limits -/

/-- Two errors of one cycle on an empty latch: the first is latched and the second overflows (R39, R40). -/
theorem recErr_twice {c e : Nat} (hc : c < 2 ^ 16) (he : e < 2 ^ 16) (hv : s.get (HDR.EFIRST_VALID p.base) = 0) :
    (recErr p e (recErr p c s)).get (HDR.EFIRST_SRC p.base) = c ∧
    (recErr p e (recErr p c s)).get (HDR.EFIRST_VALID p.base) = 1 ∧
    (recErr p e (recErr p c s)).get (HDR.EOVF p.base) = 1 ∧
    (recErr p e (recErr p c s)).get (HDR.ISR_ERR p.base) = 1 ∧ s.only (recErr p e (recErr p c s)) (errFields p) := by
  obtain ⟨-, hfirst, -⟩ := recErr_records p hc s
  obtain ⟨hsrc, hvalid, -⟩ := hfirst (by simp [State.bit, hv])
  obtain ⟨herr, -, hsecond⟩ := recErr_records p he (recErr p c s)
  obtain ⟨hsrc', hvalid', hovf⟩ := hsecond ((State.bit_iff _ _).2 hvalid)
  exact ⟨hsrc'.trans hsrc, hvalid', hovf, herr,
    recErr_only p e (recErr_only p c (s.only_refl _) fun _ h => h) fun _ h => h⟩

theorem writePeriod_accepted (h : windowOk (bitsOf d 0 28) (s.get PRS.WINDOW_WIN) = true) :
    writePeriod d s = { s.put PRS.PERIOD_P16 (bitsOf d 0 28) with prs := { s.prs with perNew := true } } := by
  unfold writePeriod
  exact checked_accepts h ..

/-- WINDOW within its limits is stored, and PRS takes it up at once or with a later window (R164). -/
theorem writeWindow_accepted (h : windowOk (s.get PRS.PERIOD_P16) (bitsOf d 0 24) = true) :
    ∃ w, writeWindow d s = { s.put PRS.WINDOW_WIN (bitsOf d 0 24) with prs := { s.prs with win := w } } := by
  have hv : windowOk (s.get PRS.PERIOD_P16) (PRS.WINDOW_WIN.ofData d) = true := h
  unfold writeWindow
  dsimp only
  rw [checked_accepts hv]
  split
  · exact ⟨_, rfl⟩
  · exact ⟨s.prs.win, rfl⟩

/-! ### What the write yields, clause by clause -/

theorem registerWrite_plain (hl : s.live) (ha : s.answers p) (ht : target a.toNat = .page p o) (hp : p ∈ plainPages)
    (ho : 0x40 ≤ o) : yields (.registerWrite a d) s fun t =>
      (∀ f ∈ fieldsAt p o, (f.acc = .rw → t.get f = bitsOf d f.lo f.w) ∧
      (f.acc = .w1c → t.get f = (s.get f &&& (2 ^ f.w - 1 - bitsOf d f.lo f.w)) % 2 ^ f.w)) ∧
      s.only t ((fieldsAt p o).filter Fld.writable) :=
  ⟨plainWrite p o d s, by rw [exec_registerWrite_body hl ha ht ho, writeBody_plain hp],
    fun _ hf => plainWrite_get hp hf, plainWrite_only⟩

theorem registerWrite_unreached (hl : s.live) (ht : target a.toNat = .page p o) (hr : reached p s = false)
    (hw : writeWaits s = false) : refuses (.registerWrite a d) .sys 0x0104 s :=
  refuses_of_recErr (by decide) (by rw [exec_registerWrite_live hl hw, busWrite_page ht]; simp [onPage, hr])

theorem registerWrite_held (hl : s.live) (ht : target a.toNat = .page p o) (hr : reached p s = true)
    (hh : s.held p = true) (hw : writeWaits s = false) : exec (.registerWrite a d) s =
      .next { s with sys := { s.sys with lateWr := s.sys.lateWr ++ [p.base] } } := by
  rw [exec_registerWrite_live hl hw, busWrite_page ht]
  simp [onPage, hr, hh]

theorem registerWrite_undecoded (hl : s.live) (ht : target a.toNat = .nothing) (hw : writeWaits s = false) :
    refuses (.registerWrite a d) .sys 0x0100 s :=
  refuses_of_recErr (by decide) (by rw [exec_registerWrite_live hl hw]; simp [busWrite, ht])

theorem registerWrite_budget_both (hl : s.live) (ha : s.answers .caddy) (hv : s.get (HDR.EFIRST_VALID 0x4000) = 0)
    (hb : s.get CADDY.BRAKE_LIMIT < bitsOf d 0 10) (hm : 640 < bitsOf d 0 10) :
    yields (.registerWrite 0x4040 d) s fun t => t.get (HDR.EFIRST_SRC 0x4000) = 0x0100 ∧
      t.get (HDR.EFIRST_VALID 0x4000) = 1 ∧ t.get (HDR.EOVF 0x4000) = 1 ∧ t.get (HDR.ISR_ERR 0x4000) = 1 ∧
      s.only t (errFields .caddy) :=
  ⟨_, (exec_registerWrite_ofNat (o := 0x40) hl ha rfl (by decide)).trans (congrArg _ (writeBudget_refused_both hb hm)),
    recErr_twice (p := .caddy) (by decide) (by decide) hv⟩

theorem registerWrite_period (hl : s.live) (ha : s.answers .prs)
    (h : windowOk (bitsOf d 0 28) (s.get PRS.WINDOW_WIN) = true) :
    yields (.registerWrite 0x3044 d) s fun t => t.get PRS.PERIOD_P16 = bitsOf d 0 28 ∧ s.regsBut t [PRS.PERIOD_P16] ∧
      t = { s with regs := t.regs, prs := { s.prs with perNew := true } } := by
  refine ⟨_, (exec_registerWrite_ofNat (o := 0x44) hl ha rfl (by decide)).trans (congrArg _ (writePeriod_accepted h)),
    ?_, ?_, rfl⟩
  · exact (State.get_put_same s PRS.PERIOD_P16 _).trans (Nat.mod_mod _ _)
  · exact State.regsBut_put _ (s.regsBut_refl _) (by simp)

theorem registerWrite_window (hl : s.live) (ha : s.answers .prs)
    (h : windowOk (s.get PRS.PERIOD_P16) (bitsOf d 0 24) = true) :
    yields (.registerWrite 0x3048 d) s fun t => t.get PRS.WINDOW_WIN = bitsOf d 0 24 ∧ s.regsBut t [PRS.WINDOW_WIN] ∧
      t = { s with regs := t.regs, prs := { s.prs with win := t.prs.win } } := by
  obtain ⟨w, hw⟩ := writeWindow_accepted h
  refine ⟨_, (exec_registerWrite_ofNat (o := 0x48) hl ha rfl (by decide)).trans (congrArg _ hw), ?_, ?_, rfl⟩
  · exact (State.get_put_same s PRS.WINDOW_WIN _).trans (Nat.mod_mod _ _)
  · exact State.regsBut_put _ (s.regsBut_refl _) (by simp)

theorem registerWrite_slot_refused (hl : s.live) (ha : s.answers .prs) (k : Fin 64) (w : Fin 3)
    (h : s.get (PRS.EVCS_STATE k) = 1) :
    refuses (.registerWrite (BitVec.ofNat 24 (0x3400 + 16 * k + 4 * w)) d) .prs 0x0101 s :=
  registerWrite_refuses hl ha (o := 0x400 + 16 * k + 4 * w) (by simp only [Page.base]; omega) (by omega) (by decide)
    ((writeBody_prs_slot k.2 w.2).trans (writeSlot_refused h _))

theorem registerWrite_dqPcfg_refused (hl : s.live) (ha : s.answers .dqos) (q : Fin 12)
    (h : 48 < (((List.range 12).filter (· != q.val)).map fun r => s.get (DQOS.PCFG_GUAR r)).sum +
      (DQOS.PCFG_GUAR q).ofData d) :
    refuses (.registerWrite (BitVec.ofNat 24 (0x34104 + 16 * q)) d) .dqos 0x0100 s :=
  registerWrite_refuses hl ha (o := 0x104 + 16 * q) (by simp only [Page.base]; omega) (by omega) (by decide)
    ((writeBody_dqos_pcfg q.2).trans (writeDqPcfg_refused h))

theorem registerWrite_lat_refused (hl : s.live) (ha : s.answers .dqos) (q : Fin 12) (h : (DQOS.LAT_NS q).ofData d = 0) :
    refuses (.registerWrite (BitVec.ofNat 24 (0x34100 + 16 * q)) d) .dqos 0x0101 s :=
  registerWrite_refuses hl ha (o := 0x100 + 16 * q) (by simp only [Page.base]; omega) (by omega) (by decide)
    ((writeBody_dqos_lat q.2).trans (writeLat_refused h))

theorem registerWrite_req_refused (hl : s.live) (ha : s.answers .mbx) (i : Fin 16) (h : s.get MBX.STS_STATE ≠ 0) :
    refuses (.registerWrite (BitVec.ofNat 24 (0xA040 + 4 * i)) d) .mbx 0x0100 s :=
  registerWrite_refuses hl ha (o := 0x40 + 4 * i) (by simp only [Page.base]; omega) (by omega) (by decide)
    ((writeBody_mbx_req i.2).trans (writeReq_refused h _))

theorem registerWrite_pcfg_refused (hl : s.live) (ha : s.answers .aport) (k : Fin 4) (h : pcfgOk s d = false) :
    refuses (.registerWrite (BitVec.ofNat 24 (0x53040 + 4 * k)) d) .aport 0x0100 s :=
  registerWrite_refuses hl ha (o := 0x40 + 4 * k) (by simp only [Page.base]; omega) (by omega) (by decide)
    ((writeBody_aport_pcfg k.2).trans (writePcfg_refused h _))

/-- A policer's register at offset `r` of its 32 bytes, where its rule refuses the write. -/
theorem registerWrite_strn_refused {r n : Nat} (hl : s.live) (ha : s.answers .strn) (q : Fin 64)
    (hr : r < 32 ∧ r % 4 = 0) (hn : n = 0x42800 + 32 * q + r)
    (h : writeBody .strn (0x800 + 32 * q + r) d s = recErr .strn 0x0100 s) :
    refuses (.registerWrite (BitVec.ofNat 24 n) d) .strn 0x0100 s :=
  registerWrite_refuses hl ha (by simp only [Page.base]; omega) (by omega) (by decide) h

/-- A list's register at offset `r` of its 16 bytes, where its rule refuses the write. -/
theorem registerWrite_list_refused {r n code : Nat} (hl : s.live) (ha : s.answers .spout) (l : Fin 2)
    (hr : r < 16 ∧ r % 4 = 0) (hn : n = 0x41040 + 16 * l + r) (hc : code < 2 ^ 16)
    (h : writeListReg l r (0x40 + 16 * l + r) d s = recErr .spout code s) :
    refuses (.registerWrite (BitVec.ofNat 24 n) d) .spout code s :=
  registerWrite_refuses hl ha (by simp only [Page.base]; omega) (by omega) hc
    ((writeBody_spout_list l.2 hr.1).trans h)

theorem registerWrite_entry_refused (hl : s.live) (ha : s.answers .spout) (l : Fin 2) (i : Fin 256)
    (h : listLocked s l = true) :
    refuses (.registerWrite (BitVec.ofNat 24 (0x41800 + 0x400 * l + 4 * i)) d) .spout 0x0101 s :=
  registerWrite_refuses hl ha (o := 0x800 + 0x400 * l + 4 * i) (by simp only [Page.base]; omega) (by omega) (by decide)
    ((writeBody_spout_entry l.2 (by omega)).trans (writeList_refused h _))

end Sys2Proof.Machine
end

section
/-! SUPPORT. The register writes that the scope statements settle (R12, R13, R40), and the one that is not its own row's
command. -/

namespace Sys2Proof.Machine

/-- Settles O12: a write past the header is its page's `writeBody`, which stores by the access codes where the page has no
rule (`registerWrite_plain`) and records the code of the check that fails where it has one (`registerWrite_refuses`). -/
theorem registerWriteFollowsTheAccessCodes : Obligations.RegisterWriteFollowsTheAccessCodes := by
  unfold Obligations.RegisterWriteFollowsTheAccessCodes
  refine ⟨?_, ?_, ?_, ?_, ?_, ?_, ?_, ?_, ?_, ?_, ?_, ?_, ?_⟩
  · exact fun s a d p o hl ht hp ho ha => registerWrite_plain hl ha ht hp ho
  · exact fun s a d p o hl ht hr hw => registerWrite_unreached hl ht hr hw
  · exact fun s a d p o hl ht hr hh hw => registerWrite_held hl ht hr hh hw
  · exact fun s a d hl ht hw => registerWrite_undecoded hl ht hw
  · exact fun s d hl ha hv hb hm => registerWrite_budget_both hl ha hv hb hm
  · refine fun s d v hl ha => ⟨?_, ?_, ?_, ?_⟩
    · rintro rfl h
      exact registerWrite_refuses (o := 0x44) hl ha rfl (by decide) (by decide) (writePeriod_refused (decide_eq_false h))
    · rintro rfl h1 h2 h3 h4
      exact registerWrite_period hl ha (decide_eq_true ⟨h1, h2, h3, h4⟩)
    · rintro rfl h
      exact registerWrite_refuses (o := 0x48) hl ha rfl (by decide) (by decide) (writeWindow_refused (decide_eq_false h))
    · rintro rfl h1 h2 h3 h4
      exact registerWrite_window hl ha (decide_eq_true ⟨h1, h2, h3, h4⟩)
  · exact fun s d k w hl ha h => registerWrite_slot_refused hl ha k w h
  · refine fun s d hl ha => ⟨fun h => ?_, fun h => ?_⟩
    · exact registerWrite_refuses (o := 0x4C) hl ha rfl (by decide) (by decide) (writeDpll_refused h)
    · exact registerWrite_refuses (o := 0x50) hl ha rfl (by decide) (by decide) (writeHold_refused h)
  · refine fun s d hl ha => ⟨fun h hb => ?_, fun hb hhi hlo => ?_, fun h => ?_, fun h => ?_⟩
    · exact registerWrite_refuses (o := 0x40) hl ha rfl (by decide) (by decide) (writeBudget_refused_limits h hb)
    · exact registerWrite_refuses (o := 0x40) hl ha rfl (by decide) (by decide) (writeBudget_refused_brake hb hhi hlo)
    · exact registerWrite_refuses (o := 0x44) hl ha rfl (by decide) (by decide) (writeReserve_refused h)
    · exact registerWrite_refuses (o := 0x48) hl ha rfl (by decide) (by decide) (writeBrake_refused h)
  · refine fun s d q hl ha => ⟨fun h => registerWrite_dqPcfg_refused hl ha q h,
      fun h => registerWrite_lat_refused hl ha q h, fun h => ?_⟩
    exact registerWrite_refuses (o := 0x40) hl ha rfl (by decide) (by decide) (writeMark_refused h)
  · rintro s d i k slots width hl - rfl rfl
    refine ⟨fun ha h => registerWrite_req_refused hl ha i h, fun ha h => ?_, fun ha h => ?_⟩
    · exact registerWrite_pcfg_refused hl ha k (pcfgOk_false h)
    · exact registerWrite_refuses (o := 0x40) hl ha rfl (by decide) (by decide) (writeUpdCmd_refused h)
  · refine fun s d q hl ha => ⟨fun h => ⟨?_, ?_⟩, fun hm h => ?_⟩
    · exact registerWrite_strn_refused hl ha q (r := 0xC) (by decide) (by omega)
        ((writeBody_strn q.2 (by decide)).trans (writeBurst_refused h _))
    · exact registerWrite_strn_refused hl ha q (r := 0x14) (by decide) (by omega)
        ((writeBody_strn q.2 (by decide)).trans (writeBurst_refused h _))
    · exact registerWrite_strn_refused hl ha q (r := 0x4) (by decide) (by omega)
        ((writeBody_strn q.2 (by decide)).trans (writePolicer_refused hm h))
  · refine fun s d l i hl ha => ⟨fun hn hg => ?_, fun h => ?_⟩
    · have hu : listLocked s l = false := Bool.eq_false_iff.2 fun h => (listLocked_iff.1 h).elim hn (by simp [hg])
      refine ⟨fun h => ?_, fun h => ?_⟩
      · exact registerWrite_list_refused hl ha l (r := 0) (by decide) (by omega) (by decide)
          (writeListSize_refused_range hu h)
      · exact registerWrite_list_refused hl ha l (r := 12) (by decide) (by omega) (by decide)
          (writeListSize_refused_range hu h)
    · have hu : listLocked s l = true := listLocked_iff.2 h
      refine ⟨fun h1 h2 => ?_, ?_, ?_, fun h1 h2 => ?_, registerWrite_entry_refused hl ha l i hu⟩
      · exact registerWrite_list_refused hl ha l (r := 0) (by decide) (by omega) (by decide)
          (writeListSize_refused_locked hu h1 h2)
      · exact registerWrite_list_refused hl ha l (r := 4) (by decide) (by omega) (by decide) (writeList_refused hu _)
      · exact registerWrite_list_refused hl ha l (r := 8) (by decide) (by omega) (by decide) (writeList_refused hu _)
      · exact registerWrite_list_refused hl ha l (r := 12) (by decide) (by omega) (by decide)
          (writeListSize_refused_locked hu h1 h2)

/-- The core is up while the main PLL is not. No run is known to reach it: the core release needs the PLL (R90), and its
loss is a PORESET (R80). -/
def coreWithoutPll : State := { State.reset with sys := { State.reset.sys with coreUp := true } }

theorem coreWithoutPll_answers :
    coreWithoutPll.live ∧ coreWithoutPll.answers .sys ∧ coreWithoutPll.answers .clk := by decide

/-- RSTCMD_SERVICE is an event of the KA domain: without the root it does nothing (R90). -/
theorem exec_rstcmdService_pllOff {s : State} (hs : s.supported) (hp : s.sys.pll = false) (expiry : Bool) :
    exec (.rstcmdService 0x5A3C expiry) s = .next s := by
  change onKa _ s = _
  simp [onKa, hs, hp]

/-- RSTCMD as a register stands behind the core's gate alone: KIND 1 with its key resets, whatever the PLL does. -/
theorem exec_registerWrite_service {s : State} (hl : s.live) (ha : s.answers .sys) :
    exec (.registerWrite 0x4C 0x5A3C0001) s = .next (serviceReset SYS.RSTCAUSE_SVC s) := by
  have hr : rstcmdServiceEff false s = serviceReset SYS.RSTCAUSE_SVC s := by simp [rstcmdServiceEff, hl.2]
  exact (exec_registerWrite_ofNat (o := 0x4C) hl ha rfl (by decide)).trans (congrArg _ hr)

/-- Refutes O13, by its clause on RSTCMD with KIND 1: while the core is up and the main PLL is not, the register write
performs the SERVICE reset, and RSTCMD_SERVICE, which waits for the root, leaves the state as it is. -/
theorem not_registerWriteIsTheRegistersOwnCommand : ¬ Obligations.RegisterWriteIsTheRegistersOwnCommand := by
  unfold Obligations.RegisterWriteIsTheRegistersOwnCommand
  intro h
  obtain ⟨_, _, _, _, _, _, hrows, _⟩ := h
  obtain ⟨hl, hsys, hclk⟩ := coreWithoutPll_answers
  obtain ⟨_, _, hservice, _⟩ := hrows coreWithoutPll 0x5A3C0001 hl hsys hclk
  have he : Host.Outcome.next (serviceReset SYS.RSTCAUSE_SVC coreWithoutPll) = .next coreWithoutPll :=
    (exec_registerWrite_service hl hsys).symm.trans
      ((hservice (by decide)).trans (exec_rstcmdService_pllOff hl.1 rfl false))
  have hs : serviceReset SYS.RSTCAUSE_SVC coreWithoutPll = coreWithoutPll := by injection he
  exact absurd (congrArg (·.sys.coreUp) hs) (by decide)

end Sys2Proof.Machine
end

section
/-! SUPPORT. Which active copies TIM's commands change: a monitor update those that REFCFG's taking effect gives
them (R139), while judging, measuring and ranking change none; and the two statements that such a copy refutes. -/

namespace Sys2Proof.Machine

theorem State.puts_act (s : State) (l : List (Fld × Nat)) : (s.puts l).act = s.act := by
  induction l generalizing s with
  | nil => rfl
  | cons e l ih => exact ih (s.put e.1 e.2)

theorem repeatFor_succ (n : Nat) (f : Nat → State → State) (s : State) :
    repeatFor (n + 1) f s = f n (repeatFor n f s) := by
  simp [repeatFor, List.range_succ]

theorem repeatFor_act {f : Nat → State → State} (hf : ∀ i t, (f i t).act = t.act) (n : Nat) (s : State) :
    (repeatFor n f s).act = s.act := by
  induction n with
  | zero => rfl
  | succ n ih => rw [repeatFor_succ, hf, ih]

/-! ### Judging (Table TIM-2) -/

theorem enterRef_act (n st : Nat) (s : State) : (enterRef n st s).act = s.act := by
  unfold enterRef
  dsimp only
  split <;> split <;> rfl

theorem becomeQualified_act (n : Nat) (s : State) : (becomeQualified n s).act = s.act := by
  unfold becomeQualified
  dsimp only
  split <;> exact enterRef_act n 2 s

theorem judgeRef_act (n : Nat) (off : Int) (step : Nat) (s : State) : (judgeRef n off step s).act = s.act := by
  have hs (v : Nat) : (setTimer n v s).act = s.act := rfl
  unfold judgeRef
  dsimp only
  split <;> repeat' split
  all_goals simp only [State.put_act, enterRef_act, becomeQualified_act, hs]

theorem takeMeas_act (n : Nat) (m : RefMeas) (s : State) : (takeMeas n m s).act = s.act := rfl

theorem crossCompare_act (elig : List Nat) (s : State) : (crossCompare elig s).act = s.act := by
  unfold crossCompare
  split
  · split <;> rfl
  · rfl

/-! ### Ranking (R145, R148) -/

theorem freezeLoop_act (d : TimDom) (s : State) : (freezeLoop d s).act = s.act := State.setLoop_act ..

theorem freezeOn_act (n : Nat) (s : State) : (freezeOn n s).act = s.act := by
  unfold freezeOn
  dsimp only
  split <;> split <;> simp only [freezeLoop_act]

theorem newPhase_act (d : TimDom) (n : Nat) (s : State) : (newPhase d n s).act = s.act := by
  unfold newPhase
  split <;> rfl

theorem fireEdge_act (src : Nat) (s : State) : (fireEdge src s).act = s.act := by
  unfold fireEdge
  split <;> rfl

theorem rankDomain_act (d : TimDom) (s : State) : (rankDomain d s).act = s.act := by
  unfold rankDomain
  dsimp only
  repeat' split
  all_goals simp only [fireEdge_act, newPhase_act, freezeLoop_act, State.setLoop_act, State.puts_act]

theorem rankAll_act (s : State) : (rankAll s).act = s.act :=
  (rankDomain_act ..).trans (rankDomain_act ..)

theorem freezeHard_act (before s : State) : (freezeHard before s).act = s.act :=
  repeatFor_act (fun n t => by split <;> simp only [freezeOn_act]) 6 s

/-! ### REFCFG at a monitor update (R139) -/

/-- After REFCFGn has taken effect nothing in the update changes an active copy. -/
theorem monitorUpdateEff_act (ms : List RefMeas) (s : State) :
    (monitorUpdateEff ms s).act = (repeatFor 6 takeRefcfg s).act := by
  have hjudge (k : Nat) (t : State) :
      (if (measured t k ms).isSome then judgeRef k (judgedOff t k) 1 t else t).act = t.act := by
    split <;> simp only [judgeRef_act]
  have hxo (t : State) : (if t.get TIM.XOEST_VALID = 1 then judgeRef 5 (xoPpm t) 1 t else t).act = t.act := by
    split <;> simp only [judgeRef_act]
  unfold monitorUpdateEff
  dsimp only
  rw [rankAll_act, freezeHard_act, repeatFor_act hjudge, hxo, crossCompare_act]
  exact repeatFor_act (fun k t => by split <;> simp only [takeMeas_act]) 5 _

/-! ### The two statements, at a field that holds more than its width -/

/-- REFCFG3.SOFT, a field of 8 bits, holds 256. No run is known to reach it: every store of a field keeps the bits that
fit (R9, `State.put`). -/
def softBeyondItsWidth : State :=
  { State.reset with
    sys := { State.reset.sys with pll := true }
    regs := [((TIM.REFCFG_SOFT 3).key, 256)] }

theorem softBeyondItsWidth_kaLive : softBeyondItsWidth.kaLive := by decide

/-- A measurement of a signal at its nominal rate, in the 48 kHz family. -/
def atNominal : RefMeas := { present := true, off := 0, fam := 0 }

/-- The update takes the 8 bits that the active copy has. -/
theorem monitorUpdateEff_softBeyondItsWidth (ms : List RefMeas) :
    (monitorUpdateEff ms softBeyondItsWidth).getA (TIM.REFCFG_SOFT 3) = 0 := by
  have he : (repeatFor 6 takeRefcfg softBeyondItsWidth).getA (TIM.REFCFG_SOFT 3) = 0 := by decide
  rwa [State.getA, ← monitorUpdateEff_act ms] at he

/-- Refutes O34, by its first clause, which holds the active SOFT of every reference to be what REFCFG reads, also where
REFCFG holds more than SOFT's 8 bits: with REFCFG3.SOFT at 256, a signal at WCK_IN leaves 0 there. -/
theorem not_referencesQualifyAndDomainsSwitch : ¬ Obligations.ReferencesQualifyAndDomainsSwitch := by
  unfold Obligations.ReferencesQualifyAndDomainsSwitch
  intro h
  obtain ⟨hupdate, _⟩ := h
  obtain ⟨t, ht, _, _, _, _, hlimits, _⟩ := hupdate softBeyondItsWidth (List.replicate 6 atNominal) 3 atNominal _ _
    softBeyondItsWidth_kaLive rfl rfl (by decide) (by decide) (by decide) rfl rfl
  have he : Host.Outcome.next (monitorUpdateEff (List.replicate 6 atNominal) softBeyondItsWidth) = .next t :=
    (onKa_live _ softBeyondItsWidth_kaLive).symm.trans ht
  obtain ⟨hsoft, _⟩ := hlimits 3
  injection he with he
  subst he
  have h256 : softBeyondItsWidth.get (TIM.REFCFG_SOFT 3) = 256 := by decide
  exact absurd ((monitorUpdateEff_softBeyondItsWidth _).symm.trans (hsoft.trans h256)) (by decide)

/-- AUD.AFAM, a field of 1 bit, holds 2, and WCLK_OUT's period has run out. No run is known to reach it: every store of a
field keeps the bits that fit (R9, `State.put`). -/
def afamBeyondItsWidth : State :=
  { State.reset with
    regs := [(TIM.AUD_AFAM.key, 2)]
    tim := { State.reset.tim with outs := { State.reset.tim.outs with w := 640 * State.reset.tim.outs.wlen } } }

/-- Refutes O35, by its clause on AUD at a WCLK_OUT rising edge, which holds the active AFAM to be what AUD reads, also
where AUD holds more than AFAM's bit: with AFAM at 2 the edge takes the bit that fits, 0. -/
theorem not_loopsSlewLockAndRealign : ¬ Obligations.LoopsSlewLockAndRealign := by
  unfold Obligations.LoopsSlewLockAndRealign
  intro h
  obtain ⟨_, _, _, _, _, houts, _⟩ := h
  obtain ⟨hedge, _⟩ := houts afamBeyondItsWidth
  obtain ⟨_, _, hfam, _⟩ := hedge (by decide) (by decide)
  exact absurd hfam (by decide)

end Sys2Proof.Machine
end
